-- ==== Sys2Proof/Word.lean ====
section
/-!
DEFINITION. The word types of the module and their plainest arithmetic.
-/
namespace Sys2Proof

/-- One byte of a memory. -/
abbrev Byte := BitVec 8

/-- A stream code word (03 R59). -/
abbrev Word128 := BitVec 128

/-- A tensor descriptor (03 R64). -/
abbrev DescBits := BitVec 256

/-- A parcel number, 0 to 511 (00 R2). -/
abbrev ParcelId := Fin 512

/-- A township number, 0 to 31 (00 R5). -/
abbrev TownshipId := Fin 32

/-- A tract number, 0 to 7 (01 R17). -/
abbrev TractId := Fin 8

/-- A link number: XP, XN, YP, YN, ZP, ZN are 0 to 5 (10 R233). -/
abbrev LinkId := Fin 6

/-- A tier controller: 0 to 7 the HBM stacks, 8 to 15 the DDR5 channels (07 R179). -/
abbrev CtrlId := Fin 16

/-- A sparse table: keys strictly rising, no entry equal to the table's default value. -/
abbrev Tab (α : Type) := List (Nat × α)

end Sys2Proof
end

