-- ==== Sys2Proof/Syntax.lean ====
section
/-!
DEFINITION. The commands the module takes, one constructor per row of the opcode table, and the
types of their operands.
-/
namespace Sys2Proof

/-- Who makes an access to the module address map (07 R153). The loader is lantern firmware. -/
inductive Agent where
  | lantern | taper | companion | debug | management | serve
deriving DecidableEq, Repr

/-- The commands of the module: one constructor per row of spec/opcode_table.json. -/
inductive Instr where
  /-- ISSUE (R32): The issue stage fetches and decodes the next stream word and hands it to its engine queue, or executes it itself if it is a control instruction, once the queue has a free entry. -/
  | issue (p : ParcelId)
  /-- ENGINE_COMPLETION (R36): An engine instruction completes after its latency, and the engine's completion counter advances in issue order. -/
  | engineCompletion (p : ParcelId) (e : Fin 6) (i : Nat)
  /-- NOP (R84): Does nothing; its waits stall issue. -/
  | nop (p : ParcelId)
  /-- REPLAY (R52): Ends a segment, stops fetch and starts the replay-boundary drain. -/
  | replay (p : ParcelId)
  /-- REPLAY_DRAIN_COMPLETE (R52): Once every engine is quiet and the taper sleeps, the shadow bank is copied to the live bank, counters reset, the replay count advances and fetch restarts. -/
  | replayDrainComplete (p : ParcelId) (copied : Bool)
  /-- BR (R106): Branches to TARGET when the parameter register meets the condition against VALUE. -/
  | br (p : ParcelId)
  /-- BFORK (R107): Reads a count from parcel memory and transfers control to one of four bands by comparing it with thresholds. -/
  | bfork (p : ParcelId)
  /-- BMERGE (R108): Jumps unconditionally to the band merge word. -/
  | bmerge (p : ParcelId)
  /-- LOOP (R109): Reads a loop record from parameter registers and sets up the loop nest over the following words. -/
  | loop (p : ParcelId)
  /-- END (R106): Ends a start-up, test or recovery stream; the parcel stops once its engines are quiet. -/
  | endStream (p : ParcelId)
  /-- TMUL (R73): Multiplies activation rows by a weight tile and accumulates exact long sums on a grid. -/
  | tmul (p : ParcelId)
  /-- TLSADD (R74): Adds two long-sum tensors elementwise and exactly. -/
  | tlsadd (p : ParcelId)
  /-- TLSCVT (R71): Rounds each long sum once to the destination format. -/
  | tlscvt (p : ParcelId)
  /-- TLSSET (R71): Zeroes a long-sum tensor and writes its grid word. -/
  | tlsset (p : ParcelId)
  /-- VADD (R78): FP32 add on each acting wick. -/
  | vadd (p : ParcelId)
  /-- VSUB (R78): FP32 subtract on each acting wick. -/
  | vsub (p : ParcelId)
  /-- VMUL (R78): FP32 multiply on each acting wick. -/
  | vmul (p : ParcelId)
  /-- VFMA (R78): FP32 fused multiply-add with one rounding on each acting wick. -/
  | vfma (p : ParcelId)
  /-- VMAX (R78): FP32 maximum on each acting wick. -/
  | vmax (p : ParcelId)
  /-- VMIN (R78): FP32 minimum on each acting wick. -/
  | vmin (p : ParcelId)
  /-- VABS (R78): FP32 magnitude on each acting wick. -/
  | vabs (p : ParcelId)
  /-- VNEG (R78): FP32 negation on each acting wick. -/
  | vneg (p : ParcelId)
  /-- VIADD (R78): 32-bit integer add on each acting wick. -/
  | viadd (p : ParcelId)
  /-- VISUB (R78): 32-bit integer subtract on each acting wick. -/
  | visub (p : ParcelId)
  /-- VIMUL (R78): Low 32 bits of an integer product on each acting wick. -/
  | vimul (p : ParcelId)
  /-- VAND (R78): Bitwise AND on each acting wick. -/
  | vand (p : ParcelId)
  /-- VOR (R78): Bitwise OR on each acting wick. -/
  | vor (p : ParcelId)
  /-- VXOR (R78): Bitwise XOR on each acting wick. -/
  | vxor (p : ParcelId)
  /-- VSHL (R78): Left shift by SB[4:0] on each acting wick. -/
  | vshl (p : ParcelId)
  /-- VSHR (R78): Logical right shift on each acting wick. -/
  | vshr (p : ParcelId)
  /-- VSRA (R78): Arithmetic right shift on each acting wick. -/
  | vsra (p : ParcelId)
  /-- VMOV (R78): Copies SA into VD on each acting wick. -/
  | vmov (p : ParcelId)
  /-- VEXP2 (R115): Computes 2 to the power SA within 1 ulp on each acting wick. -/
  | vexp2 (p : ParcelId)
  /-- VLOG2 (R115): Computes log2 of SA within 1 ulp on each acting wick. -/
  | vlog2 (p : ParcelId)
  /-- VRCP (R115): Computes the reciprocal of SA on each acting wick. -/
  | vrcp (p : ParcelId)
  /-- VRSQRT (R115): Computes the reciprocal square root of SA on each acting wick. -/
  | vrsqrt (p : ParcelId)
  /-- VCMP (R80): Sets each wick's predicate from a comparison of SA and SB. -/
  | vcmp (p : ParcelId)
  /-- VSETP (R80): Sets each wick's predicate from SA being nonzero, combined as SUB selects. -/
  | vsetp (p : ParcelId)
  /-- VSETIDX (R78): Writes SA into each acting wick's index register. -/
  | vsetidx (p : ParcelId)
  /-- VSEL (R80): Selects SA or SB by predicate on every wick of the range. -/
  | vsel (p : ParcelId)
  /-- VCVT (R82): Converts SA between element formats under the chosen rounding. -/
  | vcvt (p : ParcelId)
  /-- VMXQ (R119): Quantises each group of 32 wicks to an MX format, writing element codes and scales. -/
  | vmxq (p : ParcelId)
  /-- VRAND (R131): Writes a 32-bit counter-generator word into each acting wick. -/
  | vrand (p : ParcelId)
  /-- VLD (R79): Loads each acting wick's value from its own parcel memory at index register plus offset. -/
  | vld (p : ParcelId)
  /-- VST (R79): Stores each acting wick's value into its own parcel memory. -/
  | vst (p : ParcelId)
  /-- VSHFL (R81): Reads SA from another wick by XOR or rotation. -/
  | vshfl (p : ParcelId)
  /-- VSUMRED (R81): Forms one exact long sum over the acting wicks and writes it, optionally to memory. -/
  | vsumred (p : ParcelId)
  /-- VMAXRED (R81): Writes the maximum over the acting wicks. -/
  | vmaxred (p : ParcelId)
  /-- VMINRED (R81): Writes the minimum over the acting wicks. -/
  | vminred (p : ParcelId)
  /-- VEXPMAX (R81): Writes the largest unbiased FP32 exponent over the acting wicks. -/
  | vexpmax (p : ParcelId)
  /-- VSCAN (R81): Gives each acting wick the exact inclusive prefix sum, rounded once. -/
  | vscan (p : ParcelId)
  /-- TCALL (R83): Queues a taper call with an entry address and argument. -/
  | tcall (p : ParcelId)
  /-- TAPER_TAKE_CALL (R83): A taper with no routine running takes the next queued call and sets pc and a0. -/
  | taperTakeCall (p : ParcelId)
  /-- TAPER_INSTRUCTION (R50): The taper executes one RV32IMC instruction, including loads and stores to its windows. -/
  | taperInstruction (p : ParcelId) (dt : Nat)
  /-- MCOPY (R87): Copies a tensor with its side planes. -/
  | mcopy (p : ParcelId)
  /-- MFILL (R87): Fills a tensor with a repeated 64-bit pattern. -/
  | mfill (p : ParcelId)
  /-- MGATH (R88): Gathers rows through an index tensor, zeroing empty slots. -/
  | mgath (p : ParcelId)
  /-- MSCAT (R88): Scatters rows through an index tensor, skipping empty indices. -/
  | mscat (p : ParcelId)
  /-- XSEND (R100): Cuts source bytes into packets and sends them in route-entry slots. -/
  | xsend (p : ParcelId)
  /-- XRECV (R101): Awaits a receive tally reaching its expected count with the last flag seen. -/
  | xrecv (p : ParcelId)
  /-- XSIG (R102): Sends one signal packet to a beacon in another module, as a release. -/
  | xsig (p : ParcelId)
  /-- XCOLL (R103): Runs a collective over its compiled schedule. -/
  | xcoll (p : ParcelId)
  /-- BSIG (R92): Adds AMOUNT to a beacon count as a release. -/
  | bsig (p : ParcelId)
  /-- BWAIT (R92): Registers a waiter needing AMOUNT on a beacon. -/
  | bwait (p : ParcelId)
  /-- BBCAST (R92): Releases every registered waiter of a beacon. -/
  | bbcast (p : ParcelId)
  /-- BSUB (R92): Subtracts AMOUNT from a beacon count without waiting. -/
  | bsub (p : ParcelId)
  /-- FENCE (R98): Makes earlier tier writes, and for kind 1 their back-invalidations, visible. -/
  | fence (p : ParcelId)
  /-- BEACON_OP_ARRIVAL (R94): Beacon operations reaching the home parcel are applied in order and the release procedure runs. -/
  | beaconOpArrival (b : Fin 32768) (ps : List ParcelId)
  /-- BEACON_ACK_RETURN (R96): The home parcel's acknowledgement or release returns and completes the beacon instruction. -/
  | beaconAckReturn (p : ParcelId) (i : Nat)
  /-- PARCEL_QUIESCED (R40): Once every engine of a stopping or draining parcel is quiet, it enters STOPPED. -/
  | parcelQuiesced (p : ParcelId)
  /-- PCT_START (R42): Arms an IDLE parcel to enter RUN at the next tick boundary. -/
  | pctStart (p : ParcelId)
  /-- PCT_STOP (R43): Basic stop: issue ends at once and queued work drains. -/
  | pctStop (p : ParcelId)
  /-- PCT_STOP_NOW (R43): Expert stop: queued instructions and unending taper calls are discarded. -/
  | pctStopNow (p : ParcelId)
  /-- PCT_TAPER_RESET (R426): Holds the taper in reset and abandons any running routine. -/
  | pctTaperReset (p : ParcelId) (v : Bool)
  /-- PCT_CODE_DATA_ACCESS (R58): Reads or writes the selected stream code half word, with auto-increment. -/
  | pctCodeDataAccess (p : ParcelId) (wr : Option (BitVec 64))
  /-- PCT_DESC_DATA_ACCESS (R58): Reads or writes the selected descriptor part, with auto-increment. -/
  | pctDescDataAccess (p : ParcelId) (wr : Option (BitVec 64))
  /-- PCT_PARAM_WRITE (R51): Writes a shadow parameter register and sets its dirty bit, held during a boundary copy. -/
  | pctParamWrite (p : ParcelId) (n : Fin 256) (v : BitVec 64)
  /-- REGISTER_WRITE (R7): A write to a register field without behaviour of its own, after width, reserved and expert checks. -/
  | registerWrite (g : Agent) (addr size : Nat) (v : BitVec 64)
  /-- OUTSIDE_AGENT_ACCESS (R154): A lantern, serve-block, companion or debug access to the module address map is performed or refused. -/
  | outsideAgentAccess (g : Agent) (addr len : Nat) (wr : Option (List Byte))
  /-- TICK_GATE (R199): A township opens the gate of its next tick and starts its plan window. -/
  | tickGate (w : TownshipId) (t : Nat)
  /-- WINDOW_END (R198): After plan cycle 1,944 the township rests, and an overrun is accounted if the window ended late. -/
  | windowEnd (w : TownshipId) (t : Nat)
  /-- TICK_WATCHDOG_FIRE (R204): Lag, freeze or stall beyond its limit writes TICK_OVERRUN to the tract. -/
  | tickWatchdogFire (r : TractId) (t : Nat)
  /-- TRC_LOAD (R194): Starts a tract load, orphaning beacons and zeroing parcels. -/
  | trcLoad (t : TractId)
  /-- LOAD_STAGE_COMPLETE (R194): A stage of the load sequence ends and the next begins. -/
  | loadStageComplete (t : TractId)
  /-- TRC_START (R196): Arms a LOADED tract for its start tick, or reports the tick missed. -/
  | trcStart (t : TractId)
  /-- TRC_STOP (R197): Stops each parcel at its next replay boundary. -/
  | trcStop (t : TractId)
  /-- TRC_STOP_NOW (R197): Applies PCT_STOP_NOW to every placed parcel. -/
  | trcStopNow (t : TractId)
  /-- TRC_RESET (R211): Resets the tract: beacons orphaned, parcels stopped, load abandoned. -/
  | trcReset (t : TractId)
  /-- TRACT_RESET_COMPLETE (R197): Once parcels are zeroed the tract becomes EMPTY. -/
  | tractResetComplete (t : TractId) (failed : List TownshipId)
  /-- TRC_COUNT_CLR (R216): Zeroes the tract's lag, overrun and stretch counters. -/
  | trcCountClr (t : TractId)
  /-- SLOT_SEND (R264): A link transmitter sends a packet, sourced or forwarded, in its owned slot. -/
  | slotSend (l : LinkId) (slot t : Nat)
  /-- SLACK_UNIT_SEND (R250): A slack unit goes to a control unit, replay, late packet, datum exchange, management traffic or idle. -/
  | slackUnitSend (l : LinkId) (t : Nat)
  /-- UNIT_RECEIVE (R238): A received unit is CRC-checked and dispatched by kind. -/
  | unitReceive (l : LinkId) (t pt n : Nat) (lanes : List (Fin 17)) (syms : List (List (List (Fin 1024))))
  /-- PACKET_DELIVER (R101): A packet's payload is written to the parcel and its tally counted, or its signal applied. -/
  | packetDeliver (p : ParcelId)
  /-- TRANSFER_DEADLINE (R101): At its deadline tick an incomplete XRECV or XCOLL fails with TALLY_SHORT. -/
  | transferDeadline (p : ParcelId) (i : Nat)
  /-- RETRY_OVERRUN (R249): A replayed or late packet unwritten at the end of its tick's packet-times freezes its destination township. -/
  | retryOverrun (l k : LinkId) (seq : Nat) (w : TownshipId) (t : Nat)
  /-- ACK (R248): A cumulative ACK frees covered packets from the replay buffer. -/
  | ack (l : LinkId) (seq : Nat)
  /-- NAK (R248): A NAK names packets for selective replay. -/
  | nak (l : LinkId) (seqs : List Nat)
  /-- COPY (R241): The transmitter mirrors a logical lane onto the free lane from a codeword index. -/
  | copy (l : LinkId) (i f cw : Nat)
  /-- LINK_RELEASE (R241): The RELEASE control unit makes the transmitter send PRBS31 on the target lane. -/
  | linkRelease (l : LinkId) (j cw : Nat)
  /-- PARITY (R241): The transmitter sends parity on a lane from a codeword index. -/
  | parity (l : LinkId) (j cw : Nat)
  /-- TAP (R251): The transmitter applies transmitter taps on a lane. -/
  | tap (l : LinkId) (j taps : Nat)
  /-- FAILOVER (R244): The transmitter sends a failed lane's data on the free lane from a codeword index. -/
  | failover (l : LinkId) (i f cw : Nat)
  /-- DEGRADE (R246): Both ends agree to drop to twelve lanes at tick D. -/
  | degrade (l : LinkId) (lanes : List Nat) (parity tick : Nat)
  /-- RESTORE (R247): Both ends agree to return to sixteen lanes at a tick. -/
  | restore (l : LinkId) (lanes : List Nat) (free tick : Nat)
  /-- DATUM_UNIT (R228): A datum exchange unit carries stamps for offset and delay. -/
  | datumUnit (l : LinkId) (t1 t2 t3 t4 : Nat) (now : Nat)
  /-- DARK_UNIT (R252): Received DARK control units report a dark neighbour. -/
  | darkUnit (l : LinkId)
  /-- LANE_LINK_CHANGE_TICK (R246): At the agreed tick both ends switch to twelve-lane or sixteen-lane operation. -/
  | laneLinkChangeTick (l : LinkId) (tx : Bool) (t : Nat)
  /-- LANE_FAIL_DECLARED (R243): The receiver declares a lane failed and fails over or degrades. -/
  | laneFailDeclared (l : LinkId) (j : Fin 17)
  /-- LANE_ADAPT_UPDATE (R240): Every 1,024 codewords each working lane's equaliser and clock recovery update. -/
  | laneAdaptUpdate (l : LinkId) (j : Fin 17) (t : Nat)
  /-- ROLL_STEP_START (R241): A rolling calibration step begins with COPY to the target lane. -/
  | rollStepStart (l : LinkId) (t : Nat)
  /-- ROLL_VERIFY_DONE (R241): Adaptation and verify on the mirror end, passing or restarting. -/
  | rollVerifyDone (l : LinkId) (pass : Bool)
  /-- ROLL_LANE_SWITCH (R242): At a free slack unit the logical lane moves to the former free lane. -/
  | rollLaneSwitch (l : LinkId)
  /-- ROLL_CALIBRATION_DONE (R241): Full calibration of the target lane ends and the margin scan starts. -/
  | rollCalibrationDone (l : LinkId)
  /-- ROLL_MARGIN_SCAN_DONE (R241): The margin scan passes, making the lane free, or fails. -/
  | rollMarginScanDone (l : LinkId) (margin : Fin 64)
  /-- LNK_TRAIN (R252): Starts link training in DOWN or FAILED. -/
  | lnkTrain (l : LinkId)
  /-- TRAINING_COMPLETE (R252): Training ends in UP, UP_NOSPARE, UP12 or FAILED. -/
  | trainingComplete (l : LinkId) (rxMask txMask peer flight : Nat)
  /-- LNK_ROLL_EN (R253): Enables or, by basic disable, stops rolling calibration. -/
  | lnkRollEn (l : LinkId) (v : Bool)
  /-- LNK_ROLL_NOW (R255): Starts the next rolling step at once. -/
  | lnkRollNow (l : LinkId)
  /-- LNK_ROLL_STOP_NOW (R253): Ends the rolling step at once. -/
  | lnkRollStopNow (l : LinkId)
  /-- LNK_DOWN (R380): Takes both directions to DOWN, keeping cadastres. -/
  | lnkDown (l : LinkId)
  /-- LNK_FORCE_FAIL (R243): Declares a named lane failed. -/
  | lnkForceFail (l : LinkId) (j : Fin 32)
  /-- LNK_RETEST (R247): Re-tests a failed lane by calibration and margin scan. -/
  | lnkRetest (l : LinkId) (j : Fin 32)
  /-- LNK_COUNT_CLR (R255): Zeroes the physical link counters. -/
  | lnkCountClr (l : LinkId)
  /-- LNK_LANE_OVR (R254): Imposes transmitter taps or freezes receiver settings on a lane. -/
  | lnkLaneOvr (l : LinkId) (v : BitVec 64)
  /-- LNK_INJ_CW (R255): Makes the next codeword on a lane decode as uncorrectable. -/
  | lnkInjCw (l : LinkId)
  /-- LNK_INJ_CRC (R255): Makes the next packet received fail its CRC. -/
  | lnkInjCrc (l : LinkId)
  /-- LNK_PASS (R271): Begins passing an owner-table entry to the next owner. -/
  | lnkPass (l : LinkId)
  /-- OWNER_DRAIN_COMPLETE (R272): When this end has drained the old owner it sends a DRAINED stone. -/
  | ownerDrainComplete (l : LinkId) (i : Fin 16)
  /-- BOUNDARY_STONE_DRAINED (R272): A DRAINED stone from the far end leads to CONFIRM with a switch tick. -/
  | boundaryStoneDrained (l : LinkId)
  /-- BOUNDARY_STONE_CONFIRM (R272): A CONFIRM stone fixes the later switch tick. -/
  | boundaryStoneConfirm (l : LinkId)
  /-- OWNER_SWITCH_TICK (R272): At the switch tick the old owner's entries clear and pending entries take effect. -/
  | ownerSwitchTick (l : LinkId) (i : Fin 16) (t : Nat)
  /-- STONE_TIMEOUT (R273): An entry in STONE_SENT or CONFIRMED too long enters STUCK. -/
  | stoneTimeout (l : LinkId) (i : Fin 16) (t : Nat)
  /-- LNK_RELEASE_STUCK (R273): Frees a stuck owner-table entry at this end. -/
  | lnkReleaseStuck (l : LinkId)
  /-- LNK_EASE_WRITE (R270): Writes or revokes an easement grant from the next tick. -/
  | lnkEaseWrite (l : LinkId) (v : BitVec 64)
  /-- LNK_CAD_DATA_READ (R286): Reads a cadastre entry, advancing the slot with auto-increment. -/
  | lnkCadDataRead (l : LinkId)
  /-- DETOUR_START (R267): From the tick after a direction fails, its traffic goes into the detour queue. -/
  | detourStart (l : LinkId) (t : Nat)
  /-- DETOUR_END (R267): When the direction recovers, the queue empties and direct use resumes at the next tick. -/
  | detourEnd (l : LinkId) (t : Nat)
  /-- LANTERN_REPLY (R275): A lantern reply is consumed into lantern SRAM. -/
  | lanternReply (l : LinkId)
  /-- MANAGEMENT_NOTICE (R275): A management notice, such as a park completion report, is consumed. -/
  | managementNotice (l : LinkId) (d : Nat)
  /-- START_MESSAGE (R344): A start message is checked, acknowledged, relayed along the start tree and starts a load. -/
  | startMessage (l : LinkId) (t : Nat)
  /-- PLAT_CHUNK (R344): A part of a plat arrives as lantern requests of operation 0x0002. -/
  | platChunk (l : LinkId)
  /-- ABANDON (R345): An ABANDON message resets a loading tract and is relayed. -/
  | abandon (l : LinkId)
  /-- START_ACK_TIMEOUT (R345): No acknowledgement within 50 ms records START_ABANDONED. -/
  | startAckTimeout (j t : Nat)
  /-- START_HOLD_EXPIRY (R345): A held start message whose hold expires records START_ABANDONED. -/
  | startHoldExpiry (j t : Nat)
  /-- READY (R346): A READY from a child is counted and relayed. -/
  | ready (l : LinkId)
  /-- GO (R346): GO sets the start tick and TRC_START, and is relayed. -/
  | go (l : LinkId) (t : Nat)
  /-- DONE (R347): A DONE from a child is counted toward job completion. -/
  | done (l : LinkId)
  /-- ABORT (R347): An ABORT resets the job's tract unless STOPPED, and is relayed. -/
  | abort (l : LinkId)
  /-- JOURNAL_ENTRY (R339): A serve journal entry from the front module is stored at the +X neighbour. -/
  | journalEntry (l : LinkId)
  /-- DATUM_EXCHANGE_START (R228): Every CLK_EXCH_TICKS ticks a parent starts a two-way datum exchange. -/
  | datumExchangeStart (l : LinkId) (t : Nat)
  /-- DATUM_PULSE_EDGE (R227): A datum pulse edge sets datum or trims it against the pulse. -/
  | datumPulseEdge (t : Nat)
  /-- REFERENCE_LOST (R220): Missing or off-frequency reference puts every generator in holdover. -/
  | referenceLost (t : Nat)
  /-- REFERENCE_BACK (R221): After 1 ms in range the generators slew back to lock. -/
  | referenceBack (t : Nat)
  /-- HOLD_LIMIT_EXPIRY (R229): Holdover passes CLK_HOLD_LIMIT, and datum may become unsure. -/
  | holdLimitExpiry (t : Nat)
  /-- CLK_SET_NS (R231): Steps datum, unless a tract is loaded or running. -/
  | clkSetNs (v : BitVec 64)
  /-- CLK_NS_READ (R231): Reading datum latches its fraction. -/
  | clkNsRead
  /-- DROOP_RESPONSE (R222): Supply below threshold hands the clock edge to the droop oscillator. -/
  | droopResponse (i : Fin 33) (droop : Nat)
  /-- DROOP_HANDBACK (R222): After the hold the edge returns to the generator. -/
  | droopHandback (i : Fin 33)
  /-- CALENDAR_POSITION (R159): A tier controller serves the owner's oldest servable request in a calendar position. -/
  | calendarPosition (c : CtrlId) (lane pos : Nat) (shown : List Nat)
  /-- TIER_READ_DELIVERY (R162): A read line is written into the requester's memory after the access latency. -/
  | tierReadDelivery (p : ParcelId)
  /-- REFRESH_WINDOW (R163): A bank's refresh window begins at its fixed place in the tick. -/
  | refreshWindow (c : CtrlId) (j cyc : Nat)
  /-- PATROL_SCRUB (R168): Twice per tick the patrol scrubber reads one 2,048 B block of each parcel memory. -/
  | patrolScrub
  /-- MEMORY_TEMP_READ (R165): Every 1,024 ticks stack and DIMM temperatures are read. -/
  | memoryTempRead (c : CtrlId) (t : Fin 256)
  /-- XX_RETIRE (R179): Moves a memory controller to RETIRING. -/
  | xxRetire (c : CtrlId)
  /-- XX_INJECT_CE (R428): Arms a corrected-error injection on the next line read. -/
  | xxInjectCe (c : CtrlId)
  /-- XX_INJECT_UE (R428): Arms an uncorrectable injection on the next line read. -/
  | xxInjectUe (c : CtrlId)
  /-- XX_COUNT_CLR (R179): Zeroes error counts and stretch counters. -/
  | xxCountClr (c : CtrlId)
  /-- XX_CAL_DATA_ACCESS (R180): Reads or writes a calendar entry, with auto-increment. -/
  | xxCalDataAccess (c : CtrlId) (wr : Option (BitVec 64))
  /-- XX_TRAIN_REQ (R179): Requests full training of a controller in OFF or SELF_REFRESH. -/
  | xxTrainReq (c : CtrlId)
  /-- COMPOSITION (R312): The composer commits the previous step, takes ring entries, and composes the next step record. -/
  | composition (t : TractId) (d : Nat)
  /-- STEP_RECORD_APPLY (R288): After the broadcast, each serve block applies page operations and writes the step's tables. -/
  | stepRecordApply (t : TractId)
  /-- PARK_MOVE_COMPLETE (R297): A serve block finishes a park or unpark move and reports it. -/
  | parkMoveComplete (t : TractId) (i : Fin 65536) (d : Nat)
  /-- PROMPT_STAGED (R304): A prompt copy into staging completes, making the request admissible. -/
  | promptStaged (i : Fin 65536)
  /-- IDLE_TTL_EXPIRY (R306): An IDLE session whose IDLE_TTL passes starts PARKING. -/
  | idleTtlExpiry (i : Fin 65536) (d : Nat)
  /-- PARK_TTL_EXPIRY (R306): A PARKED session whose PARK_TTL passes expires. -/
  | parkTtlExpiry (i : Fin 65536) (d : Nat)
  /-- SUBMISSION_TAIL_DOORBELL (R301): A doorbell carries a ring's new submission tail. -/
  | submissionTailDoorbell (r : Fin 4096) (v : Fin 65536)
  /-- COMPLETION_HEAD_DOORBELL (R301): A doorbell carries the consumed completion head, letting waiting entries be written. -/
  | completionHeadDoorbell (r : Fin 4096) (v : Fin 65536)
  /-- OPEN_RING (R322): Opens a ring from a ring-open block. -/
  | openRing (r : Fin 4096) (block : BitVec 48)
  /-- CLOSE_RING (R322): Closes a ring after its live requests end. -/
  | closeRing (r : Fin 4096)
  /-- OPEN_ACCOUNT (R323): Opens an account at the lowest free index. -/
  | openAccount (block : BitVec 48)
  /-- CLOSE_ACCOUNT (R322): Closes an account's rings and frees it. -/
  | closeAccount (a : Fin 4096)
  /-- SET_ACCOUNT (R309): Changes an account's RATE and BURST. -/
  | setAccount (a : Fin 4096) (block : BitVec 48)
  /-- SRV_EN (R318): Enables serve work, or by basic disable drains it. -/
  | srvEn (mask : Fin 256)
  /-- SRV_STOP_NOW (R318): Ends every live or queued request of a tract with DISCARDED. -/
  | srvStopNow (mask : Fin 256)
  /-- BENCHMARK_DIGEST_DONE (R331): Firmware finishes digesting a sealed slot and marks it valid or bad. -/
  | benchmarkDigestDone (t : TractId) (slot : Fin 2) (mirror : Bool)
  /-- DRILL_START (R341): A drill's interval expires and firmware injects its fault. -/
  | drillStart (k : Fin 5) (r : TractId) (c : CtrlId) (l : LinkId) (j : Fin 17) (t : Nat)
  /-- MCB_DRILL_STOP_NOW (R343): Ends every drill at once, reporting DISCARDED. -/
  | mcbDrillStopNow
  /-- KAT_SLOT (R352): In its safety slot the lamplighter runs a parcel's known-answer test. -/
  | katSlot (p : ParcelId) (t : Nat) (pass : Bool)
  /-- KAT_RERUN (R354): After a failed test the parcel's test is rerun in each of four ticks. -/
  | katRerun (p : ParcelId) (t : Nat) (pass : Bool)
  /-- CLOCK_MONITOR_WINDOW (R355): Each 10.24 µs the monitor checks every clock's average period. -/
  | clockMonitorWindow (i : Fin 38) (cycles t : Nat)
  /-- LOCKSTEP_MISMATCH (R356): A safety-monitor core mismatch drives the module dark. -/
  | lockstepMismatch (t : Nat)
  /-- HEARTBEAT_SEND (R356): Every 100 µs the monitor sends a heartbeat to the power-stage supervisor. -/
  | heartbeatSend (t : Nat)
  /-- HEARTBEAT_TIMEOUT (R356): No heartbeat for 1 ms drives the module dark with cause 11. -/
  | heartbeatTimeout (t : Nat)
  /-- SFM_LWDT_KICK (R357): A lantern core kicks its watchdog. -/
  | sfmLwdtKick (mask : Fin 16) (t : Nat)
  /-- LANTERN_WATCHDOG_EXPIRY (R357): A core missing its deadline is lost; all four lost drives the module dark. -/
  | lanternWatchdogExpiry (c : Fin 4) (t : Nat)
  /-- DIE_SENSOR_READ (R349): Every 16 ticks township and spine temperatures are read and checked. -/
  | dieSensorRead (temps : List (Option Nat)) (t : Nat)
  /-- INPUT_OVERVOLTAGE (R349): Input above 58 V opens the input switch. -/
  | inputOvervoltage (mv t : Nat)
  /-- INPUT_OVERCURRENT (R349): Input current above 72 A opens the input switch. -/
  | inputOvercurrent (ca t : Nat)
  /-- RAIL_OVERVOLTAGE (R349): A rail above 110 % opens the input switch. -/
  | railOvervoltage (rail : Fin 6) (permille t : Nat)
  /-- SENSING_COMPARE (R349): Every 10 µs the supervisor compares its sensing channels. -/
  | sensingCompare (mv ca : Nat × Nat) (rails : List (Nat × Nat)) (t : Nat)
  /-- INPUT_DIP (R412): An input dip below 42 V is ridden through or, if longer than 20 µs, trips under-voltage. -/
  | inputDip (ns t : Nat)
  /-- INPUT_LOW (R412): Input between 42 and 45 V sets an event. -/
  | inputLow (mv : Nat)
  /-- SFM_DARK_NOW (R366): Drives the module dark with cause 13. -/
  | sfmDarkNow
  /-- SFM_TRACT_DARK_NOW (R366): Drives a tract dark. -/
  | sfmTractDarkNow (mask : Fin 256)
  /-- COLD_START_POWER_ON (R373): Applying the 50 V input begins a cold start. -/
  | coldStartPowerOn (mv away : Nat)
  /-- START_SEQUENCE_STEP_DONE (R373): A stage of cold or warm start completes and the next begins, ending in READY or recovery boot. -/
  | startSequenceStepDone (t : Nat) (dimms : List (Nat × Nat)) (failed : List ParcelId)
  /-- MCB_COLD (R373): Performs a module reset and cold start. -/
  | mcbCold
  /-- MCB_WARM (R375): Begins a warm start in DARK or STANDBY. -/
  | mcbWarm
  /-- MCB_ADOPT (R378): Adopts a newly signed configuration section. -/
  | mcbAdopt (sect : List (BitVec 8))
  /-- MCB_FW_STAGE (R381): Starts a live firmware handover. -/
  | mcbFwStage
  /-- FW_HANDOVER_STAGE_DONE (R381): A stage of the handover completes, ending with the flash written. -/
  | fwHandoverStageDone (t : Nat) (ok : Bool)
  /-- MCB_RECOVERY_GO (R383): Verifies and runs the recovery image. -/
  | mcbRecoveryGo (writes : List (Nat × List (BitVec 8)))
  /-- MCB_RETEST (R379): Starts a re-test of a quarantined parcel. -/
  | mcbRetest
  /-- MCB_Q_MARK (R359): Marks a parcel for quarantine by hand. -/
  | mcbQMark
  /-- IDENTITY (R397): Returns the identity bytes of the attestation report. -/
  | identity
  /-- STATUS (R397): Returns module state, dark cause, temperature and power. -/
  | status
  /-- LAST_RESULT (R397): Returns the status of the last management write. -/
  | lastResult
  /-- SET_COORD (R398): Sets hall coordinate, root, parent and datum. -/
  | setCoord (b : List (BitVec 8)) (pec : Bool)
  /-- GET_COORD (R397): Returns the coordinate fields. -/
  | getCoord
  /-- POWER_CAP (R415): Sets the management power cap. -/
  | powerCap (w : BitVec 16) (pec : Bool)
  /-- POWER_READ (R397): Returns input voltage and current. -/
  | powerRead
  /-- ATTEST_NONCE (R402): Supplies a nonce and starts an attestation report. -/
  | attestNonce (nonce : List (BitVec 8)) (pec : Bool)
  /-- ATTEST_READ (R397): Reads part of the signed attestation report. -/
  | attestRead (off : BitVec 16)
  /-- WARM_START (R375): Management command to begin a warm start. -/
  | warmStart (pec : Bool)
  /-- COLD_START (R397): Management command to begin a cold start. -/
  | coldStart (pec : Bool)
  /-- STANDBY (R414): Puts the module into standby. -/
  | standby (pec : Bool)
  /-- SAFETY_LOG (R397): Returns one safety record. -/
  | safetyLog (i : BitVec 16)
  /-- ALERT_RESPONSE (R396): The module answers the SMBus Alert Response Address. -/
  | alertResponse (slot : Fin 8)
  /-- IDN_ATT_REQ (R403): Requests an attestation report over the register path. -/
  | idnAttReq
  /-- ATTESTATION_SIGNED (R402): A report finishes signing and is made available. -/
  | attestationSigned (t : Nat)
  /-- POWER_AVERAGE_UPDATE (R416): Each millisecond the cap stretch rises, falls or holds. -/
  | powerAverageUpdate (avg t : Nat)
  /-- PWR_CAP_W (R415): Sets the register power cap. -/
  | pwrCapW (v : BitVec 16)
  /-- RD (R389): An attach read request is served and completed. -/
  | rd (addr : BitVec 48) (lines : Fin 5) (tag credit : BitVec 16)
  /-- CPL (R388): An attach completion answers a module read of the companion aperture. -/
  | cpl (tag : BitVec 16) (addr : BitVec 48) (status : Fin 256) (data : List Byte) (credit : BitVec 16)
  /-- WR (R389): A posted attach write is performed or refused. -/
  | wr (addr : BitVec 48) (data : List Byte) (mask : BitVec 64) (credit : BitVec 16)
  /-- IDLE (R388): An attach IDLE message returns credit. -/
  | idle (credit : BitVec 16)
  /-- ATTACH_LANE_FAIL (R387): A failed attach lane takes the link to FAILED and four-lane retraining. -/
  | attachLaneFail (j : Fin 8)
  /-- ATT_TRAIN (R395): Starts attach training. -/
  | attTrain
  /-- ATT_WIN_WRITE (R391): Changes an attach window, sending a BINV when a shared window closes. -/
  | attWinWrite (w : Fin 16) (base : BitVec 48) (attr : BitVec 14)
  /-- ATT_COUNT_CLR (R395): Zeroes the attach counters. -/
  | attCountClr
  /-- COMMAND_TAIL_DOORBELL (R392): A doorbell carries the command queue's new tail. -/
  | commandTailDoorbell (v : Fin 65536)
  /-- REPORT_HEAD_DOORBELL (R393): A doorbell carries the consumed report head. -/
  | reportHeadDoorbell (v : Fin 65536)
  /-- START_JOB (R392): Makes this module the root of a job start. -/
  | startJob (t : Nat)
  /-- ABORT_JOB (R392): Requests an abort at the root. -/
  | abortJob (t : Nat)
  /-- DRILL_WINDOW (R392): Opens or closes a drill window. -/
  | drillWindow
  /-- EXPORT_BLOCK (R392): Copies a benchmark slot header and block to the companion. -/
  | exportBlock
  /-- LINK_PASS (R392): Writes a link owner pass. -/
  | linkPass
  /-- EASEMENT (R392): Writes an easement grant. -/
  | easement
  /-- EXTEST (R405): Drives pins by boundary scan in STANDBY or RECOVERY. -/
  | extest (d : Option (List Bool))
  /-- IDCODE (R405): Returns the TAP identification code. -/
  | idcode
  /-- SAMPLE_PRELOAD (R405): Samples or preloads the boundary-scan register. -/
  | samplePreload (d : List Bool)
  /-- DTMCS (R409): Accesses the RISC-V debug transport control register. -/
  | dtmcs (v : BitVec 32)
  /-- DMI (R409): Accesses the RISC-V debug module for lantern debug. -/
  | dmi (op : Fin 4) (addr : BitVec 7) (data : BitVec 32)
  /-- DBGACC (R406): Performs one 64-bit outside access within scope. -/
  | dbgacc (op : Fin 4) (addr : BitVec 48) (data : BitVec 64)
  /-- TOKEN (R406): Returns the challenge and accepts or refuses an offered debug token. -/
  | token (b : List Byte)
  /-- BYPASS (R405): Selects the one-bit bypass register. -/
  | bypass (b : Bool)
  /-- TOKEN_EXPIRY (R406): A token whose NOT_AFTER passes ends. -/
  | tokenExpiry (t : Nat)
  /-- DBG_HALT (R407): Halts a parcel, or its whole tract. -/
  | dbgHalt
  /-- DBG_RESUME (R407): Returns a halted parcel to RUN. -/
  | dbgResume
  /-- DBG_STEP (R407): Issues one instruction of a halted parcel. -/
  | dbgStep
  /-- DBG_LOCK (R410): Revokes the debug token. -/
  | dbgLock
  /-- DBG_BEACON_SET (R408): Writes a beacon count, after which the release procedure runs. -/
  | dbgBeaconSet (b : Fin 32768) (n : Fin 65536)
  /-- SFM_LOG_DATA_READ (R366): Reads a safety record part, with auto-increment. -/
  | sfmLogDataRead
  /-- ATTACH_TRAINING_COMPLETE (R387): Birvox attach training ends after about 10 ms, taking ATT_LINK to UP or UP4 and setting ATT_EVT_LINK. -/
  | attachTrainingComplete (mask : Fin 256)
  /-- MEMORY_TRAINING_COMPLETE (R179): Full training of an HBM or DDR5 controller ends, setting xx_TRAIN_OK, xx_TRAIN_MARGIN and the controller state. -/
  | memoryTrainingComplete (c : CtrlId) (ok : Bool) (margin : Fin 256) (cached : Bool)
  /-- MEMORY_CONTROLLER_FAILURE (R179): An HBM or DDR5 controller enters FAILED and thereafter delivers no data, with every read treated as uncorrectable. -/
  | memoryControllerFailure (c : CtrlId)
  /-- COOLANT_INLET_READ (R419): The inlet and outlet thermistors are read, and an inlet above PWR_T_COOL_WARN sets PWR_EVT_COOL. -/
  | coolantInletRead (tin tout : Fin 256)
deriving DecidableEq, Repr

end Sys2Proof
end

