-- ==== Sys2Proof/Decode.lean ====
section
/-!
DEFINITION. Commands as words of the opcode table. No row of the table gives bits: commands come from outside the module with their
operands, so no word spells one.
-/
namespace Sys2Proof

/-- The command that a word of nbits bits spells by the table. -/
def decodeTableWord (_nbits _w : Nat) : Option Instr := none

end Sys2Proof
end

