-- ==== Sys2Proof/Machine/Bits.lean ====
section
/-!
DEFINITION. Bit fields, sign extension and byte order: the helpers every decoder and operation uses.
-/
namespace Sys2Proof.Machine

/-- Bits [lo+w-1 : lo] of a number (00 R4). -/
def bitsOf (x lo w : Nat) : Nat := x / 2 ^ lo % 2 ^ w

/-- Bit i of a number. -/
def bitAt (x i : Nat) : Bool := x / 2 ^ i % 2 == 1

/-- The number with bits [lo+w-1 : lo] replaced by the low w bits of v. -/
def putBits (x lo w v : Nat) : Nat :=
  x - bitsOf x lo w * 2 ^ lo + v % 2 ^ w * 2 ^ lo

/-- The low w bits of a number read as two's complement. -/
def sextOf (w x : Nat) : Int :=
  let y := x % 2 ^ w
  if y < 2 ^ (w - 1) then (y : Int) else (y : Int) - (2 ^ w : Nat)

/-- An integer modulo 2^w, as the w-bit pattern that holds it. -/
def wrapTo (w : Nat) (x : Int) : Nat := (x % ((2 ^ w : Nat) : Int)).toNat

/-- A truth value as a bit. -/
def b2n (b : Bool) : Nat := if b then 1 else 0

/-- The n little-endian bytes of a number (00 R6). -/
def leBytes : Nat → Nat → List Byte
  | 0, _ => []
  | n + 1, v => BitVec.ofNat 8 v :: leBytes n (v / 256)

/-- The number that little-endian bytes hold. -/
def leNat : List Byte → Nat
  | [] => 0
  | b :: bs => b.toNat + 256 * leNat bs

/-- The number that big-endian bytes hold. -/
def beNat (bs : List Byte) : Nat := bs.foldl (fun a b => a * 256 + b.toNat) 0

/-- The n big-endian bytes of a number. -/
def beBytes (n v : Nat) : List Byte := (leBytes n v).reverse

/-- Division rounded up; 0 where the divisor is 0. -/
def ceilDiv (a b : Nat) : Nat := if b = 0 then 0 else (a + (b - 1)) / b

/-- The number of binary digits of n: 0 for 0. Fuel-free: Nat.log2 in the kernel's arithmetic. -/
def bitLen (n : Nat) : Nat := if n = 0 then 0 else Nat.log2 n + 1

/-- Absolute difference. -/
def absDiff (a b : Nat) : Nat := if a ≤ b then b - a else a - b

/-- The list without repeats of a rising list of naturals, from any list. -/
def sortDedup (l : List Nat) : List Nat :=
  l.foldl (fun acc x =>
    let lo := acc.filter (fun y => decide (y < x))
    let hi := acc.filter (fun y => decide (x < y))
    lo ++ x :: hi) []

/-- Saturating sum: the register's largest value stands for anything above it. -/
def satAdd (w a b : Nat) : Nat := if a + b < 2 ^ w then a + b else 2 ^ w - 1

end Sys2Proof.Machine
end

