-- ==== Sys2Proof/Machine/CounterGen.lean ====
section
/-!
DEFINITION. The counter generator: the ChaCha20 block function on the state of 05 R132.
-/
namespace Sys2Proof.Machine

/-- 32-bit rotation to the left. -/
def rotl32 (v n : Nat) : Nat := (v * 2 ^ n) % 2 ^ 32 + v / 2 ^ (32 - n)

/-- The sixteen words of the generator's state. -/
abbrev ChaState := List Nat

/-- The quarter round on four positions. -/
def chaQuarter (x : ChaState) (a b c d : Nat) : ChaState :=
  let xa := x.getD a 0
  let xb := x.getD b 0
  let xc := x.getD c 0
  let xd := x.getD d 0
  let a1 := (xa + xb) % 2 ^ 32
  let d1 := rotl32 (Nat.xor xd a1) 16
  let c1 := (xc + d1) % 2 ^ 32
  let b1 := rotl32 (Nat.xor xb c1) 12
  let a2 := (a1 + b1) % 2 ^ 32
  let d2 := rotl32 (Nat.xor d1 a2) 8
  let c2 := (c1 + d2) % 2 ^ 32
  let b2 := rotl32 (Nat.xor b1 c2) 7
  (((x.set a a2).set b b2).set c c2).set d d2

/-- One double round: four columns, four diagonals. -/
def chaDouble (x : ChaState) : ChaState :=
  let x := chaQuarter x 0 4 8 12
  let x := chaQuarter x 1 5 9 13
  let x := chaQuarter x 2 6 10 14
  let x := chaQuarter x 3 7 11 15
  let x := chaQuarter x 0 5 10 15
  let x := chaQuarter x 1 6 11 12
  let x := chaQuarter x 2 7 8 13
  chaQuarter x 3 4 9 14

/-- n double rounds. -/
def chaRounds : Nat → ChaState → ChaState
  | 0, x => x
  | n + 1, x => chaRounds n (chaDouble x)

/-- The initial state from seed, stream, step counter and element (R132). -/
def chaInit (seed stream step element : Nat) : ChaState :=
  [0x61707865, 0x3320646E, 0x79622D32, 0x6B206574,
   seed % 2 ^ 32, seed / 2 ^ 32 % 2 ^ 32, 0, 0, 0, 0, 0, 0,
   element % 2 ^ 32, stream % 2 ^ 32, step % 2 ^ 32, step / 2 ^ 32 % 2 ^ 32]

/-- The block's sixteen words. -/
def chaBlock (seed stream step element : Nat) : List Nat :=
  let s := chaInit seed stream step element
  List.zipWith (fun a b => (a + b) % 2 ^ 32) (chaRounds 10 s) s

/-- The generator's output: word 0 (R132). -/
def counterWord (seed stream step element : Nat) : Nat :=
  (chaBlock seed stream step element).getD 0 0

end Sys2Proof.Machine
end

