-- ==== Sys2Proof/Config.lean ====
section
/-!
DEFINITION. What the spec leaves open. Every constant here is opaque: nothing in Lean can evaluate
it or prove a value of it, so a statement about the machine holds whatever it is.
-/
namespace Sys2Proof

/-- The free value drawn when the model's counter stands at the argument (DESIGN CHOICE, log entry 4). -/
opaque Config.freeValue : Nat → Nat

/-- Which of the results within 1 ulp the special function with this opcode gives for this
FP32 input: an index into the candidates in rising order (03 R78, 05 R115; DESIGN CHOICE, log entry 8). -/
opaque Config.specialPick : Nat → Nat → Nat

/-- The fields of a control unit of this kind, from its bytes 8 on: the table gives their order and not their
widths (10 R251; DESIGN CHOICE, log entry 19). -/
opaque Config.ctlFields : Nat → List Byte → List Nat

/-- Entries that a township's spine crossing holds: 1.5 ticks of its largest scheduled traffic, which the spec does not give (09 R224;
DESIGN CHOICE, log entry 105). -/
opaque Config.crossingHolds : Nat → Nat

/-- The alignment marker that a fill unit carries on a lane, of a physical lane, a logical lane and the low 16 bits of the codeword index:
the spec gives what it says and not its form (10 R236; DESIGN CHOICE, log entry 102). -/
opaque Config.markerWord : Nat → Nat → Nat → BitVec 32

/-- The bytes, from byte 8 on, that carry the fields of a control unit of this kind (10 R251; DESIGN CHOICE, log entry 19). -/
opaque Config.ctlBytes : Nat → List Nat → List Byte

/-- The hall coordinate of the neighbour on a link, from the module's own: the hall's extents are not given (11
R262; DESIGN CHOICE, log entry 20). -/
opaque Config.neighbour : Nat → Nat → Nat

/-- Which of a collective's route entries leads to a virtual position, from the entry's number and the position:
the compiled schedule decides (11 R279; DESIGN CHOICE, log entry 21). -/
opaque Config.collRoute : Nat → Nat → Nat

/-! Sections of a plat whose layout the spec does not give (DESIGN CHOICE, log entry 23): what their bytes say. -/

/-- The placement table: address and length of each tier segment, from the section and the tract's regions. -/
opaque Config.platSegments : List Byte → List (Nat × Nat) → List (Nat × Nat)

/-- The placement table: the numbers of the serve segment, the HBM and DDR5 KV segments and the staging segment. -/
opaque Config.platServeSegs : List Byte → List Nat

/-- The sheet table: segment, length, source address and digest of each sheet. -/
opaque Config.platSheets : List Byte → List (Nat × Nat × Nat × List Byte)

/-- The tier calendar: controller, lane, position and entry. -/
opaque Config.platCalendar : List Byte → List (Nat × Nat × Nat × Nat)

/-- The tier calendar: the refresh mode of HBM and of DDR5, 0 for A and 1 for B. -/
opaque Config.platRefresh : List Byte → Nat × Nat

/-- The cadastre: link, direction sent, slot and entry. -/
opaque Config.platEntries : List Byte → List (Nat × Bool × Nat × Nat)

/-- The alternate maps: link, direction sent, slot and alternate slot. -/
opaque Config.platAlts : List Byte → List (Nat × Bool × Nat × Nat)

/-- The detour traverses: link, first link and slots. -/
opaque Config.platDetours : List Byte → List (Nat × Nat × List Nat)

/-- The flight time assumed for each link. -/
opaque Config.platFlights : List Byte → List (Nat × Nat)

/-- The routing records: their fields in the order of the table. -/
opaque Config.platRouting : List Byte → List (List Nat)

/-- The tile-count records: fold parcel, descriptor, column group and count. -/
opaque Config.platTiles : List Byte → List (Nat × Nat × Nat × Nat)

/-- The link from a module toward a hall coordinate for lantern messages: the hall's cabling is not given (11 R275; log
entry 20). -/
opaque Config.nextLink : Nat → Nat → Fin 6

/-- The operation numbers of lantern messages that the spec names and does not number (13 R339, R346, R347, 12 R297; log
entry 24). -/
opaque Config.lanternOp : Nat → BitVec 16

/-- A certificate of the flash's chain region, by its index there, verifies a signature (arguments: flash, index,
message, signature): the chain's roots are not in the spec (15 R367, 16 R401; DESIGN CHOICE, log entry 25). -/
opaque Config.certVerifies : Tab Byte → Nat → List Byte → List Byte → Bool

/-- The flash header is well formed, and the chain region is valid (15 R367, 16 R401). -/
opaque Config.flashHeaderOk : Tab Byte → Bool
opaque Config.chainValid : Tab Byte → Bool

/-- The disabled-unit map's signature verifies under the test key (15 R368). -/
opaque Config.mapSigned : Tab Byte → Bool

/-- The firmware image of the flash verifies; its version and digest (15 R367). -/
opaque Config.flashFirmwareOk : Tab Byte → Bool
opaque Config.flashFirmwareVersion : Tab Byte → Nat
opaque Config.flashFirmwareDigest : Tab Byte → List Byte

/-- A staged image verifies under the firmware key; its version; its header's stated length (15 R381, R383). -/
opaque Config.firmwareOk : Tab Byte → List Byte → Bool
opaque Config.firmwareVersion : List Byte → Nat
opaque Config.firmwareLength : List Byte → Nat

/-- The trained-parameter area verifies under the device key; the parcels it marks; the flash with a parcel marked there
(14 R359, 15 R367, 16 R400). -/
opaque Config.trainedOk : Tab Byte → Bool
opaque Config.trainedMarks : Tab Byte → List Nat
opaque Config.trainedMark : Tab Byte → Nat → Tab Byte
/-- The flash with that area rewritten, the parcels listed marked: its layout is not given. -/
opaque Config.trainedWrite : Tab Byte → List Nat → Nat → Tab Byte

/-- The signature of an attestation report under the device key, which never leaves its island (16 R400, R402). -/
opaque Config.attSign : List Byte → List Byte

/-- The one-time identity stores: lot, wafer, X and Y of compute die, link die 0 and link die 1, serials, public-key hash
(16 R399): by field number (DESIGN CHOICE, log entry 7). -/
opaque Config.identity : Nat → Nat

/-- A step record's journal entry: its layout is not given (13 R339). -/
opaque Config.journalBytes : Nat → List Nat → List Byte

/-- Lantern core c holds the request tracking of serve tract t, while the cores of a mask are lost: firmware decides it (16 R409;
PRESUMED, log entry 29). Mask, core, tract. -/
opaque Config.tracksTract : Nat → Nat → Nat → Bool

end Sys2Proof
end

