-- ==== Sys2Proof/Machine/Flags.lean ====
section
/-!
DEFINITION. The flag bits of 03 R68 and the union of flags an instruction forms over its elements.
-/
namespace Sys2Proof.Machine

/-- Bit 0: a long sum saturated. -/
def flagLsSat : Nat := 1
/-- Bit 1: a result rounded to infinity or saturated at a largest finite value. -/
def flagOverflow : Nat := 2
/-- Bit 2: a nonzero exact result became zero or subnormal. -/
def flagUnderflow : Nat := 4
/-- Bit 3: a result was rounded. -/
def flagInexact : Nat := 8
/-- Bit 4: an invalid operation produced a NaN. -/
def flagInvalid : Nat := 16
/-- Bit 5: VRCP or VRSQRT received zero. -/
def flagDivZero : Nat := 32
/-- Bit 6: a NaN operand was met. -/
def flagNanIn : Nat := 64

/-- The union of two flag sets (03 R68: each is ORed in once). -/
def orFlags (a b : Nat) : Nat := a ||| b

/-- A flag set or none. -/
def flagIf (b : Bool) (f : Nat) : Nat := if b then f else 0

/-- The union over a list of results. -/
def unionFlags (l : List Nat) : Nat := l.foldl orFlags 0

/-- A value together with the flags its computation raised. -/
structure Res where
  val : Nat
  flags : Nat
deriving DecidableEq, Repr

end Sys2Proof.Machine
end

