-- ==== Sys2Proof/Machine/Numeric.lean ====
section
/-!
DEFINITION. Number formats, rounding and FP32 arithmetic (05 R111 to R119). A finite value is kept
exactly, as sign, magnitude and a power of two, until its one rounding.
-/
namespace Sys2Proof.Machine

/-- A decoded operand: a finite value (−1)^neg × m × 2^e, an infinity, or a NaN. -/
inductive Num where
  | fin (neg : Bool) (m : Nat) (e : Int)
  | inf (neg : Bool)
  | nan
deriving DecidableEq, Repr

/-- What stands above a format's largest finite value (05 R111, R117). -/
inductive Special where
  /-- Infinities and NaNs as in IEEE 754. -/
  | ieee
  /-- E4M3: one NaN code and no infinity. -/
  | nanOnly
  /-- E3M2, E2M3, E2M1: finite values only. -/
  | none
deriving DecidableEq, Repr

/-- A floating-point element format (05 R111). -/
structure FloatFmt where
  ebits : Nat
  mbits : Nat
  bias : Nat
  special : Special
deriving DecidableEq, Repr

/-- FP32 (FMT 0). -/
def fmtFp32 : FloatFmt := ⟨8, 23, 127, .ieee⟩
/-- BF16 (FMT 1). -/
def fmtBf16 : FloatFmt := ⟨8, 7, 127, .ieee⟩
/-- E4M3 (FMT 2 and 8). -/
def fmtE4m3 : FloatFmt := ⟨4, 3, 7, .nanOnly⟩
/-- E5M2 (FMT 3 and 9). -/
def fmtE5m2 : FloatFmt := ⟨5, 2, 15, .ieee⟩
/-- E3M2 (FMT 4 and 10). -/
def fmtE3m2 : FloatFmt := ⟨3, 2, 3, .none⟩
/-- E2M3 (FMT 5 and 11). -/
def fmtE2m3 : FloatFmt := ⟨2, 3, 1, .none⟩
/-- E2M1 (FMT 12). -/
def fmtE2m1 : FloatFmt := ⟨2, 1, 1, .none⟩

/-- The float layout of an element format code, where it has one (03 R66, 05 R111). -/
def floatFmt? : Nat → Option FloatFmt
  | 0 => some fmtFp32
  | 1 => some fmtBf16
  | 2 => some fmtE4m3
  | 3 => some fmtE5m2
  | 4 => some fmtE3m2
  | 5 => some fmtE2m3
  | 8 => some fmtE4m3
  | 9 => some fmtE5m2
  | 10 => some fmtE3m2
  | 11 => some fmtE2m3
  | 12 => some fmtE2m1
  | _ => none

/-- Bits per element of a format code (03 R66). -/
def fmtBits : Nat → Nat
  | 0 => 32
  | 1 => 16
  | 2 => 8
  | 3 => 8
  | 4 => 6
  | 5 => 6
  | 6 => 8
  | 7 => 32
  | 8 => 8
  | 9 => 8
  | 10 => 6
  | 11 => 6
  | 12 => 4
  | 13 => 8
  | 14 => 160
  | 15 => 16
  | 16 => 32
  | _ => 8

/-- Whether a format code is one of the MX formats, with a scale plane (03 R66). -/
def fmtIsMx (f : Nat) : Bool := decide (8 ≤ f ∧ f ≤ 13)

/-- The largest finite value of a format: its mantissa integer and its power of two. -/
def FloatFmt.maxMan (f : FloatFmt) : Nat :=
  match f.special with
  | .nanOnly => 2 ^ (f.mbits + 1) - 2
  | _ => 2 ^ (f.mbits + 1) - 1

/-- The largest exponent field of a finite value. -/
def FloatFmt.maxExpField (f : FloatFmt) : Nat :=
  match f.special with
  | .ieee => 2 ^ f.ebits - 2
  | _ => 2 ^ f.ebits - 1

/-- The exponent of the last mantissa bit at the largest finite value. -/
def FloatFmt.qMax (f : FloatFmt) : Int := (f.maxExpField : Int) - f.bias - f.mbits

/-- The exponent of the smallest subnormal. -/
def FloatFmt.qMin (f : FloatFmt) : Int := 1 - (f.bias : Int) - f.mbits

/-- The sign bit's position. -/
def FloatFmt.signBit (f : FloatFmt) : Nat := f.ebits + f.mbits

/-- The sign as code bits. -/
def FloatFmt.signCode (f : FloatFmt) (neg : Bool) : Nat := if neg then 2 ^ f.signBit else 0

/-- The code of the largest finite value. -/
def FloatFmt.maxCode (f : FloatFmt) (neg : Bool) : Nat :=
  f.signCode neg + f.maxExpField * 2 ^ f.mbits + (f.maxMan - 2 ^ f.mbits)

/-- The code of an infinity of a format that has one. -/
def FloatFmt.infCode (f : FloatFmt) (neg : Bool) : Nat :=
  f.signCode neg + (2 ^ f.ebits - 1) * 2 ^ f.mbits

/-- The canonical NaN: 0x7FC0_0000, 0x7FC0, 0x7E for E5M2, 0x7F for E4M3 (05 R114, R117). -/
def FloatFmt.nanCode (f : FloatFmt) : Nat :=
  match f.special with
  | .ieee => (2 ^ f.ebits - 1) * 2 ^ f.mbits + 2 ^ (f.mbits - 1)
  | .nanOnly => 2 ^ (f.ebits + f.mbits) - 1
  | .none => 0

/-- The value a code stands for (05 R111). -/
def FloatFmt.decode (f : FloatFmt) (code : Nat) : Num :=
  let m := bitsOf code 0 f.mbits
  let e := bitsOf code f.mbits f.ebits
  let neg := bitAt code f.signBit
  let top := e == 2 ^ f.ebits - 1
  match f.special, top with
  | .ieee, true => if m = 0 then .inf neg else .nan
  | .nanOnly, true =>
    if m = 2 ^ f.mbits - 1 then .nan
    else .fin neg (2 ^ f.mbits + m) ((e : Int) - f.bias - f.mbits)
  | _, _ =>
    if e = 0 then .fin neg m f.qMin
    else .fin neg (2 ^ f.mbits + m) ((e : Int) - f.bias - f.mbits)

/-- How a conversion rounds (05 R116): the stochastic mode carries its counter-generator word. -/
inductive Rounding where
  | nearest
  | towardZero
  | stochastic (u : Nat)
deriving DecidableEq, Repr

/-- Whether the magnitude is rounded up, from the kept integer, the remainder and 2^sh (05 R116, R118). -/
def roundsUp (mode : Rounding) (lo r full : Nat) : Bool :=
  match mode with
  | .nearest => decide (full < 2 * r) || (decide (2 * r = full) && decide (lo % 2 = 1))
  | .towardZero => false
  | .stochastic u => decide (u < r * 2 ^ 32 / full)

/-- The code of n × 2^q in a format, for q at least the smallest step and n at most 2^(M+1). -/
def FloatFmt.encodeAt (f : FloatFmt) (neg : Bool) (n : Nat) (q : Int) : Nat :=
  if n = 2 ^ (f.mbits + 1) then
    f.signCode neg + ((q + 1 + f.mbits + f.bias).toNat) * 2 ^ f.mbits
  else if n < 2 ^ f.mbits then f.signCode neg + n
  else f.signCode neg + ((q + f.mbits + f.bias).toNat) * 2 ^ f.mbits + (n - 2 ^ f.mbits)

/-- n × 2^q exceeds the format's largest finite value. -/
def FloatFmt.beyond (f : FloatFmt) (n : Nat) (q : Int) : Bool :=
  if f.qMax ≤ q then decide (f.maxMan < n * 2 ^ (q - f.qMax).toNat)
  else decide (f.maxMan * 2 ^ (f.qMax - q).toNat < n)

/-- The outcome beyond the largest finite value (05 R117, R118). -/
def FloatFmt.overflowCode (f : FloatFmt) (mode : Rounding) (neg : Bool) : Nat :=
  match f.special, mode with
  | .ieee, .towardZero => f.maxCode neg
  | .ieee, _ => f.infCode neg
  | _, _ => f.maxCode neg

/-- The one rounding of a finite value (−1)^neg × m × 2^e into a format. `arith` says whether
UNDERFLOW is raised for exact subnormal results too (05 R114: arithmetic; R116: conversions
of representable values set no flag). -/
def FloatFmt.round (f : FloatFmt) (mode : Rounding) (arith neg : Bool) (m : Nat) (e : Int) : Res :=
  if m = 0 then ⟨f.signCode neg, 0⟩
  else
    let q := max (e + (Nat.log2 m : Int) - f.mbits) f.qMin
    let sh := (q - e).toNat
    let lo := if q ≤ e then m * 2 ^ (e - q).toNat else m / 2 ^ sh
    let r := if q ≤ e then 0 else m % 2 ^ sh
    let exact := r == 0
    let n := if !exact && roundsUp mode lo r (2 ^ sh) then lo + 1 else lo
    if f.beyond n q then ⟨f.overflowCode mode neg, orFlags flagOverflow flagInexact⟩
    else
      let tiny := n < 2 ^ f.mbits
      ⟨f.encodeAt neg n q,
        orFlags (flagIf (!exact) flagInexact) (flagIf (tiny && (arith || !exact)) flagUnderflow)⟩

/-- A decoded operand converted to a float format (05 R116 to R118). -/
def FloatFmt.convert (f : FloatFmt) (mode : Rounding) (x : Num) : Res :=
  match x with
  | .fin neg m e => f.round mode false neg m e
  | .inf neg =>
    match f.special with
    | .ieee => ⟨f.infCode neg, 0⟩
    | _ => ⟨f.maxCode neg, flagOverflow⟩
  | .nan =>
    match f.special with
    | .none => ⟨0, orFlags flagInvalid flagNanIn⟩
    | _ => ⟨f.nanCode, flagNanIn⟩

/-- A decoded operand converted to a w-bit two's-complement integer (05 R116, R117). -/
def convertInt (w : Nat) (mode : Rounding) (x : Num) : Res :=
  let limit (neg : Bool) : Nat := if neg then 2 ^ (w - 1) else 2 ^ (w - 1) - 1
  match x with
  | .nan => ⟨0, orFlags flagInvalid flagNanIn⟩
  | .inf neg => ⟨limit neg, flagInvalid⟩
  | .fin neg m e =>
    let lo := if 0 ≤ e then m * 2 ^ e.toNat else m / 2 ^ (-e).toNat
    let r := if 0 ≤ e then 0 else m % 2 ^ (-e).toNat
    let n := if r ≠ 0 && roundsUp mode lo r (2 ^ (-e).toNat) then lo + 1 else lo
    if limit neg < n then ⟨limit neg, orFlags flagOverflow (flagIf (r != 0) flagInexact)⟩
    else ⟨wrapTo w (if neg then -(n : Int) else n), flagIf (r != 0) flagInexact⟩

/-- The value an element code of a plain (unscaled) format stands for (05 R111, R112). MXINT8
elements stand for n × 2^−6. -/
def decodeElem (fmt code : Nat) : Num :=
  match floatFmt? fmt with
  | some f => f.decode code
  | none =>
    let n := sextOf (fmtBits fmt) code
    .fin (decide (n < 0)) n.natAbs (if fmt = 13 then -6 else 0)

/-- An element converted to a format code of 0 to 7 (03 R82). -/
def convertElem (fmt : Nat) (mode : Rounding) (x : Num) : Res :=
  match floatFmt? fmt with
  | some f => f.convert mode x
  | none => convertInt (fmtBits fmt) mode x

/-- A signed dyadic: the sum or product of finite operands, exact. -/
structure Dyad where
  m : Int
  e : Int
deriving DecidableEq, Repr

/-- The exact sum of two dyadics. -/
def Dyad.add (a b : Dyad) : Dyad :=
  let e := min a.e b.e
  ⟨a.m * ((2 ^ (a.e - e).toNat : Nat) : Int) + b.m * ((2 ^ (b.e - e).toNat : Nat) : Int), e⟩

/-- The signed dyadic of a finite operand. -/
def dyadOf (neg : Bool) (m : Nat) (e : Int) : Dyad := ⟨if neg then -(m : Int) else m, e⟩

/-- The NaN-operand flag of a list of decoded operands (05 R114). -/
def nanFlags (l : List Num) : Nat := unionFlags (l.map fun x => flagIf (x == .nan) flagNanIn)

/-- FP32 canonical NaN. -/
def fp32Nan : Nat := 0x7FC00000

/-- The FP32 value of a code. -/
def fp32 (code : Nat) : Num := fmtFp32.decode code

/-- Round an exact FP32 arithmetic result: an exact zero takes the sign given. -/
def fp32Round (zeroNeg : Bool) (d : Dyad) : Res :=
  if d.m = 0 then ⟨fmtFp32.signCode zeroNeg, 0⟩
  else fmtFp32.round .nearest true (decide (d.m < 0)) d.m.natAbs d.e

/-- FP32 fused multiply-add a × b + c with one rounding, on decoded operands (03 R78, 05 R114). -/
def fp32Fma (a b c : Num) : Res :=
  let nanF := nanFlags [a, b, c]
  let bad : Bool :=
    match a, b with
    | .inf _, .fin _ 0 _ => true
    | .fin _ 0 _, .inf _ => true
    | _, _ => false
  let invF := flagIf bad flagInvalid
  if nanF ≠ 0 ∨ bad = true then ⟨fp32Nan, orFlags nanF invF⟩
  else
    match a, b, c with
    | .fin na ma ea, .fin nb mb eb, .fin nc mc ec =>
      let p := dyadOf (na != nb) (ma * mb) (ea + eb)
      let d := p.add (dyadOf nc mc ec)
      fp32Round (if ma * mb = 0 ∧ mc = 0 then ((na != nb) && nc) else false) d
    | .fin _ _ _, .fin _ _ _, .inf nc => ⟨fmtFp32.infCode nc, 0⟩
    | _, _, .inf nc =>
      let np := (match a with | .inf n => n | .fin n _ _ => n | .nan => false) !=
        (match b with | .inf n => n | .fin n _ _ => n | .nan => false)
      if np = nc then ⟨fmtFp32.infCode nc, 0⟩ else ⟨fp32Nan, flagInvalid⟩
    | _, _, _ =>
      let np := (match a with | .inf n => n | .fin n _ _ => n | .nan => false) !=
        (match b with | .inf n => n | .fin n _ _ => n | .nan => false)
      ⟨fmtFp32.infCode np, 0⟩

/-- FP32 addition. -/
def fp32Add (a b : Num) : Res :=
  if nanFlags [a, b] ≠ 0 then ⟨fp32Nan, flagNanIn⟩
  else
    match a, b with
    | .inf na, .inf nb => if na = nb then ⟨fmtFp32.infCode na, 0⟩ else ⟨fp32Nan, flagInvalid⟩
    | .inf na, _ => ⟨fmtFp32.infCode na, 0⟩
    | _, .inf nb => ⟨fmtFp32.infCode nb, 0⟩
    | .fin na ma ea, .fin nb mb eb =>
      fp32Round (if ma = 0 ∧ mb = 0 then (na && nb) else false) ((dyadOf na ma ea).add (dyadOf nb mb eb))
    | _, _ => ⟨fp32Nan, flagNanIn⟩

/-- The operand with its sign reversed. -/
def Num.neg : Num → Num
  | .fin n m e => .fin (!n) m e
  | .inf n => .inf (!n)
  | .nan => .nan

/-- FP32 multiplication: a zero result takes the product's sign. -/
def fp32Mul (a b : Num) : Res :=
  if nanFlags [a, b] ≠ 0 then
    ⟨fp32Nan, flagNanIn⟩
  else
    match a, b with
    | .inf _, .fin _ 0 _ => ⟨fp32Nan, flagInvalid⟩
    | .fin _ 0 _, .inf _ => ⟨fp32Nan, flagInvalid⟩
    | .inf na, .inf nb => ⟨fmtFp32.infCode (na != nb), 0⟩
    | .inf na, .fin nb _ _ => ⟨fmtFp32.infCode (na != nb), 0⟩
    | .fin na _ _, .inf nb => ⟨fmtFp32.infCode (na != nb), 0⟩
    | .fin na ma ea, .fin nb mb eb =>
      fp32Round (na != nb) (dyadOf (na != nb) (ma * mb) (ea + eb))
    | _, _ => ⟨fp32Nan, flagNanIn⟩

/-- A total order on non-NaN values in which −0 lies below +0: (sign rank, scaled magnitude). -/
def Num.rank : Num → Int
  | .fin neg m e =>
    let mag : Int := (m : Int) * ((2 ^ (e + 149).toNat : Nat) : Int)
    if neg then -mag - 1 else mag
  | .inf neg => if neg then -((2 ^ 400 : Nat) : Int) - 1 else ((2 ^ 400 : Nat) : Int)
  | .nan => 0

/-- The numeric value times 2^149, for comparisons in which −0 equals +0. -/
def Num.scaled : Num → Int
  | .fin neg m e =>
    let mag : Int := (m : Int) * ((2 ^ (e + 149).toNat : Nat) : Int)
    if neg then -mag else mag
  | .inf neg => if neg then -((2 ^ 400 : Nat) : Int) else ((2 ^ 400 : Nat) : Int)
  | .nan => 0

/-- FP32 maximum or minimum of two codes: +0 above −0; a NaN operand gives NaN (03 R78). -/
def fp32MaxMin (isMax : Bool) (x y : Nat) : Res :=
  let a := fp32 x
  let b := fp32 y
  if nanFlags [a, b] ≠ 0 then ⟨fp32Nan, flagNanIn⟩
  else if isMax = decide (b.rank ≤ a.rank) then ⟨x, 0⟩ else ⟨y, 0⟩

/-- VABS and VNEG: sign operations, a NaN giving the canonical NaN (03 R78). -/
def fp32AbsNeg (isNeg : Bool) (x : Nat) : Res :=
  if fp32 x = .nan then ⟨fp32Nan, flagNanIn⟩
  else if isNeg then ⟨if bitAt x 31 then x - 2 ^ 31 else x + 2 ^ 31, 0⟩
  else ⟨x % 2 ^ 31, 0⟩

/-! ### The special functions: results within 1 ulp (05 R115) -/

/-- Integer square root by binary digits, from the digit of weight 2^k down. -/
def isqrtFrom : Nat → Nat → Nat → Nat
  | 0, n, r => if (r + 1) * (r + 1) ≤ n then r + 1 else r
  | k + 1, n, r =>
    let c := r + 2 ^ (k + 1)
    isqrtFrom k n (if c * c ≤ n then c else r)

/-- The integer square root. -/
def isqrt (n : Nat) : Nat := isqrtFrom (bitLen n / 2 + 1) n 0

/-- The FP32 code at or below a positive value m × 2^e, and whether it equals it. -/
def fp32Below (m : Nat) (e : Int) : Nat × Bool :=
  let r := fmtFp32.round .towardZero false false m e
  (r.val, decide (r.flags = 0))

/-- A positive value m × 2^e lies above 2^128. -/
def above128 (x : Nat × Int) : Bool :=
  if 0 ≤ x.2 then decide (2 ^ 128 < x.1 * 2 ^ x.2.toNat) else decide (2 ^ (128 + (-x.2).toNat) < x.1)

/-- The results within 1 ulp of a positive value that lies between two bounds, as FP32 codes in
rising order: the codes from the one at or below the lower bound to the one above the upper. An
exactly representable value admits both its neighbours; above 2^128 only infinity is near. -/
def ulpCandidates (lo hi : Nat × Int) : List Nat :=
  let a := fp32Below lo.1 lo.2
  let b := fp32Below hi.1 hi.2
  if above128 lo then [0x7F800000]
  else if lo = hi && a.2 then (if a.1 = 0 then [0, 1] else [a.1 - 1, a.1, a.1 + 1])
  else (List.range (b.1 + 2 - a.1)).map (fun i => a.1 + i)

/-- The fixed choice among the candidates (opaque: DESIGN CHOICE, log entry 8). -/
def pickCandidate (op input : Nat) (cands : List Nat) : Nat :=
  cands.getD (Config.specialPick op input % cands.length) 0

/-- Flags of a special function's result code: whether it differs from the exact value, overflowed,
or is zero or subnormal while the exact value is not zero. -/
def specialFlags (exactCode : Option Nat) (code : Nat) : Nat :=
  orFlags (flagIf (exactCode != some code) flagInexact)
    (orFlags (flagIf (decide (code = 0x7F800000)) (orFlags flagOverflow flagInexact))
      (flagIf (decide (code < 2 ^ 23)) flagUnderflow))

/-- The result of a special function whose exact value is positive and lies in [lo, hi]. -/
def specialResult (op input : Nat) (neg : Bool) (lo hi : Nat × Int) : Res :=
  let a := fp32Below lo.1 lo.2
  let ex := if lo = hi && a.2 then some a.1 else none
  let c := pickCandidate op input (ulpCandidates lo hi)
  ⟨c + (if neg then 2 ^ 31 else 0), specialFlags ex c⟩

/-- The bounds of 1 / (m × 2^e): equal when m is a power of two. -/
def rcpBounds (m : Nat) (e : Int) : (Nat × Int) × (Nat × Int) :=
  let q := 2 ^ 64 / m
  let l : Nat × Int := (q, -64 - e)
  if 2 ^ 64 % m = 0 then (l, l) else (l, (q + 1, -64 - e))

/-- VRCP (05 R115). -/
def fp32Rcp (x : Nat) : Res :=
  match fp32 x with
  | .nan => ⟨fp32Nan, flagNanIn⟩
  | .inf neg => ⟨fmtFp32.signCode neg, 0⟩
  | .fin neg m e =>
    if m = 0 then ⟨fmtFp32.infCode neg, flagDivZero⟩
    else specialResult 0x36 x neg (rcpBounds m e).1 (rcpBounds m e).2

/-- The bounds of 1 / √(m × 2^e): with e made even, 2^k / √m from an integer square root. -/
def rsqrtBounds (m : Nat) (e : Int) : (Nat × Int) × (Nat × Int) :=
  let m' := if e % 2 = 0 then m else 2 * m
  let e' := if e % 2 = 0 then e else e - 1
  let n := 2 ^ 160 / m'
  let r := isqrt n
  let l : Nat × Int := (r, -80 - e' / 2)
  if r * r * m' = 2 ^ 160 then (l, l) else (l, (r + 1, -80 - e' / 2))

/-- VRSQRT (05 R115). -/
def fp32Rsqrt (x : Nat) : Res :=
  match fp32 x with
  | .nan => ⟨fp32Nan, flagNanIn⟩
  | .inf neg => if neg then ⟨fp32Nan, flagInvalid⟩ else ⟨0, 0⟩
  | .fin neg m e =>
    if m = 0 then ⟨fmtFp32.infCode neg, flagDivZero⟩
    else if neg then ⟨fp32Nan, flagInvalid⟩
    else specialResult 0x37 x false (rsqrtBounds m e).1 (rsqrtBounds m e).2

/-- Lower and upper bounds, scaled by 2^96, of 2^(f / 2^k) for the binary fraction f of k digits, by
multiplying the successive square roots of 2; `root` is √ of the previous factor scaled by 2^96. -/
def pow2Frac : Nat → Nat → Nat → Nat → Nat → Nat × Nat
  | 0, _, _, lo, hi => (lo, hi)
  | k + 1, f, root, lo, hi =>
    let r := isqrt (root * 2 ^ 96)
    if bitAt f k then pow2Frac k f r (lo * r / 2 ^ 96) ((hi * (r + 2)) / 2 ^ 96 + 1)
    else pow2Frac k f r lo hi

/-- Bounds of 2^x for x = ±m × 2^e between −150 and 128: the integer part scales, the fraction (cut
at 64 digits; what lies below adds less than 2^−63 in proportion) is bounded by pow2Frac. -/
def exp2Bounds (d : Dyad) : (Nat × Int) × (Nat × Int) :=
  let sc : Int := if 0 ≤ d.e + 64 then d.m * ((2 ^ (d.e + 64).toNat : Nat) : Int)
    else d.m / ((2 ^ (-(d.e + 64)).toNat : Nat) : Int)
  let cut : Bool := decide (d.e + 64 < 0) && decide (d.m % ((2 ^ (-(d.e + 64)).toNat : Nat) : Int) ≠ 0)
  let n := sc / ((2 ^ 64 : Nat) : Int)
  let f := (sc % ((2 ^ 64 : Nat) : Int)).toNat
  if f = 0 ∧ cut = false then ((1, n), (1, n))
  else
    let p := pow2Frac 64 f (2 ^ 97) (2 ^ 96) (2 ^ 96)
    ((p.1, n - 96), (p.2 + p.2 / 2 ^ 63 + 1, n - 96))

/-- VEXP2 (05 R115). -/
def fp32Exp2 (x : Nat) : Res :=
  match fp32 x with
  | .nan => ⟨fp32Nan, flagNanIn⟩
  | .inf neg => if neg then ⟨0, 0⟩ else ⟨fmtFp32.infCode false, 0⟩
  | .fin neg m e =>
    let v := (Num.fin neg m e).scaled
    if ((128 * 2 ^ 149 : Nat) : Int) < v then ⟨fmtFp32.infCode false, orFlags flagOverflow flagInexact⟩
    else if v < -((149 * 2 ^ 149 : Nat) : Int) then ⟨0, orFlags flagUnderflow flagInexact⟩
    else
      let b := exp2Bounds (dyadOf neg m e)
      specialResult 0x34 x false b.1 b.2

/-- The first k binary digits of log2 y, for y in [1, 2) scaled by 2^200: square, and take the digit. -/
def log2Digits : Nat → Nat → Nat → Nat
  | 0, _, acc => acc
  | k + 1, y, acc =>
    let z := y * y / 2 ^ 200
    if 2 ^ 201 ≤ z then log2Digits k (z / 2) (2 * acc + 1) else log2Digits k z (2 * acc)

/-- VLOG2 (05 R115): log2 ±0 is −∞ with no flag (R114). The fraction is bounded to 80 digits. -/
def fp32Log2 (x : Nat) : Res :=
  match fp32 x with
  | .nan => ⟨fp32Nan, flagNanIn⟩
  | .inf neg => if neg then ⟨fp32Nan, flagInvalid⟩ else ⟨fmtFp32.infCode false, 0⟩
  | .fin neg m e =>
    if m = 0 then ⟨fmtFp32.infCode true, 0⟩
    else if neg then ⟨fp32Nan, flagInvalid⟩
    else
      let k := Nat.log2 m
      let n : Int := e + k
      if m = 2 ^ k then
        if n = 0 then ⟨0, 0⟩
        else specialResult 0x35 x (decide (n < 0)) (n.natAbs, 0) (n.natAbs, 0)
      else
        let fr := log2Digits 80 (m * 2 ^ (200 - k)) 0
        let lo : Int := n * ((2 ^ 80 : Nat) : Int) + fr
        if 0 ≤ n then specialResult 0x35 x false (lo.natAbs, -80) (lo.natAbs + 4, -80)
        else specialResult 0x35 x true ((lo + 4).natAbs, -80) (lo.natAbs, -80)

end Sys2Proof.Machine
end

