-- ==== Sys2Proof/Machine/LongSum.lean ====
section
/-!
DEFINITION. Long sums (05 R120 to R128): terms truncated onto a power-of-two grid, clamped, added
as integers and clamped once.
-/
namespace Sys2Proof.Machine

/-- 2^159 − 1, the largest long sum. -/
def lsMax : Int := ((2 ^ 159 : Nat) : Int) - 1
/-- −2^159, the smallest long sum. -/
def lsMin : Int := -((2 ^ 159 : Nat) : Int)

/-- Clamp to the 160-bit range. -/
def lsClamp (n : Int) : Int := if n < lsMin then lsMin else if lsMax < n then lsMax else n

/-- ⌊m × 2^e / 2^g⌋: a finite term truncated onto the grid toward negative infinity (R120). -/
def ontoGrid (d : Dyad) (g : Int) : Int :=
  if g ≤ d.e then d.m * ((2 ^ (d.e - g).toNat : Nat) : Int)
  else d.m / ((2 ^ (g - d.e).toNat : Nat) : Int)

/-- The non-finite terms met in one element (R121). -/
structure NonFinite where
  nan : Bool := false
  posInf : Bool := false
  negInf : Bool := false
  infZero : Bool := false
deriving DecidableEq, Repr

/-- The union of two records of non-finite terms. -/
def NonFinite.join (a b : NonFinite) : NonFinite :=
  ⟨a.nan || b.nan, a.posInf || b.posInf, a.negInf || b.negInf, a.infZero || b.infZero⟩

/-- A term of a long sum: a finite dyadic, or what kind of non-finite product it is. -/
inductive Term where
  | fin (d : Dyad)
  | bad (n : NonFinite)
deriving DecidableEq, Repr

/-- The product of two decoded operands scaled by 2^k, as a term (R73, R121). -/
def productTerm (a b : Num) (k : Int) : Term :=
  match a, b with
  | .fin na ma ea, .fin nb mb eb => .fin (dyadOf (na != nb) (ma * mb) (ea + eb + k))
  | .inf na, .inf nb => .bad { posInf := na == nb, negInf := na != nb }
  | .inf na, .fin nb mb _ =>
    if mb = 0 then .bad { infZero := true } else .bad { posInf := na == nb, negInf := na != nb }
  | .fin na ma _, .inf nb =>
    if ma = 0 then .bad { infZero := true } else .bad { posInf := na == nb, negInf := na != nb }
  | _, _ => .bad { nan := true }

/-- An FP32 addend as a term (R124). -/
def addendTerm (a : Num) : Term :=
  match a with
  | .fin n m e => .fin (dyadOf n m e)
  | .inf n => .bad { posInf := !n, negInf := n }
  | .nan => .bad { nan := true }

/-- The accumulator over the terms of one element: the exact sum of clamped terms, whether a clamp
changed a value, and the non-finite terms. -/
structure LsAcc where
  sum : Int := 0
  sat : Bool := false
  bad : NonFinite := {}
deriving DecidableEq, Repr

/-- Add one integer term, clamped first (R120 steps 2 and 3). -/
def LsAcc.addInt (a : LsAcc) (n : Int) : LsAcc :=
  { a with sum := a.sum + lsClamp n, sat := a.sat || decide (lsClamp n ≠ n) }

/-- Add one term on grid g. -/
def LsAcc.addTerm (g : Int) (a : LsAcc) (t : Term) : LsAcc :=
  match t with
  | .fin d => a.addInt (ontoGrid d g)
  | .bad b => { a with bad := a.bad.join b }

/-- The outcome of an element (R121): an integer with its saturation, an infinity, or NaN. -/
inductive LsOut where
  | sum (n : Int)
  | inf (neg : Bool)
  | nan
deriving DecidableEq, Repr

/-- The outcome and the flags of a finished accumulator (R120 step 4, R121). -/
def LsAcc.finish (a : LsAcc) : LsOut × Nat :=
  let b := a.bad
  let inv := (b.posInf && b.negInf) || b.infZero
  let badFlags := orFlags (flagIf a.sat flagLsSat) (orFlags (flagIf b.nan flagNanIn) (flagIf inv flagInvalid))
  let any := b.nan || b.posInf || b.negInf || b.infZero
  if b.nan || inv then (.nan, badFlags)
  else if any then (.inf b.negInf, badFlags)
  else (.sum (lsClamp a.sum), flagIf (a.sat || decide (lsClamp a.sum ≠ a.sum)) flagLsSat)

/-- The 160-bit integer that FMT 14 stores for an outcome, with its flags (R121). -/
def LsOut.toLong (o : LsOut) : Int × Nat :=
  match o with
  | .sum n => (n, 0)
  | .inf neg => (if neg then lsMin else lsMax, flagLsSat)
  | .nan => (lsMin, flagLsSat)

/-- The value n × 2^g rounded to a float format (R116): conversions of long sums. -/
def lsConvert (f : FloatFmt) (mode : Rounding) (n g : Int) : Res :=
  f.convert mode (.fin (decide (n < 0)) n.natAbs g)

/-- The FP32 or BF16 code of an outcome, rounded once to nearest (03 R73, R121). -/
def LsOut.toFloat (f : FloatFmt) (o : LsOut) (g : Int) : Res :=
  match o with
  | .sum n => lsConvert f .nearest n g
  | .inf neg => ⟨f.infCode neg, 0⟩
  | .nan => ⟨f.nanCode, 0⟩

/-- Re-gridding from g1 to g2 (R123): the integer and whether it saturated. -/
def regrid (n g1 g2 : Int) : Int × Bool :=
  if g2 ≤ g1 then
    if n = 0 then (0, false)
    else
      let k := (g1 - g2).toNat
      -- a shift of 160 or more of a nonzero integer always leaves the range
      let r := if 160 ≤ k then (if n < 0 then lsMin - 1 else lsMax + 1) else n * ((2 ^ k : Nat) : Int)
      (lsClamp r, decide (lsClamp r ≠ r))
  else
    let k := (g2 - g1).toNat
    if 160 ≤ k then (if n < 0 then -1 else 0, false) else (n / ((2 ^ k : Nat) : Int), false)

/-- A grid word as the module reads it: its low 16 bits, sign-extended (R123). -/
def gridOf (w : Nat) : Int := sextOf 16 w

/-- A grid word as the module writes it: sign-extended to 64 bits (R123). -/
def gridWord (g : Int) : Nat := wrapTo 64 g

/-- The exponent of the smallest step of a TMUL operand format (R122). -/
def fmtLsb : Nat → Int
  | 1 => -133
  | 2 => -9
  | 3 => -16
  | 4 => -4
  | 5 => -3
  | 6 => 0
  | 8 => -9
  | 9 => -16
  | 10 => -4
  | 11 => -3
  | 12 => -1
  | 13 => -6
  | _ => 0

/-- The grid of FP32 addends (R124): max(E_max − 146, −149), E_max −126 when none is finite. -/
def addendGrid (xs : List Nat) : Int :=
  let es := xs.filterMap fun x =>
    let e := bitsOf x 23 8
    if e = 255 then none else some (if e = 0 then (-126 : Int) else (e : Int) - 127)
  let emax := es.foldl max (-126)
  max (emax - 146) (-149)

/-- The exact long sum of FP32 addends on a grid. -/
def sumAddends (g : Int) (xs : List Nat) : LsAcc :=
  xs.foldl (fun a x => a.addTerm g (addendTerm (fp32 x))) {}

/-- One level of the canonical order (R128): positions v and v + s combine, for v in steps of 2s. -/
def canonLevel {α : Type} (f : α → α → α) : List α → List α
  | a :: b :: t => f a b :: canonLevel f t
  | l => l

/-- The canonical tree over the contributions, with fuel for its levels (R128). -/
def canonTree {α : Type} (f : α → α → α) : Nat → List α → List α
  | 0, l => l
  | _, [] => []
  | _, [a] => [a]
  | k + 1, l => canonTree f k (canonLevel f l)

end Sys2Proof.Machine
end

