-- ==== Sys2Proof/Machine/Fields.lean ====
section
/-!
DEFINITION. Every field of every register block, as the spec's register tables give it: block,
offset, bits, access, reset value and expert function. A field's state is one entry per unit (parcel,
tract, link, …) in the register table of State.
-/
namespace Sys2Proof.Machine

/-- The register blocks of 07 R153. -/
inductive Blk where
  | mcb | idn | pwr | sfm | clk | cfg | dbg | att | srv | lnk | xx | trc | twn | pct
deriving DecidableEq, Repr

/-- The access codes of 00 R7. -/
inductive Acc where
  | ro | rw | wo | w1c | rw1s
deriving DecidableEq, Repr

/-- One field of a register. `idn` numbers the field; `rst` is what it holds at reset (where the spec
says the value is set at start or wired per unit, 0: log entries 6 and 7); `expert` is the bit of the expert-enable
word that opens it (00 R10, 15 R370). -/
structure Fld where
  idn : Nat
  blk : Blk
  off : Nat
  lo : Nat
  w : Nat
  acc : Acc
  rst : Nat
  expert : Option Nat
deriving DecidableEq, Repr

/-- 02 R57: Parcel number p -/
def Reg.PCT_PARCEL : Fld := ⟨0, .pct, 0x0, 0, 9, .ro, 0x0, none⟩
/-- 02 R57: Township p div 16 -/
def Reg.PCT_TOWNSHIP : Fld := ⟨1, .pct, 0x0, 9, 5, .ro, 0x0, none⟩
/-- 02 R57: Local index p mod 16 -/
def Reg.PCT_LOCAL : Fld := ⟨2, .pct, 0x0, 14, 4, .ro, 0x0, none⟩
/-- 02 R57: 1: listed in the disabled-unit map -/
def Reg.PCT_DISABLED : Fld := ⟨3, .pct, 0x0, 18, 1, .ro, 0x0, none⟩
/-- 02 R57: 1 in IDLE: enter RUN at the next tick boundary. Ignored in other states -/
def Reg.PCT_START : Fld := ⟨4, .pct, 0x8, 0, 1, .wo, 0x0, none⟩
/-- 02 R57: 1 in RUN: basic stop, as R43 describes -/
def Reg.PCT_STOP : Fld := ⟨5, .pct, 0x8, 1, 1, .wo, 0x0, none⟩
/-- 02 R57: Expert. 1 in RUN or DRAINING: immediate stop, as R43 describes -/
def Reg.PCT_STOP_NOW : Fld := ⟨6, .pct, 0x8, 2, 1, .wo, 0x0, (some 0)⟩
/-- 02 R57: 1: taper held in reset; a write of 1 abandons a running routine, as R426 describes. 0: taper runs, sleeping until its first call -/
def Reg.PCT_TAPER_RESET : Fld := ⟨7, .pct, 0x8, 3, 1, .rw, 0x1, none⟩
/-- 02 R57: State code from the parcel states table -/
def Reg.PCT_STATE_CODE : Fld := ⟨8, .pct, 0x10, 0, 3, .ro, 0x0, none⟩
/-- 02 R57: Tract number, valid when PCT_IN_TRACT is 1 -/
def Reg.PCT_TRACT : Fld := ⟨9, .pct, 0x10, 3, 3, .ro, 0x0, none⟩
/-- 02 R57: 1: the parcel's township belongs to a tract -/
def Reg.PCT_IN_TRACT : Fld := ⟨10, .pct, 0x10, 6, 1, .ro, 0x0, none⟩
/-- 02 R57: 1: taper asleep with no call queued -/
def Reg.PCT_TAPER_ASLEEP : Fld := ⟨11, .pct, 0x10, 7, 1, .ro, 0x0, none⟩
/-- 02 R57: 1: replay-boundary copy in progress -/
def Reg.PCT_COPYING : Fld := ⟨12, .pct, 0x10, 8, 1, .ro, 0x0, none⟩
/-- 02 R57: Status of the last stop: a fault code, OK for a basic stop, DISCARDED for an immediate stop -/
def Reg.PCT_FAULT_STATUS : Fld := ⟨13, .pct, 0x18, 0, 8, .ro, 0x0, none⟩
/-- 02 R57: Engine identifier; 6 for the issue stage -/
def Reg.PCT_FAULT_ENGINE : Fld := ⟨14, .pct, 0x18, 8, 3, .ro, 0x0, none⟩
/-- 02 R57: Tag of the failing instruction -/
def Reg.PCT_FAULT_TAG : Fld := ⟨15, .pct, 0x18, 11, 16, .ro, 0x0, none⟩
/-- 02 R57: Instructions discarded by PCT_STOP_NOW -/
def Reg.PCT_FAULT_DISCARDS : Fld := ⟨16, .pct, 0x18, 27, 24, .ro, 0x0, none⟩
/-- 02 R57: 1: another engine failed in the same cycle -/
def Reg.PCT_FAULT_MORE : Fld := ⟨17, .pct, 0x18, 51, 1, .ro, 0x0, none⟩
/-- 02 R57: Command count of the failing instruction -/
def Reg.PCT_FAULT_CMD_VAL : Fld := ⟨18, .pct, 0x20, 0, 48, .ro, 0x0, none⟩
/-- 02 R57: Current command count, as R55 describes -/
def Reg.PCT_CMD : Fld := ⟨19, .pct, 0x28, 0, 48, .ro, 0x0, none⟩
/-- 02 R57: Replay boundaries since tract load -/
def Reg.PCT_REPLAYS : Fld := ⟨20, .pct, 0x30, 0, 64, .ro, 0x0, none⟩
/-- 02 R57: Tag of the last instruction issued -/
def Reg.PCT_TAG_ISSUED : Fld := ⟨21, .pct, 0x38, 0, 16, .ro, 0x0, none⟩
/-- 02 R57: Tag of the instruction waiting at issue, valid when PCT_STALLED is 1 -/
def Reg.PCT_TAG_STALLED : Fld := ⟨22, .pct, 0x38, 16, 16, .ro, 0x0, none⟩
/-- 02 R57: 1: the issue stage is stalled -/
def Reg.PCT_STALLED : Fld := ⟨23, .pct, 0x38, 32, 1, .ro, 0x0, none⟩
/-- 02 R57: 0 none; 1 queue full; 2 control-instruction wait; 3 fetch refill; 4 draining; 5 parameter copy; 6 halted; 7 stopped -/
def Reg.PCT_STALL_CAUSE : Fld := ⟨24, .pct, 0x38, 33, 3, .ro, 0x0, none⟩
/-- 02 R57: Completion counter of engine 0, 2 or 4 -/
def Reg.PCT_CNT_TENSOR : Fld := ⟨25, .pct, 0x40, 0, 24, .ro, 0x0, none⟩
/-- 02 R57: Completion counter of engine 0, 2 or 4 -/
def Reg.PCT_CNT_MOVE : Fld := ⟨26, .pct, 0x48, 0, 24, .ro, 0x0, none⟩
/-- 02 R57: Completion counter of engine 0, 2 or 4 -/
def Reg.PCT_CNT_BEACON : Fld := ⟨27, .pct, 0x50, 0, 24, .ro, 0x0, none⟩
/-- 02 R57: Completion counter of engine 1, 3 or 5 -/
def Reg.PCT_CNT_VECTOR : Fld := ⟨28, .pct, 0x40, 24, 24, .ro, 0x0, none⟩
/-- 02 R57: Completion counter of engine 1, 3 or 5 -/
def Reg.PCT_CNT_EXCHANGE : Fld := ⟨29, .pct, 0x48, 24, 24, .ro, 0x0, none⟩
/-- 02 R57: Completion counter of engine 1, 3 or 5 -/
def Reg.PCT_CNT_TAPER : Fld := ⟨30, .pct, 0x50, 24, 24, .ro, 0x0, none⟩
/-- 02 R57: Tensor queue entries in use, 0–4 -/
def Reg.PCT_Q_TENSOR : Fld := ⟨31, .pct, 0x58, 0, 3, .ro, 0x0, none⟩
/-- 02 R57: Vector queue entries in use, 0–8 -/
def Reg.PCT_Q_VECTOR : Fld := ⟨32, .pct, 0x58, 3, 4, .ro, 0x0, none⟩
/-- 02 R57: Move queue entries in use, 0–16 -/
def Reg.PCT_Q_MOVE : Fld := ⟨33, .pct, 0x58, 7, 5, .ro, 0x0, none⟩
/-- 02 R57: Exchange queue entries in use, 0–16 -/
def Reg.PCT_Q_EXCHANGE : Fld := ⟨34, .pct, 0x58, 12, 5, .ro, 0x0, none⟩
/-- 02 R57: Beacon queue entries in use, 0–8 -/
def Reg.PCT_Q_BEACON : Fld := ⟨35, .pct, 0x58, 17, 4, .ro, 0x0, none⟩
/-- 02 R57: Taper calls queued, 0–4 -/
def Reg.PCT_Q_TAPER : Fld := ⟨36, .pct, 0x58, 21, 3, .ro, 0x0, none⟩
/-- 02 R57: Bit e set: engine e executing -/
def Reg.PCT_BUSY : Fld := ⟨37, .pct, 0x58, 24, 6, .ro, 0x0, none⟩
/-- 02 R57: Owner code of phase k in bits [3k+2:3k]; the reset value is the default wheel -/
def Reg.PCT_WHEEL_NOW : Fld := ⟨38, .pct, 0x60, 0, 48, .ro, 0xa20210608408, none⟩
/-- 02 R57: Expert. Wheel applied from the next tick boundary while PCT_WHEEL_OVR_EN is 1. A write containing code 7 is treated as R8 describes -/
def Reg.PCT_WHEEL_SET : Fld := ⟨39, .pct, 0x68, 0, 48, .rw, 0xa20210608408, (some 0)⟩
/-- 02 R57: Expert. 1: PCT_WHEEL_SET replaces the plat's wheel -/
def Reg.PCT_WHEEL_OVR_EN : Fld := ⟨40, .pct, 0x68, 48, 1, .rw, 0x0, (some 0)⟩
/-- 02 R57: Parcel stopped on a fault -/
def Reg.PCT_EVT_FAULT : Fld := ⟨41, .pct, 0x70, 0, 1, .w1c, 0x0, none⟩
/-- 02 R57: Stop by PCT_STOP or PCT_STOP_NOW complete -/
def Reg.PCT_EVT_STOPPED : Fld := ⟨42, .pct, 0x70, 1, 1, .w1c, 0x0, none⟩
/-- 02 R57: Parcel halted by the debug port -/
def Reg.PCT_EVT_HALTED : Fld := ⟨43, .pct, 0x70, 2, 1, .w1c, 0x0, none⟩
/-- 02 R57: Taper trapped -/
def Reg.PCT_EVT_TAPER_TRAP : Fld := ⟨44, .pct, 0x70, 3, 1, .w1c, 0x0, none⟩
/-- 02 R57: A replay boundary passed -/
def Reg.PCT_EVT_REPLAY : Fld := ⟨45, .pct, 0x70, 4, 1, .w1c, 0x0, none⟩
/-- 02 R57: Taper pc; at a trap, the pc of the trapping instruction -/
def Reg.PCT_TAPER_PC : Fld := ⟨46, .pct, 0x80, 0, 32, .ro, 0x0, none⟩
/-- 02 R57: RISC-V exception code of the last trap -/
def Reg.PCT_TAPER_CAUSE : Fld := ⟨47, .pct, 0x80, 32, 4, .ro, 0x0, none⟩
/-- 02 R57: 1: taper halted by a trap; cleared by PCT_TAPER_RESET -/
def Reg.PCT_TAPER_TRAPPED : Fld := ⟨48, .pct, 0x80, 36, 1, .ro, 0x0, none⟩
/-- 02 R57: Index of level L in bits [16L+15:16L] -/
def Reg.PCT_LOOP_I0 : Fld := ⟨49, .pct, 0x88, 0, 16, .ro, 0x0, none⟩
/-- 02 R57: Index of level L in bits [16L+15:16L] -/
def Reg.PCT_LOOP_I1 : Fld := ⟨50, .pct, 0x88, 16, 16, .ro, 0x0, none⟩
/-- 02 R57: Index of level L in bits [16L+15:16L] -/
def Reg.PCT_LOOP_I2 : Fld := ⟨51, .pct, 0x88, 32, 16, .ro, 0x0, none⟩
/-- 02 R57: Index of level L in bits [16L+15:16L] -/
def Reg.PCT_LOOP_I3 : Fld := ⟨52, .pct, 0x88, 48, 16, .ro, 0x0, none⟩
/-- 02 R57: Index of level 4 in [15:0] and level 5 in [31:16] -/
def Reg.PCT_LOOP_I4 : Fld := ⟨53, .pct, 0x90, 0, 16, .ro, 0x0, none⟩
/-- 02 R57: Index of level 4 in [15:0] and level 5 in [31:16] -/
def Reg.PCT_LOOP_I5 : Fld := ⟨54, .pct, 0x90, 16, 16, .ro, 0x0, none⟩
/-- 02 R57: 1: a loop nest is running -/
def Reg.PCT_LOOP_ACTIVE : Fld := ⟨55, .pct, 0x90, 32, 1, .ro, 0x0, none⟩
/-- 02 R57: Stream code word, 0–8,191 -/
def Reg.PCT_CODE_WORD : Fld := ⟨56, .pct, 0x98, 0, 13, .rw, 0x0, none⟩
/-- 02 R57: 0: bits [63:0] of the word; 1: bits [127:64] -/
def Reg.PCT_CODE_HALF : Fld := ⟨57, .pct, 0x98, 13, 1, .rw, 0x0, none⟩
/-- 02 R57: 1: each access to PCT_CODE_DATA advances the selector by one half, wrapping after word 8,191 -/
def Reg.PCT_CODE_AUTOINC : Fld := ⟨58, .pct, 0x98, 14, 1, .rw, 0x0, none⟩
/-- 02 R57: Descriptor number, 0–1,023 -/
def Reg.PCT_DESC_INDEX : Fld := ⟨59, .pct, 0xa8, 0, 10, .rw, 0x0, none⟩
/-- 02 R57: 64-bit part of the 256-bit descriptor, 0 lowest -/
def Reg.PCT_DESC_PART : Fld := ⟨60, .pct, 0xa8, 10, 2, .rw, 0x0, none⟩
/-- 02 R57: 1: each access to PCT_DESC_DATA advances the selector by one part, wrapping after descriptor 1,023 -/
def Reg.PCT_DESC_AUTOINC : Fld := ⟨61, .pct, 0xa8, 12, 1, .rw, 0x0, none⟩
/-- 02 R57: The selected half of the selected code word -/
def Reg.PCT_CODE_VAL : Fld := ⟨62, .pct, 0xa0, 0, 64, .rw, 0x0, none⟩
/-- 02 R57: The selected part of the selected descriptor -/
def Reg.PCT_DESC_VAL : Fld := ⟨63, .pct, 0xb0, 0, 64, .rw, 0x0, none⟩
/-- 07 R179: Stack s or channel d -/
def Reg.XX_INDEX : Fld := ⟨64, .xx, 0x0, 0, 3, .ro, 0x0, none⟩
/-- 07 R179: HBM map in force, as R155 describes -/
def Reg.HBC_MAP : Fld := ⟨65, .xx, 0x0, 3, 1, .ro, 0x0, none⟩
/-- 07 R179: 1: a DIMM meeting R166 is installed -/
def Reg.DDC_PRESENT : Fld := ⟨66, .xx, 0x0, 3, 1, .ro, 0x0, none⟩
/-- 07 R179: Capacity in GiB: 0x40 for a stack; 0x0 to 0x100 for a DIMM -/
def Reg.XX_CAP_GIB : Fld := ⟨67, .xx, 0x0, 4, 9, .ro, 0x0, none⟩
/-- 07 R179: Rank count, 1, 2 or 4; 0 in HBC -/
def Reg.DDC_RANKS : Fld := ⟨68, .xx, 0x0, 13, 3, .ro, 0x0, none⟩
/-- 07 R179: 0 OFF; 1 TRAINING; 2 READY; 3 SELF_REFRESH; 4 RETIRING; 5 FAILED; 6–7 reserved -/
def Reg.XX_STATE_CODE : Fld := ⟨69, .xx, 0x8, 0, 3, .ro, 0x0, none⟩
/-- 07 R179: Refresh the temperature requires: 0 mode A; 1 mode B; 2 above mode B -/
def Reg.XX_REF_NEED : Fld := ⟨70, .xx, 0x8, 3, 2, .ro, 0x0, none⟩
/-- 07 R179: Mode compiled by the running plats: 0 none loaded; 1 A; 2 B -/
def Reg.XX_REF_PLAN : Fld := ⟨71, .xx, 0x8, 5, 2, .ro, 0x0, none⟩
/-- 07 R179: Latest stack or DIMM temperature, unsigned °C -/
def Reg.XX_TEMP : Fld := ⟨72, .xx, 0x8, 7, 8, .ro, 0x0, none⟩
/-- 07 R179: 1: enter RETIRING; cleared only by cold start -/
def Reg.XX_RETIRE : Fld := ⟨73, .xx, 0x10, 0, 1, .rw1s, 0x0, none⟩
/-- 07 R179: 1: the tier scrubber uses KIND 3 positions. 0: those positions stay idle -/
def Reg.XX_SCRUB_EN : Fld := ⟨74, .xx, 0x10, 1, 1, .rw, 0x1, none⟩
/-- 07 R179: Expert. 1: xx_REF_OVR replaces the compiled mode from the next tick -/
def Reg.XX_REF_OVR_EN : Fld := ⟨75, .xx, 0x10, 2, 1, .rw, 0x0, (some 2)⟩
/-- 07 R179: Expert. 0 mode A; 1 mode B; 2 mode B with the additions above 95 °C; 3 reserved, treated as R8 describes -/
def Reg.XX_REF_OVR : Fld := ⟨76, .xx, 0x10, 3, 2, .rw, 0x0, (some 2)⟩
/-- 07 R179: Expert. 1: arm a corrected injection, as R428 describes -/
def Reg.XX_INJECT_CE : Fld := ⟨77, .xx, 0x10, 5, 1, .wo, 0x0, (some 3)⟩
/-- 07 R179: Expert. 1: arm an uncorrectable injection, as R428 describes -/
def Reg.XX_INJECT_UE : Fld := ⟨78, .xx, 0x10, 6, 1, .wo, 0x0, (some 3)⟩
/-- 07 R179: 1: zero xx_ERR_COUNT and xx_STRETCH -/
def Reg.XX_COUNT_CLR : Fld := ⟨79, .xx, 0x10, 7, 1, .wo, 0x0, none⟩
/-- 07 R428: Corrected errors, including scrub finds; saturating -/
def Reg.XX_CE_COUNT : Fld := ⟨80, .xx, 0x18, 0, 32, .ro, 0x0, none⟩
/-- 07 R428: Uncorrectable errors; saturating -/
def Reg.XX_UE_COUNT : Fld := ⟨81, .xx, 0x18, 32, 16, .ro, 0x0, none⟩
/-- 07 R428: Module address of the line; bits 5:0 read zero -/
def Reg.XX_ERR_LINE : Fld := ⟨82, .xx, 0x20, 0, 48, .ro, 0x0, none⟩
/-- 07 R428: 1: a record is held -/
def Reg.XX_ERR_VALID : Fld := ⟨83, .xx, 0x20, 48, 1, .ro, 0x0, none⟩
/-- 07 R428: 1: found by the tier scrubber -/
def Reg.XX_ERR_SCRUB : Fld := ⟨84, .xx, 0x20, 49, 1, .ro, 0x0, none⟩
/-- 07 R428: Pseudo-channel 0–63, or subchannel 0–1 -/
def Reg.XX_ERR_LANE : Fld := ⟨85, .xx, 0x28, 0, 6, .ro, 0x0, none⟩
/-- 07 R428: Bank; for DDC, bank in bits 7:6 and bank group in bits 9:8 are not both held: bits 9:6 hold bank group × 4 + bank modulo 16 -/
def Reg.XX_ERR_BANK : Fld := ⟨86, .xx, 0x28, 6, 4, .ro, 0x0, none⟩
/-- 07 R428: Row, low 16 bits -/
def Reg.XX_ERR_ROW : Fld := ⟨87, .xx, 0x28, 10, 16, .ro, 0x0, none⟩
/-- 07 R428: 0 single bit corrected; 1 one pin or device corrected; 2 uncorrectable; 3 reserved -/
def Reg.XX_ERR_CLASS : Fld := ⟨88, .xx, 0x28, 26, 2, .ro, 0x0, none⟩
/-- 07 R428: Temperature at the error, unsigned °C -/
def Reg.XX_ERR_TEMP : Fld := ⟨89, .xx, 0x28, 28, 8, .ro, 0x0, none⟩
/-- 07 R428: Load signature, as R171 describes -/
def Reg.XX_ERR_LOAD : Fld := ⟨90, .xx, 0x28, 36, 16, .ro, 0x0, none⟩
/-- 07 R428: KIND of the position's owner -/
def Reg.XX_ERR_KIND : Fld := ⟨91, .xx, 0x28, 52, 3, .ro, 0x0, none⟩
/-- 07 R428: OWNER of the position -/
def Reg.XX_ERR_OWNER : Fld := ⟨92, .xx, 0x28, 55, 9, .ro, 0x0, none⟩
/-- 07 R428: Tick number of the latest record -/
def Reg.XX_ERR_TICK_NUM : Fld := ⟨93, .xx, 0x30, 0, 64, .ro, 0x0, none⟩
/-- 07 R428: Lines deferred by unplanned refresh windows; saturating -/
def Reg.XX_STR_LINES : Fld := ⟨94, .xx, 0x38, 0, 32, .ro, 0x0, none⟩
/-- 07 R428: Nominal cycles of those deferrals; saturating -/
def Reg.XX_STR_CYCLES : Fld := ⟨95, .xx, 0x38, 32, 32, .ro, 0x0, none⟩
/-- 07 R428: A corrected error was recorded -/
def Reg.XX_EVT_CE : Fld := ⟨96, .xx, 0x40, 0, 1, .w1c, 0x0, none⟩
/-- 07 R428: An uncorrectable error was recorded -/
def Reg.XX_EVT_UE : Fld := ⟨97, .xx, 0x40, 1, 1, .w1c, 0x0, none⟩
/-- 07 R428: A refresh overrun occurred -/
def Reg.XX_EVT_REFRESH_OVR : Fld := ⟨98, .xx, 0x40, 2, 1, .w1c, 0x0, none⟩
/-- 07 R428: xx_REF_NEED rose above xx_REF_PLAN -/
def Reg.XX_EVT_TEMP : Fld := ⟨99, .xx, 0x40, 3, 1, .w1c, 0x0, none⟩
/-- 07 R428: xx_STATE_CODE changed -/
def Reg.XX_EVT_STATE : Fld := ⟨100, .xx, 0x40, 4, 1, .w1c, 0x0, none⟩
/-- 07 R428: Position, 0–1,279 for HBC or 0–1,125 for DDC; a write beyond the range is treated as R8 describes -/
def Reg.XX_CAL_POS : Fld := ⟨101, .xx, 0x50, 0, 11, .rw, 0x0, none⟩
/-- 07 R428: Pseudo-channel 0–63, or subchannel 0–1 -/
def Reg.XX_CAL_LANE : Fld := ⟨102, .xx, 0x50, 11, 6, .rw, 0x0, none⟩
/-- 07 R428: 1: each access to xx_CAL_DATA advances the position, then the lane -/
def Reg.XX_CAL_AUTOINC : Fld := ⟨103, .xx, 0x50, 17, 1, .rw, 0x0, none⟩
/-- 07 R428: The selected entry, as R158 lays out; takes effect from the next tick -/
def Reg.XX_CAL_ENTRY : Fld := ⟨104, .xx, 0x58, 0, 16, .rw, 0x0, none⟩
/-- 07 R180: Next line index within the controller's memory -/
def Reg.XX_SCRUB_LINE : Fld := ⟨105, .xx, 0x60, 0, 32, .ro, 0x0, none⟩
/-- 07 R180: Completed passes since cold start; saturating -/
def Reg.XX_SCRUB_PASSES : Fld := ⟨106, .xx, 0x60, 32, 16, .ro, 0x0, none⟩
/-- 07 R180: Expert. 1: full training, performed only in OFF or SELF_REFRESH; in other states ignored with a register access error -/
def Reg.XX_TRAIN_REQ : Fld := ⟨107, .xx, 0x68, 0, 1, .wo, 0x0, (some 2)⟩
/-- 07 R180: 1: the last training or verification passed -/
def Reg.XX_TRAIN_OK : Fld := ⟨108, .xx, 0x68, 1, 1, .ro, 0x0, none⟩
/-- 07 R180: 1: the trained-parameter cache was used and verified -/
def Reg.XX_TRAIN_CACHED : Fld := ⟨109, .xx, 0x68, 2, 1, .ro, 0x0, none⟩
/-- 07 R180: Worst data-eye margin found, in 1/64 of a unit interval -/
def Reg.XX_TRAIN_MARGIN : Fld := ⟨110, .xx, 0x68, 3, 8, .ro, 0x0, none⟩
/-- 08 R216: Tract number t -/
def Reg.TRC_NUM : Fld := ⟨111, .trc, 0x0, 0, 3, .ro, 0x0, none⟩
/-- 08 R216: Bit 3 + w set: township w belongs to the tract -/
def Reg.TRC_TOWNSHIPS : Fld := ⟨112, .trc, 0x0, 3, 32, .ro, 0x0, none⟩
/-- 08 R216: 0 plan; 1 serve -/
def Reg.TRC_MODE : Fld := ⟨113, .trc, 0x0, 35, 1, .ro, 0x0, none⟩
/-- 08 R216: 1 strict ordering; 0 relaxed -/
def Reg.TRC_STRICT : Fld := ⟨114, .trc, 0x0, 36, 1, .ro, 0x0, none⟩
/-- 08 R216: 1: the configuration record defines the tract -/
def Reg.TRC_CONFIGURED : Fld := ⟨115, .trc, 0x0, 37, 1, .ro, 0x0, none⟩
/-- 08 R216: 1: load, R194 -/
def Reg.TRC_LOAD : Fld := ⟨116, .trc, 0x8, 0, 1, .wo, 0x0, none⟩
/-- 08 R216: 1: arm the start, R196 -/
def Reg.TRC_START : Fld := ⟨117, .trc, 0x8, 1, 1, .wo, 0x0, none⟩
/-- 08 R216: 1: stop at replay boundaries, R197 -/
def Reg.TRC_STOP : Fld := ⟨118, .trc, 0x8, 2, 1, .wo, 0x0, none⟩
/-- 08 R216: Expert. 1: immediate stop, R197 -/
def Reg.TRC_STOP_NOW : Fld := ⟨119, .trc, 0x8, 3, 1, .wo, 0x0, (some 1)⟩
/-- 08 R216: 1: reset, R197 and R211 -/
def Reg.TRC_RESET : Fld := ⟨120, .trc, 0x8, 4, 1, .wo, 0x0, none⟩
/-- 08 R216: 1: zero TRC_LAG_MAX, TRC_OVR and the three TRC_STR registers -/
def Reg.TRC_COUNT_CLR : Fld := ⟨121, .trc, 0x8, 5, 1, .wo, 0x0, none⟩
/-- 08 R216: State code from the tract states table -/
def Reg.TRC_STATE_CODE : Fld := ⟨122, .trc, 0x10, 0, 3, .ro, 0x0, none⟩
/-- 08 R216: Status of the last accepted command: OK, ALREADY_COMPLETE or DISCARDED, as R197 assigns -/
def Reg.TRC_CMD_STATUS : Fld := ⟨123, .trc, 0x10, 3, 8, .ro, 0x0, none⟩
/-- 08 R216: TICK_OVERRUN or DARK; OK otherwise; cleared by load -/
def Reg.TRC_FAULT_STATUS : Fld := ⟨124, .trc, 0x10, 11, 8, .ro, 0x0, none⟩
/-- 08 R216: FM in force; 0 when not loaded -/
def Reg.TRC_FM : Fld := ⟨125, .trc, 0x10, 19, 4, .ro, 0x0, none⟩
/-- 08 R216: S in force -/
def Reg.TRC_S : Fld := ⟨126, .trc, 0x10, 23, 5, .ro, 0x0, none⟩
/-- 08 R216: Fold parcels in force, 0–512 -/
def Reg.TRC_NP : Fld := ⟨127, .trc, 0x10, 28, 10, .ro, 0x0, none⟩
/-- 08 R216: Module address of the plat; bits 5:0 must be zero -/
def Reg.TRC_PLAT_ADDR : Fld := ⟨128, .trc, 0x18, 0, 48, .rw, 0x0, none⟩
/-- 08 R216: 1: sheets whose digests match the bytes in place are kept, R194 -/
def Reg.TRC_KEEP_SHEETS : Fld := ⟨129, .trc, 0x20, 0, 1, .rw, 0x0, none⟩
/-- 08 R216: Module address of the mapping record -/
def Reg.TRC_MAP : Fld := ⟨130, .trc, 0x28, 0, 48, .rw, 0x0, none⟩
/-- 08 R216: Refusal reason, R195 -/
def Reg.TRC_REFUSAL : Fld := ⟨131, .trc, 0x30, 0, 8, .ro, 0x0, none⟩
/-- 08 R216: Section type concerned, low 8 bits -/
def Reg.TRC_REF_SECTION : Fld := ⟨132, .trc, 0x30, 8, 8, .ro, 0x0, none⟩
/-- 08 R216: Index within the section -/
def Reg.TRC_REF_INDEX : Fld := ⟨133, .trc, 0x30, 16, 16, .ro, 0x0, none⟩
/-- 08 R216: Fold parcel, or 0xFFFF -/
def Reg.TRC_REF_FOLD : Fld := ⟨134, .trc, 0x30, 32, 16, .ro, 0x0, none⟩
/-- 08 R216: Tick at whose gate the tract starts; a write in any state other than LOADED is dropped with a register access error -/
def Reg.TRC_START_TICK_NUM : Fld := ⟨135, .trc, 0x38, 0, 64, .rw, 0x0, none⟩
/-- 08 R216: Step counter, R205 -/
def Reg.TRC_STEP_NUM : Fld := ⟨136, .trc, 0x40, 0, 64, .ro, 0x0, none⟩
/-- 08 R216: Largest lag over the tract's townships at the last gate, in nominal cycles; saturating -/
def Reg.TRC_LAG_NOW : Fld := ⟨137, .trc, 0x48, 0, 16, .ro, 0x0, none⟩
/-- 08 R216: Largest lag since load or clear; saturating -/
def Reg.TRC_LAG_MAX : Fld := ⟨138, .trc, 0x48, 16, 16, .ro, 0x0, none⟩
/-- 08 R216: Overrunning ticks with droop stretch; saturating -/
def Reg.TRC_OVR_DROOP : Fld := ⟨139, .trc, 0x50, 0, 16, .ro, 0x0, none⟩
/-- 08 R216: Overrunning ticks with refresh freezes; saturating -/
def Reg.TRC_OVR_REFRESH : Fld := ⟨140, .trc, 0x50, 16, 16, .ro, 0x0, none⟩
/-- 08 R216: Overrunning ticks with link-retry freezes; saturating -/
def Reg.TRC_OVR_RETRY : Fld := ⟨141, .trc, 0x50, 32, 16, .ro, 0x0, none⟩
/-- 08 R216: Overrunning ticks in all; saturating -/
def Reg.TRC_OVR_TICKS : Fld := ⟨142, .trc, 0x50, 48, 16, .ro, 0x0, none⟩
/-- 08 R216: Droop stretch, nominal cycles; saturating -/
def Reg.TRC_STR_DROOP_CYC : Fld := ⟨143, .trc, 0x58, 0, 64, .ro, 0x0, none⟩
/-- 08 R216: Refresh freeze, nominal cycles; saturating -/
def Reg.TRC_STR_REFRESH_CYC : Fld := ⟨144, .trc, 0x60, 0, 64, .ro, 0x0, none⟩
/-- 08 R216: Link-retry freeze, nominal cycles; saturating -/
def Reg.TRC_STR_RETRY_CYC : Fld := ⟨145, .trc, 0x68, 0, 64, .ro, 0x0, none⟩
/-- 08 R216: Expert. Lag limit in ticks, 1–65,535; basic value from the record, default 0x0004. A write of 0 is treated as R8 describes -/
def Reg.TRC_LAG_LIMIT : Fld := ⟨146, .trc, 0x70, 0, 16, .rw, 0x0, (some 1)⟩
/-- 08 R216: Expert. Stall limit in ticks, 16–65,535; default 0x1000. A write below 16 is treated as R8 describes -/
def Reg.TRC_STALL_LIMIT : Fld := ⟨147, .trc, 0x70, 16, 16, .rw, 0x0, (some 1)⟩
/-- 08 R216: Expert. Freeze limit in ticks, 1–255; default 0x01. A write of 0 is treated as R8 describes -/
def Reg.TRC_FREEZE_LIMIT : Fld := ⟨148, .trc, 0x70, 32, 8, .rw, 0x0, (some 1)⟩
/-- 08 R216: First entry of the tract's range in the module beacon map -/
def Reg.TRC_BMAP_BASE : Fld := ⟨149, .trc, 0x78, 0, 16, .ro, 0x0, none⟩
/-- 08 R216: Virtual beacons of the loaded variant, 0–32,768; 0 when the variant has none or no plat is loaded -/
def Reg.TRC_BEACONS_USED : Fld := ⟨150, .trc, 0x78, 16, 16, .ro, 0x0, none⟩
/-- 08 R216: Signals discarded under R212; saturating -/
def Reg.TRC_ORPHAN_SIGNALS : Fld := ⟨151, .trc, 0x78, 32, 32, .ro, 0x0, none⟩
/-- 08 R216: Load complete -/
def Reg.TRC_EVT_LOADED : Fld := ⟨152, .trc, 0x80, 0, 1, .w1c, 0x0, none⟩
/-- 08 R216: Load refused or abandoned -/
def Reg.TRC_EVT_REFUSED : Fld := ⟨153, .trc, 0x80, 1, 1, .w1c, 0x0, none⟩
/-- 08 R216: Tract entered RUNNING -/
def Reg.TRC_EVT_STARTED : Fld := ⟨154, .trc, 0x80, 2, 1, .w1c, 0x0, none⟩
/-- 08 R216: Start tick had passed -/
def Reg.TRC_EVT_START_MISSED : Fld := ⟨155, .trc, 0x80, 3, 1, .w1c, 0x0, none⟩
/-- 08 R216: Tract entered STOPPED -/
def Reg.TRC_EVT_STOPPED : Fld := ⟨156, .trc, 0x80, 4, 1, .w1c, 0x0, none⟩
/-- 08 R216: A tick overran, R202 -/
def Reg.TRC_EVT_OVERRUN : Fld := ⟨157, .trc, 0x80, 5, 1, .w1c, 0x0, none⟩
/-- 08 R216: Tick watchdog fired, R204 -/
def Reg.TRC_EVT_WATCHDOG : Fld := ⟨158, .trc, 0x80, 6, 1, .w1c, 0x0, none⟩
/-- 08 R216: A reset orphaned waiters, R211 -/
def Reg.TRC_EVT_ORPHANED : Fld := ⟨159, .trc, 0x80, 7, 1, .w1c, 0x0, none⟩
/-- 09 R231: 0 absent; 1 locking; 2 locked; 3 holdover; 4–7 reserved -/
def Reg.CLK_REF_STATE : Fld := ⟨160, .clk, 0x0, 0, 3, .ro, 0x0, none⟩
/-- 09 R231: 0 unset; 1 set, not yet disciplined; 2 pulse; 3 link; 4 free-running; 5 unsure; 6–7 reserved -/
def Reg.CLK_DATUM_STATE : Fld := ⟨161, .clk, 0x0, 3, 3, .ro, 0x0, none⟩
/-- 09 R231: Link in use, 0 XP to 5 ZN; 7 none -/
def Reg.CLK_PARENT_NOW : Fld := ⟨162, .clk, 0x0, 6, 3, .ro, 0x7, none⟩
/-- 09 R231: Datum nanoseconds; a read latches the fraction into CLK_FRAC -/
def Reg.CLK_NS : Fld := ⟨163, .clk, 0x8, 0, 64, .ro, 0x0, none⟩
/-- 09 R231: Fraction at the last read of CLK_NS -/
def Reg.CLK_FRAC : Fld := ⟨164, .clk, 0x10, 0, 16, .ro, 0x0, none⟩
/-- 09 R231: Expert. Sets datum with fraction zero, and sets CLK_EVT_STEPPED. Dropped, with a register access error, while any tract is LOADED, RUNNING or STOPPING -/
def Reg.CLK_SET_NS : Fld := ⟨165, .clk, 0x30, 0, 64, .wo, 0x0, (some 4)⟩
/-- 09 R231: Parent link, 0–5; 7 none. The value 6 is treated as R8 describes -/
def Reg.CLK_PARENT : Fld := ⟨166, .clk, 0x18, 0, 3, .rw, 0x0, none⟩
/-- 09 R231: 1: this module is the datum root -/
def Reg.CLK_ROOT : Fld := ⟨167, .clk, 0x18, 3, 1, .rw, 0x0, none⟩
/-- 09 R231: 1: the datum pulse is used. Start value from FLAGS bit 2 (PULSE_EN) of the configuration record -/
def Reg.CLK_PULSE_EN : Fld := ⟨168, .clk, 0x18, 4, 1, .rw, 0x0, none⟩
/-- 09 R231: Expert. Ticks between exchanges, 16–255; values below 16 are treated as R8 describes -/
def Reg.CLK_EXCH_TICKS : Fld := ⟨169, .clk, 0x18, 5, 8, .rw, 0x40, (some 4)⟩
/-- 09 R231: Expert. Holdover limit in seconds, 1–65,535; 0 is treated as R8 describes -/
def Reg.CLK_HOLD_LIMIT : Fld := ⟨170, .clk, 0x18, 13, 16, .rw, 0xa, (some 4)⟩
/-- 09 R231: Signed offset from the last exchange or pulse, in ps -/
def Reg.CLK_OFS_PS : Fld := ⟨171, .clk, 0x20, 0, 32, .ro, 0x0, none⟩
/-- 09 R231: One-way delay of the parent link, in ps -/
def Reg.CLK_DELAY_PS : Fld := ⟨172, .clk, 0x20, 32, 32, .ro, 0x0, none⟩
/-- 09 R231: Signed trim in force, in 2^−16 ns per cycle, −16 to 16 -/
def Reg.CLK_TRIM_NOW : Fld := ⟨173, .clk, 0x28, 0, 16, .ro, 0x0, none⟩
/-- 09 R231: Signed error of datum at the last pulse edge, in ns; saturating -/
def Reg.CLK_PULSE_ERR : Fld := ⟨174, .clk, 0x28, 16, 16, .ro, 0x0, none⟩
/-- 09 R231: Seconds in the current holdover; saturating -/
def Reg.CLK_HOLD_S : Fld := ⟨175, .clk, 0x28, 32, 16, .ro, 0x0, none⟩
/-- 09 R231: Reference lost, R220 -/
def Reg.CLK_EVT_REF_LOST : Fld := ⟨176, .clk, 0x38, 0, 1, .w1c, 0x0, none⟩
/-- 09 R231: Reference back, R221 -/
def Reg.CLK_EVT_REF_BACK : Fld := ⟨177, .clk, 0x38, 1, 1, .w1c, 0x0, none⟩
/-- 09 R231: Holdover passed its limit -/
def Reg.CLK_EVT_HOLD_LIMIT : Fld := ⟨178, .clk, 0x38, 2, 1, .w1c, 0x0, none⟩
/-- 09 R231: Datum unsure, R229 -/
def Reg.CLK_EVT_UNSURE : Fld := ⟨179, .clk, 0x38, 3, 1, .w1c, 0x0, none⟩
/-- 09 R231: Parent link out of lock -/
def Reg.CLK_EVT_PARENT_LOST : Fld := ⟨180, .clk, 0x38, 4, 1, .w1c, 0x0, none⟩
/-- 09 R231: Datum set by step -/
def Reg.CLK_EVT_STEPPED : Fld := ⟨181, .clk, 0x38, 5, 1, .w1c, 0x0, none⟩
/-- 09 R232: Township w -/
def Reg.TWN_NUM : Fld := ⟨182, .twn, 0x0, 0, 5, .ro, 0x0, none⟩
/-- 09 R232: w mod 8 -/
def Reg.TWN_X : Fld := ⟨183, .twn, 0x0, 5, 3, .ro, 0x0, none⟩
/-- 09 R232: w div 8 -/
def Reg.TWN_Y : Fld := ⟨184, .twn, 0x0, 8, 2, .ro, 0x0, none⟩
/-- 09 R232: Usable parcels, 0–16 -/
def Reg.TWN_USABLE : Fld := ⟨185, .twn, 0x0, 10, 5, .ro, 0x0, none⟩
/-- 09 R232: 0 stopped; 1 locking; 2 locked; 3 droop; 4 holdover; 5 dark; 6–7 reserved -/
def Reg.TWN_CLK_STATE : Fld := ⟨186, .twn, 0x8, 0, 3, .ro, 0x0, none⟩
/-- 09 R232: Current clock period in ps; 1,000 nominal -/
def Reg.TWN_PERIOD_PS : Fld := ⟨187, .twn, 0x8, 3, 11, .ro, 0x0, none⟩
/-- 09 R232: Droop responses since cold start; saturating -/
def Reg.TWN_DROOP_EVENTS : Fld := ⟨188, .twn, 0x10, 0, 32, .ro, 0x0, none⟩
/-- 09 R232: Longest period seen, in ps -/
def Reg.TWN_DROOP_MAXP : Fld := ⟨189, .twn, 0x10, 32, 16, .ro, 0x0, none⟩
/-- 09 R232: Largest droop stretch in one window, in ns; saturating -/
def Reg.TWN_DROOP_WORST : Fld := ⟨190, .twn, 0x10, 48, 16, .ro, 0x0, none⟩
/-- 09 R232: Expert. Threshold in percent, 1–6; other values are treated as R8 describes -/
def Reg.TWN_DROOP_THR : Fld := ⟨191, .twn, 0x18, 0, 4, .rw, 0x3, (some 4)⟩
/-- 09 R232: Expert. Handback hold in cycles, 8–255; lower values are treated as R8 describes -/
def Reg.TWN_DROOP_HOLD : Fld := ⟨192, .twn, 0x18, 4, 8, .rw, 0x20, (some 4)⟩
/-- 09 R232: Crossing entries flushed or refused, R226; saturating -/
def Reg.TWN_FLUSHED : Fld := ⟨193, .twn, 0x20, 0, 32, .ro, 0x0, none⟩
/-- 09 R232: 1: crossing reset in progress -/
def Reg.TWN_XRST : Fld := ⟨194, .twn, 0x20, 32, 1, .ro, 0x0, none⟩
/-- 09 R232: A droop response occurred -/
def Reg.TWN_EVT_DROOP : Fld := ⟨195, .twn, 0x28, 0, 1, .w1c, 0x0, none⟩
/-- 09 R232: A crossing reset completed -/
def Reg.TWN_EVT_FLUSH : Fld := ⟨196, .twn, 0x28, 1, 1, .w1c, 0x0, none⟩
/-- 09 R232: TWN_CLK_STATE changed -/
def Reg.TWN_EVT_CLK : Fld := ⟨197, .twn, 0x28, 2, 1, .w1c, 0x0, none⟩
/-- 10 R255: k: 0 XP, 1 XN, 2 YP, 3 YN, 4 ZP, 5 ZN -/
def Reg.LNK_INDEX : Fld := ⟨198, .lnk, 0x0, 0, 3, .ro, 0x0, none⟩
/-- 10 R255: Link die 0 or 1 -/
def Reg.LNK_DIE : Fld := ⟨199, .lnk, 0x0, 3, 1, .ro, 0x0, none⟩
/-- 10 R255: State code, R252 -/
def Reg.LNK_RX_STATE : Fld := ⟨200, .lnk, 0x8, 0, 3, .ro, 0x0, none⟩
/-- 10 R255: State code of the direction sent -/
def Reg.LNK_TX_STATE : Fld := ⟨201, .lnk, 0x8, 3, 3, .ro, 0x0, none⟩
/-- 10 R255: Bit 6 + j: physical lane j failed, receiving -/
def Reg.LNK_RX_FAILED : Fld := ⟨202, .lnk, 0x8, 6, 17, .ro, 0x0, none⟩
/-- 10 R255: Bit 23 + j: physical lane j failed, sending -/
def Reg.LNK_TX_FAILED : Fld := ⟨203, .lnk, 0x8, 23, 17, .ro, 0x0, none⟩
/-- 10 R255: Free lane receiving, 0–16; 0x1F none -/
def Reg.LNK_RX_FREE : Fld := ⟨204, .lnk, 0x8, 40, 5, .ro, 0x1f, none⟩
/-- 10 R255: Free lane sending, 0–16; 0x1F none -/
def Reg.LNK_TX_FREE : Fld := ⟨205, .lnk, 0x8, 45, 5, .ro, 0x1f, none⟩
/-- 10 R255: 1 in DOWN or FAILED: train. In other states the write is dropped with a register access error -/
def Reg.LNK_TRAIN : Fld := ⟨206, .lnk, 0x10, 0, 1, .wo, 0x0, none⟩
/-- 10 R255: 1: rolling calibration runs, R253 -/
def Reg.LNK_ROLL_EN : Fld := ⟨207, .lnk, 0x10, 1, 1, .rw, 0x0, none⟩
/-- 10 R255: Expert. 1: start the next step now, if none is in progress -/
def Reg.LNK_ROLL_NOW : Fld := ⟨208, .lnk, 0x10, 2, 1, .wo, 0x0, (some 5)⟩
/-- 10 R255: Expert. 1: end the step at once, R253 -/
def Reg.LNK_ROLL_STOP_NOW : Fld := ⟨209, .lnk, 0x10, 3, 1, .wo, 0x0, (some 5)⟩
/-- 10 R255: Expert. 1: take both directions to DOWN -/
def Reg.LNK_DOWN : Fld := ⟨210, .lnk, 0x10, 4, 1, .wo, 0x0, (some 5)⟩
/-- 10 R255: Expert. Physical lane 0–16 to declare failed; 0x1F no effect; 17–30 treated as R8 describes -/
def Reg.LNK_FORCE_FAIL : Fld := ⟨211, .lnk, 0x10, 5, 5, .wo, 0x1f, (some 5)⟩
/-- 10 R255: Failed lane 0–16 to retest, R247; 0x1F no effect; 17–30 treated as R8 describes -/
def Reg.LNK_RETEST : Fld := ⟨212, .lnk, 0x10, 10, 5, .wo, 0x1f, none⟩
/-- 10 R255: 1: zero the counters at 0x020–0x038 -/
def Reg.LNK_COUNT_CLR : Fld := ⟨213, .lnk, 0x10, 15, 1, .wo, 0x0, none⟩
/-- 10 R255: Expert. Step interval in ms, 4–65,535; lower values treated as R8 describes -/
def Reg.LNK_ROLL_MS : Fld := ⟨214, .lnk, 0x18, 0, 16, .rw, 0xa, (some 5)⟩
/-- 10 R255: Expert. Margin to pass, in 1/64 UI, 4–63; lower values treated as R8 describes -/
def Reg.LNK_MARGIN_MIN : Fld := ⟨215, .lnk, 0x18, 16, 6, .rw, 0xc, (some 5)⟩
/-- 10 R255: Expert. Management units per tick, 0–64; higher values treated as R8 describes -/
def Reg.LNK_MGMT_UNITS : Fld := ⟨216, .lnk, 0x18, 22, 8, .rw, 0x10, (some 5)⟩
/-- 10 R255: Target lane of the step in progress; 0x1F none -/
def Reg.LNK_ROLL_TARGET : Fld := ⟨217, .lnk, 0x20, 0, 5, .ro, 0x1f, none⟩
/-- 10 R255: Step of R241: 0 idle; 1 copy; 2 adapt; 3 verify; 4 switched; 5 calibrate; 6 margin; 7 reserved -/
def Reg.LNK_ROLL_PHASE : Fld := ⟨218, .lnk, 0x20, 5, 3, .ro, 0x0, none⟩
/-- 10 R255: Steps completed; saturating -/
def Reg.LNK_ROLL_STEPS : Fld := ⟨219, .lnk, 0x20, 8, 32, .ro, 0x0, none⟩
/-- 10 R255: Steps ended by failure or stop; saturating -/
def Reg.LNK_ROLL_ABORTS : Fld := ⟨220, .lnk, 0x20, 40, 16, .ro, 0x0, none⟩
/-- 10 R255: Status of the last step: OK or DISCARDED -/
def Reg.LNK_ROLL_LAST : Fld := ⟨221, .lnk, 0x20, 56, 8, .ro, 0x0, none⟩
/-- 10 R255: Codewords with corrected symbols; saturating -/
def Reg.LNK_FEC_CORR : Fld := ⟨222, .lnk, 0x28, 0, 64, .ro, 0x0, none⟩
/-- 10 R255: Uncorrectable codewords; saturating -/
def Reg.LNK_FEC_UNCORR : Fld := ⟨223, .lnk, 0x30, 0, 32, .ro, 0x0, none⟩
/-- 10 R255: Codewords rebuilt from parity, R239; saturating -/
def Reg.LNK_FEC_RECON : Fld := ⟨224, .lnk, 0x30, 32, 32, .ro, 0x0, none⟩
/-- 10 R255: Packets replayed; saturating -/
def Reg.LNK_REPLAYS : Fld := ⟨225, .lnk, 0x38, 0, 32, .ro, 0x0, none⟩
/-- 10 R255: Retry overruns, R249; saturating -/
def Reg.LNK_RETRY_OVR : Fld := ⟨226, .lnk, 0x38, 32, 16, .ro, 0x0, none⟩
/-- 10 R255: Units failed under R238; saturating -/
def Reg.LNK_CRC_FAIL : Fld := ⟨227, .lnk, 0x38, 48, 16, .ro, 0x0, none⟩
/-- 10 R255: Physical lane 0–16; 17–31 treated as R8 describes -/
def Reg.LNK_SEL_LANE : Fld := ⟨228, .lnk, 0x40, 0, 5, .rw, 0x0, none⟩
/-- 10 R255: 0: receiving side of the lane; 1: sending side -/
def Reg.LNK_SEL_TX : Fld := ⟨229, .lnk, 0x40, 5, 1, .rw, 0x0, none⟩
/-- 10 R255: 0–15 data lane; 16 parity; 17 mirror; 18 calibrating; 19 failed; 20 held spare; 21 idle (DOWN or TRAINING); 22–31 reserved -/
def Reg.LNK_ROLE : Fld := ⟨230, .lnk, 0x48, 0, 5, .ro, 0x0, none⟩
/-- 10 R255: Corrected symbols in the last 2^20 codewords; saturating -/
def Reg.LNK_SYM_ERR : Fld := ⟨231, .lnk, 0x48, 8, 24, .ro, 0x0, none⟩
/-- 10 R255: Margin at the last scan, in 1/64 UI -/
def Reg.LNK_MARGIN : Fld := ⟨232, .lnk, 0x48, 32, 6, .ro, 0x0, none⟩
/-- 10 R255: ms since the lane's last full calibration; saturating -/
def Reg.LNK_CAL_AGE : Fld := ⟨233, .lnk, 0x48, 40, 24, .ro, 0xffffff, none⟩
/-- 10 R255: Transmitter taps in force on the selected lane, tap t (0 is the first pre-cursor) in bits [6t+5:6t], signed -/
def Reg.LNK_TAPS : Fld := ⟨234, .lnk, 0x50, 0, 48, .ro, 0x0, none⟩
/-- 10 R255: CTLE code -/
def Reg.LNK_CTLE : Fld := ⟨235, .lnk, 0x58, 0, 8, .ro, 0x0, none⟩
/-- 10 R255: DFE tap, signed -/
def Reg.LNK_DFE1 : Fld := ⟨236, .lnk, 0x58, 8, 8, .ro, 0x0, none⟩
/-- 10 R255: ADC gain code -/
def Reg.LNK_ADC_GAIN : Fld := ⟨237, .lnk, 0x58, 16, 8, .ro, 0x0, none⟩
/-- 10 R255: Recovered phase, in 1/256 UI -/
def Reg.LNK_CDR_PHASE : Fld := ⟨238, .lnk, 0x58, 24, 8, .ro, 0x0, none⟩
/-- 10 R255: Tracked frequency offset, in 1/64 ppm, signed -/
def Reg.LNK_PPM : Fld := ⟨239, .lnk, 0x58, 32, 16, .ro, 0x0, none⟩
/-- 10 R255: Expert. Transmitter taps to impose, laid out as LNK_TAPS -/
def Reg.LNK_OVR_TAPS : Fld := ⟨240, .lnk, 0x60, 0, 48, .rw, 0x0, (some 5)⟩
/-- 10 R255: Expert. 1: LNK_OVR_TAPS replace the searched taps on the selected sending lane, R254 -/
def Reg.LNK_OVR_TX_EN : Fld := ⟨241, .lnk, 0x60, 48, 1, .rw, 0x0, (some 5)⟩
/-- 10 R255: Expert. 1: the selected receiving lane's equaliser and gain are held, R254 -/
def Reg.LNK_OVR_RX_FREEZE : Fld := ⟨242, .lnk, 0x60, 49, 1, .rw, 0x0, (some 5)⟩
/-- 10 R255: Expert. Physical lane for injection, 0–16 -/
def Reg.LNK_INJ_LANE : Fld := ⟨243, .lnk, 0x68, 0, 5, .rw, 0x0, (some 6)⟩
/-- 10 R255: Expert. 1: the next codeword received on the lane decodes as uncorrectable -/
def Reg.LNK_INJ_CW : Fld := ⟨244, .lnk, 0x68, 5, 1, .wo, 0x0, (some 6)⟩
/-- 10 R255: Expert. 1: the next packet received fails its CRC -/
def Reg.LNK_INJ_CRC : Fld := ⟨245, .lnk, 0x68, 6, 1, .wo, 0x0, (some 6)⟩
/-- 10 R255: A lane failed -/
def Reg.LNK_EVT_LANE_FAIL : Fld := ⟨246, .lnk, 0x70, 0, 1, .w1c, 0x0, none⟩
/-- 10 R255: A direction entered UP12 -/
def Reg.LNK_EVT_DEGRADED : Fld := ⟨247, .lnk, 0x70, 1, 1, .w1c, 0x0, none⟩
/-- 10 R255: A direction entered FAILED -/
def Reg.LNK_EVT_FAILED : Fld := ⟨248, .lnk, 0x70, 2, 1, .w1c, 0x0, none⟩
/-- 10 R255: A rolling step ended early -/
def Reg.LNK_EVT_ROLL_ABORT : Fld := ⟨249, .lnk, 0x70, 3, 1, .w1c, 0x0, none⟩
/-- 10 R255: A retry overrun was declared -/
def Reg.LNK_EVT_RETRY_OVR : Fld := ⟨250, .lnk, 0x70, 4, 1, .w1c, 0x0, none⟩
/-- 10 R255: DARK control units received -/
def Reg.LNK_EVT_NEIGHBOUR_DARK : Fld := ⟨251, .lnk, 0x70, 5, 1, .w1c, 0x0, none⟩
/-- 10 R255: Training or RESTORE completed -/
def Reg.LNK_EVT_TRAINED : Fld := ⟨252, .lnk, 0x70, 6, 1, .w1c, 0x0, none⟩
/-- 10 R255: A codeword was rebuilt from parity -/
def Reg.LNK_EVT_RECON : Fld := ⟨253, .lnk, 0x70, 7, 1, .w1c, 0x0, none⟩
/-- 11 R286: Protocol version in force, R283 -/
def Reg.LNK_VERSION : Fld := ⟨254, .lnk, 0x100, 0, 4, .ro, 0x0, none⟩
/-- 11 R286: Bit 4 + n: the neighbour supports version n + 1 -/
def Reg.LNK_PEER_VERSIONS : Fld := ⟨255, .lnk, 0x100, 4, 8, .ro, 0x0, none⟩
/-- 11 R286: Measured one-way delay, ns, R264 -/
def Reg.LNK_FLIGHT_NS : Fld := ⟨256, .lnk, 0x100, 12, 16, .ro, 0x0, none⟩
/-- 11 R286: Expert. Stone timeout in ms, 1–255, R273 -/
def Reg.LNK_STONE_MS : Fld := ⟨257, .lnk, 0x100, 28, 8, .rw, 0x14, (some 7)⟩
/-- 11 R286: Owner-table entry selected -/
def Reg.LNK_OWN_IDX : Fld := ⟨258, .lnk, 0x108, 0, 4, .rw, 0x0, none⟩
/-- 11 R286: JOB of the selected entry -/
def Reg.LNK_OWN_JOB : Fld := ⟨259, .lnk, 0x110, 0, 32, .ro, 0x0, none⟩
/-- 11 R286: State code, R273 -/
def Reg.LNK_OWN_STATE : Fld := ⟨260, .lnk, 0x110, 32, 3, .ro, 0x0, none⟩
/-- 11 R286: Tract holding the job, valid when LNK_OWN_LOCAL is 1 -/
def Reg.LNK_OWN_TRACT : Fld := ⟨261, .lnk, 0x110, 35, 3, .ro, 0x0, none⟩
/-- 11 R286: 1: a tract of this module holds the job -/
def Reg.LNK_OWN_LOCAL : Fld := ⟨262, .lnk, 0x110, 38, 1, .ro, 0x0, none⟩
/-- 11 R286: EPOCH of the selected entry -/
def Reg.LNK_OWN_EPOCH : Fld := ⟨263, .lnk, 0x118, 0, 64, .ro, 0x0, none⟩
/-- 11 R286: Next owner's JOB, R271 -/
def Reg.LNK_NEXT_JOB : Fld := ⟨264, .lnk, 0x120, 0, 32, .rw, 0x0, none⟩
/-- 11 R286: 1 in OWNED or PENDING: begin the pass; otherwise dropped with a register access error -/
def Reg.LNK_PASS : Fld := ⟨265, .lnk, 0x120, 32, 1, .wo, 0x0, none⟩
/-- 11 R286: Expert. 1 in STUCK: free the entry at this end, R273 -/
def Reg.LNK_RELEASE_STUCK : Fld := ⟨266, .lnk, 0x120, 33, 1, .wo, 0x0, (some 7)⟩
/-- 11 R286: Next owner's EPOCH -/
def Reg.LNK_NEXT_EPOCH : Fld := ⟨267, .lnk, 0x128, 0, 64, .rw, 0x0, none⟩
/-- 11 R286: Slot 0–1,279 -/
def Reg.LNK_CAD_SLOT : Fld := ⟨268, .lnk, 0x130, 0, 11, .rw, 0x0, none⟩
/-- 11 R286: 0 receiving direction; 1 sending direction -/
def Reg.LNK_CAD_DIR : Fld := ⟨269, .lnk, 0x130, 11, 1, .rw, 0x0, none⟩
/-- 11 R286: 0 entries in force; 1 pending entries; 2 alternate map; 3 reserved -/
def Reg.LNK_CAD_TAB : Fld := ⟨270, .lnk, 0x130, 12, 2, .rw, 0x0, none⟩
/-- 11 R286: 1: each read of LNK_CAD_DATA advances the slot, wrapping after 1,279 -/
def Reg.LNK_CAD_AUTOINC : Fld := ⟨271, .lnk, 0x130, 14, 1, .rw, 0x0, none⟩
/-- 11 R286: Entry of R260; for the alternate map, the alternate slot in bits 10:0, with 0x7FF for none -/
def Reg.LNK_CAD_ENTRY : Fld := ⟨272, .lnk, 0x138, 0, 32, .ro, 0x0, none⟩
/-- 11 R286: 1: a pending entry is held for the slot -/
def Reg.LNK_CAD_VALID : Fld := ⟨273, .lnk, 0x138, 32, 1, .ro, 0x0, none⟩
/-- 11 R286: Easement group written, or read back -/
def Reg.LNK_EASE_GRP : Fld := ⟨274, .lnk, 0x140, 0, 4, .rw, 0x0, none⟩
/-- 11 R286: Owner-table index granted; must be OWNED, or the write is dropped with a register access error -/
def Reg.LNK_EASE_OWNER : Fld := ⟨275, .lnk, 0x140, 4, 4, .rw, 0x0, none⟩
/-- 11 R286: 1: grant in force from the next tick; 0: revoked, R270 -/
def Reg.LNK_EASE_VALID : Fld := ⟨276, .lnk, 0x140, 8, 1, .rw, 0x0, none⟩
/-- 11 R286: CADASTRE_VIOLATION or EPOCH_MISMATCH -/
def Reg.LNK_VIOL_STATUS : Fld := ⟨277, .lnk, 0x148, 0, 8, .ro, 0x0, none⟩
/-- 11 R286: Slot checked -/
def Reg.LNK_VIOL_SLOT : Fld := ⟨278, .lnk, 0x148, 8, 11, .ro, 0x0, none⟩
/-- 11 R286: Failing check of R262, 1–7; 0 for R276 -/
def Reg.LNK_VIOL_CHECK : Fld := ⟨279, .lnk, 0x148, 19, 3, .ro, 0x0, none⟩
/-- 11 R286: 1: found by the sender -/
def Reg.LNK_VIOL_TX : Fld := ⟨280, .lnk, 0x148, 22, 1, .ro, 0x0, none⟩
/-- 11 R286: 1: the packet came in a slack unit -/
def Reg.LNK_VIOL_LATE : Fld := ⟨281, .lnk, 0x148, 23, 1, .ro, 0x0, none⟩
/-- 11 R286: JOB carried -/
def Reg.LNK_VIOL_JOB : Fld := ⟨282, .lnk, 0x148, 24, 32, .ro, 0x0, none⟩
/-- 11 R286: EPOCH carried -/
def Reg.LNK_VIOL_EPOCH : Fld := ⟨283, .lnk, 0x150, 0, 64, .ro, 0x0, none⟩
/-- 11 R286: Tick of the latest record -/
def Reg.LNK_VIOL_TICK : Fld := ⟨284, .lnk, 0x158, 0, 64, .ro, 0x0, none⟩
/-- 11 R286: CADASTRE_VIOLATION outcomes; saturating -/
def Reg.LNK_VIOL_COUNT : Fld := ⟨285, .lnk, 0x160, 0, 32, .ro, 0x0, none⟩
/-- 11 R286: EPOCH_MISMATCH outcomes; saturating -/
def Reg.LNK_EPOCH_COUNT : Fld := ⟨286, .lnk, 0x160, 32, 32, .ro, 0x0, none⟩
/-- 11 R286: Late packets sent; saturating -/
def Reg.LNK_LATE_FWD : Fld := ⟨287, .lnk, 0x168, 0, 32, .ro, 0x0, none⟩
/-- 11 R286: Late packets discarded; saturating -/
def Reg.LNK_LATE_DROP : Fld := ⟨288, .lnk, 0x168, 32, 16, .ro, 0x0, none⟩
/-- 11 R286: Duplicate detoured packets discarded; saturating -/
def Reg.LNK_DUP_DROP : Fld := ⟨289, .lnk, 0x168, 48, 16, .ro, 0x0, none⟩
/-- 11 R286: 1: the sending direction is detouring, R267 -/
def Reg.LNK_DET_ACTIVE : Fld := ⟨290, .lnk, 0x170, 0, 1, .ro, 0x0, none⟩
/-- 11 R286: Packets in the detour queue, 0–2,048 -/
def Reg.LNK_DET_QUEUE : Fld := ⟨291, .lnk, 0x170, 1, 12, .ro, 0x0, none⟩
/-- 11 R286: Packets sent by detour; saturating -/
def Reg.LNK_DET_SENT : Fld := ⟨292, .lnk, 0x170, 13, 32, .ro, 0x0, none⟩
/-- 11 R286: Packets discarded at a full queue; saturating -/
def Reg.LNK_DET_DROP : Fld := ⟨293, .lnk, 0x170, 45, 16, .ro, 0x0, none⟩
/-- 11 R286: HBM address of the ring; bits 4:0 must be zero -/
def Reg.LNK_SAMPLE_BASE : Fld := ⟨294, .lnk, 0x178, 0, 48, .rw, 0x0, none⟩
/-- 11 R286: 1: sampling runs, R282 -/
def Reg.LNK_SAMPLE_EN : Fld := ⟨295, .lnk, 0x180, 0, 1, .rw, 0x0, none⟩
/-- 11 R286: Sample one packet in 2^n, n = 0–20 -/
def Reg.LNK_SAMPLE_LOG : Fld := ⟨296, .lnk, 0x180, 1, 5, .rw, 0xa, none⟩
/-- 11 R286: Ring of 2^n records, n = 8–24 -/
def Reg.LNK_RING_LOG : Fld := ⟨297, .lnk, 0x180, 6, 5, .rw, 0xc, none⟩
/-- 11 R286: 1: set SAMPLED on forwarded sampled packets -/
def Reg.LNK_SAMPLE_FOLLOW : Fld := ⟨298, .lnk, 0x180, 11, 1, .rw, 0x0, none⟩
/-- 11 R286: Records dropped; saturating -/
def Reg.LNK_SAMPLE_DROP : Fld := ⟨299, .lnk, 0x180, 12, 32, .ro, 0x0, none⟩
/-- 11 R286: Records written since the last write of LNK_SAMPLE_BASE -/
def Reg.LNK_SAMPLE_IDX : Fld := ⟨300, .lnk, 0x188, 0, 64, .ro, 0x0, none⟩
/-- 11 R286: A CADASTRE_VIOLATION outcome -/
def Reg.LNK_EVT_VIOL : Fld := ⟨301, .lnk, 0x190, 0, 1, .w1c, 0x0, none⟩
/-- 11 R286: An EPOCH_MISMATCH outcome -/
def Reg.LNK_EVT_EPOCH : Fld := ⟨302, .lnk, 0x190, 1, 1, .w1c, 0x0, none⟩
/-- 11 R286: An owner passed, R272 -/
def Reg.LNK_EVT_PASSED : Fld := ⟨303, .lnk, 0x190, 2, 1, .w1c, 0x0, none⟩
/-- 11 R286: An owner-table entry entered STUCK -/
def Reg.LNK_EVT_STUCK : Fld := ⟨304, .lnk, 0x190, 3, 1, .w1c, 0x0, none⟩
/-- 11 R286: Detouring began or ended -/
def Reg.LNK_EVT_DETOUR : Fld := ⟨305, .lnk, 0x190, 4, 1, .w1c, 0x0, none⟩
/-- 11 R286: A late or detoured packet was discarded for lack of room -/
def Reg.LNK_EVT_LATE_DROP : Fld := ⟨306, .lnk, 0x190, 5, 1, .w1c, 0x0, none⟩
/-- 11 R286: The version in force changed at training -/
def Reg.LNK_EVT_VERSION : Fld := ⟨307, .lnk, 0x190, 6, 1, .w1c, 0x0, none⟩
/-- 12 R321: Bit t: this module is the front module of tract t -/
def Reg.SRV_FRONT : Fld := ⟨308, .srv, 0x0, 0, 8, .ro, 0x0, none⟩
/-- 12 R321: Bit 8 + t: tract t is in serve mode -/
def Reg.SRV_SERVE : Fld := ⟨309, .srv, 0x0, 8, 8, .ro, 0x0, none⟩
/-- 12 R321: Bit t: serve work accepted for tract t, R318 -/
def Reg.SRV_EN : Fld := ⟨310, .srv, 0x8, 0, 8, .rw, 0x0, none⟩
/-- 12 R321: Expert. Bit 8 + t: immediate stop of tract t, R318 -/
def Reg.SRV_STOP_NOW : Fld := ⟨311, .srv, 0x8, 8, 8, .wo, 0x0, (some 8)⟩
/-- 12 R321: Tract shown at 0x030–0x058 -/
def Reg.SRV_SEL_TRACT : Fld := ⟨312, .srv, 0x8, 16, 3, .rw, 0x0, none⟩
/-- 12 R321: 1 OPEN_RING; 2 CLOSE_RING; 3 OPEN_ACCOUNT; 4 CLOSE_ACCOUNT; 5 SET_ACCOUNT; others treated as R8 describes -/
def Reg.SRV_CMD_OP : Fld := ⟨313, .srv, 0x10, 0, 4, .wo, 0x0, none⟩
/-- 12 R321: Ring 0–4,095, or account 0–1,023 -/
def Reg.SRV_CMD_INDEX : Fld := ⟨314, .srv, 0x10, 4, 12, .wo, 0x0, none⟩
/-- 12 R321: Module address of the 64-byte command block -/
def Reg.SRV_CMD_BLOCK : Fld := ⟨315, .srv, 0x10, 16, 48, .wo, 0x0, none⟩
/-- 12 R321: Status of the last command -/
def Reg.SRV_CMD_RESULT : Fld := ⟨316, .srv, 0x18, 0, 8, .ro, 0x0, none⟩
/-- 12 R321: 1: a command is in progress -/
def Reg.SRV_CMD_BUSY : Fld := ⟨317, .srv, 0x18, 8, 1, .ro, 0x0, none⟩
/-- 12 R321: Account index assigned by OPEN_ACCOUNT -/
def Reg.SRV_CMD_OUT : Fld := ⟨318, .srv, 0x18, 9, 12, .ro, 0x0, none⟩
/-- 12 R321: Ring -/
def Reg.SRV_DB_RING : Fld := ⟨319, .srv, 0x20, 0, 12, .wo, 0x0, none⟩
/-- 12 R321: 0: submission tail; 1: completion head -/
def Reg.SRV_DB_SEL : Fld := ⟨320, .srv, 0x20, 12, 1, .wo, 0x0, none⟩
/-- 12 R321: Queue index -/
def Reg.SRV_DB_VALUE : Fld := ⟨321, .srv, 0x20, 32, 16, .wo, 0x0, none⟩
/-- 12 R321: Ring of the last error -/
def Reg.SRV_ERR_RING : Fld := ⟨322, .srv, 0x28, 0, 12, .ro, 0x0, none⟩
/-- 12 R321: RING_UNAVAILABLE -/
def Reg.SRV_ERR_STATUS : Fld := ⟨323, .srv, 0x28, 12, 8, .ro, 0x0, none⟩
/-- 12 R321: Doorbells dropped; saturating -/
def Reg.SRV_ERR_COUNT : Fld := ⟨324, .srv, 0x28, 20, 32, .ro, 0x0, none⟩
/-- 12 R321: Step counter of the last commit -/
def Reg.SRV_T_STEP : Fld := ⟨325, .srv, 0x30, 0, 64, .ro, 0x0, none⟩
/-- 12 R321: Ratio template in force -/
def Reg.SRV_RATIO_NOW : Fld := ⟨326, .srv, 0x38, 0, 3, .ro, 0x0, none⟩
/-- 12 R321: Expert. Template pinned while SRV_RATIO_OVR_EN is 1; an index of RATIOS or above is treated as R8 describes -/
def Reg.SRV_RATIO_OVR : Fld := ⟨327, .srv, 0x38, 3, 3, .rw, 0x0, (some 8)⟩
/-- 12 R321: Expert. 1: pin, R311 -/
def Reg.SRV_RATIO_OVR_EN : Fld := ⟨328, .srv, 0x38, 6, 1, .rw, 0x0, (some 8)⟩
/-- 12 R321: Compositions held after a change, 1–255; default 0x08; 0 is treated as R8 describes -/
def Reg.SRV_RATIO_HOLD : Fld := ⟨329, .srv, 0x38, 8, 8, .rw, 0x0, none⟩
/-- 12 R321: Sessions not FREE -/
def Reg.SRV_SESS_LIVE : Fld := ⟨330, .srv, 0x40, 0, 17, .ro, 0x0, none⟩
/-- 12 R321: Sessions PARKED -/
def Reg.SRV_SESS_PARKED : Fld := ⟨331, .srv, 0x40, 17, 17, .ro, 0x0, none⟩
/-- 12 R321: The tract's session share -/
def Reg.SRV_SESS_SHARE : Fld := ⟨332, .srv, 0x40, 34, 17, .ro, 0x0, none⟩
/-- 12 R321: Free unreserved HBM slots -/
def Reg.SRV_HBM_FREE : Fld := ⟨333, .srv, 0x48, 0, 32, .ro, 0x0, none⟩
/-- 12 R321: Free DDR5 slots -/
def Reg.SRV_DDR_FREE : Fld := ⟨334, .srv, 0x48, 32, 32, .ro, 0x0, none⟩
/-- 12 R321: BUDGET_DEFERRED notices; saturating -/
def Reg.SRV_DEFERRALS : Fld := ⟨335, .srv, 0x50, 0, 32, .ro, 0x0, none⟩
/-- 12 R321: Spent and cancelled rows refunded; saturating -/
def Reg.SRV_SPENT_ROWS : Fld := ⟨336, .srv, 0x50, 32, 32, .ro, 0x0, none⟩
/-- 12 R321: Draft tokens verified; saturating -/
def Reg.SRV_DRAFT_OFFERED : Fld := ⟨337, .srv, 0x58, 0, 32, .ro, 0x0, none⟩
/-- 12 R321: Draft tokens accepted; saturating -/
def Reg.SRV_DRAFT_ACCEPTED : Fld := ⟨338, .srv, 0x58, 32, 32, .ro, 0x0, none⟩
/-- 12 R321: Session index selected -/
def Reg.SRV_SESS_IDX : Fld := ⟨339, .srv, 0x60, 0, 16, .rw, 0x0, none⟩
/-- 12 R321: State code, R303 -/
def Reg.SRV_SESS_STATE : Fld := ⟨340, .srv, 0x68, 0, 3, .ro, 0x0, none⟩
/-- 12 R321: Account -/
def Reg.SRV_SESS_ACCT : Fld := ⟨341, .srv, 0x68, 3, 10, .ro, 0x0, none⟩
/-- 12 R321: Ring -/
def Reg.SRV_SESS_RING : Fld := ⟨342, .srv, 0x68, 13, 12, .ro, 0x0, none⟩
/-- 12 R321: Draft length -/
def Reg.SRV_SESS_K : Fld := ⟨343, .srv, 0x68, 25, 4, .ro, 0x0, none⟩
/-- 12 R321: 1: expired, R306 -/
def Reg.SRV_SESS_EXPIRED : Fld := ⟨344, .srv, 0x68, 29, 1, .ro, 0x0, none⟩
/-- 12 R321: 1: a snuff is pending -/
def Reg.SRV_SESS_SNUFF : Fld := ⟨345, .srv, 0x68, 30, 1, .ro, 0x0, none⟩
/-- 12 R321: Tokens held in the session -/
def Reg.SRV_SESS_LEN : Fld := ⟨346, .srv, 0x68, 32, 32, .ro, 0x0, none⟩
/-- 12 R321: Account selected -/
def Reg.SRV_ACCT_IDX : Fld := ⟨347, .srv, 0x70, 0, 10, .rw, 0x0, none⟩
/-- 12 R321: 1: open -/
def Reg.SRV_ACCT_OPEN : Fld := ⟨348, .srv, 0x78, 0, 1, .ro, 0x0, none⟩
/-- 12 R321: Tract -/
def Reg.SRV_ACCT_TRACT : Fld := ⟨349, .srv, 0x78, 1, 3, .ro, 0x0, none⟩
/-- 12 R321: RATE -/
def Reg.SRV_ACCT_RATE : Fld := ⟨350, .srv, 0x78, 4, 24, .ro, 0x0, none⟩
/-- 12 R321: Bucket B -/
def Reg.SRV_ACCT_BUCKET : Fld := ⟨351, .srv, 0x78, 28, 32, .ro, 0x0, none⟩
/-- 12 R321: A command completed -/
def Reg.SRV_EVT_CMD : Fld := ⟨352, .srv, 0x80, 0, 1, .w1c, 0x0, none⟩
/-- 12 R321: A doorbell was dropped, R301 -/
def Reg.SRV_EVT_RING_ERR : Fld := ⟨353, .srv, 0x80, 1, 1, .w1c, 0x0, none⟩
/-- 12 R321: A tract drained after SRV_EN was cleared -/
def Reg.SRV_EVT_DRAINED : Fld := ⟨354, .srv, 0x80, 2, 1, .w1c, 0x0, none⟩
/-- 12 R321: An immediate stop completed -/
def Reg.SRV_EVT_STOPPED : Fld := ⟨355, .srv, 0x80, 3, 1, .w1c, 0x0, none⟩
/-- 12 R321: Composition stopped, R319 -/
def Reg.SRV_EVT_FAULT : Fld := ⟨356, .srv, 0x80, 4, 1, .w1c, 0x0, none⟩
/-- 12 R321: SESSION_TABLE_FULL or ACCOUNT_TABLE_FULL was reported -/
def Reg.SRV_EVT_FULL : Fld := ⟨357, .srv, 0x80, 5, 1, .w1c, 0x0, none⟩
/-- 14 R366: 0 normal; 1 a tract dark; 2 module dark; 3 reserved -/
def Reg.SFM_MODULE : Fld := ⟨358, .sfm, 0x0, 0, 2, .ro, 0x0, none⟩
/-- 14 R366: 0 none; 1 input over-voltage; 2 over-current; 3 rail over-voltage; 4 sensing disagreement; 5 under-voltage; 6 die temperature; 7 memory temperature; 8 sensor fault; 9 clock; 10 lockstep or monitor SRA -/
def Reg.SFM_DARK_CAUSE : Fld := ⟨359, .sfm, 0x0, 2, 4, .ro, 0x0, none⟩
/-- 14 R366: 1: several causes in the decision cycle -/
def Reg.SFM_DARK_MORE : Fld := ⟨360, .sfm, 0x0, 6, 1, .ro, 0x0, none⟩
/-- 14 R366: 1: cause read from the hazard latch at start -/
def Reg.SFM_DARK_PRIOR : Fld := ⟨361, .sfm, 0x0, 7, 1, .ro, 0x0, none⟩
/-- 14 R366: Bit 8 + t: tract t dark -/
def Reg.SFM_TRACT_DARK : Fld := ⟨362, .sfm, 0x0, 8, 8, .ro, 0x0, none⟩
/-- 14 R366: R361 -/
def Reg.SFM_SUSPECT : Fld := ⟨363, .sfm, 0x0, 16, 1, .ro, 0x0, none⟩
/-- 14 R366: 1: module dark, cause 13 -/
def Reg.SFM_DARK_NOW : Fld := ⟨364, .sfm, 0x8, 0, 1, .wo, 0x0, none⟩
/-- 14 R366: Bit 1 + t: tract t dark -/
def Reg.SFM_TRACT_DARK_NOW : Fld := ⟨365, .sfm, 0x8, 1, 8, .wo, 0x0, none⟩
/-- 14 R366: Bit c: core c kicks -/
def Reg.SFM_LWDT_KICK : Fld := ⟨366, .sfm, 0x10, 0, 4, .wo, 0x0, none⟩
/-- 14 R366: Bit 4 + c: core c lost -/
def Reg.SFM_LWDT_LOST : Fld := ⟨367, .sfm, 0x10, 4, 4, .ro, 0x0, none⟩
/-- 14 R366: Expert. Limit in ms, 10–65,535; lower values treated as R8 describes -/
def Reg.SFM_LWDT_MS : Fld := ⟨368, .sfm, 0x10, 8, 16, .rw, 0x64, (some 9)⟩
/-- 14 R366: Tests passed; saturating -/
def Reg.SFM_KAT_PASS : Fld := ⟨369, .sfm, 0x18, 0, 32, .ro, 0x0, none⟩
/-- 14 R366: Tests failed, reruns included; saturating -/
def Reg.SFM_KAT_FAILS : Fld := ⟨370, .sfm, 0x18, 32, 16, .ro, 0x0, none⟩
/-- 14 R366: Tests missed, R353; saturating -/
def Reg.SFM_KAT_MISSED : Fld := ⟨371, .sfm, 0x18, 48, 16, .ro, 0x0, none⟩
/-- 14 R366: Expert. Die limit, °C, 90–110; others treated as R8 describes -/
def Reg.SFM_T_DIE : Fld := ⟨372, .sfm, 0x20, 0, 8, .rw, 0x6e, (some 9)⟩
/-- 14 R366: Expert. Stack and DIMM limit, °C, 85–105; others treated as R8 describes -/
def Reg.SFM_T_MEM : Fld := ⟨373, .sfm, 0x20, 8, 8, .rw, 0x69, (some 9)⟩
/-- 14 R366: Parcel selected -/
def Reg.SFM_Q_PARCEL : Fld := ⟨374, .sfm, 0x28, 0, 9, .rw, 0x0, none⟩
/-- 14 R366: Counted errors in the last 24 h, 0–3 -/
def Reg.SFM_Q_COUNT : Fld := ⟨375, .sfm, 0x30, 0, 2, .ro, 0x0, none⟩
/-- 14 R366: 1: marked for quarantine -/
def Reg.SFM_Q_MARKED : Fld := ⟨376, .sfm, 0x30, 2, 1, .ro, 0x0, none⟩
/-- 14 R366: 1: hard failure, R354 -/
def Reg.SFM_Q_HARD : Fld := ⟨377, .sfm, 0x30, 3, 1, .ro, 0x0, none⟩
/-- 14 R366: Bits 63:4 of the tick of the latest counted error -/
def Reg.SFM_Q_LAST_TICK : Fld := ⟨378, .sfm, 0x30, 4, 60, .ro, 0x0, none⟩
/-- 14 R366: Record slot, 0–4,095 -/
def Reg.SFM_LOG_REC : Fld := ⟨379, .sfm, 0x38, 0, 12, .rw, 0x0, none⟩
/-- 14 R366: 64-bit part of the record -/
def Reg.SFM_LOG_PART : Fld := ⟨380, .sfm, 0x38, 12, 2, .rw, 0x0, none⟩
/-- 14 R366: 1: each read of SFM_LOG_DATA advances the part, then the record -/
def Reg.SFM_LOG_AUTOINC : Fld := ⟨381, .sfm, 0x38, 14, 1, .rw, 0x0, none⟩
/-- 14 R366: Records written since cold start; saturating -/
def Reg.SFM_LOG_WRITTEN : Fld := ⟨382, .sfm, 0x38, 15, 32, .ro, 0x0, none⟩
/-- 14 R366: The selected part -/
def Reg.SFM_LOG_VAL : Fld := ⟨383, .sfm, 0x40, 0, 64, .ro, 0x0, none⟩
/-- 14 R366: A known-answer test failed -/
def Reg.SFM_EVT_KAT_FAIL : Fld := ⟨384, .sfm, 0x48, 0, 1, .w1c, 0x0, none⟩
/-- 14 R366: A parcel was marked -/
def Reg.SFM_EVT_QUARANTINE : Fld := ⟨385, .sfm, 0x48, 1, 1, .w1c, 0x0, none⟩
/-- 14 R366: A lantern core was lost -/
def Reg.SFM_EVT_LANTERN : Fld := ⟨386, .sfm, 0x48, 2, 1, .w1c, 0x0, none⟩
/-- 14 R366: A tract went dark -/
def Reg.SFM_EVT_TRACT_DARK : Fld := ⟨387, .sfm, 0x48, 3, 1, .w1c, 0x0, none⟩
/-- 14 R366: R361 -/
def Reg.SFM_EVT_DETERMINISM : Fld := ⟨388, .sfm, 0x48, 4, 1, .w1c, 0x0, none⟩
/-- 14 R366: A residue mismatch was recorded -/
def Reg.SFM_EVT_RESIDUE : Fld := ⟨389, .sfm, 0x48, 5, 1, .w1c, 0x0, none⟩
/-- 15 R385: VERSION in force -/
def Reg.CFG_VERSION : Fld := ⟨390, .cfg, 0x0, 0, 16, .ro, 0x0, none⟩
/-- 15 R385: HBM_MAP named by the record; HBC_MAP gives the map in force -/
def Reg.CFG_HBM_MAP_REC : Fld := ⟨391, .cfg, 0x0, 16, 1, .ro, 0x0, none⟩
/-- 15 R385: DEBUG_OPEN in force -/
def Reg.CFG_DEBUG_OPEN : Fld := ⟨392, .cfg, 0x0, 17, 1, .ro, 0x0, none⟩
/-- 15 R385: 1: the trained-parameter MAC verified -/
def Reg.CFG_TRAINED_OK : Fld := ⟨393, .cfg, 0x0, 18, 1, .ro, 0x0, none⟩
/-- 15 R385: 0 AZM-512-L; 1 AZM-448-L -/
def Reg.CFG_GRADE : Fld := ⟨394, .cfg, 0x0, 19, 1, .ro, 0x0, none⟩
/-- 15 R385: Disabled parcels, 0 or 64 -/
def Reg.CFG_DISABLED : Fld := ⟨395, .cfg, 0x0, 20, 7, .ro, 0x0, none⟩
/-- 15 R385: SEQUENCE in force -/
def Reg.CFG_SEQ_NOW : Fld := ⟨396, .cfg, 0x8, 0, 64, .ro, 0x0, none⟩
/-- 15 R385: Expert-enable bits in force (R370) -/
def Reg.CFG_EXPERT_NOW : Fld := ⟨397, .cfg, 0x10, 0, 32, .ro, 0x0, none⟩
/-- 15 R385: Bit 32 + k − 1: drill kind k enabled -/
def Reg.CFG_DRILL_NOW : Fld := ⟨398, .cfg, 0x10, 32, 15, .ro, 0x0, none⟩
/-- 15 R385: Reason code of the last adoption (R372) -/
def Reg.CFG_ADOPT_REASON : Fld := ⟨399, .cfg, 0x18, 0, 8, .ro, 0x0, none⟩
/-- 15 R385: Bit 8 + t: an adopted entry awaits tract t's next load -/
def Reg.CFG_ADOPT_PENDING : Fld := ⟨400, .cfg, 0x18, 8, 8, .ro, 0x0, none⟩
/-- 15 R385: 1: module-wide fields await the next start -/
def Reg.CFG_ADOPT_NEXT : Fld := ⟨401, .cfg, 0x18, 16, 1, .ro, 0x0, none⟩
/-- 15 R385: Bytes 8i to 8i + 7 of the SHA-384 of the configuration section in force -/
def Reg.CFG_DIGEST0 : Fld := ⟨402, .cfg, 0x20, 0, 64, .ro, 0x0, none⟩
/-- 15 R385: Bytes 8i to 8i + 7 of the SHA-384 of the configuration section in force -/
def Reg.CFG_DIGEST1 : Fld := ⟨403, .cfg, 0x28, 0, 64, .ro, 0x0, none⟩
/-- 15 R385: Bytes 8i to 8i + 7 of the SHA-384 of the configuration section in force -/
def Reg.CFG_DIGEST2 : Fld := ⟨404, .cfg, 0x30, 0, 64, .ro, 0x0, none⟩
/-- 15 R385: Bytes 8i to 8i + 7 of the SHA-384 of the configuration section in force -/
def Reg.CFG_DIGEST3 : Fld := ⟨405, .cfg, 0x38, 0, 64, .ro, 0x0, none⟩
/-- 15 R385: Bytes 8i to 8i + 7 of the SHA-384 of the configuration section in force -/
def Reg.CFG_DIGEST4 : Fld := ⟨406, .cfg, 0x40, 0, 64, .ro, 0x0, none⟩
/-- 15 R385: Bytes 8i to 8i + 7 of the SHA-384 of the configuration section in force -/
def Reg.CFG_DIGEST5 : Fld := ⟨407, .cfg, 0x48, 0, 64, .ro, 0x0, none⟩
/-- 15 R385: An adoption ended -/
def Reg.CFG_EVT_ADOPT : Fld := ⟨408, .cfg, 0x50, 0, 1, .w1c, 0x0, none⟩
/-- 15 R385: A tract is treated as not configured (R371) -/
def Reg.CFG_EVT_REGION : Fld := ⟨409, .cfg, 0x50, 1, 1, .w1c, 0x0, none⟩
/-- 15 R385: Trained-parameter MAC failed -/
def Reg.CFG_EVT_TRAINED_BAD : Fld := ⟨410, .cfg, 0x50, 2, 1, .w1c, 0x0, none⟩
/-- 15 R386: 0 reserved; 1 STARTING; 2 READY; 3 STANDBY; 4 RECOVERY; 5 DARK; 6–7 reserved -/
def Reg.MCB_STATE_CODE : Fld := ⟨411, .mcb, 0x0, 0, 3, .ro, 0x1, none⟩
/-- 15 R386: 1: the last start was warm -/
def Reg.MCB_LAST_WARM : Fld := ⟨412, .mcb, 0x0, 3, 1, .ro, 0x0, none⟩
/-- 15 R386: Reason code of R372 -/
def Reg.MCB_BOOT_REASON : Fld := ⟨413, .mcb, 0x0, 4, 8, .ro, 0x0, none⟩
/-- 15 R386: 1: firmware handover in progress -/
def Reg.MCB_HANDOVER : Fld := ⟨414, .mcb, 0x0, 12, 1, .ro, 0x0, none⟩
/-- 15 R386: 1: cold start from step 2 (R373) -/
def Reg.MCB_COLD : Fld := ⟨415, .mcb, 0x8, 0, 1, .wo, 0x0, none⟩
/-- 15 R386: 1: warm start (R375) -/
def Reg.MCB_WARM : Fld := ⟨416, .mcb, 0x8, 1, 1, .wo, 0x0, none⟩
/-- 15 R386: 1: adopt the section in flash (R378) -/
def Reg.MCB_ADOPT : Fld := ⟨417, .mcb, 0x8, 2, 1, .wo, 0x0, none⟩
/-- 15 R386: 1: start a handover (R381) -/
def Reg.MCB_FW_STAGE : Fld := ⟨418, .mcb, 0x8, 3, 1, .wo, 0x0, none⟩
/-- 15 R386: 1 in RECOVERY: verify and run the recovery image -/
def Reg.MCB_RECOVERY_GO : Fld := ⟨419, .mcb, 0x8, 4, 1, .wo, 0x0, none⟩
/-- 15 R386: 1: re-test MCB_PARCEL (R379) -/
def Reg.MCB_RETEST : Fld := ⟨420, .mcb, 0x8, 5, 1, .wo, 0x0, none⟩
/-- 15 R386: 1: mark MCB_PARCEL for quarantine -/
def Reg.MCB_Q_MARK : Fld := ⟨421, .mcb, 0x8, 6, 1, .wo, 0x0, none⟩
/-- 15 R386: Parcel for MCB_RETEST and MCB_Q_MARK -/
def Reg.MCB_PARCEL : Fld := ⟨422, .mcb, 0x8, 7, 9, .rw, 0x0, none⟩
/-- 15 R386: Expert. 1: end every drill at once (R343) -/
def Reg.MCB_DRILL_STOP_NOW : Fld := ⟨423, .mcb, 0x8, 16, 1, .wo, 0x0, (some 10)⟩
/-- 15 R386: Module address of the staged image; bits 5:0 must be zero -/
def Reg.MCB_FW_ADDR : Fld := ⟨424, .mcb, 0x10, 0, 48, .rw, 0x0, none⟩
/-- 15 R386: Version of the image in force -/
def Reg.MCB_FW_VERSION : Fld := ⟨425, .mcb, 0x18, 0, 32, .ro, 0x0, none⟩
/-- 15 R386: OK or DISCARDED (R382) -/
def Reg.MCB_FW_RESULT : Fld := ⟨426, .mcb, 0x18, 32, 8, .ro, 0x0, none⟩
/-- 15 R386: OK or RESIDUE_MISMATCH -/
def Reg.MCB_RETEST_STATUS : Fld := ⟨427, .mcb, 0x20, 0, 8, .ro, 0x0, none⟩
/-- 15 R386: Parcel re-tested -/
def Reg.MCB_RETEST_PARCEL : Fld := ⟨428, .mcb, 0x20, 8, 9, .ro, 0x0, none⟩
/-- 15 R386: Tests passed, 0–4 -/
def Reg.MCB_RETEST_PASSED : Fld := ⟨429, .mcb, 0x20, 17, 3, .ro, 0x0, none⟩
/-- 15 R386: Address of the last register access error (R6, R8) -/
def Reg.MCB_RAE_ADDR : Fld := ⟨430, .mcb, 0x28, 0, 48, .ro, 0x0, none⟩
/-- 15 R386: Source code -/
def Reg.MCB_RAE_SOURCE : Fld := ⟨431, .mcb, 0x28, 48, 3, .ro, 0x0, none⟩
/-- 15 R386: Register access errors; saturating -/
def Reg.MCB_RAE_COUNT : Fld := ⟨432, .mcb, 0x28, 51, 13, .ro, 0x0, none⟩
/-- 15 R386: Address of the last address error (R154) -/
def Reg.MCB_AE_ADDR : Fld := ⟨433, .mcb, 0x30, 0, 48, .ro, 0x0, none⟩
/-- 15 R386: Source code -/
def Reg.MCB_AE_SOURCE : Fld := ⟨434, .mcb, 0x30, 48, 3, .ro, 0x0, none⟩
/-- 15 R386: Address errors; saturating -/
def Reg.MCB_AE_COUNT : Fld := ⟨435, .mcb, 0x30, 51, 13, .ro, 0x0, none⟩
/-- 15 R386: Signals discarded with no tract holding their job (R212); saturating -/
def Reg.MCB_ORPHAN_SIGNALS : Fld := ⟨436, .mcb, 0x38, 0, 32, .ro, 0x0, none⟩
/-- 15 R386: Start completed -/
def Reg.MCB_EVT_READY : Fld := ⟨437, .mcb, 0x40, 0, 1, .w1c, 0x0, none⟩
/-- 15 R386: A register access error was recorded -/
def Reg.MCB_EVT_REG_ERR : Fld := ⟨438, .mcb, 0x40, 1, 1, .w1c, 0x0, none⟩
/-- 15 R386: An address error was recorded -/
def Reg.MCB_EVT_ADDR_ERR : Fld := ⟨439, .mcb, 0x40, 2, 1, .w1c, 0x0, none⟩
/-- 15 R386: A handover ended -/
def Reg.MCB_EVT_FW : Fld := ⟨440, .mcb, 0x40, 3, 1, .w1c, 0x0, none⟩
/-- 15 R386: A re-test ended -/
def Reg.MCB_EVT_RETEST : Fld := ⟨441, .mcb, 0x40, 4, 1, .w1c, 0x0, none⟩
/-- 15 R386: Recovery boot entered -/
def Reg.MCB_EVT_RECOVERY : Fld := ⟨442, .mcb, 0x40, 5, 1, .w1c, 0x0, none⟩
/-- 16 R395: 0 DOWN; 1 TRAINING; 2 UP; 3 UP4; 4 FAILED; 5–7 reserved -/
def Reg.ATT_LINK : Fld := ⟨443, .att, 0x0, 0, 3, .ro, 0x0, none⟩
/-- 16 R395: Bit 3 + j: lane j working -/
def Reg.ATT_LANES_OK : Fld := ⟨444, .att, 0x0, 3, 8, .ro, 0x0, none⟩
/-- 16 R395: 1 in DOWN or FAILED: train -/
def Reg.ATT_TRAIN : Fld := ⟨445, .att, 0x8, 0, 1, .wo, 0x0, none⟩
/-- 16 R395: 1: zero ATT_COUNT -/
def Reg.ATT_COUNT_CLR : Fld := ⟨446, .att, 0x8, 1, 1, .wo, 0x0, none⟩
/-- 16 R395: Window 0–15 -/
def Reg.ATT_WIN_SEL : Fld := ⟨447, .att, 0x10, 0, 4, .rw, 0x0, none⟩
/-- 16 R395: Base; bits 11:0 must be zero -/
def Reg.ATT_WIN_BASE : Fld := ⟨448, .att, 0x18, 0, 48, .rw, 0x0, none⟩
/-- 16 R395: Size log2, 12–48 -/
def Reg.ATT_WIN_LOG : Fld := ⟨449, .att, 0x20, 0, 6, .rw, 0xc, none⟩
/-- 16 R395: 1: window in force -/
def Reg.ATT_WIN_VALID : Fld := ⟨450, .att, 0x20, 6, 1, .rw, 0x0, none⟩
/-- 16 R395: Reads allowed -/
def Reg.ATT_WIN_READ : Fld := ⟨451, .att, 0x20, 7, 1, .rw, 0x0, none⟩
/-- 16 R395: Writes allowed -/
def Reg.ATT_WIN_WRITE : Fld := ⟨452, .att, 0x20, 8, 1, .rw, 0x0, none⟩
/-- 16 R395: Companion may cache (R390) -/
def Reg.ATT_WIN_SHARED : Fld := ⟨453, .att, 0x20, 9, 1, .rw, 0x0, none⟩
/-- 16 R395: 0–7 tract; 8 module; 9–15 reserved -/
def Reg.ATT_WIN_SCOPE : Fld := ⟨454, .att, 0x20, 10, 4, .rw, 0x8, none⟩
/-- 16 R395: Queue base, 64-byte aligned -/
def Reg.ATT_RPTQ_BASE : Fld := ⟨455, .att, 0x28, 0, 48, .rw, 0x0, none⟩
/-- 16 R395: Queue base, 64-byte aligned -/
def Reg.ATT_CMDQ_BASE : Fld := ⟨456, .att, 0x30, 0, 48, .rw, 0x0, none⟩
/-- 16 R395: Entries log2, 6–16 -/
def Reg.ATT_RPTQ_LOG : Fld := ⟨457, .att, 0x28, 48, 5, .rw, 0x6, none⟩
/-- 16 R395: Entries log2, 6–16 -/
def Reg.ATT_CMDQ_LOG : Fld := ⟨458, .att, 0x30, 48, 5, .rw, 0x6, none⟩
/-- 16 R395: Queue index -/
def Reg.ATT_DB_VALUE : Fld := ⟨459, .att, 0x38, 0, 16, .wo, 0x0, none⟩
/-- 16 R395: 0 command tail; 1 report head consumed -/
def Reg.ATT_DB_SEL : Fld := ⟨460, .att, 0x38, 16, 1, .wo, 0x0, none⟩
/-- 16 R395: Address of the last refused access -/
def Reg.ATT_ERR_ADDR : Fld := ⟨461, .att, 0x40, 0, 48, .ro, 0x0, none⟩
/-- 16 R395: 0 none; 1 no window; 2 no permission; 3 uncorrectable; 4 address error -/
def Reg.ATT_ERR_REASON : Fld := ⟨462, .att, 0x40, 48, 3, .ro, 0x0, none⟩
/-- 16 R395: Refusals; saturating -/
def Reg.ATT_ERR_COUNT : Fld := ⟨463, .att, 0x40, 51, 13, .ro, 0x0, none⟩
/-- 16 R395: BINV messages; saturating -/
def Reg.ATT_BINV_SENT : Fld := ⟨464, .att, 0x48, 0, 32, .ro, 0x0, none⟩
/-- 16 R395: Reports dropped (R393); saturating -/
def Reg.ATT_RPT_DROP : Fld := ⟨465, .att, 0x48, 32, 16, .ro, 0x0, none⟩
/-- 16 R395: Trainings after the first; saturating -/
def Reg.ATT_RETRAINS : Fld := ⟨466, .att, 0x48, 48, 16, .ro, 0x0, none⟩
/-- 16 R395: ATT_LINK changed -/
def Reg.ATT_EVT_LINK : Fld := ⟨467, .att, 0x50, 0, 1, .w1c, 0x0, none⟩
/-- 16 R395: An access was refused -/
def Reg.ATT_EVT_REFUSED : Fld := ⟨468, .att, 0x50, 1, 1, .w1c, 0x0, none⟩
/-- 16 R395: A doorbell was beyond its queue and was dropped -/
def Reg.ATT_EVT_CMD_ERR : Fld := ⟨469, .att, 0x50, 2, 1, .w1c, 0x0, none⟩
/-- 16 R395: A report was dropped -/
def Reg.ATT_EVT_RPT_DROP : Fld := ⟨470, .att, 0x50, 3, 1, .w1c, 0x0, none⟩
/-- 16 R403: Lot identifier; character 0 in bits 7:0 -/
def Reg.IDN_CD_LOT : Fld := ⟨471, .idn, 0x0, 0, 64, .ro, 0x0, none⟩
/-- 16 R403: Lot identifier; character 0 in bits 7:0 -/
def Reg.IDN_L0_LOT : Fld := ⟨472, .idn, 0x10, 0, 64, .ro, 0x0, none⟩
/-- 16 R403: Lot identifier; character 0 in bits 7:0 -/
def Reg.IDN_L1_LOT : Fld := ⟨473, .idn, 0x20, 0, 64, .ro, 0x0, none⟩
/-- 16 R403: Wafer number -/
def Reg.IDN_CD_WAFER : Fld := ⟨474, .idn, 0x8, 0, 5, .ro, 0x0, none⟩
/-- 16 R403: Wafer number -/
def Reg.IDN_L0_WAFER : Fld := ⟨475, .idn, 0x18, 0, 5, .ro, 0x0, none⟩
/-- 16 R403: Wafer number -/
def Reg.IDN_L1_WAFER : Fld := ⟨476, .idn, 0x28, 0, 5, .ro, 0x0, none⟩
/-- 16 R403: Die X, signed -/
def Reg.IDN_CD_X : Fld := ⟨477, .idn, 0x8, 8, 8, .ro, 0x0, none⟩
/-- 16 R403: Die X, signed -/
def Reg.IDN_L0_X : Fld := ⟨478, .idn, 0x18, 8, 8, .ro, 0x0, none⟩
/-- 16 R403: Die X, signed -/
def Reg.IDN_L1_X : Fld := ⟨479, .idn, 0x28, 8, 8, .ro, 0x0, none⟩
/-- 16 R403: Die Y, signed -/
def Reg.IDN_CD_Y : Fld := ⟨480, .idn, 0x8, 16, 8, .ro, 0x0, none⟩
/-- 16 R403: Die Y, signed -/
def Reg.IDN_L0_Y : Fld := ⟨481, .idn, 0x18, 16, 8, .ro, 0x0, none⟩
/-- 16 R403: Die Y, signed -/
def Reg.IDN_L1_Y : Fld := ⟨482, .idn, 0x28, 16, 8, .ro, 0x0, none⟩
/-- 16 R403: Package serial -/
def Reg.IDN_PKG_SERIAL : Fld := ⟨483, .idn, 0x30, 0, 64, .ro, 0x0, none⟩
/-- 16 R403: Module serial -/
def Reg.IDN_MOD_SERIAL : Fld := ⟨484, .idn, 0x38, 0, 64, .ro, 0x0, none⟩
/-- 16 R403: Bytes 8i to 8i + 7 of the SHA-384 of the device public key -/
def Reg.IDN_KEY_HASH0 : Fld := ⟨485, .idn, 0x40, 0, 64, .ro, 0x0, none⟩
/-- 16 R403: Bytes 8i to 8i + 7 of the SHA-384 of the device public key -/
def Reg.IDN_KEY_HASH1 : Fld := ⟨486, .idn, 0x48, 0, 64, .ro, 0x0, none⟩
/-- 16 R403: Bytes 8i to 8i + 7 of the SHA-384 of the device public key -/
def Reg.IDN_KEY_HASH2 : Fld := ⟨487, .idn, 0x50, 0, 64, .ro, 0x0, none⟩
/-- 16 R403: Bytes 8i to 8i + 7 of the SHA-384 of the device public key -/
def Reg.IDN_KEY_HASH3 : Fld := ⟨488, .idn, 0x58, 0, 64, .ro, 0x0, none⟩
/-- 16 R403: Bytes 8i to 8i + 7 of the SHA-384 of the device public key -/
def Reg.IDN_KEY_HASH4 : Fld := ⟨489, .idn, 0x60, 0, 64, .ro, 0x0, none⟩
/-- 16 R403: Bytes 8i to 8i + 7 of the SHA-384 of the device public key -/
def Reg.IDN_KEY_HASH5 : Fld := ⟨490, .idn, 0x68, 0, 64, .ro, 0x0, none⟩
/-- 16 R403: Hall coordinate (R398) -/
def Reg.IDN_COORD : Fld := ⟨491, .idn, 0x70, 0, 18, .ro, 0x0, none⟩
/-- 16 R403: 1: coordinate assigned -/
def Reg.IDN_COORD_VALID : Fld := ⟨492, .idn, 0x70, 18, 1, .ro, 0x0, none⟩
/-- 16 R403: Address of a 32-byte nonce -/
def Reg.IDN_ATT_NONCE : Fld := ⟨493, .idn, 0x78, 0, 48, .rw, 0x0, none⟩
/-- 16 R403: Address for the 352-byte report, 64-byte aligned -/
def Reg.IDN_ATT_OUT : Fld := ⟨494, .idn, 0x80, 0, 48, .rw, 0x0, none⟩
/-- 16 R403: 1: sign a report -/
def Reg.IDN_ATT_REQ : Fld := ⟨495, .idn, 0x88, 0, 1, .wo, 0x0, none⟩
/-- 16 R403: 1: a report from this path is pending -/
def Reg.IDN_ATT_BUSY : Fld := ⟨496, .idn, 0x88, 1, 1, .ro, 0x0, none⟩
/-- 16 R403: OK, or UNCORRECTABLE_MEMORY if the nonce could not be read -/
def Reg.IDN_ATT_STATUS : Fld := ⟨497, .idn, 0x88, 2, 8, .ro, 0x0, none⟩
/-- 16 R410: 1: DEBUG_OPEN in force -/
def Reg.DBG_OPEN : Fld := ⟨498, .dbg, 0x0, 0, 1, .ro, 0x0, none⟩
/-- 16 R410: 1: a token is in force -/
def Reg.DBG_TOKEN : Fld := ⟨499, .dbg, 0x0, 1, 1, .ro, 0x0, none⟩
/-- 16 R410: Scope in force, R406 -/
def Reg.DBG_SCOPE : Fld := ⟨500, .dbg, 0x0, 2, 10, .ro, 0x0, none⟩
/-- 16 R410: 1: open by recovery boot -/
def Reg.DBG_RECOVERY : Fld := ⟨501, .dbg, 0x0, 12, 1, .ro, 0x0, none⟩
/-- 16 R410: Token expiry, datum seconds -/
def Reg.DBG_NOT_AFTER : Fld := ⟨502, .dbg, 0x8, 0, 64, .ro, 0x0, none⟩
/-- 16 R410: Target parcel -/
def Reg.DBG_PARCEL : Fld := ⟨503, .dbg, 0x10, 0, 9, .rw, 0x0, none⟩
/-- 16 R410: 1: commands and breakpoints apply to every parcel of the target's tract -/
def Reg.DBG_WIDE : Fld := ⟨504, .dbg, 0x10, 9, 1, .rw, 0x0, none⟩
/-- 16 R410: 1: halt, R407 -/
def Reg.DBG_HALT : Fld := ⟨505, .dbg, 0x10, 10, 1, .wo, 0x0, none⟩
/-- 16 R410: 1: resume -/
def Reg.DBG_RESUME : Fld := ⟨506, .dbg, 0x10, 11, 1, .wo, 0x0, none⟩
/-- 16 R410: 1: step -/
def Reg.DBG_STEP : Fld := ⟨507, .dbg, 0x10, 12, 1, .wo, 0x0, none⟩
/-- 16 R410: 1: revoke the token -/
def Reg.DBG_LOCK : Fld := ⟨508, .dbg, 0x10, 13, 1, .wo, 0x0, none⟩
/-- 16 R410: Breakpoints 0 and 1: value -/
def Reg.DBG_BP_VALUE : Fld := ⟨509, .dbg, 0x18, 0, 48, .rw, 0x0, none⟩
/-- 16 R410: 0 command count; 1 tag -/
def Reg.DBG_BP_TAG : Fld := ⟨510, .dbg, 0x18, 48, 1, .rw, 0x0, none⟩
/-- 16 R410: 1: armed -/
def Reg.DBG_BP_EN : Fld := ⟨511, .dbg, 0x18, 49, 1, .rw, 0x0, none⟩
/-- 16 R410: 1: qualified by DBG_BP_STEP -/
def Reg.DBG_BP_QUAL : Fld := ⟨512, .dbg, 0x18, 50, 1, .rw, 0x0, none⟩
/-- 16 R410: Step qualifier -/
def Reg.DBG_BP_STEP : Fld := ⟨513, .dbg, 0x28, 0, 64, .rw, 0x0, none⟩
/-- 16 R410: 0 none; 1 request; 2 step; 3 breakpoint 0; 4 breakpoint 1; 5–7 reserved -/
def Reg.DBG_HALT_CAUSE : Fld := ⟨514, .dbg, 0x30, 0, 3, .ro, 0x0, none⟩
/-- 16 R410: Command count at the halt -/
def Reg.DBG_HALT_CMD : Fld := ⟨515, .dbg, 0x30, 3, 48, .ro, 0x0, none⟩
/-- 16 R410: Beacon -/
def Reg.DBG_BEACON_NUM : Fld := ⟨516, .dbg, 0x38, 0, 15, .rw, 0x0, none⟩
/-- 16 R410: 1: write DBG_BEACON_COUNT, R408 -/
def Reg.DBG_BEACON_SET : Fld := ⟨517, .dbg, 0x38, 15, 1, .wo, 0x0, none⟩
/-- 16 R410: Count to write; on read, the selected beacon's count -/
def Reg.DBG_BEACON_COUNT : Fld := ⟨518, .dbg, 0x38, 16, 16, .rw, 0x0, none⟩
/-- 16 R410: 0 none; 1 uncorrectable; 2 address error; 3 outside scope; 4 wrong state -/
def Reg.DBG_ERR_REASON : Fld := ⟨519, .dbg, 0x40, 0, 3, .ro, 0x0, none⟩
/-- 16 R410: Address concerned -/
def Reg.DBG_ERR_ADDR : Fld := ⟨520, .dbg, 0x40, 3, 48, .ro, 0x0, none⟩
/-- 16 R410: Errors; saturating -/
def Reg.DBG_ERR_COUNT : Fld := ⟨521, .dbg, 0x40, 51, 13, .ro, 0x0, none⟩
/-- 16 R410: A parcel halted -/
def Reg.DBG_EVT_HALTED : Fld := ⟨522, .dbg, 0x48, 0, 1, .w1c, 0x0, none⟩
/-- 16 R410: A token was accepted or ended -/
def Reg.DBG_EVT_TOKEN : Fld := ⟨523, .dbg, 0x48, 1, 1, .w1c, 0x0, none⟩
/-- 16 R410: DBG_ERR recorded an error -/
def Reg.DBG_EVT_ERR : Fld := ⟨524, .dbg, 0x48, 2, 1, .w1c, 0x0, none⟩
/-- 17 R423: Input voltage, mV -/
def Reg.PWR_IN_MV : Fld := ⟨525, .pwr, 0x0, 0, 16, .ro, 0x0, none⟩
/-- 17 R423: Input current, units of 10 mA -/
def Reg.PWR_IN_CA : Fld := ⟨526, .pwr, 0x0, 16, 16, .ro, 0x0, none⟩
/-- 17 R423: Input power, W, over the last 10 µs -/
def Reg.PWR_IN_W : Fld := ⟨527, .pwr, 0x0, 32, 16, .ro, 0x0, none⟩
/-- 17 R423: Input power, W, averaged over the last millisecond -/
def Reg.PWR_IN_AVG_W : Fld := ⟨528, .pwr, 0x0, 48, 16, .ro, 0x0, none⟩
/-- 17 R423: 1 standby; 2 ramping; 3 on; 0 and 4–7 reserved -/
def Reg.PWR_STAGE : Fld := ⟨529, .pwr, 0x8, 0, 3, .ro, 0x1, none⟩
/-- 17 R423: Cap stretch in steps of 0.2 % -/
def Reg.PWR_STRETCH_NOW : Fld := ⟨530, .pwr, 0x8, 3, 5, .ro, 0x0, none⟩
/-- 17 R423: Effective cap, W -/
def Reg.PWR_CAP_EFF : Fld := ⟨531, .pwr, 0x8, 8, 16, .ro, 0xbb8, none⟩
/-- 17 R423: Cap, W: 0 or 1,500–3,000 -/
def Reg.PWR_CAP_W : Fld := ⟨532, .pwr, 0x10, 0, 16, .rw, 0x0, none⟩
/-- 17 R423: Cap written by POWER_CAP -/
def Reg.PWR_CAP_SMB_W : Fld := ⟨533, .pwr, 0x10, 16, 16, .ro, 0x0, none⟩
/-- 17 R423: Expert. Largest stretch, 0–20 steps; higher values are treated as R8 describes -/
def Reg.PWR_STRETCH_MAX : Fld := ⟨534, .pwr, 0x18, 0, 5, .rw, 0xf, (some 9)⟩
/-- 17 R423: Hottest township or spine sensor, °C -/
def Reg.PWR_T_DIE_MAX : Fld := ⟨535, .pwr, 0x20, 0, 8, .ro, 0x0, none⟩
/-- 17 R423: Hottest stack or DIMM, °C -/
def Reg.PWR_T_MEM_MAX : Fld := ⟨536, .pwr, 0x20, 8, 8, .ro, 0x0, none⟩
/-- 17 R423: Power stage, °C -/
def Reg.PWR_T_STAGE : Fld := ⟨537, .pwr, 0x20, 16, 8, .ro, 0x0, none⟩
/-- 17 R423: Coolant inlet, °C -/
def Reg.PWR_T_IN : Fld := ⟨538, .pwr, 0x20, 24, 8, .ro, 0x0, none⟩
/-- 17 R423: Coolant outlet, °C -/
def Reg.PWR_T_OUT : Fld := ⟨539, .pwr, 0x20, 32, 8, .ro, 0x0, none⟩
/-- 17 R423: Die warning, 70–105 °C; other values are treated as R8 describes -/
def Reg.PWR_T_DIE_WARN : Fld := ⟨540, .pwr, 0x28, 0, 8, .rw, 0x64, none⟩
/-- 17 R423: Inlet warning, 20–60 °C; other values are treated as R8 describes -/
def Reg.PWR_T_COOL_WARN : Fld := ⟨541, .pwr, 0x28, 8, 8, .rw, 0x2d, none⟩
/-- 17 R423: Input energy since the input was applied, mJ -/
def Reg.PWR_ENERGY_MJ : Fld := ⟨542, .pwr, 0x30, 0, 64, .ro, 0x0, none⟩
/-- 17 R423: Ticks run with nonzero cap stretch; saturating -/
def Reg.PWR_CAP_TICKS : Fld := ⟨543, .pwr, 0x38, 0, 32, .ro, 0x0, none⟩
/-- 17 R423: Milliseconds above the effective cap at PWR_STRETCH_MAX; saturating -/
def Reg.PWR_CAP_UNMET_MS : Fld := ⟨544, .pwr, 0x38, 32, 16, .ro, 0x0, none⟩
/-- 17 R423: Input dips ridden through (R412); saturating -/
def Reg.PWR_DIPS : Fld := ⟨545, .pwr, 0x38, 48, 16, .ro, 0x0, none⟩
/-- 17 R423: Cap stretch became nonzero, or returned to zero -/
def Reg.PWR_EVT_CAP : Fld := ⟨546, .pwr, 0x40, 0, 1, .w1c, 0x0, none⟩
/-- 17 R423: The effective cap was exceeded at PWR_STRETCH_MAX -/
def Reg.PWR_EVT_CAP_UNMET : Fld := ⟨547, .pwr, 0x40, 1, 1, .w1c, 0x0, none⟩
/-- 17 R423: Input between 42 V and 45 V -/
def Reg.PWR_EVT_INPUT_LOW : Fld := ⟨548, .pwr, 0x40, 2, 1, .w1c, 0x0, none⟩
/-- 17 R423: A dip was ridden through -/
def Reg.PWR_EVT_DIP : Fld := ⟨549, .pwr, 0x40, 3, 1, .w1c, 0x0, none⟩
/-- 17 R423: A die sensor passed PWR_T_DIE_WARN -/
def Reg.PWR_EVT_T_WARN : Fld := ⟨550, .pwr, 0x40, 4, 1, .w1c, 0x0, none⟩
/-- 17 R423: The inlet passed PWR_T_COOL_WARN -/
def Reg.PWR_EVT_COOL : Fld := ⟨551, .pwr, 0x40, 5, 1, .w1c, 0x0, none⟩
/-- 02 R57: enable of PCT_EVT_FAULT -/
def Reg.PCT_EVT_FAULT_EN : Fld := ⟨552, .pct, 0x78, 0, 1, .rw, 0x0, none⟩
/-- 02 R57: enable of PCT_EVT_STOPPED -/
def Reg.PCT_EVT_STOPPED_EN : Fld := ⟨553, .pct, 0x78, 1, 1, .rw, 0x0, none⟩
/-- 02 R57: enable of PCT_EVT_HALTED -/
def Reg.PCT_EVT_HALTED_EN : Fld := ⟨554, .pct, 0x78, 2, 1, .rw, 0x0, none⟩
/-- 02 R57: enable of PCT_EVT_TAPER_TRAP -/
def Reg.PCT_EVT_TAPER_TRAP_EN : Fld := ⟨555, .pct, 0x78, 3, 1, .rw, 0x0, none⟩
/-- 02 R57: enable of PCT_EVT_REPLAY -/
def Reg.PCT_EVT_REPLAY_EN : Fld := ⟨556, .pct, 0x78, 4, 1, .rw, 0x0, none⟩
/-- 07 R428: enable of XX_EVT_CE -/
def Reg.XX_EVT_CE_EN : Fld := ⟨557, .xx, 0x48, 0, 1, .rw, 0x0, none⟩
/-- 07 R428: enable of XX_EVT_UE -/
def Reg.XX_EVT_UE_EN : Fld := ⟨558, .xx, 0x48, 1, 1, .rw, 0x0, none⟩
/-- 07 R428: enable of XX_EVT_REFRESH_OVR -/
def Reg.XX_EVT_REFRESH_OVR_EN : Fld := ⟨559, .xx, 0x48, 2, 1, .rw, 0x0, none⟩
/-- 07 R428: enable of XX_EVT_TEMP -/
def Reg.XX_EVT_TEMP_EN : Fld := ⟨560, .xx, 0x48, 3, 1, .rw, 0x0, none⟩
/-- 07 R428: enable of XX_EVT_STATE -/
def Reg.XX_EVT_STATE_EN : Fld := ⟨561, .xx, 0x48, 4, 1, .rw, 0x0, none⟩
/-- 08 R216: enable of TRC_EVT_LOADED -/
def Reg.TRC_EVT_LOADED_EN : Fld := ⟨562, .trc, 0x88, 0, 1, .rw, 0x0, none⟩
/-- 08 R216: enable of TRC_EVT_REFUSED -/
def Reg.TRC_EVT_REFUSED_EN : Fld := ⟨563, .trc, 0x88, 1, 1, .rw, 0x0, none⟩
/-- 08 R216: enable of TRC_EVT_STARTED -/
def Reg.TRC_EVT_STARTED_EN : Fld := ⟨564, .trc, 0x88, 2, 1, .rw, 0x0, none⟩
/-- 08 R216: enable of TRC_EVT_START_MISSED -/
def Reg.TRC_EVT_START_MISSED_EN : Fld := ⟨565, .trc, 0x88, 3, 1, .rw, 0x0, none⟩
/-- 08 R216: enable of TRC_EVT_STOPPED -/
def Reg.TRC_EVT_STOPPED_EN : Fld := ⟨566, .trc, 0x88, 4, 1, .rw, 0x0, none⟩
/-- 08 R216: enable of TRC_EVT_OVERRUN -/
def Reg.TRC_EVT_OVERRUN_EN : Fld := ⟨567, .trc, 0x88, 5, 1, .rw, 0x0, none⟩
/-- 08 R216: enable of TRC_EVT_WATCHDOG -/
def Reg.TRC_EVT_WATCHDOG_EN : Fld := ⟨568, .trc, 0x88, 6, 1, .rw, 0x0, none⟩
/-- 08 R216: enable of TRC_EVT_ORPHANED -/
def Reg.TRC_EVT_ORPHANED_EN : Fld := ⟨569, .trc, 0x88, 7, 1, .rw, 0x0, none⟩
/-- 09 R231: enable of CLK_EVT_REF_LOST -/
def Reg.CLK_EVT_REF_LOST_EN : Fld := ⟨570, .clk, 0x40, 0, 1, .rw, 0x0, none⟩
/-- 09 R231: enable of CLK_EVT_REF_BACK -/
def Reg.CLK_EVT_REF_BACK_EN : Fld := ⟨571, .clk, 0x40, 1, 1, .rw, 0x0, none⟩
/-- 09 R231: enable of CLK_EVT_HOLD_LIMIT -/
def Reg.CLK_EVT_HOLD_LIMIT_EN : Fld := ⟨572, .clk, 0x40, 2, 1, .rw, 0x0, none⟩
/-- 09 R231: enable of CLK_EVT_UNSURE -/
def Reg.CLK_EVT_UNSURE_EN : Fld := ⟨573, .clk, 0x40, 3, 1, .rw, 0x0, none⟩
/-- 09 R231: enable of CLK_EVT_PARENT_LOST -/
def Reg.CLK_EVT_PARENT_LOST_EN : Fld := ⟨574, .clk, 0x40, 4, 1, .rw, 0x0, none⟩
/-- 09 R231: enable of CLK_EVT_STEPPED -/
def Reg.CLK_EVT_STEPPED_EN : Fld := ⟨575, .clk, 0x40, 5, 1, .rw, 0x0, none⟩
/-- 09 R232: enable of TWN_EVT_DROOP -/
def Reg.TWN_EVT_DROOP_EN : Fld := ⟨576, .twn, 0x30, 0, 1, .rw, 0x0, none⟩
/-- 09 R232: enable of TWN_EVT_FLUSH -/
def Reg.TWN_EVT_FLUSH_EN : Fld := ⟨577, .twn, 0x30, 1, 1, .rw, 0x0, none⟩
/-- 09 R232: enable of TWN_EVT_CLK -/
def Reg.TWN_EVT_CLK_EN : Fld := ⟨578, .twn, 0x30, 2, 1, .rw, 0x0, none⟩
/-- 10 R255: enable of LNK_EVT_LANE_FAIL -/
def Reg.LNK_EVT_LANE_FAIL_EN : Fld := ⟨579, .lnk, 0x78, 0, 1, .rw, 0x0, none⟩
/-- 10 R255: enable of LNK_EVT_DEGRADED -/
def Reg.LNK_EVT_DEGRADED_EN : Fld := ⟨580, .lnk, 0x78, 1, 1, .rw, 0x0, none⟩
/-- 10 R255: enable of LNK_EVT_FAILED -/
def Reg.LNK_EVT_FAILED_EN : Fld := ⟨581, .lnk, 0x78, 2, 1, .rw, 0x0, none⟩
/-- 10 R255: enable of LNK_EVT_ROLL_ABORT -/
def Reg.LNK_EVT_ROLL_ABORT_EN : Fld := ⟨582, .lnk, 0x78, 3, 1, .rw, 0x0, none⟩
/-- 10 R255: enable of LNK_EVT_RETRY_OVR -/
def Reg.LNK_EVT_RETRY_OVR_EN : Fld := ⟨583, .lnk, 0x78, 4, 1, .rw, 0x0, none⟩
/-- 10 R255: enable of LNK_EVT_NEIGHBOUR_DARK -/
def Reg.LNK_EVT_NEIGHBOUR_DARK_EN : Fld := ⟨584, .lnk, 0x78, 5, 1, .rw, 0x0, none⟩
/-- 10 R255: enable of LNK_EVT_TRAINED -/
def Reg.LNK_EVT_TRAINED_EN : Fld := ⟨585, .lnk, 0x78, 6, 1, .rw, 0x0, none⟩
/-- 10 R255: enable of LNK_EVT_RECON -/
def Reg.LNK_EVT_RECON_EN : Fld := ⟨586, .lnk, 0x78, 7, 1, .rw, 0x0, none⟩
/-- 11 R286: enable of LNK_EVT_VIOL -/
def Reg.LNK_EVT_VIOL_EN : Fld := ⟨587, .lnk, 0x198, 0, 1, .rw, 0x0, none⟩
/-- 11 R286: enable of LNK_EVT_EPOCH -/
def Reg.LNK_EVT_EPOCH_EN : Fld := ⟨588, .lnk, 0x198, 1, 1, .rw, 0x0, none⟩
/-- 11 R286: enable of LNK_EVT_PASSED -/
def Reg.LNK_EVT_PASSED_EN : Fld := ⟨589, .lnk, 0x198, 2, 1, .rw, 0x0, none⟩
/-- 11 R286: enable of LNK_EVT_STUCK -/
def Reg.LNK_EVT_STUCK_EN : Fld := ⟨590, .lnk, 0x198, 3, 1, .rw, 0x0, none⟩
/-- 11 R286: enable of LNK_EVT_DETOUR -/
def Reg.LNK_EVT_DETOUR_EN : Fld := ⟨591, .lnk, 0x198, 4, 1, .rw, 0x0, none⟩
/-- 11 R286: enable of LNK_EVT_LATE_DROP -/
def Reg.LNK_EVT_LATE_DROP_EN : Fld := ⟨592, .lnk, 0x198, 5, 1, .rw, 0x0, none⟩
/-- 11 R286: enable of LNK_EVT_VERSION -/
def Reg.LNK_EVT_VERSION_EN : Fld := ⟨593, .lnk, 0x198, 6, 1, .rw, 0x0, none⟩
/-- 12 R321: enable of SRV_EVT_CMD -/
def Reg.SRV_EVT_CMD_EN : Fld := ⟨594, .srv, 0x88, 0, 1, .rw, 0x0, none⟩
/-- 12 R321: enable of SRV_EVT_RING_ERR -/
def Reg.SRV_EVT_RING_ERR_EN : Fld := ⟨595, .srv, 0x88, 1, 1, .rw, 0x0, none⟩
/-- 12 R321: enable of SRV_EVT_DRAINED -/
def Reg.SRV_EVT_DRAINED_EN : Fld := ⟨596, .srv, 0x88, 2, 1, .rw, 0x0, none⟩
/-- 12 R321: enable of SRV_EVT_STOPPED -/
def Reg.SRV_EVT_STOPPED_EN : Fld := ⟨597, .srv, 0x88, 3, 1, .rw, 0x0, none⟩
/-- 12 R321: enable of SRV_EVT_FAULT -/
def Reg.SRV_EVT_FAULT_EN : Fld := ⟨598, .srv, 0x88, 4, 1, .rw, 0x0, none⟩
/-- 12 R321: enable of SRV_EVT_FULL -/
def Reg.SRV_EVT_FULL_EN : Fld := ⟨599, .srv, 0x88, 5, 1, .rw, 0x0, none⟩
/-- 14 R366: enable of SFM_EVT_KAT_FAIL -/
def Reg.SFM_EVT_KAT_FAIL_EN : Fld := ⟨600, .sfm, 0x50, 0, 1, .rw, 0x0, none⟩
/-- 14 R366: enable of SFM_EVT_QUARANTINE -/
def Reg.SFM_EVT_QUARANTINE_EN : Fld := ⟨601, .sfm, 0x50, 1, 1, .rw, 0x0, none⟩
/-- 14 R366: enable of SFM_EVT_LANTERN -/
def Reg.SFM_EVT_LANTERN_EN : Fld := ⟨602, .sfm, 0x50, 2, 1, .rw, 0x0, none⟩
/-- 14 R366: enable of SFM_EVT_TRACT_DARK -/
def Reg.SFM_EVT_TRACT_DARK_EN : Fld := ⟨603, .sfm, 0x50, 3, 1, .rw, 0x0, none⟩
/-- 14 R366: enable of SFM_EVT_DETERMINISM -/
def Reg.SFM_EVT_DETERMINISM_EN : Fld := ⟨604, .sfm, 0x50, 4, 1, .rw, 0x0, none⟩
/-- 14 R366: enable of SFM_EVT_RESIDUE -/
def Reg.SFM_EVT_RESIDUE_EN : Fld := ⟨605, .sfm, 0x50, 5, 1, .rw, 0x0, none⟩
/-- 15 R385: enable of CFG_EVT_ADOPT -/
def Reg.CFG_EVT_ADOPT_EN : Fld := ⟨606, .cfg, 0x58, 0, 1, .rw, 0x0, none⟩
/-- 15 R385: enable of CFG_EVT_REGION -/
def Reg.CFG_EVT_REGION_EN : Fld := ⟨607, .cfg, 0x58, 1, 1, .rw, 0x0, none⟩
/-- 15 R385: enable of CFG_EVT_TRAINED_BAD -/
def Reg.CFG_EVT_TRAINED_BAD_EN : Fld := ⟨608, .cfg, 0x58, 2, 1, .rw, 0x0, none⟩
/-- 15 R386: enable of MCB_EVT_READY -/
def Reg.MCB_EVT_READY_EN : Fld := ⟨609, .mcb, 0x48, 0, 1, .rw, 0x0, none⟩
/-- 15 R386: enable of MCB_EVT_REG_ERR -/
def Reg.MCB_EVT_REG_ERR_EN : Fld := ⟨610, .mcb, 0x48, 1, 1, .rw, 0x0, none⟩
/-- 15 R386: enable of MCB_EVT_ADDR_ERR -/
def Reg.MCB_EVT_ADDR_ERR_EN : Fld := ⟨611, .mcb, 0x48, 2, 1, .rw, 0x0, none⟩
/-- 15 R386: enable of MCB_EVT_FW -/
def Reg.MCB_EVT_FW_EN : Fld := ⟨612, .mcb, 0x48, 3, 1, .rw, 0x0, none⟩
/-- 15 R386: enable of MCB_EVT_RETEST -/
def Reg.MCB_EVT_RETEST_EN : Fld := ⟨613, .mcb, 0x48, 4, 1, .rw, 0x0, none⟩
/-- 15 R386: enable of MCB_EVT_RECOVERY -/
def Reg.MCB_EVT_RECOVERY_EN : Fld := ⟨614, .mcb, 0x48, 5, 1, .rw, 0x0, none⟩
/-- 16 R395: enable of ATT_EVT_LINK -/
def Reg.ATT_EVT_LINK_EN : Fld := ⟨615, .att, 0x58, 0, 1, .rw, 0x0, none⟩
/-- 16 R395: enable of ATT_EVT_REFUSED -/
def Reg.ATT_EVT_REFUSED_EN : Fld := ⟨616, .att, 0x58, 1, 1, .rw, 0x0, none⟩
/-- 16 R395: enable of ATT_EVT_CMD_ERR -/
def Reg.ATT_EVT_CMD_ERR_EN : Fld := ⟨617, .att, 0x58, 2, 1, .rw, 0x0, none⟩
/-- 16 R395: enable of ATT_EVT_RPT_DROP -/
def Reg.ATT_EVT_RPT_DROP_EN : Fld := ⟨618, .att, 0x58, 3, 1, .rw, 0x0, none⟩
/-- 16 R410: enable of DBG_EVT_HALTED -/
def Reg.DBG_EVT_HALTED_EN : Fld := ⟨619, .dbg, 0x50, 0, 1, .rw, 0x0, none⟩
/-- 16 R410: enable of DBG_EVT_TOKEN -/
def Reg.DBG_EVT_TOKEN_EN : Fld := ⟨620, .dbg, 0x50, 1, 1, .rw, 0x0, none⟩
/-- 16 R410: enable of DBG_EVT_ERR -/
def Reg.DBG_EVT_ERR_EN : Fld := ⟨621, .dbg, 0x50, 2, 1, .rw, 0x0, none⟩
/-- 17 R423: enable of PWR_EVT_CAP -/
def Reg.PWR_EVT_CAP_EN : Fld := ⟨622, .pwr, 0x48, 0, 1, .rw, 0x0, none⟩
/-- 17 R423: enable of PWR_EVT_CAP_UNMET -/
def Reg.PWR_EVT_CAP_UNMET_EN : Fld := ⟨623, .pwr, 0x48, 1, 1, .rw, 0x0, none⟩
/-- 17 R423: enable of PWR_EVT_INPUT_LOW -/
def Reg.PWR_EVT_INPUT_LOW_EN : Fld := ⟨624, .pwr, 0x48, 2, 1, .rw, 0x0, none⟩
/-- 17 R423: enable of PWR_EVT_DIP -/
def Reg.PWR_EVT_DIP_EN : Fld := ⟨625, .pwr, 0x48, 3, 1, .rw, 0x0, none⟩
/-- 17 R423: enable of PWR_EVT_T_WARN -/
def Reg.PWR_EVT_T_WARN_EN : Fld := ⟨626, .pwr, 0x48, 4, 1, .rw, 0x0, none⟩
/-- 17 R423: enable of PWR_EVT_COOL -/
def Reg.PWR_EVT_COOL_EN : Fld := ⟨627, .pwr, 0x48, 5, 1, .rw, 0x0, none⟩
/-- 14 R366: ALERT_N enable of SFM_EVT_KAT_FAIL -/
def Reg.SFM_EVT_KAT_FAIL_ALERT : Fld := ⟨628, .sfm, 0x58, 0, 1, .rw, 0x0, none⟩
/-- 14 R366: ALERT_N enable of SFM_EVT_QUARANTINE -/
def Reg.SFM_EVT_QUARANTINE_ALERT : Fld := ⟨629, .sfm, 0x58, 1, 1, .rw, 0x0, none⟩
/-- 14 R366: ALERT_N enable of SFM_EVT_LANTERN -/
def Reg.SFM_EVT_LANTERN_ALERT : Fld := ⟨630, .sfm, 0x58, 2, 1, .rw, 0x0, none⟩
/-- 14 R366: ALERT_N enable of SFM_EVT_TRACT_DARK -/
def Reg.SFM_EVT_TRACT_DARK_ALERT : Fld := ⟨631, .sfm, 0x58, 3, 1, .rw, 0x0, none⟩
/-- 14 R366: ALERT_N enable of SFM_EVT_DETERMINISM -/
def Reg.SFM_EVT_DETERMINISM_ALERT : Fld := ⟨632, .sfm, 0x58, 4, 1, .rw, 0x0, none⟩
/-- 14 R366: ALERT_N enable of SFM_EVT_RESIDUE -/
def Reg.SFM_EVT_RESIDUE_ALERT : Fld := ⟨633, .sfm, 0x58, 5, 1, .rw, 0x0, none⟩

/-- Fields of block PCT, part 0. -/
def fieldList_pct_0 : List Fld :=
  [Reg.PCT_PARCEL, Reg.PCT_TOWNSHIP, Reg.PCT_LOCAL, Reg.PCT_DISABLED, Reg.PCT_START, Reg.PCT_STOP, Reg.PCT_STOP_NOW, Reg.PCT_TAPER_RESET, Reg.PCT_STATE_CODE, Reg.PCT_TRACT, Reg.PCT_IN_TRACT, Reg.PCT_TAPER_ASLEEP, Reg.PCT_COPYING, Reg.PCT_FAULT_STATUS, Reg.PCT_FAULT_ENGINE, Reg.PCT_FAULT_TAG, Reg.PCT_FAULT_DISCARDS, Reg.PCT_FAULT_MORE, Reg.PCT_FAULT_CMD_VAL, Reg.PCT_CMD, Reg.PCT_REPLAYS, Reg.PCT_TAG_ISSUED, Reg.PCT_TAG_STALLED, Reg.PCT_STALLED, Reg.PCT_STALL_CAUSE, Reg.PCT_CNT_TENSOR, Reg.PCT_CNT_MOVE, Reg.PCT_CNT_BEACON, Reg.PCT_CNT_VECTOR, Reg.PCT_CNT_EXCHANGE, Reg.PCT_CNT_TAPER, Reg.PCT_Q_TENSOR, Reg.PCT_Q_VECTOR, Reg.PCT_Q_MOVE, Reg.PCT_Q_EXCHANGE, Reg.PCT_Q_BEACON, Reg.PCT_Q_TAPER, Reg.PCT_BUSY, Reg.PCT_WHEEL_NOW, Reg.PCT_WHEEL_SET]

/-- Fields of block PCT, part 1. -/
def fieldList_pct_1 : List Fld :=
  [Reg.PCT_WHEEL_OVR_EN, Reg.PCT_EVT_FAULT, Reg.PCT_EVT_STOPPED, Reg.PCT_EVT_HALTED, Reg.PCT_EVT_TAPER_TRAP, Reg.PCT_EVT_REPLAY, Reg.PCT_TAPER_PC, Reg.PCT_TAPER_CAUSE, Reg.PCT_TAPER_TRAPPED, Reg.PCT_LOOP_I0, Reg.PCT_LOOP_I1, Reg.PCT_LOOP_I2, Reg.PCT_LOOP_I3, Reg.PCT_LOOP_I4, Reg.PCT_LOOP_I5, Reg.PCT_LOOP_ACTIVE, Reg.PCT_CODE_WORD, Reg.PCT_CODE_HALF, Reg.PCT_CODE_AUTOINC, Reg.PCT_DESC_INDEX, Reg.PCT_DESC_PART, Reg.PCT_DESC_AUTOINC, Reg.PCT_CODE_VAL, Reg.PCT_DESC_VAL, Reg.PCT_EVT_FAULT_EN, Reg.PCT_EVT_STOPPED_EN, Reg.PCT_EVT_HALTED_EN, Reg.PCT_EVT_TAPER_TRAP_EN, Reg.PCT_EVT_REPLAY_EN]

/-- All fields of block PCT. -/
def fields_pct : List Fld := fieldList_pct_0 ++ fieldList_pct_1

/-- Fields of block XX, part 0. -/
def fieldList_xx_0 : List Fld :=
  [Reg.XX_INDEX, Reg.HBC_MAP, Reg.DDC_PRESENT, Reg.XX_CAP_GIB, Reg.DDC_RANKS, Reg.XX_STATE_CODE, Reg.XX_REF_NEED, Reg.XX_REF_PLAN, Reg.XX_TEMP, Reg.XX_RETIRE, Reg.XX_SCRUB_EN, Reg.XX_REF_OVR_EN, Reg.XX_REF_OVR, Reg.XX_INJECT_CE, Reg.XX_INJECT_UE, Reg.XX_COUNT_CLR, Reg.XX_CE_COUNT, Reg.XX_UE_COUNT, Reg.XX_ERR_LINE, Reg.XX_ERR_VALID, Reg.XX_ERR_SCRUB, Reg.XX_ERR_LANE, Reg.XX_ERR_BANK, Reg.XX_ERR_ROW, Reg.XX_ERR_CLASS, Reg.XX_ERR_TEMP, Reg.XX_ERR_LOAD, Reg.XX_ERR_KIND, Reg.XX_ERR_OWNER, Reg.XX_ERR_TICK_NUM, Reg.XX_STR_LINES, Reg.XX_STR_CYCLES, Reg.XX_EVT_CE, Reg.XX_EVT_UE, Reg.XX_EVT_REFRESH_OVR, Reg.XX_EVT_TEMP, Reg.XX_EVT_STATE, Reg.XX_CAL_POS, Reg.XX_CAL_LANE, Reg.XX_CAL_AUTOINC]

/-- Fields of block XX, part 1. -/
def fieldList_xx_1 : List Fld :=
  [Reg.XX_CAL_ENTRY, Reg.XX_SCRUB_LINE, Reg.XX_SCRUB_PASSES, Reg.XX_TRAIN_REQ, Reg.XX_TRAIN_OK, Reg.XX_TRAIN_CACHED, Reg.XX_TRAIN_MARGIN, Reg.XX_EVT_CE_EN, Reg.XX_EVT_UE_EN, Reg.XX_EVT_REFRESH_OVR_EN, Reg.XX_EVT_TEMP_EN, Reg.XX_EVT_STATE_EN]

/-- All fields of block XX. -/
def fields_xx : List Fld := fieldList_xx_0 ++ fieldList_xx_1

/-- Fields of block TRC, part 0. -/
def fieldList_trc_0 : List Fld :=
  [Reg.TRC_NUM, Reg.TRC_TOWNSHIPS, Reg.TRC_MODE, Reg.TRC_STRICT, Reg.TRC_CONFIGURED, Reg.TRC_LOAD, Reg.TRC_START, Reg.TRC_STOP, Reg.TRC_STOP_NOW, Reg.TRC_RESET, Reg.TRC_COUNT_CLR, Reg.TRC_STATE_CODE, Reg.TRC_CMD_STATUS, Reg.TRC_FAULT_STATUS, Reg.TRC_FM, Reg.TRC_S, Reg.TRC_NP, Reg.TRC_PLAT_ADDR, Reg.TRC_KEEP_SHEETS, Reg.TRC_MAP, Reg.TRC_REFUSAL, Reg.TRC_REF_SECTION, Reg.TRC_REF_INDEX, Reg.TRC_REF_FOLD, Reg.TRC_START_TICK_NUM, Reg.TRC_STEP_NUM, Reg.TRC_LAG_NOW, Reg.TRC_LAG_MAX, Reg.TRC_OVR_DROOP, Reg.TRC_OVR_REFRESH, Reg.TRC_OVR_RETRY, Reg.TRC_OVR_TICKS, Reg.TRC_STR_DROOP_CYC, Reg.TRC_STR_REFRESH_CYC, Reg.TRC_STR_RETRY_CYC, Reg.TRC_LAG_LIMIT, Reg.TRC_STALL_LIMIT, Reg.TRC_FREEZE_LIMIT, Reg.TRC_BMAP_BASE, Reg.TRC_BEACONS_USED]

/-- Fields of block TRC, part 1. -/
def fieldList_trc_1 : List Fld :=
  [Reg.TRC_ORPHAN_SIGNALS, Reg.TRC_EVT_LOADED, Reg.TRC_EVT_REFUSED, Reg.TRC_EVT_STARTED, Reg.TRC_EVT_START_MISSED, Reg.TRC_EVT_STOPPED, Reg.TRC_EVT_OVERRUN, Reg.TRC_EVT_WATCHDOG, Reg.TRC_EVT_ORPHANED, Reg.TRC_EVT_LOADED_EN, Reg.TRC_EVT_REFUSED_EN, Reg.TRC_EVT_STARTED_EN, Reg.TRC_EVT_START_MISSED_EN, Reg.TRC_EVT_STOPPED_EN, Reg.TRC_EVT_OVERRUN_EN, Reg.TRC_EVT_WATCHDOG_EN, Reg.TRC_EVT_ORPHANED_EN]

/-- All fields of block TRC. -/
def fields_trc : List Fld := fieldList_trc_0 ++ fieldList_trc_1

/-- Fields of block CLK, part 0. -/
def fieldList_clk_0 : List Fld :=
  [Reg.CLK_REF_STATE, Reg.CLK_DATUM_STATE, Reg.CLK_PARENT_NOW, Reg.CLK_NS, Reg.CLK_FRAC, Reg.CLK_SET_NS, Reg.CLK_PARENT, Reg.CLK_ROOT, Reg.CLK_PULSE_EN, Reg.CLK_EXCH_TICKS, Reg.CLK_HOLD_LIMIT, Reg.CLK_OFS_PS, Reg.CLK_DELAY_PS, Reg.CLK_TRIM_NOW, Reg.CLK_PULSE_ERR, Reg.CLK_HOLD_S, Reg.CLK_EVT_REF_LOST, Reg.CLK_EVT_REF_BACK, Reg.CLK_EVT_HOLD_LIMIT, Reg.CLK_EVT_UNSURE, Reg.CLK_EVT_PARENT_LOST, Reg.CLK_EVT_STEPPED, Reg.CLK_EVT_REF_LOST_EN, Reg.CLK_EVT_REF_BACK_EN, Reg.CLK_EVT_HOLD_LIMIT_EN, Reg.CLK_EVT_UNSURE_EN, Reg.CLK_EVT_PARENT_LOST_EN, Reg.CLK_EVT_STEPPED_EN]

/-- All fields of block CLK. -/
def fields_clk : List Fld := fieldList_clk_0

/-- Fields of block TWN, part 0. -/
def fieldList_twn_0 : List Fld :=
  [Reg.TWN_NUM, Reg.TWN_X, Reg.TWN_Y, Reg.TWN_USABLE, Reg.TWN_CLK_STATE, Reg.TWN_PERIOD_PS, Reg.TWN_DROOP_EVENTS, Reg.TWN_DROOP_MAXP, Reg.TWN_DROOP_WORST, Reg.TWN_DROOP_THR, Reg.TWN_DROOP_HOLD, Reg.TWN_FLUSHED, Reg.TWN_XRST, Reg.TWN_EVT_DROOP, Reg.TWN_EVT_FLUSH, Reg.TWN_EVT_CLK, Reg.TWN_EVT_DROOP_EN, Reg.TWN_EVT_FLUSH_EN, Reg.TWN_EVT_CLK_EN]

/-- All fields of block TWN. -/
def fields_twn : List Fld := fieldList_twn_0

/-- Fields of block LNK, part 0. -/
def fieldList_lnk_0 : List Fld :=
  [Reg.LNK_INDEX, Reg.LNK_DIE, Reg.LNK_RX_STATE, Reg.LNK_TX_STATE, Reg.LNK_RX_FAILED, Reg.LNK_TX_FAILED, Reg.LNK_RX_FREE, Reg.LNK_TX_FREE, Reg.LNK_TRAIN, Reg.LNK_ROLL_EN, Reg.LNK_ROLL_NOW, Reg.LNK_ROLL_STOP_NOW, Reg.LNK_DOWN, Reg.LNK_FORCE_FAIL, Reg.LNK_RETEST, Reg.LNK_COUNT_CLR, Reg.LNK_ROLL_MS, Reg.LNK_MARGIN_MIN, Reg.LNK_MGMT_UNITS, Reg.LNK_ROLL_TARGET, Reg.LNK_ROLL_PHASE, Reg.LNK_ROLL_STEPS, Reg.LNK_ROLL_ABORTS, Reg.LNK_ROLL_LAST, Reg.LNK_FEC_CORR, Reg.LNK_FEC_UNCORR, Reg.LNK_FEC_RECON, Reg.LNK_REPLAYS, Reg.LNK_RETRY_OVR, Reg.LNK_CRC_FAIL, Reg.LNK_SEL_LANE, Reg.LNK_SEL_TX, Reg.LNK_ROLE, Reg.LNK_SYM_ERR, Reg.LNK_MARGIN, Reg.LNK_CAL_AGE, Reg.LNK_TAPS, Reg.LNK_CTLE, Reg.LNK_DFE1, Reg.LNK_ADC_GAIN]

/-- Fields of block LNK, part 1. -/
def fieldList_lnk_1 : List Fld :=
  [Reg.LNK_CDR_PHASE, Reg.LNK_PPM, Reg.LNK_OVR_TAPS, Reg.LNK_OVR_TX_EN, Reg.LNK_OVR_RX_FREEZE, Reg.LNK_INJ_LANE, Reg.LNK_INJ_CW, Reg.LNK_INJ_CRC, Reg.LNK_EVT_LANE_FAIL, Reg.LNK_EVT_DEGRADED, Reg.LNK_EVT_FAILED, Reg.LNK_EVT_ROLL_ABORT, Reg.LNK_EVT_RETRY_OVR, Reg.LNK_EVT_NEIGHBOUR_DARK, Reg.LNK_EVT_TRAINED, Reg.LNK_EVT_RECON, Reg.LNK_VERSION, Reg.LNK_PEER_VERSIONS, Reg.LNK_FLIGHT_NS, Reg.LNK_STONE_MS, Reg.LNK_OWN_IDX, Reg.LNK_OWN_JOB, Reg.LNK_OWN_STATE, Reg.LNK_OWN_TRACT, Reg.LNK_OWN_LOCAL, Reg.LNK_OWN_EPOCH, Reg.LNK_NEXT_JOB, Reg.LNK_PASS, Reg.LNK_RELEASE_STUCK, Reg.LNK_NEXT_EPOCH, Reg.LNK_CAD_SLOT, Reg.LNK_CAD_DIR, Reg.LNK_CAD_TAB, Reg.LNK_CAD_AUTOINC, Reg.LNK_CAD_ENTRY, Reg.LNK_CAD_VALID, Reg.LNK_EASE_GRP, Reg.LNK_EASE_OWNER, Reg.LNK_EASE_VALID, Reg.LNK_VIOL_STATUS]

/-- Fields of block LNK, part 2. -/
def fieldList_lnk_2 : List Fld :=
  [Reg.LNK_VIOL_SLOT, Reg.LNK_VIOL_CHECK, Reg.LNK_VIOL_TX, Reg.LNK_VIOL_LATE, Reg.LNK_VIOL_JOB, Reg.LNK_VIOL_EPOCH, Reg.LNK_VIOL_TICK, Reg.LNK_VIOL_COUNT, Reg.LNK_EPOCH_COUNT, Reg.LNK_LATE_FWD, Reg.LNK_LATE_DROP, Reg.LNK_DUP_DROP, Reg.LNK_DET_ACTIVE, Reg.LNK_DET_QUEUE, Reg.LNK_DET_SENT, Reg.LNK_DET_DROP, Reg.LNK_SAMPLE_BASE, Reg.LNK_SAMPLE_EN, Reg.LNK_SAMPLE_LOG, Reg.LNK_RING_LOG, Reg.LNK_SAMPLE_FOLLOW, Reg.LNK_SAMPLE_DROP, Reg.LNK_SAMPLE_IDX, Reg.LNK_EVT_VIOL, Reg.LNK_EVT_EPOCH, Reg.LNK_EVT_PASSED, Reg.LNK_EVT_STUCK, Reg.LNK_EVT_DETOUR, Reg.LNK_EVT_LATE_DROP, Reg.LNK_EVT_VERSION, Reg.LNK_EVT_LANE_FAIL_EN, Reg.LNK_EVT_DEGRADED_EN, Reg.LNK_EVT_FAILED_EN, Reg.LNK_EVT_ROLL_ABORT_EN, Reg.LNK_EVT_RETRY_OVR_EN, Reg.LNK_EVT_NEIGHBOUR_DARK_EN, Reg.LNK_EVT_TRAINED_EN, Reg.LNK_EVT_RECON_EN, Reg.LNK_EVT_VIOL_EN, Reg.LNK_EVT_EPOCH_EN]

/-- Fields of block LNK, part 3. -/
def fieldList_lnk_3 : List Fld :=
  [Reg.LNK_EVT_PASSED_EN, Reg.LNK_EVT_STUCK_EN, Reg.LNK_EVT_DETOUR_EN, Reg.LNK_EVT_LATE_DROP_EN, Reg.LNK_EVT_VERSION_EN]

/-- All fields of block LNK. -/
def fields_lnk : List Fld := fieldList_lnk_0 ++ fieldList_lnk_1 ++ fieldList_lnk_2 ++ fieldList_lnk_3

/-- Fields of block SRV, part 0. -/
def fieldList_srv_0 : List Fld :=
  [Reg.SRV_FRONT, Reg.SRV_SERVE, Reg.SRV_EN, Reg.SRV_STOP_NOW, Reg.SRV_SEL_TRACT, Reg.SRV_CMD_OP, Reg.SRV_CMD_INDEX, Reg.SRV_CMD_BLOCK, Reg.SRV_CMD_RESULT, Reg.SRV_CMD_BUSY, Reg.SRV_CMD_OUT, Reg.SRV_DB_RING, Reg.SRV_DB_SEL, Reg.SRV_DB_VALUE, Reg.SRV_ERR_RING, Reg.SRV_ERR_STATUS, Reg.SRV_ERR_COUNT, Reg.SRV_T_STEP, Reg.SRV_RATIO_NOW, Reg.SRV_RATIO_OVR, Reg.SRV_RATIO_OVR_EN, Reg.SRV_RATIO_HOLD, Reg.SRV_SESS_LIVE, Reg.SRV_SESS_PARKED, Reg.SRV_SESS_SHARE, Reg.SRV_HBM_FREE, Reg.SRV_DDR_FREE, Reg.SRV_DEFERRALS, Reg.SRV_SPENT_ROWS, Reg.SRV_DRAFT_OFFERED, Reg.SRV_DRAFT_ACCEPTED, Reg.SRV_SESS_IDX, Reg.SRV_SESS_STATE, Reg.SRV_SESS_ACCT, Reg.SRV_SESS_RING, Reg.SRV_SESS_K, Reg.SRV_SESS_EXPIRED, Reg.SRV_SESS_SNUFF, Reg.SRV_SESS_LEN, Reg.SRV_ACCT_IDX]

/-- Fields of block SRV, part 1. -/
def fieldList_srv_1 : List Fld :=
  [Reg.SRV_ACCT_OPEN, Reg.SRV_ACCT_TRACT, Reg.SRV_ACCT_RATE, Reg.SRV_ACCT_BUCKET, Reg.SRV_EVT_CMD, Reg.SRV_EVT_RING_ERR, Reg.SRV_EVT_DRAINED, Reg.SRV_EVT_STOPPED, Reg.SRV_EVT_FAULT, Reg.SRV_EVT_FULL, Reg.SRV_EVT_CMD_EN, Reg.SRV_EVT_RING_ERR_EN, Reg.SRV_EVT_DRAINED_EN, Reg.SRV_EVT_STOPPED_EN, Reg.SRV_EVT_FAULT_EN, Reg.SRV_EVT_FULL_EN]

/-- All fields of block SRV. -/
def fields_srv : List Fld := fieldList_srv_0 ++ fieldList_srv_1

/-- Fields of block SFM, part 0. -/
def fieldList_sfm_0 : List Fld :=
  [Reg.SFM_MODULE, Reg.SFM_DARK_CAUSE, Reg.SFM_DARK_MORE, Reg.SFM_DARK_PRIOR, Reg.SFM_TRACT_DARK, Reg.SFM_SUSPECT, Reg.SFM_DARK_NOW, Reg.SFM_TRACT_DARK_NOW, Reg.SFM_LWDT_KICK, Reg.SFM_LWDT_LOST, Reg.SFM_LWDT_MS, Reg.SFM_KAT_PASS, Reg.SFM_KAT_FAILS, Reg.SFM_KAT_MISSED, Reg.SFM_T_DIE, Reg.SFM_T_MEM, Reg.SFM_Q_PARCEL, Reg.SFM_Q_COUNT, Reg.SFM_Q_MARKED, Reg.SFM_Q_HARD, Reg.SFM_Q_LAST_TICK, Reg.SFM_LOG_REC, Reg.SFM_LOG_PART, Reg.SFM_LOG_AUTOINC, Reg.SFM_LOG_WRITTEN, Reg.SFM_LOG_VAL, Reg.SFM_EVT_KAT_FAIL, Reg.SFM_EVT_QUARANTINE, Reg.SFM_EVT_LANTERN, Reg.SFM_EVT_TRACT_DARK, Reg.SFM_EVT_DETERMINISM, Reg.SFM_EVT_RESIDUE, Reg.SFM_EVT_KAT_FAIL_EN, Reg.SFM_EVT_QUARANTINE_EN, Reg.SFM_EVT_LANTERN_EN, Reg.SFM_EVT_TRACT_DARK_EN, Reg.SFM_EVT_DETERMINISM_EN, Reg.SFM_EVT_RESIDUE_EN, Reg.SFM_EVT_KAT_FAIL_ALERT, Reg.SFM_EVT_QUARANTINE_ALERT]

/-- Fields of block SFM, part 1. -/
def fieldList_sfm_1 : List Fld :=
  [Reg.SFM_EVT_LANTERN_ALERT, Reg.SFM_EVT_TRACT_DARK_ALERT, Reg.SFM_EVT_DETERMINISM_ALERT, Reg.SFM_EVT_RESIDUE_ALERT]

/-- All fields of block SFM. -/
def fields_sfm : List Fld := fieldList_sfm_0 ++ fieldList_sfm_1

/-- Fields of block CFG, part 0. -/
def fieldList_cfg_0 : List Fld :=
  [Reg.CFG_VERSION, Reg.CFG_HBM_MAP_REC, Reg.CFG_DEBUG_OPEN, Reg.CFG_TRAINED_OK, Reg.CFG_GRADE, Reg.CFG_DISABLED, Reg.CFG_SEQ_NOW, Reg.CFG_EXPERT_NOW, Reg.CFG_DRILL_NOW, Reg.CFG_ADOPT_REASON, Reg.CFG_ADOPT_PENDING, Reg.CFG_ADOPT_NEXT, Reg.CFG_DIGEST0, Reg.CFG_DIGEST1, Reg.CFG_DIGEST2, Reg.CFG_DIGEST3, Reg.CFG_DIGEST4, Reg.CFG_DIGEST5, Reg.CFG_EVT_ADOPT, Reg.CFG_EVT_REGION, Reg.CFG_EVT_TRAINED_BAD, Reg.CFG_EVT_ADOPT_EN, Reg.CFG_EVT_REGION_EN, Reg.CFG_EVT_TRAINED_BAD_EN]

/-- All fields of block CFG. -/
def fields_cfg : List Fld := fieldList_cfg_0

/-- Fields of block MCB, part 0. -/
def fieldList_mcb_0 : List Fld :=
  [Reg.MCB_STATE_CODE, Reg.MCB_LAST_WARM, Reg.MCB_BOOT_REASON, Reg.MCB_HANDOVER, Reg.MCB_COLD, Reg.MCB_WARM, Reg.MCB_ADOPT, Reg.MCB_FW_STAGE, Reg.MCB_RECOVERY_GO, Reg.MCB_RETEST, Reg.MCB_Q_MARK, Reg.MCB_PARCEL, Reg.MCB_DRILL_STOP_NOW, Reg.MCB_FW_ADDR, Reg.MCB_FW_VERSION, Reg.MCB_FW_RESULT, Reg.MCB_RETEST_STATUS, Reg.MCB_RETEST_PARCEL, Reg.MCB_RETEST_PASSED, Reg.MCB_RAE_ADDR, Reg.MCB_RAE_SOURCE, Reg.MCB_RAE_COUNT, Reg.MCB_AE_ADDR, Reg.MCB_AE_SOURCE, Reg.MCB_AE_COUNT, Reg.MCB_ORPHAN_SIGNALS, Reg.MCB_EVT_READY, Reg.MCB_EVT_REG_ERR, Reg.MCB_EVT_ADDR_ERR, Reg.MCB_EVT_FW, Reg.MCB_EVT_RETEST, Reg.MCB_EVT_RECOVERY, Reg.MCB_EVT_READY_EN, Reg.MCB_EVT_REG_ERR_EN, Reg.MCB_EVT_ADDR_ERR_EN, Reg.MCB_EVT_FW_EN, Reg.MCB_EVT_RETEST_EN, Reg.MCB_EVT_RECOVERY_EN]

/-- All fields of block MCB. -/
def fields_mcb : List Fld := fieldList_mcb_0

/-- Fields of block ATT, part 0. -/
def fieldList_att_0 : List Fld :=
  [Reg.ATT_LINK, Reg.ATT_LANES_OK, Reg.ATT_TRAIN, Reg.ATT_COUNT_CLR, Reg.ATT_WIN_SEL, Reg.ATT_WIN_BASE, Reg.ATT_WIN_LOG, Reg.ATT_WIN_VALID, Reg.ATT_WIN_READ, Reg.ATT_WIN_WRITE, Reg.ATT_WIN_SHARED, Reg.ATT_WIN_SCOPE, Reg.ATT_RPTQ_BASE, Reg.ATT_CMDQ_BASE, Reg.ATT_RPTQ_LOG, Reg.ATT_CMDQ_LOG, Reg.ATT_DB_VALUE, Reg.ATT_DB_SEL, Reg.ATT_ERR_ADDR, Reg.ATT_ERR_REASON, Reg.ATT_ERR_COUNT, Reg.ATT_BINV_SENT, Reg.ATT_RPT_DROP, Reg.ATT_RETRAINS, Reg.ATT_EVT_LINK, Reg.ATT_EVT_REFUSED, Reg.ATT_EVT_CMD_ERR, Reg.ATT_EVT_RPT_DROP, Reg.ATT_EVT_LINK_EN, Reg.ATT_EVT_REFUSED_EN, Reg.ATT_EVT_CMD_ERR_EN, Reg.ATT_EVT_RPT_DROP_EN]

/-- All fields of block ATT. -/
def fields_att : List Fld := fieldList_att_0

/-- Fields of block IDN, part 0. -/
def fieldList_idn_0 : List Fld :=
  [Reg.IDN_CD_LOT, Reg.IDN_L0_LOT, Reg.IDN_L1_LOT, Reg.IDN_CD_WAFER, Reg.IDN_L0_WAFER, Reg.IDN_L1_WAFER, Reg.IDN_CD_X, Reg.IDN_L0_X, Reg.IDN_L1_X, Reg.IDN_CD_Y, Reg.IDN_L0_Y, Reg.IDN_L1_Y, Reg.IDN_PKG_SERIAL, Reg.IDN_MOD_SERIAL, Reg.IDN_KEY_HASH0, Reg.IDN_KEY_HASH1, Reg.IDN_KEY_HASH2, Reg.IDN_KEY_HASH3, Reg.IDN_KEY_HASH4, Reg.IDN_KEY_HASH5, Reg.IDN_COORD, Reg.IDN_COORD_VALID, Reg.IDN_ATT_NONCE, Reg.IDN_ATT_OUT, Reg.IDN_ATT_REQ, Reg.IDN_ATT_BUSY, Reg.IDN_ATT_STATUS]

/-- All fields of block IDN. -/
def fields_idn : List Fld := fieldList_idn_0

/-- Fields of block DBG, part 0. -/
def fieldList_dbg_0 : List Fld :=
  [Reg.DBG_OPEN, Reg.DBG_TOKEN, Reg.DBG_SCOPE, Reg.DBG_RECOVERY, Reg.DBG_NOT_AFTER, Reg.DBG_PARCEL, Reg.DBG_WIDE, Reg.DBG_HALT, Reg.DBG_RESUME, Reg.DBG_STEP, Reg.DBG_LOCK, Reg.DBG_BP_VALUE, Reg.DBG_BP_TAG, Reg.DBG_BP_EN, Reg.DBG_BP_QUAL, Reg.DBG_BP_STEP, Reg.DBG_HALT_CAUSE, Reg.DBG_HALT_CMD, Reg.DBG_BEACON_NUM, Reg.DBG_BEACON_SET, Reg.DBG_BEACON_COUNT, Reg.DBG_ERR_REASON, Reg.DBG_ERR_ADDR, Reg.DBG_ERR_COUNT, Reg.DBG_EVT_HALTED, Reg.DBG_EVT_TOKEN, Reg.DBG_EVT_ERR, Reg.DBG_EVT_HALTED_EN, Reg.DBG_EVT_TOKEN_EN, Reg.DBG_EVT_ERR_EN]

/-- All fields of block DBG. -/
def fields_dbg : List Fld := fieldList_dbg_0

/-- Fields of block PWR, part 0. -/
def fieldList_pwr_0 : List Fld :=
  [Reg.PWR_IN_MV, Reg.PWR_IN_CA, Reg.PWR_IN_W, Reg.PWR_IN_AVG_W, Reg.PWR_STAGE, Reg.PWR_STRETCH_NOW, Reg.PWR_CAP_EFF, Reg.PWR_CAP_W, Reg.PWR_CAP_SMB_W, Reg.PWR_STRETCH_MAX, Reg.PWR_T_DIE_MAX, Reg.PWR_T_MEM_MAX, Reg.PWR_T_STAGE, Reg.PWR_T_IN, Reg.PWR_T_OUT, Reg.PWR_T_DIE_WARN, Reg.PWR_T_COOL_WARN, Reg.PWR_ENERGY_MJ, Reg.PWR_CAP_TICKS, Reg.PWR_CAP_UNMET_MS, Reg.PWR_DIPS, Reg.PWR_EVT_CAP, Reg.PWR_EVT_CAP_UNMET, Reg.PWR_EVT_INPUT_LOW, Reg.PWR_EVT_DIP, Reg.PWR_EVT_T_WARN, Reg.PWR_EVT_COOL, Reg.PWR_EVT_CAP_EN, Reg.PWR_EVT_CAP_UNMET_EN, Reg.PWR_EVT_INPUT_LOW_EN, Reg.PWR_EVT_DIP_EN, Reg.PWR_EVT_T_WARN_EN, Reg.PWR_EVT_COOL_EN]

/-- All fields of block PWR. -/
def fields_pwr : List Fld := fieldList_pwr_0

/-- The fields of a block. -/
def Blk.fields : Blk → List Fld
  | .mcb => fields_mcb
  | .idn => fields_idn
  | .pwr => fields_pwr
  | .sfm => fields_sfm
  | .clk => fields_clk
  | .cfg => fields_cfg
  | .dbg => fields_dbg
  | .att => fields_att
  | .srv => fields_srv
  | .lnk => fields_lnk
  | .xx => fields_xx
  | .trc => fields_trc
  | .twn => fields_twn
  | .pct => fields_pct

end Sys2Proof.Machine
end

