-- ==== Sys2Proof/Machine/State.lean ====
section
/-!
DEFINITION. The state of the module: plain data, holding every piece of state the spec gives it.
Registers are the table `regs` (fields of Machine/Fields.lean, one entry per unit); every other piece is
a field below. INVENTORY.md lists them with the rules that name them.
-/
namespace Sys2Proof.Machine

/-- Why a step could stop with a fault. The spec gives every command of the table an effect, so no meaning
answers with one; the type is the host's form. Safe. -/
inductive Fault where
  /-- Raised by no command. -/
  | unreachable
deriving DecidableEq, Repr

/-- Why a step could refuse a command. -/
inductive Refusal where
  /-- Raised by an arm of Machine/Dispatch.lean whose command has no meaning yet. Safe. -/
  | notModelled (mnemonic : String)
deriving DecidableEq, Repr

/-! ### The parcel (02) -/

/-- A recorded wait: it holds once engine `eng`'s completion counter has reached `req` modulo 2^24 (02 R35). -/
structure Wait where
  eng : Nat
  req : Nat
deriving DecidableEq, Repr

/-- An operand slot as resolved at issue (03 R61, 02 R33). -/
inductive Opnd where
  | none
  /-- A descriptor with its resolved base. -/
  | desc (base : BitVec 48) (bits : DescBits)
  /-- A parameter register or an address generator. -/
  | reg (v : BitVec 64)
  | imm (v : Int)
  /-- A wick register: resolved per acting wick. -/
  | wreg (n : Nat)
  /-- 0 wick number, 1 index register, 2 predicate. -/
  | special (n : Nat)
deriving DecidableEq, Repr

/-- An instruction in an engine queue: its word, the operands, waits and counter-generator registers
resolved at issue, its command count, its number among the engine's instructions, and the number of move
instructions issued before it (what a release or a fence covers, 04 R95, R98). -/
structure QEntry where
  word : Word128 := 0
  ops : List Opnd := []
  rng : List (BitVec 64) := []
  waits : List Wait := []
  cmd : Nat := 0
  seq : Nat := 0
  cover : Nat := 0
deriving DecidableEq, Repr

/-- How far an instruction in flight has come: `run` may complete, `held` waits for an event the
spec names, `done` is complete but not yet counted, its predecessors being incomplete (02 R36), `gone` was
withdrawn or discarded and never completes (08 R210, 02 R43). -/
inductive Stage where
  | run | held | done | gone
deriving DecidableEq, Repr

/-- An instruction an engine has started and whose completion counter has not passed it. -/
structure Flight where
  entry : QEntry := {}
  stage : Stage := .run
  /-- The status it fails with; 0 for none (00 R11). -/
  status : Nat := 0
  /-- Occupancy and latency in cycles, as the instruction tables give them. -/
  occ : Nat := 0
  lat : Nat := 0
  /-- Tier lines it still has to read, and the lines read so far (07 R159, R162). -/
  need : List Nat := []
  got : List (Nat × List Byte) := []
  /-- The deadline tick of a transfer (04 R101, R103). -/
  deadline : Nat := 0
  /-- The collective entry of an XCOLL and the number of its contributions received. -/
  coll : Nat := 0
  /-- Lines of parcel memory that it read with a corrected error, whose records its completion files (07 R171). -/
  met : List Nat := []
  /-- What it reads and what it writes, as ranges of the locations of 03 R70. -/
  reads : List (Nat × Nat) := []
  writes : List (Nat × Nat) := []
  /-- Bytes of its own parcel's memory that it has changed, with what they held before (02 R38). -/
  old : List (Nat × Byte) := []
deriving DecidableEq, Repr

/-- One engine of a parcel (02 R34): its queue, oldest first, its instructions in flight, how many
have issued to it since the last replay boundary, modulo 2^24, and how many since tract load. -/
structure Engine where
  queue : List QEntry := []
  flight : List Flight := []
  issued : Nat := 0
  total : Nat := 0
deriving DecidableEq, Repr

/-- The loop nest (02 R53): body and counts, the increment of each generator at each level (generator a,
level L at 6a + L), and the eight generators. The level indices are the PCT_LOOP registers. -/
structure LoopNest where
  start : Nat := 0
  len : Nat := 0
  counts : List Nat := []
  incs : List Int := []
  ags : List (BitVec 48) := []
deriving DecidableEq, Repr

/-- The taper (02 R50, R425, R426): running flag, the integer registers, and the two
counters. Its pc and trap record are the PCT_TAPER register. -/
structure Taper where
  running : Bool := false
  regs : Tab (BitVec 32) := []
  mcycle : BitVec 64 := 0
  minstret : BitVec 64 := 0
deriving DecidableEq, Repr

/-- What a stop or a halt of the present cycle changed, kept so that a fault of the same cycle can drop it (02 R41, 16
R407): when, the fields of `undoFlds` before it, the six queues before it. -/
structure Undo where
  time : Nat := 0
  flds : List Nat := []
  queues : List (List QEntry) := []
deriving DecidableEq, Repr

/-- A parcel's issue position and pending transitions. -/
structure Parcel where
  /-- The next stream word. -/
  pc : Nat := 0
  /-- PCT_START written: RUN at the next tick boundary (02 R42). -/
  armed : Bool := false
  /-- An engine has failed: STOPPED once quiet (02 R40); when, for the same-cycle rule (R41). -/
  faulted : Bool := false
  faultAt : Nat := 0
  /-- END has issued (04 R106). -/
  ended : Bool := false
  /-- A REPLAY is draining toward this word (02 R52). -/
  replayTo : Option Nat := none
  /-- A PCT_STOP drain. -/
  stopping : Bool := false
  /-- PCT_STOP_NOW was written and its executing instructions are finishing. -/
  stopNow : Bool := false
  /-- A band fork is open (04 R108). -/
  forkOpen : Bool := false
  /-- Shadow writes held during the boundary copy, oldest first (02 R52). -/
  held : List (Nat × BitVec 64) := []
  loop : LoopNest := {}
  taper : Taper := {}
  /-- The plat's wheel, shown while no override is in force (02 R49). -/
  platWheel : BitVec 48 := 0xA20210608408
  /-- Tensor and vector busy cycles in this window and the one before (14 R358). -/
  busy : Nat := 0
  busyPrev : Nat := 0
  /-- A single step is pending (16 R407). -/
  stepping : Bool := false
  haltReq : Bool := false
  /-- Resumed at a breakpoint: the instruction there issues without halting again (16 R407). -/
  resumed : Bool := false
  /-- The engine whose stepped instruction has issued and not completed; when the parcel halted (16 R407). -/
  stepEng : Option Nat := none
  haltedAt : Option Nat := none
  /-- It stopped because its END completed (04 R106, 13 R347). -/
  byEnd : Bool := false
  /-- The stop or halt that a fault of its cycle would drop. -/
  undo : Option Undo := none
deriving DecidableEq, Repr

/-- One of a parcel's 64 receive tallies (04 R101). -/
structure Tally where
  count : Nat := 0
  last : Bool := false
deriving DecidableEq, Repr

/-- A registered waiter of a beacon (04 R92): the parcel, its BWAIT's number on the beacon unit, its need. -/
structure Waiter where
  parcel : Nat := 0
  seq : Nat := 0
  need : Nat := 0
deriving DecidableEq, Repr

/-- A beacon: its count and its waiters in registration order (04 R91, R93); whether a plat has assigned it
(08 R207) and its tract has not reset since: a beacon not assigned is the orphaned one of 08 R211. -/
structure Beacon where
  count : Nat := 0
  waiters : List Waiter := []
  assigned : Bool := false
deriving DecidableEq, Repr

/-- The kinds of beacon operation (04 R92). -/
inductive BeaconKind where
  | sig | wait | bcast | sub
deriving DecidableEq, Repr

/-- A beacon operation on its way to the home parcel. -/
structure BeaconOp where
  kind : BeaconKind := .sig
  parcel : Nat := 0
  seq : Nat := 0
  beacon : Nat := 0
  amount : Nat := 0
deriving DecidableEq, Repr

/-- A line written to a tier by a move (07 R176, R177): its order among all tier requests, the writing
parcel, the move's number on the engine, the line's address, the bytes it changes as (offset, byte),
whether its old contents must be read first (a partial write, R165), whether the controller has accepted
it, and its order among accepted writes. -/
structure TierWrite where
  ord : Nat := 0
  parcel : Nat := 0
  seq : Nat := 0
  line : Nat := 0
  bytes : List (Nat × Byte) := []
  needRead : Bool := false
  accepted : Bool := false
  accOrd : Nat := 0
  /-- An unplanned refresh window has deferred it, and the deferral is counted (07 R164). -/
  deferred : Bool := false
deriving DecidableEq, Repr

/-- A line read waiting at a tier controller (07 R159), and its data once its position has served it
(R162); `bad` where it read as uncorrectable. -/
structure TierRead where
  ord : Nat := 0
  parcel : Nat := 0
  seq : Nat := 0
  line : Nat := 0
  data : Option (List Byte) := none
  bad : Bool := false
  /-- An unplanned refresh window has deferred it, and the deferral is counted (07 R164). -/
  deferred : Bool := false
deriving DecidableEq, Repr

/-- A write to a calendar entry, in force from the tick after the one it was made in (07 R179). -/
structure CalWrite where
  key : Nat := 0
  entry : BitVec 16 := 0
  tick : Nat := 0
deriving DecidableEq, Repr

/-- A controller's own working state: lines served in its current and preceding tick (the load signature,
07 R171), armed injections (R428), the scrubber's rewrites waiting for write positions (R169). -/
structure TierCtl where
  tick : Nat := 0
  served : Nat := 0
  servedPrev : Nat := 0
  armCe : Bool := false
  armUe : Bool := false
  rewrites : List Nat := []
  /-- The scrubber's next line has been deferred by an unplanned refresh window, and that is counted (R164). -/
  scrubDeferred : Bool := false
  /-- The tick of the last change of the planned refresh mode, and the mode in force through that tick (R179). -/
  oldMode : Option (Nat × Nat) := none
  /-- The refresh window begun last: bank index and cycle (R163). -/
  refresh : Option (Nat × Nat) := none
deriving DecidableEq, Repr

/-! ### Configuration of tracts (15 R369) -/

/-- A tract's entry of the configuration record, as far as the registers do not hold it: position shares
[first, first + count) of HBM and DDR5 lanes (07 R160), HBM granules and stacks, DDR5 region list (07 R172),
serve sessions. -/
structure TractCfg where
  hbmPosFirst : Nat := 0
  hbmPosCount : Nat := 0
  ddrPosFirst : Nat := 0
  ddrPosCount : Nat := 0
  hbmFirst : Nat := 0
  hbmCount : Nat := 0
  hbmStacks : Nat := 0
  /-- (channel, first granule, granules). -/
  ddr : List (Nat × Nat × Nat) := []
  sessions : Nat := 0
deriving DecidableEq, Repr

/-! ### Townships and tracts (08) -/

/-- A freeze in force on a township (08 R201): its cause (0 refresh overrun, 1 link-retry overrun), what ends
it (the tier request's order, or the packet's number), and when it began. -/
structure Freeze where
  cause : Nat := 0
  key : Nat := 0
  began : Nat := 0
deriving DecidableEq, Repr

/-- A township's plan time (08 R198 to R203): the tick of its last gate, its lag there, freezes in force, the
time up to which freeze cycles are accounted, and the cycles accounted to the coming or running window. -/
structure Town where
  tick : Option Nat := none
  lag : Nat := 0
  freezes : List Freeze := []
  mark : Nat := 0
  refreshCyc : Nat := 0
  retryCyc : Nat := 0
  /-- Freeze cycles inside the window itself. -/
  inWindow : Nat := 0
  /-- The islands's clock runs (09 R219). -/
  clocked : Bool := false
  /-- It stopped on a clock fault (14 R355, R364). -/
  clockFault : Bool := false
  /-- The period in ps that cap stretch gives it, apart from droop (17 R416). -/
  period : Nat := 1000
  /-- The crossing delay of the last gate, in ns; it counts with droop (08 R203, 09 R225). -/
  cross : Nat := 0
  /-- Since when a drooping supply has stayed above its threshold (09 R222). -/
  above : Option Nat := none
deriving DecidableEq, Repr

/-- A route-table entry (11 R278), its destination turned into a hall coordinate. -/
structure Route where
  srcFold : Nat := 0
  link : Nat := 0
  vc : Nat := 0
  cls : Nat := 0
  dest : Nat := 0
  destFold : Nat := 0
  slots : List Nat := []
deriving DecidableEq, Repr

/-- A collective entry (11 R279). -/
structure CollEntry where
  parts : Nat := 1
  pos : Nat := 0
  ring : Bool := false
  tallyBase : Nat := 0
  tallyN : Nat := 1
  deadline : Nat := 1
  routeFirst : Nat := 0
  routeN : Nat := 0
  ticks : Nat := 0
deriving DecidableEq, Repr

/-- A tract's load and job (08 R185 to R197). -/
structure Tract where
  /-- The load step in progress (08 R194), 0 when none. -/
  stage : Nat := 0
  /-- TRC_START accepted (08 R196). -/
  armed : Bool := false
  job : Nat := 0
  epoch : Nat := 0
  stepStart : Nat := 0
  startTick : Nat := 0
  /-- Index of the loaded variant and this module's fold module. -/
  variant : Nat := 0
  foldModule : Nat := 0
  foldCoord : List Nat := []
  /-- The landing map: physical parcel of each fold parcel (08 R188). -/
  landing : List Nat := []
  /-- Entries of the tract's range of the module beacon map (08 R207). -/
  bmapN : Nat := 0
  /-- Installed route table, collective entries (11 R278, R279), step templates and benchmark layout (raw bytes). -/
  routes : List Route := []
  colls : List CollEntry := []
  templates : List Byte := []
  benchLayout : List Byte := []
  /-- Hall coordinate of each fold module of the job. -/
  members : List Nat := []
  /-- Tier segments of the placement table: address and length (08 R190). -/
  segs : List (Nat × Nat) := []
  /-- What step 6 of the load leaves in place, as address and length: kept sheets and, in a recovery load, the benchmark
  area (08 R194, 13 R336). -/
  kept : List (Nat × Nat) := []
  /-- FX, FY, FZ of the mapping record (08 R185). -/
  foldGrid : List Nat := []
  /-- The plat comes as lantern requests of operation 2, and what has come of it (13 R344). -/
  bcast : Bool := false
  chunks : List Byte := []
  /-- A TRC_LOAD written during a firmware handover waits for its end (15 R381). -/
  loadHeld : Bool := false
  /-- RESTORE_STEP and RESTORE_ADDR of the start message (13 R336). -/
  restore : Option Nat := none
  restoreAddr : Nat := 0
  /-- STOP_STEP of the start message (13 R325). -/
  stopStep : Option Nat := none
  /-- The datum time at which a transition that is no command last changed the state, and the state it
  left (08 R193: in the same cycle it wins over a command). -/
  won : Option (Nat × Nat) := none
  /-- The datum time at which the tract went dark, with the state and the load step that it left (08 R193: DARK comes last among
  the transitions of a cycle). -/
  darkFrom : Option (Nat × Nat × Nat) := none
  /-- A serve-mode tract that uses a RETIRING controller: once it runs it stops at its next step boundary (01 R18). -/
  retiring : Bool := false
  /-- The lost lantern cores of which the tract's request tracking has taken note, at its last step boundary (01 R18). -/
  trackLost : Nat := 0
deriving DecidableEq, Repr

/-! ### Datum time (09) -/

/-- The datum keeper's own working state: the value management asked to set at the next pulse edge (09 R227),
when the current holdover began and whether its limit has passed (R221), the frequency trim, the slew still to
remove in units of 2^-16 ns per cycle over one tick (R228), the tick of the last exchange started per link, and
the spine's droop response (R222). -/
structure Clk where
  setAt : Option Nat := none
  holdSince : Option Nat := none
  limitHit : Bool := false
  freqTrim : Int := 0
  slew : Int := 0
  exchTick : Tab Nat := []
  spineDroop : Bool := false
  spinePeriod : Nat := 1000
  /-- Since when the spine's supply has stayed above its threshold (R222). -/
  spineAbove : Option Nat := none
  /-- The parent link has dropped out of lock, and the hall manager has named no new one (R229). -/
  parentLost : Bool := false
  /-- One plus the tick counted last in PWR_CAP_TICKS (17 R423). -/
  capTick : Nat := 0
deriving DecidableEq, Repr

/-! ### Functional safety (14) -/

/-- A safety record (14 R358). -/
structure SafeRec where
  tick : Nat := 0
  kind : Nat := 0
  status : Nat := 0
  unit : Nat := 0
  temp : Nat := 0
  flags : Nat := 0
  load : Nat := 0
  tag : Nat := 0
  cmd : Nat := 0
  line : Nat := 0
deriving DecidableEq, Repr

/-- The latest memory error record of a parcel (07 R171): the line, its bank, the class, the township's temperature, the load
signature, the wheel owner of the phase, the tick. -/
structure PmemErr where
  line : Nat := 0
  bank : Nat := 0
  uncor : Bool := false
  temp : Nat := 0
  load : Nat := 0
  owner : Nat := 0
  tick : Nat := 0
deriving DecidableEq, Repr

/-- Lines that a parcel memory served in the tick named and in the one before it (07 R171). -/
structure PmemLoad where
  tick : Nat := 0
  served : Nat := 0
  prev : Nat := 0
deriving DecidableEq, Repr

/-- The safety monitor: the ring of 4,096 records by slot and the number of the next (14 R358), the datum times of
each parcel's counted errors, marks and hard failures (R359), the period whose test each parcel missed last (R353,
plus one), reruns left and whether one failed (R354), each core's last kick (R357), the heartbeat's time (R356),
sensor readings per township with 32 for the spine (R349), when the module went dark (R363), parcels whose errors carry a drill's mark
(R343), and whether the power stage's hazard latch holds a cause (R364). -/
structure Safety where
  log : Tab SafeRec := []
  next : Nat := 0
  counted : Tab (List Nat) := []
  marked : Tab Bool := []
  hard : Tab Bool := []
  lastTick : Tab Nat := []
  missed : Tab Nat := []
  reruns : Tab Nat := []
  rerunTick : Tab Nat := []
  tested : Tab Nat := []
  kicks : Tab Nat := []
  heartbeat : Nat := 0
  temps : Tab Nat := []
  darkAt : Option Nat := none
  drilled : Tab Bool := []
  pmem : Tab PmemErr := []
  hazard : Nat := 0
deriving DecidableEq, Repr

/-! ### Links and fabric (10, 11) -/

/-- A packet (11 R257): its header fields and payload. `sp` holds header bytes 48 to 59, little-endian. -/
structure Pkt where
  kind : Nat := 0
  version : Nat := 0
  vc : Nat := 0
  cls : Nat := 0
  flags : Nat := 0
  job : Nat := 0
  epoch : Nat := 0
  seq : Nat := 0
  dest : Nat := 0
  hops : Nat := 0
  src : Nat := 0
  dparcel : Nat := 0
  tally : Nat := 0
  slot : Nat := 0
  offset : Nat := 0
  len : Nat := 0
  tick : Nat := 0
  dslot : Nat := 0
  credit : Nat := 0
  dseq : Nat := 0
  sp : Nat := 0
  payload : List Byte := []
deriving DecidableEq, Repr

/-- A control unit (10 R251): its kind and its fields in the order of the table. -/
structure Ctl where
  kind : Nat := 0
  args : List Nat := []
deriving DecidableEq, Repr

/-- One physical lane of one direction (10 R239, R254, R255). -/
structure Lane where
  role : Nat := 21
  /-- The logical lane that a mirror copies. -/
  mirrors : Nat := 0
  /-- LNK_SYM_ERR, the codewords with corrected symbols among the last 2^20 that it sums (index and symbols), the codewords decoded,
  and whether each of the last two was uncorrectable (10 R243). -/
  symErr : Nat := 0
  errLog : List (Nat × Nat) := []
  words : Nat := 0
  lastBad : List Bool := []
  margin : Nat := 0
  calAt : Option Nat := none
  taps : Nat := 0
  ctle : Nat := 0
  dfe1 : Nat := 0
  /-- The 32 FFE taps, and the codeword index of the last adaptive update (10 R240). -/
  ffe : List Nat := []
  adaptAt : Option Nat := none
  gain : Nat := 0
  cdr : Nat := 0
  ppm : Nat := 0
  ovrTaps : Nat := 0
  ovrTx : Bool := false
  frozen : Bool := false
deriving DecidableEq, Repr

/-- A rolling step or a re-test in progress (10 R241, R247): logical lane, mirror lane, start, whether verify has
passed, failed verifies, failed scans. -/
structure Roll where
  logical : Nat := 0
  mirror : Nat := 31
  began : Nat := 0
  verified : Bool := false
  badVerify : Nat := 0
  badScan : Nat := 0
deriving DecidableEq, Repr

/-- What a lane of a direction does from a named codeword on (10 R241, R244): lane f mirrors logical lane i, lane j is released for
calibration, lane j carries parity, lane f carries logical lane i. -/
inductive LaneOp where
  | mirror (i f : Nat)
  | calib (j : Nat)
  | parity (j : Nat)
  | data (i f : Nat)
deriving DecidableEq, Repr

/-- A lane operation and the codeword index that it waits for. -/
structure LaneAct where
  cw : Nat
  op : LaneOp
deriving DecidableEq, Repr

/-- A change of a direction's striping agreed for a tick (10 R246, R247): data lanes in logical order, the lane
that carries parity (31 none). -/
structure LaneChange where
  tick : Nat := 0
  lanes : List Nat := []
  parity : Nat := 31
deriving DecidableEq, Repr

/-- One link's own working state (10 R248 to R252, 11 R265 to R268, R275, R282). -/
structure Link where
  /-- Sequence number of the next packet sent. -/
  nextSeq : Nat := 0
  /-- Packets sent and not acknowledged, oldest first, with the datum time each was first sent. -/
  replayBuf : List (Nat × Pkt) := []
  /-- Sequence numbers named for replay, oldest first; failures of each so far. -/
  replayQ : List Nat := []
  fails : List (Nat × Nat) := []
  /-- Control units, datum units and lantern packets waiting for slack units. -/
  ctlQ : List Ctl := []
  datumQ : List Ctl := []
  mgmtQ : List Pkt := []
  mgmtTick : Nat := 0
  mgmtUsed : Nat := 0
  /-- Credits spent on VC 6 to 8, and entries freed and not yet returned. -/
  spent : Tab Nat := []
  freed : Tab Nat := []
  /-- Receiving: all sequence numbers below this one came intact; others that came; the largest seen plus one. -/
  rxNext : Nat := 0
  rxGot : List Nat := []
  rxTop : Nat := 0
  /-- The tick in which a packet last came intact, and the numbers skipped and named for replay, each with the ticks between
  which its slot lay (10 R249). -/
  rxTick : Nat := 0
  gaps : List (Nat × Nat × Nat) := []
  rxChange : Option LaneChange := none
  txChange : Option LaneChange := none
  roll : Option Roll := none
  /-- The lane being re-tested, and whether it has failed one margin scan. -/
  retest : Option Nat := none
  retestBad : Bool := false
  rollLast : Nat := 0
  /-- Lane operations that wait for their codewords, oldest first, receiving and sending. -/
  rxActs : List LaneAct := []
  txActs : List LaneAct := []
  /-- The direction sent has trained over 12 to 15 lanes and waits for the far end's DEGRADE (10 R252). -/
  txWait : Bool := false
  /-- When each direction finished training, from which its codeword index counts (10 R234), and whether it trained from DOWN. -/
  rxTrained : Nat := 0
  txTrained : Nat := 0
  rxFresh : Bool := true
  txFresh : Bool := true
  tries : Nat := 0
  injCw : Option Nat := none
  injCrc : Bool := false
  /-- Detour of the direction sent: queue, the tick it starts in, the tick it ends in. -/
  detQ : List Pkt := []
  detFrom : Option Nat := none
  detTo : Option Nat := none
  /-- Packets received since sampling began. -/
  samples : Nat := 0
  /-- When the last ACK was sent. -/
  ackAt : Nat := 0
  /-- The unit sent last, byte by byte. -/
  last : List Byte := []
  /-- The stream sent: bytes of units not yet in a codeword, the codeword times formed, each logical lane's scrambler (its index to
  its register), and the scrambled data symbols of each logical lane in the last codeword time (10 R234, R235). -/
  txStream : List Byte := []
  txWords : Nat := 0
  txScram : Tab (BitVec 58) := []
  wire : List (List Nat) := []
  /-- The stream received: bytes not yet in a unit, each with whether its codeword was good, each logical lane's scrambler, and the
  alignment markers of the last fill unit (10 R236). -/
  rxStream : List (Byte × Bool) := []
  rxScram : Tab (BitVec 58) := []
  marker : List Byte := []
deriving DecidableEq, Repr

/-- An owner-table entry (11 R261, R271 to R274). -/
structure Owner where
  job : Nat := 0
  epoch : Nat := 0
  state : Nat := 0
  tract : Option Nat := none
  nextJob : Nat := 0
  nextEpoch : Nat := 0
  /-- The far end's DRAINED stone has come, and the next owner it names. -/
  farDrained : Bool := false
  farJob : Nat := 0
  farEpoch : Nat := 0
  myTick : Option Nat := none
  farTick : Option Nat := none
  since : Nat := 0
  /-- What its plat installed on the link: the tick from which its entries are in force (08 R194), the flight time that they assume
  (11 R264), and the detour of the direction sent, first link and slots (R266). -/
  inForce : Nat := 0
  flight : Nat := 0
  detLink : Nat := 7
  detSlots : List Nat := []
deriving DecidableEq, Repr

/-- An easement grant (11 R270): in force, and a write that takes effect at a tick. -/
structure Grant where
  owner : Nat := 0
  valid : Bool := false
  newOwner : Nat := 0
  newValid : Bool := false
  tick : Nat := 0
deriving DecidableEq, Repr

/-- A sample record that waits for a KIND 4 position (11 R282): its link, its bytes, the tick of its sample, and whether a refresh
window has deferred it. -/
structure Sample where
  link : Nat := 0
  bytes : List Byte := []
  tick : Nat := 0
  deferred : Bool := false
deriving DecidableEq, Repr

/-- A packet held for its onward slot (11 R264), or late (R265): where it came in (6 for this module's own), its
onward link and slot, the datum time its slot comes no earlier than, and the tick of its original slot. -/
structure Held where
  pkt : Pkt := {}
  inLink : Nat := 6
  link : Nat := 0
  slot : Nat := 0
  due : Nat := 0
  origTick : Nat := 0
deriving DecidableEq, Repr

/-- A packet accepted for a parcel of this module and not yet written (11 R264): its tract, its parcel, and its
number as a retry overrun names it: eight times its sequence number on the link it came on, plus that link. -/
structure Arrival where
  pkt : Pkt := {}
  tract : Nat := 0
  parcel : Nat := 0
  num : Nat := 0
deriving DecidableEq, Repr

/-- A packet a parcel has cut and not yet sent (04 R100): the instruction that sends it, its route's link and
slots, its earliest tick and slot, when its payload is ready, whether it is the instruction's last. -/
structure TxPkt where
  parcel : Nat := 0
  seq : Nat := 0
  pkt : Pkt := {}
  link : Nat := 0
  slots : List Nat := []
  tick : Nat := 0
  slot : Nat := 0
  ready : Nat := 0
  final : Bool := false
deriving DecidableEq, Repr

/-- A collective packet received by a parcel (11 R281): its payload. -/
structure CollRx where
  parcel : Nat := 0
  entry : Nat := 0
  sender : Nat := 0
  level : Nat := 0
  chunk : Nat := 0
  grid : Int := 0
  tally : Nat := 0
  bytes : List Byte := []
deriving DecidableEq, Repr

/-- An XCOLL in progress: the parcel, its instruction's number and the collective's entry; kind, format, word form and grid; its
own word count; the value combined so far, the contributions combined into it, and whether it has gone up. -/
structure Coll where
  parcel : Nat := 0
  seq : Nat := 0
  entry : Nat := 0
  kind : Nat := 0
  fmt : Nat := 0
  form : Nat := 0
  grid : Int := 0
  count : Nat := 0
  acc : List Int := []
  combined : Nat := 0
  sentUp : Bool := false
  flags : Nat := 0
deriving DecidableEq, Repr
/-! ### Job starts (13 R344 to R347) -/

/-- A child of this module in a job's start tree: its hall coordinate, when the start message went to it, the
request's transaction number, and what it has answered. -/
structure Child where
  coord : Nat := 0
  sentAt : Option Nat := none
  trans : Nat := 0
  acked : Bool := false
  ready : Bool := false
  finished : Bool := false
deriving DecidableEq, Repr

/-- A job's start at this module: the message accepted, the tree around the module, and at the root the job state
word with the time of its last transition and the word before it. -/
structure JobRec where
  epoch : Nat := 0
  tract : Nat := 0
  root : Bool := false
  parent : Nat := 0
  msg : List Byte := []
  word : Nat := 0
  wordPrev : Nat := 0
  wordAt : Nat := 0
  children : List Child := []
  /-- Since when a child's message waits for its link (R345). -/
  heldSince : Option Nat := none
  readySent : Bool := false
  doneSent : Bool := false
  /-- The tick of GO. -/
  go : Option Nat := none
deriving DecidableEq, Repr

/-! ### Birvox attach (16 R387 to R395) -/

/-- A message on Birvox attach (16 R388). -/
structure AttMsg where
  typ : Nat := 0
  vc : Nat := 0
  tag : Nat := 0
  lines : Nat := 0
  status : Nat := 0
  credit : Nat := 0
  addr : Nat := 0
  sizeLog : Nat := 0
  mask : Nat := 2 ^ 64 - 1
  vector : Nat := 0
  data : List Byte := []
deriving DecidableEq, Repr

/-- A read of the companion aperture that waits for its completion. -/
structure AttRead where
  tag : Nat := 0
  addr : Nat := 0
  len : Nat := 0
deriving DecidableEq, Repr

/-- A report (16 R393). -/
structure Report where
  kind : Nat := 0
  status : Nat := 0
  tract : Nat := 0
  job : Nat := 0
  epoch : Nat := 0
  step : Nat := 0
  rest : List Byte := []
deriving DecidableEq, Repr

/-- The attach link's working state: messages generated that have not left for want of credit or of a link; the last
1,024 sent, the replay buffer (16 R387); credits spent and entries to return per VC; reads outstanding; the tick plus
one in which each INT vector was last raised (R394); lanes that failed; whether the link has been trained; ring
positions of the two queues, counted without wrapping (R392, R393); reports waiting in lantern SRAM. -/
structure Attach where
  out : List AttMsg := []
  sent : List AttMsg := []
  spent : Tab Nat := []
  freed : Tab Nat := []
  reads : List AttRead := []
  nextTag : Nat := 0
  intTick : Tab Nat := []
  badLanes : List Nat := []
  trained : Bool := false
  cmdHead : Nat := 0
  cmdTail : Nat := 0
  rptTail : Nat := 0
  rptHead : Nat := 0
  reports : List Report := []
deriving DecidableEq, Repr

/-! ### Benchmarks and drills (13 R331, R341 to R343) -/

/-- What firmware keeps of a loaded job to digest its benchmarks, a tract reset included (13 R331). -/
structure BenchCtx where
  job : Nat := 0
  epoch : Nat := 0
  fm : Nat := 0
  every : Nat := 0
  base : Nat := 0
  layout : List Byte := []
deriving DecidableEq, Repr

/-- A drill in progress: its kind and tract, the benchmark s' it waits for again, and the digests of s' kept. -/
structure Drill where
  kind : Nat := 0
  tract : Nat := 0
  step : Nat := 0
  digests : List Byte := []
deriving DecidableEq, Repr

/-! ### Start-up, firmware, management, identity (15, 16) -/

/-- The module's own start and change procedures: the start in progress (0 none, 1 cold, 2 warm) and its step
(15 R373, R375); step of a firmware handover, 0 none (R381); the re-test in progress (R379), with tests passed; the
configuration section in force, its tract entries as they took effect, and one adopted (R378), their bytes; which half of lantern SRAM the running image holds (R381); the recovery image runs (R383). -/
structure Boot where
  kind : Nat := 0
  step : Nat := 0
  handover : Nat := 0
  retest : Option Nat := none
  retestPassed : Nat := 0
  cfgSection : List Byte := []
  adopted : List Byte := []
  coordOk : Bool := false
  /-- SHA-384 of the firmware image in force. -/
  fwDigest : List Byte := []
  recoveryRuns : Bool := false
  half : Nat := 0
  /-- The firmware image in flash was being written when the module stopped: it fails its signature (15 R382). -/
  torn : Bool := false
  /-- Datum time of each drill kind's last run. -/
  drillAt : Tab Nat := []
deriving DecidableEq, Repr

/-- A request for an attestation report: its nonce, and whether it came through the registers. -/
structure AttReq where
  nonce : List Byte := []
  viaReg : Bool := false
deriving DecidableEq, Repr

/-- The management interface and attestation (16 R396 to R402): the status of the last write command, the bytes the last
read returned, the coordinate fields as written, requests in order, the report finished last for ATTEST_READ. -/
structure Mgmt where
  lastResult : Nat := 0
  lastBlock : List Byte := []
  coordBytes : List Byte := []
  attReqs : List AttReq := []
  attReport : List Byte := []
deriving DecidableEq, Repr

/-! ### Debug port (16 R405 to R410) -/

/-- The TAP: the instruction that acts, what the last scan shifted out, the boundary register preloaded, the pins it drives,
the DBGACC result waiting for its capture, the token challenge. -/
structure Tap where
  ir : Nat := 1
  out : Nat := 0
  preload : List Bool := []
  pins : Option (List Bool) := none
  accData : Nat := 0
  accStatus : Nat := 0
  bypass : Bool := false
  challenge : List Byte := []
deriving DecidableEq, Repr

/-- A lantern core as its debugger sees it (16 R409): halted, the registers a debugger has written while it is. -/
structure Hart where
  halted : Bool := false
  resumeAck : Bool := false
  haveReset : Bool := false
  regs : Tab (BitVec 64) := []
  triggers : Tab Nat := []
deriving DecidableEq, Repr

/-- The RISC-V debug module (16 R409): its registers by DMI address, the result of the last access, four harts. -/
structure DebugModule where
  regs : Tab Nat := []
  data : Nat := 0
  stat : Nat := 0
  harts : Tab Hart := []
deriving DecidableEq, Repr

/-! ### Serve mode (12) -/

/-- A completion entry (12 R300). -/
structure CplEntry where
  kind : Nat := 0
  status : Nat := 0
  n : Nat := 0
  tag : Nat := 0
  handle : Nat := 0
  total : Nat := 0
  step : Nat := 0
deriving DecidableEq, Repr

/-- A ring (12 R298): its block's fields, its queue positions counted without wrapping, and entries that wait for room. -/
structure Ring where
  isOpen : Bool := false
  closing : Bool := false
  sqBase : Nat := 0
  cqBase : Nat := 0
  headWb : Nat := 0
  sqLog : Nat := 6
  cqLog : Nat := 6
  flags : Nat := 0
  acct : Nat := 0
  idleTtl : Nat := 0
  parkTtl : Nat := 0
  sqHead : Nat := 0
  sqTail : Nat := 0
  cqTail : Nat := 0
  cqHead : Nat := 0
  waiting : List CplEntry := []
deriving DecidableEq, Repr

/-- An account (12 R309). -/
structure Acct where
  isOpen : Bool := false
  closing : Bool := false
  tract : Nat := 0
  rate : Nat := 0
  burst : Nat := 0
  bucket : Nat := 0
deriving DecidableEq, Repr

/-- A request (12 R299): its submission entry's fields, the tokens of its prompt, and what has come of it. -/
structure SrvReq where
  tag : Nat := 0
  flags : Nat := 0
  promptTokens : Nat := 0
  promptAddr : Nat := 0
  outAddr : Nat := 0
  maxNew : Nat := 0
  temp : Nat := 0
  topP : Nat := 0
  topK : Nat := 0
  draftK : Nat := 0
  seed : Nat := 0
  stop0 : Nat := 0
  stop1 : Nat := 0
  /-- Tokens delivered; prompt positions placed; the session's length before the prompt. -/
  total : Nat := 0
  placed : Nat := 0
  base : Nat := 0
  /-- The prompt's copy into the staging segment is complete; its offset there. -/
  staged : Bool := false
  stageOff : Nat := 0
  /-- It came by SUBMIT. -/
  submit : Bool := false
  /-- Its prompt read uncorrectable (R319). -/
  bad : Bool := false
  /-- A BUDGET_DEFERRED notice has been given since it last ran. -/
  noticed : Bool := false
deriving DecidableEq, Repr

/-- A session (12 R303): `tokens` are the tokens it holds. -/
structure Sess where
  state : Nat := 0
  gen : Nat := 0
  ring : Nat := 0
  /-- The tract whose page state its pages are in. -/
  tract : Nat := 0
  tokens : List Nat := []
  req : Option SrvReq := none
  /-- APPENDs held until the session is IDLE, oldest first (12 R303). -/
  held : List SrvReq := []
  /-- Its request's place in admission order; admitted; HBM slots reserved and not yet allocated (R304). -/
  order : Nat := 0
  admitted : Bool := false
  reserved : Nat := 0
  k : Nat := 0
  /-- Offered and accepted drafts of the last eight verify entries, newest first; steps spent at k = 0. -/
  drafts : List (Nat × Nat) := []
  zeroSteps : Nat := 0
  /-- A pending snuff: the tags to answer; those of them that asked for release. -/
  snuff : List Nat := []
  releasing : Bool := false
  idleAt : Nat := 0
  parkedAt : Nat := 0
  expired : Bool := false
  /-- A page operation to go into the next record: 0 none, 4 PARK, 5 UNPARK; modules that have reported the move (12 R297). -/
  opDue : Nat := 0
  reported : Nat := 0
  /-- Its history is rebuilt after a recovery, so many positions so far, staged at an offset (13 R340). -/
  rebuild : Bool := false
  rebuilt : Nat := 0
  rebuildOff : Nat := 0
  /-- Its pages are released at the next step's commit (12 R307). -/
  releaseDue : Bool := false
deriving DecidableEq, Repr

/-- A page-table entry (12 R307). -/
structure PageEnt where
  slot : Nat := 0
  ddr : Bool := false
  shared : Bool := false
  fill : Nat := 0
  node : Nat := 0
deriving DecidableEq, Repr

/-- A prefix node (12 R308). -/
structure PNode where
  used : Bool := false
  parent : Nat := 0xFFFFFFFF
  slot : Nat := 0
  refs : Nat := 0
  scope : Nat := 0
  lastUse : Nat := 0
  tokens : List Nat := []
deriving DecidableEq, Repr

/-- A row entry (12 R293). -/
structure RowEnt where
  sess : Nat := 0
  kind : Nat := 0
  last : Bool := false
  count : Nat := 0
  k : Nat := 0
  pos : Nat := 0
  stageOff : Nat := 0
  temp : Nat := 0
  topP : Nat := 0
  topK : Nat := 0
  seed : Nat := 0
  acct : Nat := 0
  /-- The request's place in admission order. -/
  order : Nat := 0
  rebuild : Bool := false
  /-- Byte offset and entries of its page list. -/
  pages : Nat := 0
  pageN : Nat := 0
deriving DecidableEq, Repr

/-- A page operation (12 R297), and what it makes of its prefix node beyond its 64 bits: LAST_USE, and by an INSERT the scope and the
tokens (R308). -/
structure PageOp where
  op : Nat := 0
  sess : Nat := 0
  page : Nat := 0
  slot : Nat := 0
  lastUse : Nat := 0
  scope : Nat := 0
  tokens : List Nat := []
deriving DecidableEq, Repr

/-- The page state of a tract (12 R287): page tables by session, prefix nodes. A slot that neither names is free. -/
structure PageState where
  pages : Tab (List PageEnt) := []
  nodes : Tab PNode := []
deriving DecidableEq, Repr

/-- What a commit delivers, held until the journal entry is safe (13 R339): token writes and completion entries by ring;
journal requests not yet answered. -/
structure Delivery where
  tokens : List (Nat × Nat) := []
  entries : List (Nat × CplEntry) := []
  left : Nat := 0
deriving DecidableEq, Repr

/-- A serving instance at this module: segments (serve, HBM KV, DDR5 KV, staging); the composer's round-robin pointer, ratio
template and compositions left before it may change; the rows of the step whose outcome comes next and of the step after it;
page state; whether composition has stopped on a fault; sessions whose park or unpark this module moves; the step composed
last; the step record applied last; an immediate stop asked for; a drain under way; the number of the next admission; page
operations of the last record, not yet applied; deliveries that wait; the journal's place; handles whose requests the last
commit ended. -/
structure Srv where
  segs : List (Nat × Nat) := []
  pointer : Nat := 0
  ratio : Nat := 0
  hold : Nat := 0
  rowsNow : List RowEnt := []
  rowsNext : List RowEnt := []
  composed : Option Nat := none
  ps : PageState := {}
  faulted : Bool := false
  moves : List (Nat × Bool) := []
  applied : Option Nat := none
  stopNow : Bool := false
  draining : Bool := false
  orderNext : Nat := 0
  ops : List PageOp := []
  outbox : List Delivery := []
  journalOff : Nat := 0
  ended : List Nat := []
deriving DecidableEq, Repr

/-! ### The whole state -/

/-- The module. -/
structure State where
  /-- The commands waiting, first in first out. -/
  pending : List Instr := []
  /-- The model's own counter from which free values are drawn (DESIGN CHOICE, log entry 4). -/
  freeCtr : Nat := 0
  /-- Datum time in nanoseconds (09 R224). -/
  datum : Nat := 0
  /-- Its fraction in units of 2^-16 ns (09 R224). -/
  datumFrac : Nat := 0
  /-- Every register field: number of the field times 1,024 plus its unit. -/
  regs : Tab Nat := []
  /-- The module address map's memories (07 R153): bytes other than 0. -/
  mem : List Host.Cell := []
  /-- 64-bit words (by address divided by 8) that read as uncorrectable (07 R167, R170). -/
  uncorr : Tab Bool := []
  /-- 64-bit words that read with a corrected error (07 R167). -/
  correc : Tab Bool := []
  /-- Stream code memory: parcel times 8,192 plus word (02 R30). -/
  code : Tab Word128 := []
  /-- Descriptor tables: parcel times 1,024 plus number (02 R30). -/
  descs : Tab DescBits := []
  /-- Taper instruction memories: parcel times 65,536 plus offset (02 R50). -/
  imem : List Host.Cell := []
  /-- Live parameter registers: parcel times 256 plus number (02 R51). -/
  live : Tab (BitVec 64) := []
  /-- Shadow parameter registers. -/
  shadow : Tab (BitVec 64) := []
  /-- Dirty mask of the shadow bank. -/
  dirty : Tab Bool := []
  /-- Per parameter register: one plus the datum time at which the register interconnect last wrote it (02 R51). -/
  paramAt : Tab Nat := []
  /-- Wick registers: (parcel times 4,096 plus wick) times 32 plus register (02 R30). -/
  wregs : Tab (BitVec 32) := []
  /-- Wick predicates; unlisted is 1 (02 R31). -/
  preds : Tab Bool := []
  /-- Wick index registers. -/
  widx : Tab (BitVec 32) := []
  /-- Parcels' issue state. -/
  parcels : Tab Parcel := []
  /-- Engines: parcel times 8 plus engine. -/
  engines : Tab Engine := []
  /-- Receive tallies: parcel times 64 plus number. -/
  tallies : Tab Tally := []
  /-- Beacons by module number. -/
  beacons : Tab Beacon := []
  /-- Beacon operations on their way, in order of start. -/
  beaconOps : List BeaconOp := []
  /-- Tier writes of moves not yet visible to other agents, oldest first. -/
  tierWrites : List TierWrite := []
  /-- Tier line reads waiting at controllers, oldest first. -/
  tierReads : List TierRead := []
  /-- Per parcel: the moves that wrote tiers since its last release or fence: number, and bits 0 HBM, 1 DDR5 (04 R99). -/
  drained : Tab (List (Nat × Nat)) := []
  /-- Per township: the datum time at which its current plan window opened (08 R198, R199). -/
  gateAt : Tab Nat := []
  /-- Per township: its plan window runs (08 R198). -/
  windowOpen : Tab Bool := []
  /-- The signed disabled-unit map in force (00 R2, 15 R368). -/
  disabledMap : List Nat := []
  /-- Per parcel: an injected residue failure awaits the next checked pass (13 R341). -/
  residueArmed : Tab Bool := []
  /-- The number of tier requests and acceptances so far: their order (07 R159, R176). -/
  reqCtr : Nat := 0
  /-- Tier calendars in force (07 R158): (controller times 64 plus lane) times 2,048 plus position. -/
  cal : Tab (BitVec 16) := []
  /-- Calendar writes waiting for their tick, oldest first (07 R179). -/
  calWrites : List CalWrite := []
  /-- Per controller: load signature, armed injections, scrub rewrites. -/
  tierCtl : Tab TierCtl := []
  /-- Per parcel: lines its memory served (07 R171). -/
  pmemLoad : Tab PmemLoad := []
  /-- The next 2,048-byte block the patrol scrubber reads, 0 to 2,047 (07 R168). -/
  patrolPos : Nat := 0
  /-- The configuration record's entry of each tract, in force (15 R369). -/
  tractCfg : Tab TractCfg := []
  /-- Townships' plan time (08 R198 to R203). -/
  towns : Tab Town := []
  /-- Tracts' loads and jobs (08 R185 to R197). -/
  tracts : Tab Tract := []
  /-- Per parcel: the tick in which it last issued or advanced a counter (08 R204). -/
  lastAct : Tab Nat := []
  /-- Event bits by field and unit: one plus the datum time at which hardware last set them (00 R9). -/
  raisedAt : Tab Nat := []
  /-- Expert fields whose reset value a start gives, by field and unit: that value (00 R10, 08 R216). -/
  startVals : Tab Nat := []
  /-- What the last register read returned (00 R7). -/
  lastRead : BitVec 64 := 0
  /-- What the last read of the module address map by an outside agent returned (07 R153). -/
  lastData : List Byte := []
  /-- How the last access of the map by an outside agent ended (07 R154, R170): 0 OK, 1 refused, 2 uncorrectable, 3 address error.
  Of a lantern, 2 and 3 are access faults of its core. -/
  lastStat : Nat := 0
  /-- The datum keeper (09 R227 to R229). -/
  clk : Clk := {}
  /-- The safety monitor (14). -/
  safety : Safety := {}
  /-- The module's hall coordinate (16 R398). -/
  coord : Nat := 0
  /-- Links XP to ZN. -/
  links : Tab Link := []
  /-- Physical lanes: (link times 2 plus 1 for the direction sent) times 17 plus lane. -/
  lanes : Tab Lane := []
  /-- Cadastre entries in force (11 R260): (link times 2 plus 1 for the direction sent) times 2,048 plus slot. -/
  cad : Tab (BitVec 32) := []
  /-- Entries waiting for an owner to pass (11 R274). -/
  cadPend : Tab (BitVec 32) := []
  /-- 1 plus the index of the owner whose plat installed the entry in force. -/
  cadOwner : Tab Nat := []
  /-- 1 plus the index of the owner whose plat installed the waiting entry. -/
  cadPendOwner : Tab Nat := []
  /-- Alternate maps (11 R259): 1 plus the alternate slot; unlisted is none. Those of waiting entries wait with them. -/
  altMap : Tab Nat := []
  altPend : Tab Nat := []
  /-- Owner tables: link times 16 plus index. -/
  owners : Tab Owner := []
  /-- Easement grants: link times 16 plus group. -/
  grants : Tab Grant := []
  /-- Sample records that wait to be written, oldest first (11 R282). -/
  samples : List Sample := []
  /-- Reply buffers reserved in lantern SRAM (11 R275): the requester's coordinate and the transaction. -/
  replyBufs : List (Nat × Nat) := []
  /-- Packets held for their onward slots, in order of arrival. -/
  held : List Held := []
  /-- Late packets, oldest first (11 R265). -/
  late : List Held := []
  /-- Packets accepted and not yet written, oldest first. -/
  arrivals : List Arrival := []
  /-- The module beacon map (08 R207): the physical beacon of each entry plus one, 0 for none. -/
  beaconMap : Tab Nat := []
  /-- Lantern-class packets received and not yet consumed, with their links, oldest first (11 R263, R275). -/
  lanternIn : List (Nat × Pkt) := []
  /-- Packets cut by exchange engines, in order. -/
  txq : List TxPkt := []
  /-- Collective packets received and not yet combined. -/
  collRx : List CollRx := []
  /-- XCOLLs in progress. -/
  colls : List Coll := []
  /-- Job starts by job number (13 R344). -/
  jobs : Tab JobRec := []
  /-- The next transaction number of a lantern request (11 R257). -/
  transCtr : Nat := 0
  /-- Birvox attach (16 R387). -/
  att : Attach := {}
  /-- Start-up and in-service change (15). -/
  boot : Boot := {}
  /-- The configuration flash: bytes by flash offset; an unlisted byte is erased, 0xFF (15 R367). -/
  flash : Tab Byte := []
  /-- Management interface and attestation (16 R396). -/
  mgmt : Mgmt := {}
  /-- The debug TAP (16 R405). -/
  tap : Tap := {}
  /-- The lanterns' debug module (16 R409). -/
  dm : DebugModule := {}
  /-- Per tract: the loaded job's benchmark layout (13 R328, R331). -/
  bench : Tab BenchCtx := []
  /-- Drills in progress (13 R341). -/
  drills : List Drill := []
  /-- Per tract: the end tick of its open drill window (16 R392). -/
  drillWindows : Tab Nat := []
  /-- Serve rings (12 R298). -/
  rings : Tab Ring := []
  /-- Serve accounts (12 R309). -/
  accts : Tab Acct := []
  /-- Sessions by index (12 R303). -/
  sessions : Tab Sess := []
  /-- Serving instances by tract (12 R287). -/
  srv : Tab Srv := []
  /-- The serve command in progress: operation and index (12 R322). -/
  srvCmd : Option (Nat × Nat) := none
deriving DecidableEq, Repr

/-- The module right after power or module reset: every register field at its reset value (an unlisted
field reads as it), every memory and table empty. Log entries 1 to 7 say what the spec leaves open here. -/
def State.reset : State := {}

end Sys2Proof.Machine
end

