-- ==== Sys2Proof/Machine/Tab.lean ====
section
/-!
DEFINITION. Sparse tables: the one canonical form in which the model holds every memory and every
indexed store. A table lists (key, entry) pairs with strictly rising keys and no entry equal to
what an unlisted key reads as, so that equal contents are equal lists.
-/
namespace Sys2Proof.Machine

/-- What a table holds at a key; `d` is what an unlisted key reads as. -/
def tabGet {α : Type} (d : α) : Tab α → Nat → α
  | [], _ => d
  | (k, v) :: t, key => if k = key then v else tabGet d t key

/-- The table without any entry at `key`. -/
def tabErase {α : Type} : Tab α → Nat → Tab α
  | [], _ => []
  | (k, v) :: t, key => if k = key then tabErase t key else (k, v) :: tabErase t key

/-- The table with entry `v` listed at `key`, in key order. -/
def tabInsert {α : Type} : Tab α → Nat → α → Tab α
  | [], key, v => [(key, v)]
  | (k, w) :: t, key, v =>
    if k = key then (key, v) :: t
    else if key < k then (key, v) :: (k, w) :: t
    else (k, w) :: tabInsert t key v

/-- A write that keeps the canonical form: the default value removes the entry. -/
def tabPut {α : Type} [DecidableEq α] (d : α) (t : Tab α) (key : Nat) (v : α) : Tab α :=
  if v = d then tabErase t key else tabInsert t key v

/-- Every key in the half-open range reads as the default afterwards. -/
def tabClear {α : Type} (t : Tab α) (lo hi : Nat) : Tab α :=
  t.filter (fun kv => decide (kv.1 < lo ∨ hi ≤ kv.1))

/-- The keys rise strictly. -/
def tabSorted {α : Type} : Tab α → Bool
  | [] => true
  | [_] => true
  | (k, _) :: (k', v') :: t => decide (k < k') && tabSorted ((k', v') :: t)

/-- The canonical form of a table. -/
def tabWf {α : Type} [DecidableEq α] (d : α) (t : Tab α) : Bool :=
  tabSorted t && t.all (fun kv => decide (kv.2 ≠ d))

end Sys2Proof.Machine
end

