-- ==== Sys2Proof/Machine/Ops.lean ====
section
/-!
DEFINITION. The named operations over State that every meaning uses: register fields, memory, parcels,
wicks, free values.
-/
namespace Sys2Proof.Machine

/-- The outcome of a meaning: every command has an effect, so every meaning answers a next state. -/
def done (s : State) : Host.Outcome State Fault Refusal := .next s

/-! ### Register fields -/

/-- A field's key in the register table. -/
def fkey (f : Fld) (u : Nat) : Nat := f.idn * 1024 + u % 1024

/-- What a register field of unit u holds. -/
def State.fld (s : State) (f : Fld) (u : Nat) : Nat := tabGet f.rst s.regs (fkey f u)

/-- Hardware's write of a field: the low w bits of v. -/
def State.setFld (s : State) (f : Fld) (u v : Nat) : State :=
  { s with regs := tabPut f.rst s.regs (fkey f u) (v % 2 ^ f.w) }

/-- Whether a one-bit field is set. -/
def State.bit (s : State) (f : Fld) (u : Nat) : Bool := s.fld f u == 1

/-- Set a one-bit field (an event, a status bit); of an event bit the time is kept (00 R9). -/
def State.raise (s : State) (f : Fld) (u : Nat) : State :=
  { s.setFld f u 1 with raisedAt := if f.acc = .w1c then tabPut 0 s.raisedAt (fkey f u) (s.datum + 1) else s.raisedAt }

/-- Hardware sets an event bit in this cycle: a write that clears it in the same cycle leaves it set (00 R9). -/
def State.raisedNow (s : State) (f : Fld) (u : Nat) : Bool := tabGet 0 s.raisedAt (fkey f u) == s.datum + 1

/-- Count saturating at the field's largest value. -/
def State.count (s : State) (f : Fld) (u n : Nat) : State := s.setFld f u (satAdd f.w (s.fld f u) n)

/-- Write several fields of one unit. -/
def State.setFlds (s : State) (u : Nat) (l : List (Fld × Nat)) : State :=
  l.foldl (fun s fv => s.setFld fv.1 u fv.2) s

/-- A field of every unit in a list back at its reset value. -/
def State.resetFlds (s : State) (u : Nat) (l : List Fld) : State :=
  l.foldl (fun s f => s.setFld f u f.rst) s

/-- A block's base and the spacing of its units (07 R153). -/
def Blk.base : Blk → Nat × Nat
  | .mcb => (0x90000000, 0)
  | .idn => (0x90010000, 0)
  | .pwr => (0x90020000, 0)
  | .sfm => (0x90030000, 0)
  | .clk => (0x90040000, 0)
  | .cfg => (0x90050000, 0)
  | .dbg => (0x90060000, 0)
  | .att => (0x90070000, 0)
  | .srv => (0x90100000, 0)
  | .lnk => (0x90200000, 0x10000)
  | .xx => (0x90300000, 0x10000)
  | .trc => (0x90500000, 0x1000)
  | .twn => (0x90600000, 0x1000)
  | .pct => (0x91000000, 0x1000)

/-- Where unit u of a block begins; controllers 8 to 15 are the DDC blocks. -/
def Blk.unitBase (b : Blk) (u : Nat) : Nat :=
  match b with
  | .xx => if u < 8 then 0x90300000 + u * 0x10000 else 0x90400000 + (u - 8) * 0x10000
  | b => b.base.1 + u * b.base.2

/-- The address of the register that holds a field. -/
def fieldAddr (f : Fld) (u : Nat) : Nat := f.blk.unitBase u + f.off

/-- The expert-enable bit of a field is set; a field that is not an expert one is always open (00 R10, 15
R370). -/
def State.expertOpen (s : State) (f : Fld) : Bool :=
  match f.expert with
  | some b => bitAt (s.fld Reg.CFG_EXPERT_NOW 0) b
  | none => true

/-- The reset value of a field: for some, a value that the start gave (00 R10). -/
def State.startVal (s : State) (f : Fld) (u : Nat) : Nat := tabGet f.rst s.startVals (fkey f u)

/-- A start, or the adoption of a record, gives a field its reset value. -/
def State.setStart (s : State) (f : Fld) (u v : Nat) : State :=
  { s.setFld f u v with startVals := tabPut f.rst s.startVals (fkey f u) (v % 2 ^ f.w) }

/-- The value that a field's function runs under (00 R10): that of basic control, the reset value, where the function's expert-enable
bit is clear. -/
def State.ctl (s : State) (f : Fld) (u : Nat) : Nat := if s.expertOpen f then s.fld f u else s.startVal f u

/-! ### Free values -/

/-- Draw one free value: an opaque number, another at every draw (DESIGN CHOICE, log entry 4). -/
def State.draw (s : State) : Nat × State :=
  (Config.freeValue s.freeCtr, { s with freeCtr := s.freeCtr + 1 })

/-- Free bytes for n addresses, one draw each. -/
def State.freeBytes (s : State) (n : Nat) : List Byte × State :=
  ((List.range n).map (fun i => BitVec.ofNat 8 (Config.freeValue (s.freeCtr + i))),
   { s with freeCtr := s.freeCtr + n })

/-! ### The module address map (07 R153) -/

/-- Bytes of one parcel's memory. -/
def parcelSize : Nat := 0x400000
/-- Parcel p's memory window. -/
def parcelBase (p : Nat) : Nat := p * 0x400000
/-- Parcel p's taper data memory. -/
def taperBase (p : Nat) : Nat := 0x80000000 + p * 0x40000
/-- The start of HBM. -/
def hbmBase : Nat := 0x010000000000
/-- The start of DDR5. -/
def ddrBase : Nat := 0x020000000000
/-- The start of the companion aperture. -/
def apertureBase : Nat := 0x040000000000

/-- The address lies in some parcel's memory. -/
def inParcelMem (a : Nat) : Bool := decide (a < 0x80000000)
/-- The address lies in taper data memory. -/
def inTaperMem (a : Nat) : Bool := decide (0x80000000 ≤ a ∧ a < 0x88000000)
/-- The address lies in register space. -/
def inRegs (a : Nat) : Bool := decide (0x90000000 ≤ a ∧ a < 0xA0000000)
/-- The address lies in lantern SRAM. -/
def inSram (a : Nat) : Bool := decide (0xA0000000 ≤ a ∧ a < 0xA0800000)
/-- The address lies in HBM. -/
def inHbm (a : Nat) : Bool := decide (0x010000000000 ≤ a ∧ a < 0x018000000000)
/-- The address lies in the DDR5 range, installed or not. -/
def inDdrRange (a : Nat) : Bool := decide (0x020000000000 ≤ a ∧ a < 0x040000000000)
/-- The address lies in the companion aperture. -/
def inAperture (a : Nat) : Bool := decide (0x040000000000 ≤ a ∧ a < 0x080000000000)

/-- The DDR5 channel of an address. -/
def ddrChannel (a : Nat) : Nat := (a - 0x020000000000) / 0x4000000000

/-- The address is an installed DDR5 byte: below its channel's capacity (07 R154). -/
def State.inDdr (s : State) (a : Nat) : Bool :=
  inDdrRange a &&
    decide ((a - 0x020000000000) % 0x4000000000 < s.fld Reg.XX_CAP_GIB (8 + ddrChannel a) * 0x40000000)

/-! ### Bytes of memory -/

/-- One byte of the module address map; an unlisted byte reads 0. -/
def State.rd8 (s : State) (a : Nat) : Byte := tabGet 0 s.mem a

/-- n consecutive bytes. -/
def State.rdBytes (s : State) (a n : Nat) : List Byte := (List.range n).map (fun i => s.rd8 (a + i))

/-- A little-endian number of n bytes. -/
def State.rdNat (s : State) (a n : Nat) : Nat := leNat (s.rdBytes a n)

/-- Write a list of bytes into a table of bytes. -/
def putBytes (m : Tab Byte) (a : Nat) : List Byte → Tab Byte
  | [] => m
  | b :: bs => putBytes (tabPut 0 m a b) (a + 1) bs

/-- The 64-bit words (address divided by 8) that [a, a + n) covers wholly. -/
def fullWords (a n : Nat) : List Nat :=
  (List.range ((a + n) / 8 - (a + 7) / 8)).map (fun i => (a + 7) / 8 + i)

/-- The 64-bit words that [a, a + n) touches. -/
def touchedWords (a n : Nat) : List Nat :=
  if n = 0 then [] else (List.range ((a + n + 7) / 8 - a / 8)).map (fun i => a / 8 + i)

/-- Write bytes. A word written holds fresh check bits (07 R167): its mark of a corrected error goes, and the mark of an
uncorrectable one where it is written wholly. -/
def State.wrBytes (s : State) (a : Nat) (bs : List Byte) : State :=
  { s with
    mem := putBytes s.mem a bs
    uncorr := (fullWords a bs.length).foldl (fun t w => tabErase t w) s.uncorr
    correc := (touchedWords a bs.length).foldl (fun t w => tabErase t w) s.correc }

/-- Write a little-endian number of n bytes. -/
def State.wrNat (s : State) (a n v : Nat) : State := s.wrBytes a (leBytes n v)

/-- Zero a range, with fresh check bits. -/
def State.zeroRange (s : State) (lo hi : Nat) : State :=
  { s with
    mem := tabClear s.mem lo hi
    uncorr := tabClear s.uncorr (lo / 8) (hi / 8)
    correc := tabClear s.correc (lo / 8) (hi / 8) }

/-- Some 64-byte line that [a, a + n) touches holds an uncorrectable word (07 R170). -/
def State.lineBad (s : State) (a n : Nat) : Bool :=
  n != 0 && s.uncorr.any (fun kv => decide (a / 64 ≤ kv.1 / 8 ∧ kv.1 / 8 ≤ (a + n - 1) / 64))

/-- A word that a write of [a, a + n) covers only in part is uncorrectable (07 R167). -/
def State.partialBad (s : State) (a n : Nat) : Bool :=
  (touchedWords a n).any (fun w => tabGet false s.uncorr w && !(fullWords a n).contains w)

/-- Some 64-byte line that [a, a + n) touches holds a word with a corrected error. -/
def State.lineCorr (s : State) (a n : Nat) : Bool :=
  n != 0 && s.correc.any (fun kv => decide (a / 64 ≤ kv.1 / 8 ∧ kv.1 / 8 ≤ (a + n - 1) / 64))

/-- The lines of a list of spans (address, bytes) that hold a corrected error and no uncorrectable one. -/
def State.corrLines (s : State) (l : List (Nat × Nat)) : List Nat :=
  if s.correc.isEmpty then []
  else
    let lines := l.flatMap fun e => (List.range ((e.1 + e.2 + 63) / 64 - e.1 / 64)).map fun i => (e.1 / 64 + i) * 64
    (sortDedup lines).filter fun a => s.lineCorr a 64 && !s.lineBad a 64

/-- The lines where a write of one of the spans covers part of a word with a corrected error, which it reads first (07 R167). -/
def State.corrParts (s : State) (l : List (Nat × Nat)) : List Nat :=
  if s.correc.isEmpty then []
  else sortDedup (l.flatMap fun e => ((touchedWords e.1 e.2).filter fun w =>
    tabGet false s.correc w && !(fullWords e.1 e.2).contains w).map fun w => w / 8 * 64)

/-! ### Parcel memory as its own engines see it: offsets modulo 4 MiB (03 R65) -/

/-- The module address of an offset in parcel p's memory. -/
def pmAddr (p off : Nat) : Nat := parcelBase p + off % 0x400000

/-- Read n bytes at an offset, each byte's offset taken modulo 4 MiB. -/
def State.pmRead (s : State) (p off n : Nat) : List Byte :=
  (List.range n).map (fun i => s.rd8 (pmAddr p (off + i)))

/-- Read a bit field of w bits that starts `bit` bits after the offset (05 R113). -/
def State.pmBits (s : State) (p off bit w : Nat) : Nat :=
  leNat (s.pmRead p (off + bit / 8) ((bit % 8 + w + 7) / 8)) / 2 ^ (bit % 8) % 2 ^ w

/-- Write bytes at an offset; a write that runs past 4 MiB wraps. -/
def State.pmWrite (s : State) (p off : Nat) (bs : List Byte) : State :=
  let o := off % 0x400000
  let first := bs.take (0x400000 - o)
  let s := s.wrBytes (parcelBase p + o) first
  if first.length < bs.length then s.wrBytes (parcelBase p) (bs.drop first.length) else s

/-- Reading n bytes at an offset meets an uncorrectable line. -/
def State.pmBad (s : State) (p off n : Nat) : Bool := s.lineBad (pmAddr p off) n

/-- The lines with a corrected error among lines of parcel p (by offset divided by 64). -/
def State.pmCorr (s : State) (p : Nat) (lines : List Nat) : List Nat :=
  s.corrLines (lines.map fun l => (pmAddr p (64 * l), 64))

/-! ### Parcels, engines, wicks -/

/-- Parcel p's issue state. -/
def State.par (s : State) (p : Nat) : Parcel := tabGet {} s.parcels p
/-- Replace parcel p's issue state. -/
def State.setPar (s : State) (p : Nat) (x : Parcel) : State :=
  { s with parcels := tabPut {} s.parcels p x }
/-- Engine e of parcel p. -/
def State.eng (s : State) (p e : Nat) : Engine := tabGet {} s.engines (p * 8 + e)
/-- Replace engine e of parcel p. -/
def State.setEng (s : State) (p e : Nat) (x : Engine) : State :=
  { s with engines := tabPut {} s.engines (p * 8 + e) x }

/-- Parcel states (02 R42). -/
def stOff : Nat := 0
def stIdle : Nat := 1
def stRun : Nat := 2
def stDraining : Nat := 3
def stStopped : Nat := 4
def stHalted : Nat := 5
def stQuarantined : Nat := 6
def stDark : Nat := 7

/-- The parcel's state code. -/
def State.pstate (s : State) (p : Nat) : Nat := s.fld Reg.PCT_STATE_CODE p
/-- Move a parcel to a state. -/
def State.setPstate (s : State) (p c : Nat) : State := s.setFld Reg.PCT_STATE_CODE p c

/-- The parcel is listed in the disabled-unit map. -/
def State.disabled (s : State) (p : Nat) : Bool := s.disabledMap.contains p

/-- The completion-counter field of an engine (02 R57). -/
def cntFld : Nat → Fld
  | 0 => Reg.PCT_CNT_TENSOR
  | 1 => Reg.PCT_CNT_VECTOR
  | 2 => Reg.PCT_CNT_MOVE
  | 3 => Reg.PCT_CNT_EXCHANGE
  | 4 => Reg.PCT_CNT_BEACON
  | _ => Reg.PCT_CNT_TAPER

/-- Queue depth of an engine (02 R34). -/
def queueDepth : Nat → Nat
  | 0 => 4
  | 1 => 8
  | 2 => 16
  | 3 => 16
  | 4 => 8
  | _ => 4

/-- A recorded wait holds: counter minus required lies from 0 to 2^23 − 1 modulo 2^24 (02 R35). -/
def State.waitHolds (s : State) (p : Nat) (w : Wait) : Bool :=
  decide ((s.fld (cntFld w.eng) p + 2 ^ 24 - w.req % 2 ^ 24) % 2 ^ 24 < 2 ^ 23)

/-- All of an instruction's waits hold. -/
def State.waitsHold (s : State) (p : Nat) (l : List Wait) : Bool := l.all (s.waitHolds p)

/-- A wick's register. -/
def State.wreg (s : State) (p w r : Nat) : Nat :=
  (tabGet 0 s.wregs ((p * 4096 + w) * 32 + r)).toNat
/-- Write a wick's register. -/
def State.setWreg (s : State) (p w r v : Nat) : State :=
  { s with wregs := tabPut 0 s.wregs ((p * 4096 + w) * 32 + r) (BitVec.ofNat 32 v) }
/-- A wick's predicate. -/
def State.pred (s : State) (p w : Nat) : Bool := tabGet true s.preds (p * 4096 + w)
/-- Write a wick's predicate. -/
def State.setPred (s : State) (p w : Nat) (b : Bool) : State :=
  { s with preds := tabPut true s.preds (p * 4096 + w) b }
/-- A wick's index register. -/
def State.widx' (s : State) (p w : Nat) : Nat := (tabGet 0 s.widx (p * 4096 + w)).toNat
/-- Write a wick's index register. -/
def State.setWidx (s : State) (p w v : Nat) : State :=
  { s with widx := tabPut 0 s.widx (p * 4096 + w) (BitVec.ofNat 32 v) }

/-- The live value of a parameter register. -/
def State.liveP (s : State) (p n : Nat) : Nat := (tabGet 0 s.live (p * 256 + n % 256)).toNat
/-- The shadow value of a parameter register. -/
def State.shadowP (s : State) (p n : Nat) : Nat := (tabGet 0 s.shadow (p * 256 + n % 256)).toNat
/-- A shadow write: the register is dirty from then on (02 R51). -/
def State.setShadow (s : State) (p n v : Nat) : State :=
  { s with
    shadow := tabPut 0 s.shadow (p * 256 + n % 256) (BitVec.ofNat 64 v)
    dirty := tabPut false s.dirty (p * 256 + n % 256) true }

/-- The stream code word w of parcel p. -/
def State.codeWord (s : State) (p w : Nat) : Nat := (tabGet 0 s.code (p * 8192 + w % 8192)).toNat
/-- Descriptor n of parcel p. -/
def State.descWord (s : State) (p n : Nat) : Nat := (tabGet 0 s.descs (p * 1024 + n % 1024)).toNat

/-- A receive tally (04 R101). -/
def State.tally (s : State) (p t : Nat) : Tally := tabGet {} s.tallies (p * 64 + t % 64)
/-- Replace a receive tally. -/
def State.setTally (s : State) (p t : Nat) (x : Tally) : State :=
  { s with tallies := tabPut {} s.tallies (p * 64 + t % 64) x }
/-- A beacon by its module number. -/
def State.beacon (s : State) (b : Nat) : Beacon := tabGet {} s.beacons b

/-- The physical beacon of a tract's virtual beacon v, from the tract's range of the module beacon map (08 R188, R207). -/
def State.vBeacon (s : State) (t v : Nat) : Option Nat :=
  let x : Tract := tabGet {} s.tracts t
  let e := tabGet 0 s.beaconMap (s.fld Reg.TRC_BMAP_BASE t + v)
  if v < x.bmapN ∧ e ≠ 0 then some (e - 1) else none
/-- Replace a beacon. -/
def State.setBeacon (s : State) (b : Nat) (x : Beacon) : State :=
  { s with beacons := tabPut {} s.beacons b x }

/-- The tract whose configured township set holds township w (01 R17). -/
def State.tractOf (s : State) (w : Nat) : Option Nat :=
  (List.range 8).find? (fun t => s.bit Reg.TRC_CONFIGURED t && bitAt (s.fld Reg.TRC_TOWNSHIPS t) w)
/-- The tract of a parcel. -/
def State.ptract (s : State) (p : Nat) : Option Nat := s.tractOf (p / 16)
/-- The parcels of a tract, in ascending order. -/
def State.tractParcels (s : State) (t : Nat) : List Nat :=
  (List.range 512).filter (fun p => decide (s.ptract p = some t))
/-- The tract's ordering is strict (01 R21). -/
def State.strict (s : State) (p : Nat) : Bool :=
  match s.ptract p with
  | some t => s.bit Reg.TRC_STRICT t
  | none => false

/-- The tick number: datum nanoseconds divided by 2,048 (00 R13). -/
def State.tickNow (s : State) : Nat := s.datum / 2048

/-- The plan cycle of township w, counted from its gate at the period of its cap stretch, freezes of the window left out
(08 R198, 17 R416; DEDUCED, log entry 83). -/
def State.cycleNow (s : State) (w : Nat) : Nat :=
  let x : Town := tabGet {} s.towns w
  (s.datum - tabGet 0 s.gateAt w - x.inWindow) * 1000 / x.period

/-- The source code an agent has in the error records (15 R386). The serve block has none there: it takes
the lanterns' (DESIGN CHOICE, log entry 9). -/
def agentCode : Agent → Nat
  | .lantern => 0
  | .taper => 1
  | .companion => 2
  | .debug => 3
  | .management => 4
  | .serve => 0

/-- The part of a slew that one tick takes: at most 8 units per cycle (09 R228). -/
def slewPart (r : Int) : Int := max (-8) (min 8 r)

/-- The trim in force: frequency trim and phase slew (09 R228). -/
def State.showTrim (s : State) : State :=
  s.setFld Reg.CLK_TRIM_NOW 0 (wrapTo 16 (s.clk.freqTrim + slewPart s.clk.slew))

/-- n ticks pass: each removes its part of the slew. -/
def State.slewTicks (s : State) (n : Nat) : State :=
  if n = 0 ∨ s.clk.slew = 0 then s
  else
    let r := s.clk.slew
    let k : Int := 8 * n
    ({ s with clk := { s.clk with slew := r - max (-k) (min k r) } }).showTrim

/-- Sample records that could not be written within the tick after their sample are dropped and counted (11 R282). -/
def State.expireSamples (s : State) : State :=
  let late (x : Sample) : Bool := decide (x.tick + 1 < s.tickNow)
  (s.samples.filter late).foldl (fun s x => s.count Reg.LNK_SAMPLE_DROP x.link 1) { s with samples := s.samples.filter fun x => !late x }

/-- A time-driven command brings datum time forward to the time it names (DESIGN CHOICE, log entry 1); time never runs back. -/
def State.at (s : State) (t : Nat) : State :=
  if s.datum ≤ t then (({ s with datum := t }).slewTicks (t / 2048 - s.datum / 2048)).expireSamples else s

/-- One cycle of the datum keeper (09 R227): one nanosecond plus the trim in 2^-16 ns. -/
def State.keeperCycle (s : State) : State :=
  let f : Int := (s.datumFrac : Int) + 65536 + (s.clk.freqTrim + slewPart s.clk.slew)
  let d := s.datum + (f / 65536).toNat
  (({ s with datum := d, datumFrac := (f % 65536).toNat }).slewTicks (d / 2048 - s.datum / 2048)).expireSamples

/-- Township w's plan time. -/
def State.town (s : State) (w : Nat) : Town := tabGet {} s.towns w
/-- Replace township w's plan time. -/
def State.setTown (s : State) (w : Nat) (x : Town) : State := { s with towns := tabPut {} s.towns w x }
/-- Tract t's load and job. -/
def State.tract (s : State) (t : Nat) : Tract := tabGet {} s.tracts t
/-- Replace tract t's load and job. -/
def State.setTract (s : State) (t : Nat) (x : Tract) : State := { s with tracts := tabPut {} s.tracts t x }

/-- Township w advances plan cycles: its window is open, no freeze is in force, and the module does not
hold its clock (08 R198, R201). -/
def State.planRuns (s : State) (w : Nat) : Bool :=
  tabGet false s.windowOpen w && decide ((s.town w).freezes = [])

/-- Link k's working state. -/
def State.link (s : State) (k : Nat) : Link := tabGet {} s.links k
/-- Replace link k's working state. -/
def State.setLink (s : State) (k : Nat) (x : Link) : State := { s with links := tabPut {} s.links k x }
/-- A physical lane, of the direction sent when `tx`. -/
def State.lane (s : State) (k : Nat) (tx : Bool) (j : Nat) : Lane := tabGet {} s.lanes ((2 * k + b2n tx) * 17 + j)
/-- Replace a physical lane. -/
def State.setLane (s : State) (k : Nat) (tx : Bool) (j : Nat) (x : Lane) : State :=
  { s with lanes := tabPut {} s.lanes ((2 * k + b2n tx) * 17 + j) x }

/-- Note that a parcel issued or advanced a counter in this tick (08 R204). -/
def State.active (s : State) (p : Nat) : State := { s with lastAct := tabPut 0 s.lastAct p s.tickNow }

/-- Record a register access error in the module control block (00 R6, R8). -/
def State.regError (s : State) (g : Agent) (addr : Nat) : State :=
  ((s.setFlds 0 [(Reg.MCB_RAE_ADDR, addr), (Reg.MCB_RAE_SOURCE, agentCode g)]).count
    Reg.MCB_RAE_COUNT 0 1).raise Reg.MCB_EVT_REG_ERR 0

/-- Record an address error in the module control block (07 R154). -/
def State.addrError (s : State) (g : Agent) (addr : Nat) : State :=
  ((s.setFlds 0 [(Reg.MCB_AE_ADDR, addr), (Reg.MCB_AE_SOURCE, agentCode g)]).count
    Reg.MCB_AE_COUNT 0 1).raise Reg.MCB_EVT_ADDR_ERR 0

end Sys2Proof.Machine
end

