-- ==== Sys2Proof/Machine/Operands.lean ====
section
/-!
DEFINITION. The instruction word and its operand forms: common fields, slots, waits, descriptors (03
R59 to R67, 04 R84, R85, R106), what the loader can judge from a word alone (03 R63), and the resolution
of operands at issue (02 R33).
-/
namespace Sys2Proof.Machine

/-! ### Word fields -/

/-- Opcode, bits 7:0. -/
def wOpcode (w : Nat) : Nat := bitsOf w 0 8
/-- FLAGSEL, bits 10:8. -/
def wFlagSel (w : Nat) : Nat := bitsOf w 8 3
/-- MOD, bits 15:11, as a five-bit number: its bit i is word bit 11 + i. -/
def wMod (w : Nat) : Nat := bitsOf w 11 5
/-- The tag, bits 127:112. -/
def wTag (w : Nat) : Nat := bitsOf w 112 16
/-- Operand slot i of the slot and tensor forms: bits [31+16i : 16+16i]. -/
def wSlot (w i : Nat) : Nat := bitsOf w (16 + 16 * i) 16
/-- Vector form: VD. -/
def wVd (w : Nat) : Nat := bitsOf w 16 5
/-- Vector form: slot SA, SB or SC (0, 1, 2). -/
def wVSlot (w i : Nat) : Nat := bitsOf w (21 + 16 * i) 16
/-- Vector form: FIRST. -/
def wFirst (w : Nat) : Nat := bitsOf w 69 12
/-- Vector form: COUNT (wick count minus one). -/
def wCount (w : Nat) : Nat := bitsOf w 81 12
/-- Vector form: PRED. -/
def wPred (w : Nat) : Bool := bitAt w 11
/-- Vector form: SUB. -/
def wSub (w : Nat) : Nat := bitsOf w 12 3
/-- Vector form: INT. -/
def wInt (w : Nat) : Bool := bitAt w 15
/-- Beacon form: BEACON. -/
def wBeacon (w : Nat) : Nat := bitsOf w 16 15
/-- Beacon form: AMOUNT. -/
def wAmount (w : Nat) : Nat := bitsOf w 32 16
/-- Beacon form: ROUTE. -/
def wRoute (w : Nat) : Nat := bitsOf w 48 12
/-- Control form: TARGET. -/
def wTarget (w : Nat) : Nat := bitsOf w 16 13

/-- Slot kind and value (03 R61). -/
def slotKind (x : Nat) : Nat := bitsOf x 13 3
/-- Slot value. -/
def slotValue (x : Nat) : Nat := bitsOf x 0 13
/-- The signed immediate of a KIND 3 slot. -/
def slotImm (x : Nat) : Int := sextOf 13 x

/-! ### The opcode map (03 R62, 04 R84) -/

/-- Where an opcode executes: the issue stage, an engine, or nowhere (reserved). -/
inductive OpUnit where
  | control
  | engine (e : Nat)
  | reserved
deriving DecidableEq, Repr

/-- The unit of an opcode. -/
def opUnit (op : Nat) : OpUnit :=
  if op ≤ 0x06 then .control
  else if 0x10 ≤ op ∧ op ≤ 0x13 then .engine 0
  else if (0x20 ≤ op ∧ op ≤ 0x31) ∨ (0x34 ≤ op ∧ op ≤ 0x3E) ∨ op = 0x40 ∨ op = 0x41 ∨ (0x48 ≤ op ∧ op ≤ 0x4D) then .engine 1
  else if op = 0x60 then .engine 5
  else if 0x80 ≤ op ∧ op ≤ 0x83 then .engine 2
  else if (0xA0 ≤ op ∧ op ≤ 0xA2) ∨ op = 0xA8 then .engine 3
  else if (0xC0 ≤ op ∧ op ≤ 0xC3) ∨ op = 0xC8 then .engine 4
  else .reserved

/-! ### What a word may hold (03 R63) -/

/-- A slot of a kind the operand accepts, with its value inside the kind's range (03 R61). Where KIND 2
is accepted, KIND 5 is too. -/
def slotOk (kinds : List Nat) (x : Nat) : Bool :=
  let k := slotKind x
  let v := slotValue x
  (kinds.contains k || (k == 5 && kinds.contains 2)) &&
    match k with
    | 0 => v == 0
    | 1 => decide (v < 1024)
    | 2 => decide (v < 256)
    | 3 => true
    | 4 => decide (v < 32)
    | 5 => decide (v < 8)
    | 6 => decide (v ≤ 2)
    | _ => false

/-- An immediate slot, where it is one, lies in a range. -/
def immIn (lo hi : Int) (x : Nat) : Bool :=
  slotKind x != 3 || (decide (lo ≤ slotImm x) && decide (slotImm x ≤ hi))

/-- A wait field is well-formed (03 R60). -/
def waitFieldOk (x : Nat) : Bool :=
  if bitAt x 7 then decide (bitsOf x 4 3 ≤ 5) else bitsOf x 0 7 == 0

/-- The slot-form check: one list of accepted kinds per slot. -/
def slotsOk (w : Nat) (ks : List (List Nat)) : Bool :=
  (ks.zipIdx).all fun ki => slotOk ki.1 (wSlot w ki.2)

/-- The source kinds of the vector form. -/
def vecKinds : List Nat := [1, 2, 3, 4, 6]

/-- The vector-form check: accepted kinds of SA, SB, SC; whether VD is written; the largest SUB; whether
PRED and INT are defined (03 R77, R78). -/
def vecOk (w : Nat) (sa sb sc : List Nat) (vd : Bool) (subMax : Nat) (pred int : Bool) : Bool :=
  slotOk sa (wVSlot w 0) && slotOk sb (wVSlot w 1) && slotOk sc (wVSlot w 2) &&
  (vd || wVd w == 0) && decide (wSub w ≤ subMax) && (pred || !wPred w) && (int || !wInt w) &&
  bitsOf w 93 3 == 0 && decide (wFirst w + wCount w + 1 ≤ 4096)

/-- A counter-generator register operand: KIND 2 with n at most 253 (03 R82). -/
def rngOk (x : Nat) : Bool := slotKind x == 2 && decide (slotValue x ≤ 253)

/-- The operand area and MOD of a word break no limit that the manual states for the word itself (03
R63), per opcode. -/
def bodyOk (w : Nat) : Bool :=
  let m := wMod w
  let V := vecKinds
  match wOpcode w with
  | 0x00 => m == 0 && bitsOf w 16 80 == 0
  | 0x01 => m == 0 && bitsOf w 29 67 == 0
  | 0x02 => decide (bitsOf m 0 3 ≤ 5) && bitsOf m 3 2 == 0 && bitsOf w 69 27 == 0
  | 0x03 => m == 0 && decide (bitsOf w 68 8 ≠ 255)
  | 0x04 => m == 0 && bitsOf w 29 67 == 0
  | 0x05 => m == 0 && decide (bitsOf w 16 8 ≤ 222) && bitsOf w 24 72 == 0
  | 0x06 => m == 0 && bitsOf w 16 80 == 0
  | 0x10 => bitsOf m 1 4 == 0 && slotsOk w [[1], [1], [1], [2, 3], [0, 2, 3]]
  | 0x11 => m == 0 && slotsOk w [[1], [1], [1], [0], [0, 2, 3]]
  | 0x12 => decide (bitsOf m 0 2 ≤ 2) && bitsOf m 2 3 == 0 && slotsOk w [[1], [1], if bitsOf m 0 2 = 2 then [2] else [0], [0], [0]] &&
      (bitsOf m 0 2 != 2 || rngOk (wSlot w 2))
  | 0x13 => m == 0 && slotsOk w [[1], [0], [0], [0], [2, 3]]
  | 0x20 => vecOk w V V [0] true 0 true false
  | 0x21 => vecOk w V V [0] true 0 true false
  | 0x22 => vecOk w V V [0] true 0 true false
  | 0x23 => vecOk w V V V true 0 true false
  | 0x24 => vecOk w V V [0] true 0 true false
  | 0x25 => vecOk w V V [0] true 0 true false
  | 0x26 => vecOk w V [0] [0] true 0 true false
  | 0x27 => vecOk w V [0] [0] true 0 true false
  | 0x28 => vecOk w V V [0] true 0 true false
  | 0x29 => vecOk w V V [0] true 0 true false
  | 0x2A => vecOk w V V [0] true 0 true false
  | 0x2B => vecOk w V V [0] true 0 true false
  | 0x2C => vecOk w V V [0] true 0 true false
  | 0x2D => vecOk w V V [0] true 0 true false
  | 0x2E => vecOk w V V [0] true 0 true false
  | 0x2F => vecOk w V V [0] true 0 true false
  | 0x30 => vecOk w V V [0] true 0 true false
  | 0x31 => vecOk w V [0] [0] true 0 true false
  | 0x34 => vecOk w V [0] [0] true 0 true false
  | 0x35 => vecOk w V [0] [0] true 0 true false
  | 0x36 => vecOk w V [0] [0] true 0 true false
  | 0x37 => vecOk w V [0] [0] true 0 true false
  | 0x38 => vecOk w V V [0] false 5 true true
  | 0x39 => vecOk w V [0] [0] false 3 false false
  | 0x3A => vecOk w V [0] [0] false 0 true false
  | 0x3B => vecOk w V V [0] true 0 false false
  | 0x3C => vecOk w V [3] (if wSub w = 2 then [2] else [0]) true 2 true false &&
      decide (bitsOf (wVSlot w 1) 0 5 ≤ 7) && decide (bitsOf (wVSlot w 1) 5 5 ≤ 7) &&
      (wSub w != 2 || rngOk (wVSlot w 2))
  | 0x3D => vecOk w V [3] [0] true 0 true false && fmtIsMx (bitsOf (wVSlot w 1) 0 5) &&
      wFirst w % 32 == 0 && (wCount w + 1) % 32 == 0 && wVd w != 31
  | 0x3E => vecOk w [0] [0] [2] true 0 true false && rngOk (wVSlot w 2)
  | 0x40 => vecOk w [0] V [0] true 2 true true
  | 0x41 => vecOk w V V [0] false 2 true false
  | 0x48 => vecOk w V V [0] true 1 true false
  | 0x49 => vecOk w V (if wSub w = 1 then [1, 2, 3] else [0]) [0] true 1 true false
  | 0x4A => vecOk w V [0] [0] true 0 true false
  | 0x4B => vecOk w V [0] [0] true 0 true false
  | 0x4C => vecOk w V [0] [0] true 0 true false
  | 0x4D => vecOk w V [0] [0] true 0 true false
  | 0x60 => m == 0 && wFlagSel w == 0 && slotOk [1, 2, 3] (bitsOf w 32 16) && bitsOf w 48 48 == 0
  | 0x80 => m == 0 && slotsOk w [[1], [1], [0], [0], [0]]
  | 0x81 => m == 0 && slotsOk w [[1], [2, 3], [0], [0], [0]]
  | 0x82 => m == 0 && slotsOk w [[1], [1], [1], [0], [0]]
  | 0x83 => m == 0 && slotsOk w [[1], [1], [1], [0], [0]]
  | 0xA0 => bitsOf m 1 4 == 0 && slotsOk w [[1], [2, 3], [3], [1, 2], [2, 3]] && immIn 0 4095 (wSlot w 1) &&
      immIn 0 63 (wSlot w 2) && immIn 0 1279 (wSlot w 4)
  | 0xA1 => m == 0 && slotsOk w [[3], [2, 3], [2, 3], [0], [0]] && immIn 0 63 (wSlot w 0) &&
      immIn 1 4096 (wSlot w 1) && immIn 1 4095 (wSlot w 2)
  | 0xA2 => m == 0 && bitsOf w 31 1 == 0 && decide (1 ≤ wAmount w) && bitsOf w 60 36 == 0
  | 0xA8 => decide (bitsOf m 0 3 ≤ 4) && bitsOf m 3 2 == 0 && slotsOk w [[1], [1], [2, 3], [0, 2, 3], [0]] &&
      immIn 0 4095 (wSlot w 2)
  | 0xC0 => m == 0 && bitsOf w 31 1 == 0 && decide (1 ≤ wAmount w) && bitsOf w 48 48 == 0
  | 0xC1 => m == 0 && bitsOf w 31 1 == 0 && decide (1 ≤ wAmount w) && bitsOf w 48 48 == 0
  | 0xC2 => m == 0 && bitsOf w 31 1 == 0 && wAmount w == 0 && bitsOf w 48 48 == 0
  | 0xC3 => m == 0 && bitsOf w 31 1 == 0 && decide (1 ≤ wAmount w) && bitsOf w 48 48 == 0
  | 0xC8 => bitsOf m 1 4 == 0 && bitsOf w 16 80 == 0
  | _ => false

/-- The word breaks no limit the loader can judge from the word alone (03 R63). FLAGSEL is used by
tensor and vector instructions and by XCOLL only (04 R84, 03 R83). -/
def wordOk (w : Nat) : Bool :=
  let op := wOpcode w
  decide (opUnit op ≠ .reserved) &&
  ((decide (0x10 ≤ op ∧ op ≤ 0x4D) || op == 0xA8) || wFlagSel w == 0) &&
  waitFieldOk (bitsOf w 96 8) && waitFieldOk (bitsOf w 104 8) && bodyOk w

/-! ### Descriptors (03 R64) -/

/-- BASE. -/
def dBase (d : Nat) : Nat := bitsOf d 0 48
/-- BASE_REG. -/
def dBaseReg (d : Nat) : Nat := bitsOf d 48 8
/-- BASE_MODE. -/
def dBaseMode (d : Nat) : Nat := bitsOf d 56 2
/-- FORM. -/
def dForm (d : Nat) : Nat := bitsOf d 58 2
/-- The extent of dimension i (the field plus one). -/
def dExt (d i : Nat) : Nat := bitsOf d (64 + 16 * i) 16 + 1
/-- The signed byte stride of dimension 1. -/
def dStr1 (d : Nat) : Int := sextOf 32 (bitsOf d 128 32)
/-- The signed byte stride of dimension 2 (FORM 0 and 2). -/
def dStr2 (d : Nat) : Int := sextOf 32 (bitsOf d 160 32)
/-- The metadata plane's offset (FORM 1). -/
def dMetaOff (d : Nat) : Nat := bitsOf d 160 32
/-- The signed byte stride of dimension 3 (FORM 0 and 2). -/
def dStr3 (d : Nat) : Int := sextOf 32 (bitsOf d 192 32)
/-- SPARSITY (FORM 1). -/
def dSparsity (d : Nat) : Nat := bitsOf d 192 2
/-- FMT. -/
def dFmt (d : Nat) : Nat := bitsOf d 224 5
/-- RANK minus one. -/
def dRank (d : Nat) : Nat := bitsOf d 229 2
/-- SCALE_OFF. -/
def dScaleOff (d : Nat) : Nat := bitsOf d 232 22

/-- A descriptor's resolved base (03 R64, R63: BASE_MODE 3 resolves as 0). -/
def State.dResolve (s : State) (p d : Nat) : Nat :=
  match dBaseMode d with
  | 1 => (dBase d + s.liveP p (dBaseReg d)) % 2 ^ 48
  | 2 => (dBase d + ((s.par p).loop.ags.getD (dBaseReg d % 8) 0).toNat) % 2 ^ 48
  | _ => dBase d

/-- The byte offsets, from the base, of a dense tensor's rows: i1 fastest, then i2, then i3 (03 R65).
Extents beyond the rank count as 1. -/
def dRows (d : Nat) : List Int :=
  let r := dRank d
  let e1 := if 1 ≤ r then dExt d 1 else 1
  let e2 := if 2 ≤ r then dExt d 2 else 1
  let e3 := if 3 ≤ r then dExt d 3 else 1
  (List.range e3).flatMap fun (i3 : Nat) => (List.range e2).flatMap fun (i2 : Nat) => (List.range e1).map fun (i1 : Nat) =>
    (i1 : Int) * dStr1 d + (i2 : Int) * dStr2 d + (i3 : Int) * dStr3 d

/-- Bytes of n packed elements of a format. -/
def packBytes (fmt n : Nat) : Nat := (n * fmtBits fmt + 7) / 8

/-- A base plus a signed offset, modulo 2^48. -/
def addrAdd (b : Nat) (o : Int) : Nat := wrapTo 48 ((b : Int) + o)

/-! ### Resolution at issue (02 R33, 03 R61) -/

/-- Resolve an operand slot. -/
def State.resolve (s : State) (p x : Nat) : Opnd :=
  let v := slotValue x
  match slotKind x with
  | 1 =>
    let d := s.descWord p v
    .desc (BitVec.ofNat 48 (s.dResolve p d)) (BitVec.ofNat 256 d)
  | 2 => .reg (BitVec.ofNat 64 (s.liveP p v))
  | 3 => .imm (slotImm x)
  | 4 => .wreg v
  | 5 => .reg (BitVec.ofNat 64 ((s.par p).loop.ags.getD v 0).toNat)
  | 6 => .special v
  | _ => .none

/-- The operand as a number of w bits: the low bits of a register, a sign-extended immediate, a
descriptor's resolved base modulo 4 MiB. -/
def Opnd.num (o : Opnd) (w : Nat) : Nat :=
  match o with
  | .desc b _ => b.toNat % 0x400000 % 2 ^ w
  | .reg v => v.toNat % 2 ^ w
  | .imm i => wrapTo w i
  | _ => 0

/-- The operand's descriptor (0 where it is none). -/
def Opnd.bits (o : Opnd) : Nat :=
  match o with
  | .desc _ d => d.toNat
  | _ => 0

/-- The operand's resolved base (0 where it is no descriptor). -/
def Opnd.base (o : Opnd) : Nat :=
  match o with
  | .desc b _ => b.toNat
  | _ => 0

/-- Operand i of an instruction in a queue. -/
def QEntry.op (q : QEntry) (i : Nat) : Opnd := q.ops.getD i .none

/-- The word of an instruction in a queue, as a number. -/
def QEntry.w (q : QEntry) : Nat := q.word.toNat

/-- The waits of a word, as recorded at issue (02 R35). A field with WAIT_EN 0, or naming engine 6 or
7, is no wait (03 R60). -/
def State.wordWaits (s : State) (p w : Nat) : List Wait :=
  [bitsOf w 96 8, bitsOf w 104 8].filterMap fun x =>
    let e := bitsOf x 4 3
    if bitAt x 7 && decide (e ≤ 5) then
      some ⟨e, ((s.eng p e).issued + 2 ^ 24 - bitsOf x 0 4) % 2 ^ 24⟩
    else none

/-- The cover of a release or a fence: waits of allowance 0 on the engines listed (04 R95, R98). -/
def State.coverWaits (s : State) (p : Nat) (es : List Nat) : List Wait :=
  es.map fun e => ⟨e, (s.eng p e).issued⟩

/-- The engines an instruction's cover waits on (04 R95, R98). -/
def coverOf (op : Nat) : List Nat :=
  match op with
  | 0xA2 => [0, 1, 2, 3, 5]
  | 0xC0 => [0, 1, 2, 3, 5]
  | 0xC2 => [0, 1, 2, 3, 5]
  | 0xC8 => [2]
  | _ => []

/-- The slot number that names the counter generator's Pn, where the instruction has one. -/
def rngSlot (w : Nat) : Option Nat :=
  match wOpcode w with
  | 0x12 => if bitsOf (wMod w) 0 2 = 2 then some (slotValue (wSlot w 2)) else none
  | 0x3C => if wSub w = 2 then some (slotValue (wVSlot w 2)) else none
  | 0x3E => some (slotValue (wVSlot w 2))
  | _ => none

/-- The slots of a word by its form. -/
def slotsOf (w : Nat) : List Nat :=
  match opUnit (wOpcode w) with
  | .engine 1 => [wVSlot w 0, wVSlot w 1, wVSlot w 2]
  | .engine 5 => [bitsOf w 32 16]
  | .engine 4 => []
  | .engine _ => if wOpcode w = 0xA2 then [] else (List.range 5).map (wSlot w)
  | _ => []

/-- The instruction as it enters its engine's queue, everything resolved (02 R33). -/
def State.makeEntry (s : State) (p e w : Nat) : QEntry :=
  { word := BitVec.ofNat 128 w
    ops := (slotsOf w).map (s.resolve p)
    rng := match rngSlot w with
      | some n => [0, 1, 2].map fun i => BitVec.ofNat 64 (s.liveP p (n + i))
      | none => []
    waits := s.wordWaits p w ++ s.coverWaits p (coverOf (wOpcode w))
    cmd := s.fld Reg.PCT_CMD p
    seq := (s.eng p e).total
    cover := (s.eng p 2).total }

/-- The counter-generator word of an element, from the registers resolved at issue (03 R82, 05 R131). -/
def QEntry.random (q : QEntry) (index : Nat) : Nat :=
  let p0 := (q.rng.getD 0 0).toNat
  let p1 := (q.rng.getD 1 0).toNat
  let p2 := (q.rng.getD 2 0).toNat
  counterWord p0 (p1 % 2 ^ 32) p2 ((p1 / 2 ^ 32 + index) % 2 ^ 32)

end Sys2Proof.Machine
end

