-- ==== Sys2Proof/Machine/AttachOut.lean ====
section
/-!
DEFINITION. What the module sends on Birvox attach: messages in order under credit, back-invalidations, interrupts,
reports (16 R387 to R394).
-/
namespace Sys2Proof.Machine

/-! ### Messages leave in the order generated (16 R388, R389) -/

/-- The attach link carries messages: UP or UP4. -/
def State.attUp (s : State) : Bool := s.fld Reg.ATT_LINK 0 == 2 || s.fld Reg.ATT_LINK 0 == 3

/-- Credit for a VC: 32 messages, less those spent; an IDLE message needs none. -/
def State.attCredit (s : State) (m : AttMsg) : Bool := m.typ == 6 || decide (tabGet 0 s.att.spent m.vc < 32)

/-- The CREDIT field a header carries: entries freed per VC, at most 15 each. -/
def freedField (t : Tab Nat) : Nat :=
  ((List.range 4).map fun v => min 15 (tabGet 0 t v) * 2 ^ (4 * v)).foldl (· + ·) 0

/-- What stays to be returned after a header has carried its share. -/
def freedLeft (t : Tab Nat) : Tab Nat :=
  (List.range 4).foldl (fun t v => tabPut 0 t v (tabGet 0 t v - min 15 (tabGet 0 t v))) t

/-- Send what may leave: the oldest message first, and none past one without credit. -/
def State.attFlushN : Nat → State → State
  | 0, s => s
  | fuel + 1, s =>
    match s.att.out with
    | [] => s
    | m :: rest =>
      if s.attUp && s.attCredit m then
        let x := s.att
        let m := { m with credit := freedField x.freed }
        let x := { x with
          out := rest
          sent := (x.sent ++ [m]).drop (x.sent.length + 1 - 1024)
          spent := if m.typ = 6 then x.spent else tabPut 0 x.spent m.vc (tabGet 0 x.spent m.vc + 1)
          freed := freedLeft x.freed }
        let s := { s with att := x }
        State.attFlushN fuel (if m.typ = 4 then s.count Reg.ATT_BINV_SENT 0 1 else s)
      else s

/-- Send every message that may leave. -/
def State.attFlush (s : State) : State := s.attFlushN (s.att.out.length)

/-- Generate a message. -/
def State.attSend (s : State) (m : AttMsg) : State :=
  ({ s with att := { s.att with out := s.att.out ++ [m] } }).attFlush

/-- ATT_LINK changes (16 R395); a link that comes up carries what waits. -/
def State.attLink (s : State) (v : Nat) : State :=
  if s.fld Reg.ATT_LINK 0 = v then s else ((s.setFld Reg.ATT_LINK 0 v).raise Reg.ATT_EVT_LINK 0).attFlush

/-! ### Back-invalidation (16 R390, R391) -/

/-- Window w holds an address range. -/
def State.winHolds (s : State) (w a n : Nat) : Bool :=
  let size := 2 ^ s.fld Reg.ATT_WIN_LOG w
  let base := s.fld Reg.ATT_WIN_BASE w
  s.bit Reg.ATT_WIN_VALID w && decide (base ≤ a ∧ a + n ≤ base + size)

/-- A BINV for 2^log bytes. -/
def binvMsg (a log : Nat) : AttMsg := { typ := 4, vc := 1, addr := a, sizeLog := log }

/-- A line in a shared window was written: its BINV leaves after the write is visible. -/
def State.binvLine (s : State) (line : Nat) : State :=
  if (List.range 16).any fun w => s.winHolds w line 64 && s.bit Reg.ATT_WIN_SHARED w then s.attSend (binvMsg line 6) else s

/-- Clearing VALID or SHARED on a shared window sends one BINV for the whole of it first. -/
def State.binvWindow (s : State) (w : Nat) : State :=
  if s.bit Reg.ATT_WIN_VALID w && s.bit Reg.ATT_WIN_SHARED w then
    s.attSend (binvMsg (s.fld Reg.ATT_WIN_BASE w) (s.fld Reg.ATT_WIN_LOG w))
  else s

/-- Windows of a tract's scope close at its reset and at each load (16 R391). -/
def State.closeWindows (s : State) (t : Nat) : State :=
  (List.range 16).foldl (fun s w =>
    if s.fld Reg.ATT_WIN_SCOPE w = t ∧ s.bit Reg.ATT_WIN_VALID w = true then (s.binvWindow w).setFld Reg.ATT_WIN_VALID w 0
    else s) s

/-! ### Interrupts (16 R394) -/

/-- An interrupt to the companion: at most one per vector per tick. -/
def State.attInt (s : State) (v : Nat) : State :=
  if tabGet 0 s.att.intTick v = s.tickNow + 1 then s
  else
    ({ s with att := { s.att with intTick := tabPut 0 s.att.intTick v (s.tickNow + 1) } }).attSend { typ := 5, vc := 1, vector := v }

/-! ### Bytes in companion memory -/

/-- Write bytes of companion memory: the model holds them at their aperture addresses; a WR message of whole lines goes
out for each 64-byte line touched. -/
def State.apertureSend (s : State) (a n : Nat) : State :=
  (List.range ((a + n + 63) / 64 - a / 64)).foldl (fun s i =>
    let line := (a / 64 + i) * 64
    s.attSend { typ := 3, vc := 1, lines := 1, addr := line, data := s.rdBytes line 64 }) s

/-- A write by the module's own agents: to companion memory it goes out on the attach link; a line of a shared window
is invalidated there. -/
def State.agentWrite (s : State) (a : Nat) (bs : List Byte) : State :=
  let s := s.wrBytes a bs
  if inAperture a then s.apertureSend a bs.length
  else (List.range ((a + bs.length + 63) / 64 - a / 64)).foldl (fun s i => s.binvLine ((a / 64 + i) * 64)) s

/-! ### Reports (16 R393) -/

/-- A report's 64 bytes, with the phase of its place in the ring. -/
def Report.bytes (r : Report) (phase : Bool) : List Byte :=
  (leBytes 1 (r.kind + (if phase then 128 else 0)) ++ leBytes 1 r.status ++ leBytes 2 r.tract ++ leBytes 4 r.job ++
    leBytes 8 r.epoch ++ leBytes 8 r.step ++ r.rest ++ List.replicate (40 - r.rest.length) 0).take 64

/-- The report queue is set up in companion memory. -/
def State.rptReady (s : State) : Bool := inAperture (s.fld Reg.ATT_RPTQ_BASE 0)

/-- Move reports that wait in lantern SRAM into free entries of the queue. -/
def State.rptFlushN : Nat → State → State
  | 0, s => s
  | fuel + 1, s =>
    match s.att.reports with
    | [] => s
    | r :: rest =>
      let n := 2 ^ s.fld Reg.ATT_RPTQ_LOG 0
      let x := s.att
      if s.rptReady && decide (x.rptTail - x.rptHead < n) then
        let a := s.fld Reg.ATT_RPTQ_BASE 0 + 64 * (x.rptTail % n)
        let s := { s with att := { x with reports := rest, rptTail := x.rptTail + 1 } }
        State.rptFlushN fuel (s.agentWrite a (r.bytes (x.rptTail / n % 2 == 0)))
      else s

/-- Flush, with the interrupt for new reports. -/
def State.rptFlush (s : State) : State :=
  let t := s.att.rptTail
  let s := s.rptFlushN s.att.reports.length
  if s.att.rptTail = t then s else s.attInt 0x1000

/-- Room in lantern SRAM: the oldest TRACT report goes when more than 4,096 wait, counted; BENCHMARK, JOB_STATE and
DARK reports are never dropped. -/
def State.rptTrim (s : State) : State :=
  if s.att.reports.length ≤ 4096 then s
  else
    match s.att.reports.find? fun r => r.kind == 3 with
    | some r =>
      (({ s with att := { s.att with reports := s.att.reports.erase r } }).count Reg.ATT_RPT_DROP 0 1).raise Reg.ATT_EVT_RPT_DROP 0
    | none => s

/-- Firmware files a report. -/
def State.report (s : State) (r : Report) : State :=
  (({ s with att := { s.att with reports := s.att.reports ++ [r] } }).rptFlush).rptTrim

/-- The TRC_EVENT word of tract t. -/
def State.trcEvents (s : State) (t : Nat) : Nat :=
  ((fields_trc.filter fun f => f.off == 0x80).map fun f => s.fld f t * 2 ^ f.lo).foldl (· + ·) 0

/-- An event of tract t: its bit is set, and firmware files a TRACT report (16 R393; DEDUCED, log entry 27). -/
def State.trcEvent (s : State) (ev : Fld) (t : Nat) : State :=
  let s := s.raise ev t
  let x := s.tract t
  s.report { kind := 3, tract := t, job := x.job, epoch := x.epoch, step := s.tickNow,
             rest := leBytes 8 (s.trcEvents t) ++ leBytes 1 (s.fld Reg.TRC_STATE_CODE t) }

/-- An event of the safety monitor: bit set, and where its alert enable asserts ALERT_N the companion hears of it (14
R366, 16 R394). -/
def State.sfmEvent (s : State) (ev alert : Fld) : State :=
  let was := s.bit ev 0
  let s := s.raise ev 0
  if s.bit alert 0 && !was then s.attInt 0x1001 else s

end Sys2Proof.Machine
end

