-- ==== Sys2Proof/Machine/JobTree.lean ====
section
/-!
DEFINITION. The start tree of a job around this module, and the root's job state word (13 R335, R344 to R347, 11 R275).
-/
namespace Sys2Proof.Machine

/-! ### Lantern messages (11 R257, R275) -/

/-- Queue a lantern-class packet for link k. -/
def State.sendLantern (s : State) (k : Nat) (p : Pkt) : State :=
  let x := s.link k
  s.setLink k { x with mgmtQ := x.mgmtQ ++ [{ p with cls := 3, src := s.coord }] }

/-- A request holds a buffer for its reply in lantern SRAM from before it is sent, and the reply frees it (R275): the buffers after a
message goes out or comes in. -/
def State.reserve (s : State) (p : Pkt) : State :=
  if p.kind = 0x83 then { s with replyBufs := s.replyBufs ++ [(p.src, bitsOf p.sp 0 32)] }
  else if p.kind = 0x84 then { s with replyBufs := s.replyBufs.erase (p.dest, bitsOf p.sp 0 32) }
  else s

/-- Send a lantern message of farther modules on toward its destination, as the new message of this lantern. -/
def State.relayLantern (s : State) (p : Pkt) : State :=
  let k : Nat := Config.nextLink s.coord p.dest
  let x := s.link k
  (s.reserve p).setLink k { x with mgmtQ := x.mgmtQ ++ [{ p with cls := 3 }] }

/-- The kind-specific bytes of a lantern packet: transaction, operation, status. -/
def lanternSp (trans op status : Nat) : Nat := trans % 2 ^ 32 + op % 2 ^ 16 * 2 ^ 32 + status % 256 * 2 ^ 48

/-- The names of the lantern messages whose operation numbers the spec does not give (DESIGN CHOICE, log entry 24). -/
def opReady : Nat := (Config.lanternOp 0).toNat
def opGo : Nat := (Config.lanternOp 1).toNat
def opDone : Nat := (Config.lanternOp 2).toNat
def opAbort : Nat := (Config.lanternOp 3).toNat
def opJournal : Nat := (Config.lanternOp 4).toNat
def opMoved : Nat := (Config.lanternOp 5).toNat

/-- A lantern request to a module, on the link toward it; the transaction counter moves on. -/
def State.request (s : State) (dest op job epoch : Nat) (payload : List Byte) : State :=
  let p : Pkt := { kind := 0x83, vc := 6, cls := 3, job := job, epoch := epoch, dest := dest, sp := lanternSp s.transCtr op 0,
                   len := payload.length - 1, payload := payload }
  (({ s with transCtr := s.transCtr + 1 }).reserve { p with src := s.coord }).sendLantern (Config.nextLink s.coord dest) p

/-! ### Job records -/

/-- The start of a job at this module. -/
def State.job (s : State) (j : Nat) : JobRec := tabGet {} s.jobs j
/-- Replace it. -/
def State.setJob (s : State) (j : Nat) (x : JobRec) : State := { s with jobs := tabPut {} s.jobs j x }
/-- The module takes part in a job: it has accepted a start message. -/
def JobRec.known (x : JobRec) : Bool := x.msg != []

/-- The job of a tract: the job started there in the tract's epoch. -/
def State.tractJob (s : State) (t : Nat) : Option Nat :=
  (s.jobs.find? fun jx => jx.2.known && jx.2.tract == t && jx.2.epoch == (s.tract t).epoch && jx.1 == (s.tract t).job).map (·.1)

/-- The codes of the job state word (13 R347). -/
def jobStarting : Nat := 1
def jobGo : Nat := 2
def jobRunning : Nat := 3
def jobComplete : Nat := 4
def jobAborted : Nat := 5
def jobAbandoned : Nat := 6
def jobRecovering : Nat := 7

/-- Where the word goes from a state, in order of precedence (13 R347). -/
def wordOrder (code : Nat) : List Nat :=
  match code with
  | 1 => [jobGo, jobAbandoned, jobAborted]
  | 2 => [jobRunning, jobAbandoned, jobAborted]
  | 3 => [jobComplete, jobRecovering, jobAborted]
  | 7 => [jobStarting, jobAborted]
  | _ => [jobStarting]

/-- A transition of this cycle from the word's state before it stands against another from the same state: it is listed first. -/
def JobRec.wordHeld (x : JobRec) (d code : Nat) : Bool :=
  let l := wordOrder x.wordPrev
  x.wordAt == d && l.contains x.word && l.contains code && decide (l.idxOf x.word < l.idxOf code)

/-- The word is in a state, or a transition of this cycle has taken it from there. -/
def JobRec.wordFrom (x : JobRec) (d code : Nat) : Bool := x.word == code || (x.wordAt == d && x.wordPrev == code)

/-- The root's job state word moves, and is reported (16 R393). Of two transitions from one state in the same cycle the one listed
first takes effect (13 R347). -/
def State.setWord (s : State) (j code : Nat) : State :=
  let x := s.job j
  if x.word = code ∨ x.wordHeld s.datum code = true then s
  else
    let l := wordOrder x.wordPrev
    let prev := if x.wordAt = s.datum ∧ l.contains x.word = true ∧ l.contains code = true then x.wordPrev else x.word
    (s.setJob j { x with word := code, wordPrev := prev, wordAt := s.datum }).report
      { kind := 4, tract := x.tract, job := j, epoch := x.epoch, step := s.tickNow, rest := leBytes 1 code }

/-- Change one child of a job. -/
def State.setChild (s : State) (j coord : Nat) (f : Child → Child) : State :=
  let x := s.job j
  s.setJob j { x with children := x.children.map fun c => if c.coord = coord then f c else c }

/-! ### READY, GO, DONE (13 R346, R347) -/

/-- This module's own part is LOADED. -/
def State.jobLoaded (s : State) (j : Nat) : Bool :=
  let x := s.job j
  s.fld Reg.TRC_STATE_CODE x.tract == 2 && s.tractJob x.tract == some j

/-- The root names a tick for GO: firmware's choice, a free value at or after the present tick (DESIGN CHOICE, log entry 26). -/
def State.goTick (s : State) : Nat × State :=
  let d := s.draw
  (d.2.tickNow + d.1, d.2)

/-- Write GO's tick and send it on; TRC_START follows in the meaning of GO. -/
def State.sendGo (s : State) (j tick : Nat) : State :=
  let x := s.job j
  let s := x.children.foldl (fun s c => s.request c.coord opGo j x.epoch (leBytes 8 tick)) s
  s.setJob j { s.job j with go := some tick }

/-- READY goes to the parent once this module is LOADED and every child has sent READY; at the root GO is next, which
this answers with its tick. -/
def State.tryReady (s : State) (j : Nat) : State :=
  let x := s.job j
  if x.known && !x.readySent && s.jobLoaded j && x.children.all (·.ready) then
    let s := s.setJob j { x with readySent := true }
    if x.root then
      if x.wordFrom s.datum jobStarting then
        let g := s.goTick
        (g.2.sendGo j g.1).setWord j jobGo
      else s
    else s.request x.parent opReady j x.epoch []
  else s

/-- The tract of a job has started: at the root in GO the word becomes RUNNING. -/
def State.jobStarted (s : State) (t : Nat) : State :=
  match s.tractJob t with
  | some j => if (s.job j).root && (s.job j).wordFrom s.datum jobGo then s.setWord j jobRunning else s
  | none => s

/-- DONE goes to the parent once this module's tract is STOPPED by END and every child has sent DONE; at the root the job is
COMPLETE. -/
def State.tryDone (s : State) (j : Nat) : State :=
  let x := s.job j
  let t := x.tract
  let ended := s.fld Reg.TRC_STATE_CODE t == 5 && s.tractJob t == some j && (s.tract t).landing.all fun p => (s.par p).byEnd
  if x.known && !x.doneSent && ended && x.children.all (·.finished) then
    let s := s.setJob j { x with doneSent := true }
    if x.root then (if x.wordFrom s.datum jobRunning then s.setWord j jobComplete else s)
    else s.request x.parent opDone j x.epoch []
  else s

/-- A tract has stopped; DONE where it stopped by END. -/
def State.jobStopped (s : State) (t : Nat) (byEnd : Bool) : State :=
  match s.tractJob t with
  | some j => if byEnd then s.tryDone j else s
  | none => s

/-- A failure of R334 met by tract t's job (13 R335 step 1): firmware reports it, with the row, the unit and the safety
record's kind; at the root a RUNNING job is RECOVERING. A failure after COMPLETE causes no recovery. -/
def State.jobFailure (s : State) (t row unit kind : Nat) : State :=
  let st := s.fld Reg.TRC_STATE_CODE t
  if st = 3 ∨ st = 4 then
    let x := s.tract t
    let s := s.report { kind := 2, tract := t, job := x.job, epoch := x.epoch, step := s.tickNow,
                        rest := leBytes 1 row ++ leBytes 2 unit ++ leBytes 1 kind }
    match s.tractJob t with
    | some j => if (s.job j).root && (s.job j).word == jobRunning then s.setWord j jobRecovering else s
    | none => s
  else s

/-- A dark decision in the cycle of a failure: no recovery starts for it (14 R363). -/
def State.noRecovery (s : State) : State :=
  { s with jobs := s.jobs.map fun jx =>
      if jx.2.word = jobRecovering ∧ jx.2.wordAt = s.datum then (jx.1, { jx.2 with word := jx.2.wordPrev }) else jx }

/-- Some direction of a link that tract t's job uses is FAILED (10 R252). -/
def State.linkDown (s : State) (t : Nat) : Bool :=
  (List.range 6).any fun k => (s.fld Reg.LNK_RX_STATE k == 5 || s.fld Reg.LNK_TX_STATE k == 5) && (List.range 16).any fun i =>
    let o : Owner := tabGet {} s.owners (16 * k + i)
    o.state != 0 && o.job == (s.tract t).job && o.epoch == (s.tract t).epoch

/-- The module at link k's other end has gone dark (13 R334, 10 R252): firmware reports it for every tract whose job uses the link. -/
def State.moduleLost (s : State) (k : Nat) : State :=
  (List.range 8).foldl (fun s t =>
    if (List.range 16).any fun i =>
        let o : Owner := tabGet {} s.owners (16 * k + i)
        o.state != 0 && o.job == (s.tract t).job && o.epoch == (s.tract t).epoch
    then s.jobFailure t 5 (0x300 + k) 0 else s) s

end Sys2Proof.Machine
end

