-- ==== Sys2Proof/Machine/SafetyLog.lean ====
section
/-!
DEFINITION. The safety monitor's records and the quarantine count (14 R358, R359).
-/
namespace Sys2Proof.Machine

/-- Append a safety record; the ring of 4,096 overwrites its oldest (14 R358). -/
def State.safeRec (s : State) (r : SafeRec) : State :=
  let x := s.safety
  let s := { s with safety := { x with log := tabPut {} x.log (x.next % 4096) { r with tick := s.tickNow }, next := x.next + 1 } }
  s.count Reg.SFM_LOG_WRITTEN 0 1

/-- The tract bits of FLAGS. -/
def State.tractFlag (s : State) (w : Nat) : Nat :=
  match s.tractOf w with
  | some t => 4 * t
  | none => 0

/-- A sensor reading of a township, or of the spine at 32. -/
def State.tempOf (s : State) (w : Nat) : Nat := tabGet 0 s.safety.temps w

/-- The parcel's load signature (14 R358): tensor and vector busy cycles in the preceding window. -/
def State.parcelLoad (s : State) (p : Nat) : Nat := min 3890 (s.par p).busyPrev

/-- Parcel memory p serves n lines (07 R171). DESIGN CHOICE (log entry 15): an instruction's lines are served when it starts. -/
def State.pmemServe (s : State) (p n : Nat) : State :=
  if n = 0 then s
  else
    let x := tabGet ({} : PmemLoad) s.pmemLoad p
    let t := s.tickNow
    let y : PmemLoad := if x.tick = t then { x with served := x.served + n }
      else { tick := t, served := n, prev := if x.tick + 1 = t then x.served else 0 }
    { s with pmemLoad := tabPut {} s.pmemLoad p y }

/-- A parcel memory's load signature (07 R171): half the lines served in the preceding tick, saturating. -/
def State.pmemSig (s : State) (p : Nat) : Nat :=
  let x := tabGet ({} : PmemLoad) s.pmemLoad p
  min 65535 ((if x.tick = s.tickNow then x.prev else if x.tick + 1 = s.tickNow then x.served else 0) / 2)

/-- Nanoseconds of the 24-hour span. -/
def dayNs : Nat := 86400000000000

/-- A marking is kept in the flash's trained-parameter area (14 R359). -/
def State.keepMark (s : State) (p : Nat) : State := { s with flash := Config.trainedMark s.flash p }

/-- The flash's trained-parameter area is written again with the markings that stand (14 R359). -/
def State.keepMarks (s : State) : State :=
  let d := s.draw
  { d.2 with flash := Config.trainedWrite d.2.flash (d.2.safety.marked.map fun (m : Nat × Bool) => m.1) d.1 }

/-- Mark a parcel for quarantine (14 R359). -/
def State.markParcel (s : State) (p : Nat) : State :=
  ({ s.keepMark p with safety := { s.safety with marked := tabPut false s.safety.marked p true } }).sfmEvent Reg.SFM_EVT_QUARANTINE Reg.SFM_EVT_QUARANTINE_ALERT

/-- One counted error of parcel p (14 R359): three within 24 hours mark it. -/
def State.countError (s : State) (p : Nat) : State :=
  let x := s.safety
  let l := ((tabGet [] x.counted p).filter fun t => decide (s.datum < t + dayNs)) ++ [s.datum]
  let s := { s with safety := { x with counted := tabPut [] x.counted p l, lastTick := tabPut 0 x.lastTick p s.tickNow } }
  if 3 ≤ l.length then s.markParcel p else s

/-- The parcel's errors carry a drill's mark, and are not counted (13 R343). -/
def State.drilled (s : State) (p : Nat) : Bool := tabGet false s.safety.drilled p

/-- Record and count an error of a parcel: kind 1 residue, 2 known-answer failure, 3 rerun failure, 4
uncorrectable (14 R358, R359), with its load signature. -/
def State.parcelError (s : State) (p kind status tag cmd line load : Nat) : State :=
  let drill := s.drilled p
  let counts := kind != 3 && !drill
  let f := b2n drill + (if counts then 2 else 0) + s.tractFlag (p / 16)
  let s := s.safeRec { kind := kind, status := status, unit := p, temp := s.tempOf (p / 16), flags := f,
                       load := load, tag := tag, cmd := cmd, line := line }
  if counts then s.countError p else s

end Sys2Proof.Machine
end

