-- ==== Sys2Proof/Machine/Hooks.lean ====
section
/-!
DEFINITION. What other chapters do at points of the instruction stream and of memory: the safety monitor's
record of a parcel fault (14 R358), back-invalidation of shared windows
(16 R390), the scrubber's rewrite (07 R169).
-/
namespace Sys2Proof.Machine

/-- The status by which a move in flight says that a tier line, not parcel memory, read uncorrectable; its
low byte is the status written. -/
def tierBadStatus : Nat := 0x140

/-- A serving instance. -/
def State.srvOf (s : State) (t : Nat) : Srv := tabGet {} s.srv t
/-- Replace it. -/
def State.setSrv (s : State) (t : Nat) (x : Srv) : State := { s with srv := tabPut {} s.srv t x }

/-- A failure of tract t's serving instance (12 R319): composition stops. -/
def State.serveFault (s : State) (t : Nat) : State :=
  if s.bit Reg.TRC_MODE t then (s.setSrv t { s.srvOf t with faulted := true }).raise Reg.SRV_EVT_FAULT 0 else s

/-- The safety monitor receives every parcel fault (02 R40): it records residue mismatches and uncorrectable
data of parcel memory; a tier's own error record covers its lines (14 R358). -/
def State.noteParcelFault (s : State) (p status tag cmd : Nat) : State :=
  let s := if status = 0x41 then (s.parcelError p 1 0x41 tag cmd 0 (s.parcelLoad p)).sfmEvent Reg.SFM_EVT_RESIDUE Reg.SFM_EVT_RESIDUE_ALERT
    else if status = 0x40 then s.parcelError p 4 0x40 tag cmd 0 (s.parcelLoad p)
    else s
  match s.ptract p with
  | some t => (s.jobFailure t 1 p (if status = 0x41 then 1 else if status = 0x40 then 4 else 0)).serveFault t
  | none => s

/-- A write to a shared window sends a back-invalidation on the attach link (16 R390). -/
def State.backInvalidate (s : State) (line : Nat) : State := s.binvLine line

/-- The safety monitor receives the tick watchdog's event, whatever the enables (08 R204, 14 R349): it keeps no
record of it; TRC_FAULT_STATUS and TRC_EVT_WATCHDOG hold it. Firmware reports the job's failure (13 R334, R335): the row of a link
direction's backlog where one that the job uses is FAILED. -/
def State.noteWatchdog (s : State) (t : Nat) : State := s.jobFailure t (if s.linkDown t then 4 else 1) 0 0

/-- Every back-invalidation caused so far has been sent on the attach link (04 R98, 16 R390). -/
def State.invalidationsSent (s : State) : Bool := !(s.att.out.any fun m => m.typ == 4)

/-- Any other write to a line drops the scrubber's waiting rewrite of it (07 R169). -/
def State.cancelRewrite (s : State) (line : Nat) : State :=
  let drop (x : TierCtl) : TierCtl := { x with rewrites := x.rewrites.filter fun l => l != line }
  let l := s.tierCtl.map fun kv => (kv.1, drop kv.2)
  { s with tierCtl := l.filter fun kv => decide (kv.2 ≠ {}) }

/-- A memory error goes to the safety monitor (07 R171, 14 R358): `uncor` is the class, `unit` the record's unit
(a parcel, or 0x200 plus the controller). A parcel keeps its latest record. `load` is a controller's load signature, `owner` the
wheel owner of a parcel's phase. -/
def State.noteMemError (s : State) (unit : Nat) (uncor : Bool) (line load owner : Nat) : State :=
  if unit < 512 then
    let x := s.safety
    let load := s.pmemSig unit
    let e : PmemErr := { line := line, bank := line / 64 % 32, uncor := uncor, temp := s.tempOf (unit / 16), load := load, owner := owner,
                         tick := s.tickNow }
    let s := { s with safety := { x with pmem := tabPut {} x.pmem unit e } }
    if uncor then s.parcelError unit 4 0x40 0 0 line load
    else s.safeRec { kind := 5, unit := unit, temp := s.tempOf (unit / 16), flags := s.tractFlag (unit / 16),
                     load := load, line := line }
  else
    let drill := tabGet false s.safety.drilled unit
    let s := { s with safety := { s.safety with drilled := tabPut false s.safety.drilled unit false } }
    s.safeRec { kind := if uncor then 4 else 5, flags := b2n drill, status := if uncor then 0x40 else 0, unit := unit,
                temp := s.fld Reg.XX_TEMP (unit - 0x200), load := load, line := line }

/-- The parcel whose memory, or whose taper's, holds a line. -/
def memParcel (line : Nat) : Nat := if inTaperMem line then (line - 0x80000000) / 0x40000 else line / 0x400000

/-- Corrected errors met in lines of parcel and taper memory, in phases of a wheel owner: one record each (07 R171). -/
def State.noteLines (s : State) (owner : Nat) (l : List Nat) : State :=
  l.foldl (fun s a => s.noteMemError (memParcel a) false a 0 owner) s

/-- The module is dark (14 R362). -/
def State.moduleDark (s : State) : Bool := s.fld Reg.SFM_MODULE 0 == 2

/-- Township w takes nothing in: its clock stands, or a reset of its crossings is not over (09 R219, R226). -/
def State.shut (s : State) (w : Nat) : Bool := !(s.town w).clocked || s.bit Reg.TWN_XRST w

/-- What a read brings that a township's crossing refuses is free (DESIGN CHOICE, log entry 106). -/
def State.noData (s : State) : State :=
  let d := s.draw
  { d.2 with lastRead := BitVec.ofNat 64 d.1 }

/-- What a command of spine, lanterns or controllers leaves: in the dark their clocks stand, and nothing happens (09 R218, 14 R362). -/
def State.lit (s r : State) : State := if s.moduleDark then s else r

end Sys2Proof.Machine
end

