-- ==== Sys2Proof/Machine/Freeze.lean ====
section
/-!
DEFINITION. Freezes of a township and their accounting (08 R201, R203).
-/
namespace Sys2Proof.Machine

/-- Account the freeze cycles of township w up to now: each belongs to the cause whose freeze began first
(08 R203). -/
def State.account (s : State) (w : Nat) : State :=
  let x := s.town w
  let dt := s.datum - x.mark
  match x.freezes with
  | [] => s.setTown w { x with mark := s.datum }
  | f :: _ =>
    let open' := tabGet false s.windowOpen w
    s.setTown w { x with
      mark := s.datum
      refreshCyc := if f.cause = 0 then x.refreshCyc + dt else x.refreshCyc
      retryCyc := if f.cause = 0 then x.retryCyc else x.retryCyc + dt
      inWindow := if open' then x.inWindow + dt else x.inWindow }

/-- A freeze begins, oldest first in the list; one already in force for the same line or packet stays. -/
def State.addFreeze (s : State) (w cause key : Nat) : State :=
  let s := s.account w
  let x := s.town w
  if x.freezes.any fun f => f.cause == cause && f.key == key then s
  else s.setTown w { x with freezes := x.freezes ++ [{ cause := cause, key := key, began := s.datum }] }

/-- A freeze ends: the line or packet it waited for has come. -/
def State.endFreeze (s : State) (w cause key : Nat) : State :=
  let x := s.town w
  if x.freezes.any fun f => f.cause == cause && f.key == key then
    let s := s.account w
    let x := s.town w
    s.setTown w { x with freezes := x.freezes.filter fun f => !(f.cause == cause && f.key == key) }
  else s

end Sys2Proof.Machine
end

