-- ==== Sys2Proof/Machine/Beacons.lean ====
section
/-!
DEFINITION. Beacons at the home parcel: registration, counts, the release procedure, withdrawal (04 R91 to
R94, 08 R207 to R213).
-/
namespace Sys2Proof.Machine

/-- The home parcel of a beacon (04 R91). -/
def beaconHome (b : Nat) : Nat := b / 64

/-- The release procedure over a queue (04 R93): the count left, the waiters still queued, the waiters
released. -/
def releaseWaiters : Nat → List Waiter → Nat × List Waiter × List Waiter
  | c, [] => (c, [], [])
  | c, w :: ws =>
    if c < w.need then (c, w :: ws, [])
    else
      let r := releaseWaiters (c - w.need) ws
      (r.1, r.2.1, w :: r.2.2)

/-- The instruction with a number in flight on parcel p's beacon unit, not complete, takes a stage and a
status. -/
def State.markBeaconFlight (s : State) (p seq : Nat) (st : Stage) (status : Nat) : State :=
  let x := s.eng p 4
  let upd (f : Flight) : Flight :=
    if f.entry.seq = seq ∧ f.stage = .held then { f with stage := st, status := status } else f
  s.setEng p 4 { x with flight := x.flight.map upd }

/-- Release waiters: each may complete when its release returns (04 R96). -/
def State.wake (s : State) (ws : List Waiter) : State :=
  ws.foldl (fun s w => s.markBeaconFlight w.parcel w.seq .run 0) s

/-- Beacon b runs the release procedure (04 R93, 08 R209). -/
def State.runRelease (s : State) (b : Nat) : State :=
  let x := s.beacon b
  let r := releaseWaiters x.count x.waiters
  (s.setBeacon b { x with count := r.1, waiters := r.2.1 }).wake r.2.2

/-- The beacon applies operations: a plat has assigned it and its tract has not reset since (08 R207,
R211, R212). -/
def State.beaconLive (s : State) (b : Nat) : Bool := (s.beacon b).assigned

/-- A signal of an amount: applied unless the count would pass 65,535 (04 R92); true where it overflows. -/
def State.signal (s : State) (b amount : Nat) : State × Bool :=
  let x := s.beacon b
  if 65535 < x.count + amount then (s, true)
  else ((s.setBeacon b { x with count := x.count + amount }).runRelease b, false)

/-- Every registered waiter is released with OK, the count unchanged (04 R92). -/
def State.broadcast (s : State) (b : Nat) : State :=
  let x := s.beacon b
  (s.setBeacon b { x with waiters := [] }).wake x.waiters

/-- A beacon operation applies at the home parcel. A beacon outside the issuing parcel's tract, of a
disabled parcel, orphaned or unassigned applies nothing (04 R91, 08 R211; DEDUCED, log entry 12); the
acknowledgement still returns, and a wait stays. -/
def State.applyBeaconOp (s : State) (o : BeaconOp) : State :=
  let h := beaconHome o.beacon
  let own := !s.disabled h && s.beaconLive o.beacon &&
    (match s.ptract o.parcel with
      | some t => s.ptract h == some t
      | none => false)
  let ack (s : State) (st : Nat) : State := s.markBeaconFlight o.parcel o.seq .run st
  match o.kind with
  | .wait =>
    if own then
      let x := s.beacon o.beacon
      (s.setBeacon o.beacon { x with waiters := x.waiters ++ [⟨o.parcel, o.seq, o.amount⟩] }).runRelease o.beacon
    else s
  | .sig =>
    if own then
      let r := s.signal o.beacon o.amount
      ack r.1 (if r.2 then 0x22 else 0)
    else ack s 0
  | .bcast => if own then ack (s.broadcast o.beacon) 0 else ack s 0
  | .sub =>
    if own then
      let x := s.beacon o.beacon
      if x.count < o.amount then ack s 0x21
      else ack ((s.setBeacon o.beacon { x with count := x.count - o.amount }).runRelease o.beacon) 0
    else ack s 0

/-- The BWAITs of parcel p that hold a wait: started, not released, not withdrawn. -/
def State.openWaits (s : State) (p : Nat) : List Nat :=
  ((s.eng p 4).flight.filter fun f => wOpcode f.entry.w == 0xC1 && f.stage == .held).map (·.entry.seq)

/-- The parcel withdraws every wait it has started (08 R210): no registration, no count consumed; each
affected beacon then runs the release procedure. -/
def State.withdrawWaits (s : State) (p : Nat) : State :=
  let seqs := s.openWaits p
  if seqs = [] then s
  else
    let mine (w : Waiter) : Bool := w.parcel == p && seqs.contains w.seq
    let hit := (s.beacons.filter fun kv => kv.2.waiters.any mine).map (·.1)
    let s := seqs.foldl (fun s n => s.markBeaconFlight p n .gone 0) s
    let s := { s with beaconOps := s.beaconOps.filter fun o => !(o.parcel == p && seqs.contains o.seq) }
    hit.foldl (fun s b =>
      let x := s.beacon b
      (s.setBeacon b { x with waiters := x.waiters.filter fun w => !mine w }).runRelease b) s

end Sys2Proof.Machine
end

