-- ==== Sys2Proof/Machine/PortWheel.lean ====
section
/-!
DEFINITION. The port wheel of a parcel memory and the memory terms of occupancies (02 R47 to R49, R424).
-/
namespace Sys2Proof.Machine

/-- The default wheel (02 R57). -/
def defaultWheel : Nat := 0xA20210608408

/-- The owner code of phase k. -/
def wheelOwner (wheel k : Nat) : Nat := bitsOf wheel (3 * (k % 16)) 3

/-- The wheel in force. -/
def State.wheel (s : State) (p : Nat) : Nat := s.fld Reg.PCT_WHEEL_NOW p

/-- The phases of a wheel that an owner holds, rising. -/
def ownedPhases (wheel owner : Nat) : List Nat := (List.range 16).filter fun k => wheelOwner wheel k == owner

/-- The wheel in force gives an owner a phase (02 R49). -/
def State.hasPhase (s : State) (p owner : Nat) : Bool := !(ownedPhases (s.wheel p) owner).isEmpty

/-- How many of the plan cycles before cycle c of a window an owner holds. -/
def ownedBefore (wheel owner c : Nat) : Nat :=
  let ds := ownedPhases wheel owner
  c / 16 * ds.length + ds.countP fun k => decide (k < c % 16)

/-- Plan cycles of a window (08 R198). -/
def windowCycles : Nat := 1945

/-- Plan cycles from plan cycle c to the end of the n-th phase from it on that the owner holds; none where it holds none. A
window's phases begin at 0, whatever phase the window before it ended in (02 R47, R424). -/
def phaseEnd (wheel owner c n : Nat) : Option Nat :=
  let ds := ownedPhases wheel owner
  let perWindow := ownedBefore wheel owner windowCycles
  if n = 0 then some 0
  else if ds = [] then none
  else
    let k := ownedBefore wheel owner c + n - 1
    let i := k % perWindow
    some (k / perWindow * windowCycles + i / ds.length * 16 + ds.getD (i % ds.length) 0 + 1 - c)

/-- The bank of a byte offset (02 R47). -/
def bankOf (off : Nat) : Nat := bitsOf off 6 5

/-- The 64-byte lines (by offset divided by 64) that n bytes at an offset touch, modulo 4 MiB. -/
def linesOf (off n : Nat) : List Nat :=
  if n = 0 then []
  else (List.range ((off + n + 63) / 64 - off / 64)).map (fun i => (off / 64 + i) % 65536)

/-- The largest number of the accesses that fall in one bank. -/
def bankPeak (lines : List Nat) : Nat :=
  (List.range 32).foldl (fun m b => max m (lines.countP (fun l => l % 32 == b))) 0

/-- The memory term of an instruction (02 R424): the table figure under the default wheel when no bank
holds more than its even share, otherwise the phases it has to wait for. -/
def State.memTerm (s : State) (p owner rate : Nat) (lines : List Nat) : Option Nat :=
  let a := lines.length
  let peak := bankPeak lines
  if s.wheel p = defaultWheel ∧ peak ≤ ceilDiv a 32 then some (ceilDiv (64 * a) rate)
  else phaseEnd (s.wheel p) owner (s.cycleNow (p / 16)) peak

end Sys2Proof.Machine
end

