-- ==== Sys2Proof/Machine/Stream.lean ====
section
/-!
DEFINITION. The instruction stream: issue, control instructions, starting and retiring engine
instructions, faults and stopping (02 R32 to R43, R51 to R55, 04 R106 to R109).
-/
namespace Sys2Proof.Machine

/-! ### Faults and retirement -/

/-- The next word of parcel p's stream. -/
def State.nextWord (s : State) (p : Nat) : Nat := s.codeWord p (s.par p).pc

/-- The issue stage shows a standing cause (02 R57, PCT_STALL_CAUSE): 4 draining, 5 parameter copy, 6 halted,
7 stopped. -/
def State.standing (s : State) (p cause : Nat) : State :=
  s.setFlds p [(Reg.PCT_TAG_STALLED, wTag (s.nextWord p)), (Reg.PCT_STALLED, 1), (Reg.PCT_STALL_CAUSE, cause)]

/-- The fields of a parcel, and of the debug block, that a stop or a halt changes. -/
def undoFlds : List Fld :=
  [Reg.PCT_STATE_CODE, Reg.PCT_TAG_STALLED, Reg.PCT_STALLED, Reg.PCT_STALL_CAUSE, Reg.PCT_EVT_HALTED, Reg.PCT_FAULT_DISCARDS]
/-- Those of the debug block. -/
def undoDbg : List Fld := [Reg.DBG_HALT_CAUSE, Reg.DBG_HALT_CMD, Reg.DBG_EVT_HALTED]

/-- The values of those fields now. -/
def State.undoVals (s : State) (p : Nat) : List Nat := undoFlds.map (fun f => s.fld f p) ++ undoDbg.map (fun f => s.fld f 0)

/-- A stop or a halt is about to act on parcel p: keep what it changes. The fields before the first of a cycle are the ones
to go back to. -/
def State.keepStop (s : State) (p : Nat) : State :=
  let x := s.par p
  let first := match x.undo with
    | some u => if u.time = s.datum then u.flds else s.undoVals p
    | none => s.undoVals p
  s.setPar p { x with
    undo := some { time := s.datum, flds := first, queues := (List.range 6).map fun e => (s.eng p e).queue } }

/-- Drop a stop or a halt of the present cycle (02 R41): what it changed is as before it, discarded queues included. The
debug block keeps its record where another parcel halted in this cycle. -/
def State.undoStop (s : State) (p : Nat) : State :=
  let x := s.par p
  match x.undo with
  | none => s
  | some u =>
    if u.time ≠ s.datum then s
    else
      let s1 := s.setFlds p (undoFlds.zip u.flds)
      let s1 := if x.haltedAt = some s.datum ∧ (s.parcels.any fun kv => kv.1 != p && kv.2.haltedAt == some s.datum) = false then
          s1.setFlds 0 (undoDbg.zip (u.flds.drop 6))
        else s1
      let s1 := if x.stopNow then
          (List.range 6).foldl (fun s e =>
            let y := s.eng p e
            s.setEng p e { y with
              queue := u.queues.getD e []
              flight := if e = 5 then y.flight.map fun f => if f.stage = .gone then { f with stage := .held } else f
                else y.flight }) s1
        else s1
      s1.setPar p { s1.par p with undo := none, haltedAt := none, stopNow := false, stopping := false }

/-- Record a parcel's fault and stop it (02 R40). A second failure in the same cycle is merged by R41: the
lowest engine, and of one engine the lowest command count, with PCT_FAULT_MORE set. A later failure, while
the parcel is already stopping, leaves the record. -/
def State.parcelFault (s : State) (p eng tag cmd status : Nat) : State :=
  let x := s.par p
  let rec' (s : State) : State :=
    s.setFlds p [(Reg.PCT_FAULT_STATUS, status), (Reg.PCT_FAULT_ENGINE, eng), (Reg.PCT_FAULT_TAG, tag),
      (Reg.PCT_FAULT_CMD_VAL, cmd)]
  let s := s.noteParcelFault p status tag cmd
  if x.faulted then
    if x.faultAt = s.datum then
      let e0 := s.fld Reg.PCT_FAULT_ENGINE p
      let c0 := s.fld Reg.PCT_FAULT_CMD_VAL p
      let s := s.setFld Reg.PCT_FAULT_MORE p 1
      if eng < e0 ∨ (eng = e0 ∧ cmd < c0) then rec' s else s
    else s
  else
    let s := s.undoStop p
    let y := { s.par p with
      faulted := true
      faultAt := s.datum
      stopping := false
      stopNow := false
      armed := false
      haltReq := false
      stepping := false
      stepEng := none }
    (rec' ((s.withdrawWaits p).setPar p y)).raise
      Reg.PCT_EVT_FAULT p

/-- Drop the completed instructions at the front, advancing the counter past each (02 R36). -/
def retireFront : List Flight → Nat → List Flight × Nat
  | [], n => ([], n)
  | f :: fs, n => if f.stage = .done ∧ f.status = 0 then retireFront fs (n + 1) else (f :: fs, n)

/-- The parcel is halted with a cause: 1 request, 2 step, 3 and 4 breakpoints (16 R407, R410). -/
def State.haltNow (s : State) (p cause : Nat) : State :=
  let s := s.keepStop p
  let x := s.par p
  let s := (s.setPar p { x with stepping := false, stepEng := none, haltReq := false, haltedAt := some s.datum }).setPstate p stHalted
  let s := s.standing p 6
  let s := s.setFlds 0 [(Reg.DBG_HALT_CAUSE, cause), (Reg.DBG_HALT_CMD, s.fld Reg.PCT_CMD p)]
  (s.raise Reg.PCT_EVT_HALTED p).raise Reg.DBG_EVT_HALTED 0

/-- A single step ends, with the parcel halted again, once the stepped instruction has completed: it was the last issued
to its engine (16 R407). -/
def State.stepCheck (s : State) (p : Nat) : State :=
  match (s.par p).stepEng with
  | some e => if (s.eng p e).queue = [] ∧ (s.eng p e).flight = [] then s.haltNow p 2 else s
  | none => s

/-- A halt of this cycle is dropped: a stop or a tract command of the same cycle wins (16 R407). -/
def State.dropHalt (s : State) (p : Nat) : State :=
  if s.pstate p = stHalted ∧ (s.par p).haltedAt = some s.datum then s.undoStop p else s

/-- Advance an engine's completion counter past every instruction whose predecessors are complete. -/
def State.retire (s : State) (p e : Nat) : State :=
  let x := s.eng p e
  let r := retireFront x.flight 0
  let s1 := (s.setEng p e { x with flight := r.1 }).setFld (cntFld e) p ((s.fld (cntFld e) p + r.2) % 2 ^ 24)
  if r.2 = 0 then s1 else (s1.active p).stepCheck p

/-- Replace instruction i in flight. -/
def State.setFlight (s : State) (p e i : Nat) (f : Flight) : State :=
  let x := s.eng p e
  s.setEng p e { x with flight := x.flight.set i f }

/-- The wheel owner in whose phases an engine's accesses fall (02 R48): the taper's is 4. -/
def engOwner (e : Nat) : Nat := if e = 5 then 4 else e

/-- Instruction i in flight completes: counted in order, or its fault stops the parcel; the corrected errors it met are recorded. -/
def State.finishFlight (s : State) (p e i : Nat) : State :=
  match (s.eng p e).flight[i]? with
  | none => s
  | some f =>
    let s := (s.setFlight p e i { f with stage := .done }).noteLines (engOwner e) f.met
    if f.status = 0 then s.retire p e
    else s.parcelFault p e (wTag f.entry.w) f.entry.cmd f.status

/-- Every engine of the parcel is quiet: nothing executes (02 R40). A taper call whose routine has trapped or
was abandoned executes nothing. -/
def State.quiet (s : State) (p : Nat) : Bool :=
  (List.range 6).all fun e => (s.eng p e).flight.all fun f =>
    decide (f.stage = .done) || decide (f.stage = .gone) || (e == 5 && !(s.par p).taper.running)

/-- Draining is complete: every queue empty, every engine quiet, the taper asleep with no call queued
(02 R52). A trapped or abandoned call stays in flight, so the drain does not complete. -/
def State.drainComplete (s : State) (p : Nat) : Bool :=
  (List.range 6).all fun e => decide ((s.eng p e).queue = [] ∧ (s.eng p e).flight = [])

/-! ### Issue -/

/-- The parcel's issue stage may issue: the parcel runs, its township is in its plan window, and nothing
has ended its fetch. -/
def State.canIssue (s : State) (p : Nat) : Bool :=
  let x := s.par p
  decide (s.pstate p = stRun) && s.planRuns (p / 16) && !x.faulted && !x.ended && !x.stopNow &&
    decide (x.replayTo = none) && decide (x.stepEng = none)

/-- The advance of the loop nest after a pass of its body (02 R53), from level `l` up with `fuel` levels
left: the new indices and the level whose increment the generators take (none: the nest is complete). -/
def loopAdvance (counts : List Nat) : Nat → Nat → List Nat → List Nat × Option Nat
  | 0, _, idx => (idx, none)
  | fuel + 1, l, idx =>
    let i := idx.getD l 0 + 1
    if i < counts.getD l 1 then (idx.set l i, some l)
    else loopAdvance counts fuel (l + 1) (idx.set l 0)

/-- The level-index fields. -/
def loopIdxFlds : List Fld :=
  [Reg.PCT_LOOP_I0, Reg.PCT_LOOP_I1, Reg.PCT_LOOP_I2, Reg.PCT_LOOP_I3, Reg.PCT_LOOP_I4, Reg.PCT_LOOP_I5]

/-- A 48-bit generator plus a signed increment (02 R53: generators wrap modulo 2^48). -/
def agAdd (a : BitVec 48) (i : Int) : BitVec 48 := BitVec.ofNat 48 (wrapTo 48 ((a.toNat : Int) + i))

/-- Fetch moves to the next word (02 R32, R53): at the last word of a loop body the nest advances first. -/
def State.advancePc (s : State) (p : Nat) : State :=
  let x := s.par p
  let l := x.loop
  if s.bit Reg.PCT_LOOP_ACTIVE p && x.pc == (l.start + l.len - 1) % 8192 then
    let idx := loopIdxFlds.map fun f => s.fld f p
    let r := loopAdvance l.counts 6 0 idx
    let s := s.setFlds p (loopIdxFlds.zip r.1)
    match r.2 with
    | some lev =>
      let ags := (l.ags.zipIdx).map fun ai => agAdd ai.1 (l.incs.getD (6 * ai.2 + lev) 0)
      s.setPar p { x with pc := l.start, loop := { l with ags := ags } }
    | none => (s.setFld Reg.PCT_LOOP_ACTIVE p 0).setPar p { x with pc := (x.pc + 1) % 8192 }
  else s.setPar p { x with pc := (x.pc + 1) % 8192 }

/-- A control transfer to a word (02 R39). -/
def State.jump (s : State) (p target : Nat) : State :=
  s.setPar p { s.par p with pc := target % 8192 }

/-- The issue bookkeeping of every instruction: command count (saturating, 02 R55), tag, no stall. -/
def State.countIssue (s : State) (p w : Nat) : State :=
  (((s.count Reg.PCT_CMD p 1).setFlds p
    [(Reg.PCT_TAG_ISSUED, wTag w), (Reg.PCT_STALLED, 0), (Reg.PCT_STALL_CAUSE, 0)])).active p

/-- The issue stage stalls on an instruction (02 R32): causes 1 queue full, 2 control-instruction wait. -/
def State.stall (s : State) (p w cause : Nat) : State :=
  s.setFlds p [(Reg.PCT_TAG_STALLED, wTag w), (Reg.PCT_STALLED, 1), (Reg.PCT_STALL_CAUSE, cause)]

/-- The strides of generator a in the loop record, level by level (04 R109). -/
def State.loopStride (s : State) (p preg a lev : Nat) : Int :=
  sextOf 32 (bitsOf (s.liveP p (preg + 3 + 4 * a + lev / 2)) (32 * (lev % 2)) 32)

/-- inc_{a,L} = s_{a,L} − Σ_{k<L} (n_k − 1) × s_{a,k} (02 R427 ff.). -/
def loopInc (counts : List Nat) (strides : List Int) (l : Nat) : Int :=
  strides.getD l 0 -
    ((List.range l).map fun k => ((counts.getD k 1 : Int) - 1) * strides.getD k 0).foldl (· + ·) 0

/-- LOOP (04 R109): read the record, set up the nest over the words that follow. -/
def State.setupLoop (s : State) (p preg start : Nat) : State :=
  let r0 := s.liveP p preg
  let r1 := s.liveP p (preg + 1)
  let counts := (List.range 4).map (fun l => bitsOf r0 (16 * l) 16 + 1) ++
    [bitsOf r1 0 16 + 1, bitsOf r1 16 16 + 1]
  let used := bitsOf r1 40 3 + 1
  let ags := (List.range 8).map fun a =>
    if a < used then BitVec.ofNat 48 (s.liveP p (preg + 2 + 4 * a)) else 0
  let incs := (List.range 8).flatMap fun a =>
    let st := (List.range 6).map fun l => if a < used then s.loopStride p preg a l else 0
    (List.range 6).map (loopInc counts st)
  let s := s.setFlds p ((loopIdxFlds.map fun f => (f, 0)) ++ [(Reg.PCT_LOOP_ACTIVE, 1)])
  s.setPar p { s.par p with
    loop := { start := start % 8192, len := bitsOf r1 32 8 + 1, counts := counts, incs := incs, ags := ags } }

/-- BR's condition (04 R106). -/
def brTaken (cond x v : Nat) : Bool :=
  match cond with
  | 0 => x == v
  | 1 => x != v
  | 2 => decide (x < v)
  | 3 => decide (v ≤ x)
  | 4 => decide (sextOf 32 x < sextOf 32 v)
  | _ => decide (sextOf 32 v ≤ sextOf 32 x)

/-- The word a BFORK transfers to, from its count and thresholds (04 R107). -/
def State.forkTarget (s : State) (p w c : Nat) : Nat :=
  let preg := bitsOf w 68 8
  let a := bitsOf (s.liveP p preg) 0 32
  let b := bitsOf (s.liveP p preg) 32 32
  let d := bitsOf (s.liveP p (preg + 1)) 0 32
  if c ≤ a then bitsOf w 16 13
  else if c ≤ b then bitsOf w 29 13
  else if c ≤ d then bitsOf w 42 13
  else bitsOf w 55 13

/-- A control instruction executes in the issue stage, its waits holding (04 R106 to R109). A word that
breaks a limit is a control instruction that does nothing (03 R63). -/
def State.execControl (s : State) (p w : Nat) : State :=
  let x := s.par p
  if !wordOk w then (s.countIssue p w).advancePc p
  else
    match wOpcode w with
    | 0x01 =>
      let s := s.countIssue p w
      s.setFlds p [(Reg.PCT_TAG_STALLED, wTag w), (Reg.PCT_STALLED, 1), (Reg.PCT_STALL_CAUSE, 4)] |>.setPar p
        { s.par p with replayTo := some (wTarget w) }
    | 0x02 =>
      if brTaken (bitsOf (wMod w) 0 3) (bitsOf (s.liveP p (bitsOf w 29 8)) 0 32) (bitsOf w 37 32) then
        (s.countIssue p w).jump p (wTarget w)
      else (s.countIssue p w).advancePc p
    | 0x03 =>
      if x.forkOpen then (s.countIssue p w).advancePc p
      else if wheelOwner (s.wheel p) (s.cycleNow (p / 16)) ≠ 5 then s.stall p w 2
      else
        let off := 4 * bitsOf w 76 20
        if s.pmBad p off 4 then s.parcelFault p 6 (wTag w) (s.fld Reg.PCT_CMD p) 0x40
        else
          let c := leNat (s.pmRead p off 4)
          let s1 := ((s.noteLines 5 (s.corrLines [(pmAddr p off, 4)])).countIssue p w).jump p (s.forkTarget p w c)
          s1.setPar p { s1.par p with forkOpen := true }
    | 0x04 =>
      let s1 := (s.countIssue p w).jump p (wTarget w)
      s1.setPar p { s1.par p with forkOpen := false }
    | 0x05 =>
      let s1 := (s.countIssue p w).advancePc p
      s1.setupLoop p (bitsOf w 16 8) (x.pc + 1)
    | 0x06 =>
      let s1 := s.countIssue p w
      s1.setPar p { s1.par p with ended := true }
    | _ => (s.countIssue p w).advancePc p

/-- The issue stage issues the next word (02 R32): an engine word enters its queue once it has a free
entry; a control word, or a word that breaks a limit, executes once its waits hold. -/
def State.issueNext (s : State) (p : Nat) : State :=
  let w := s.codeWord p (s.par p).pc
  let asControl (s : State) : State :=
    if s.waitsHold p (s.wordWaits p w) then s.execControl p w else s.stall p w 2
  if wordOk w then
    match opUnit (wOpcode w) with
    | .engine e =>
      let x := s.eng p e
      if x.queue.length < queueDepth e then
        let q := s.makeEntry p e w
        let s := s.setEng p e { x with queue := x.queue ++ [q], issued := (x.issued + 1) % 2 ^ 24, total := x.total + 1 }
        (s.countIssue p w).advancePc p
      else s.stall p w 1
    | _ => asControl s
  else asControl s

/-- Breakpoint b matches the instruction about to issue: by command count or by tag, for the target parcel or with
DBG_WIDE every parcel of its tract, and with DBG_BP_QUAL only in the step named (16 R407, R410). -/
def State.breakMatch (s : State) (p w b : Nat) : Bool :=
  let target := s.fld Reg.DBG_PARCEL 0
  let mine := p == target || (s.bit Reg.DBG_WIDE 0 && (s.ptract target).isSome && s.ptract p == s.ptract target)
  let v := s.fld Reg.DBG_BP_VALUE b
  let hit := if s.bit Reg.DBG_BP_TAG b then wTag w == v % 65536 else s.fld Reg.PCT_CMD p == v
  let qual := !s.bit Reg.DBG_BP_QUAL b ||
    (match s.ptract p with
     | some t => s.fld Reg.TRC_STEP_NUM t == s.fld Reg.DBG_BP_STEP 0
     | none => false)
  s.bit Reg.DBG_BP_EN b && mine && hit && qual

/-- After an issue a single step waits for the instruction: a control instruction has completed. -/
def State.afterIssue (s : State) (p : Nat) (before : State) : State :=
  let x := s.par p
  if !x.stepping || s.pstate p != stRun then s
  else
    match (List.range 6).find? fun e => (s.eng p e).queue.length != (before.eng p e).queue.length with
    | some e => s.setPar p { x with stepping := false, stepEng := some e }
    | none => if s.bit Reg.PCT_STALLED p then s else s.haltNow p 2

/-- Issue, where the parcel may issue and no breakpoint halts it first (16 R407); a breakpoint never matches the
instruction at which its parcel resumed. -/
def State.issueStage (s : State) (p : Nat) : State :=
  if s.canIssue p then
    let w := s.nextWord p
    let fresh := !(s.par p).resumed
    if fresh && s.breakMatch p w 0 then s.haltNow p 3
    else if fresh && s.breakMatch p w 1 then s.haltNow p 4
    else
      let r := s.issueNext p
      let r := if r.bit Reg.PCT_STALLED p then r else r.setPar p { r.par p with resumed := false }
      r.afterIssue p s
  else s

/-- Issue only where the next word has the given opcode and is well-formed: the command names it. -/
def State.issueIf (s : State) (p op : Nat) : State :=
  if wordOk (s.nextWord p) && wOpcode (s.nextWord p) == op then s.issueStage p else s

/-! ### Safety slots (14 R351, R352) and starting an engine instruction -/

/-- The engine of a parcel may start the head of its queue: the parcel runs or drains and is not
stopping on a fault or at once (02 R36, R40, R43); a halted parcel starts nothing. -/
def State.mayStart (s : State) (p : Nat) : Bool :=
  let x := s.par p
  (decide (s.pstate p = stRun) || decide (s.pstate p = stDraining)) &&
    s.planRuns (p / 16) && !x.faulted && !x.stopNow

/-- Ticks of one test period. -/
def katPeriod : Nat := 31232

/-- The tick offset and base at which parcel p is tested: by fold parcel in a RUNNING tract, by its number otherwise; none
where it is not tested. -/
def State.katSlot (s : State) (p : Nat) : Option (Nat × Nat) :=
  let st := s.pstate p
  if st = stOff ∨ st = stDark ∨ st = stQuarantined then none
  else
    match s.ptract p with
    | none => some (0, 61 * p)
    | some t =>
      if s.fld Reg.TRC_STATE_CODE t = 3 then
        match (s.tract t).landing.findIdx? (· == p) with
        | some f => some (s.fld Reg.TRC_START_TICK_NUM t, 61 * f)
        | none => some (0, 61 * p)
      else some (0, 61 * p)

/-- The period number of a tick for a parcel, where the tick is its slot's. -/
def State.katDue (s : State) (p n : Nat) : Option Nat :=
  match s.katSlot p with
  | some bo => if bo.1 ≤ n ∧ (n - bo.1) % katPeriod = bo.2 then some ((n - bo.1) / katPeriod) else none
  | none => none

/-- Parcel p is in its safety slot: plan cycles 1,753 to 1,944 of the tick of its test (14 R351). -/
def State.inSafetySlot (s : State) (p : Nat) : Bool :=
  let w := p / 16
  s.planRuns w && decide (1753 ≤ s.cycleNow w ∧ s.cycleNow w ≤ 1944) && (s.katDue p ((s.town w).tick.getD 0)).isSome

/-- The head of an engine's queue, where it is an instruction of the given opcode whose waits hold. In a safety slot the tensor
and vector engines start nothing (14 R352). -/
def State.readyHead (s : State) (p e op : Nat) : Option QEntry :=
  match (s.eng p e).queue with
  | q :: _ =>
    if s.mayStart p && wOpcode q.w == op && s.waitsHold p q.waits && !(decide (e ≤ 1) && s.inSafetySlot p) then some q else none
  | [] => none

/-- The lines of parcel memory that an instruction in flight on engine e of parcel p accesses, by parcel (07 R171). -/
def Flight.served (f : Flight) (p e : Nat) : List Nat :=
  (f.reads ++ f.writes).flatMap fun r =>
    if e = 2 then if r.1 < 0x2000000 then List.replicate (r.2 - r.1) (r.1 / 65536) else []
    else if r.1 < 65536 then List.replicate (r.2 - r.1) p else []

/-- The head moves from the queue into flight. -/
def State.launch (s : State) (p e : Nat) (f : Flight) : State :=
  let on := f.served p e
  let s := (sortDedup on).foldl (fun s o => s.pmemServe o (on.countP (· == o))) s
  let x := s.eng p e
  let s1 := s.setEng p e { x with queue := x.queue.tail, flight := x.flight ++ [f] }
  if e ≤ 1 then s1.setPar p { s1.par p with busy := (s1.par p).busy + f.occ } else s1

/-- What an engine instruction did at its start: the state with its data effect, the status it fails
with (0 none), and its occupancy and latency (none: its wheel gives the engine no phase, so that it never
completes, 02 R49), and the lines it met with a corrected error. -/
structure Effect where
  st : State
  status : Nat := 0
  time : Option (Nat × Nat) := some (0, 0)
  met : List Nat := []

/-- What an instruction reads and what it writes, as half-open ranges of locations (03 R70): the 65,536 memory lines of its
parcel; then 4,096 wicks' worth for each of 32 registers, the predicates (32) and the index registers (33); then the flag
words. -/
structure Locs where
  reads : List (Nat × Nat) := []
  writes : List (Nat × Nat) := []

/-- Memory lines as locations. -/
def lineLocs (lines : List Nat) : List (Nat × Nat) := lines.map fun l => (l, l + 1)

/-- Register r of n wicks from `first` on, as locations. -/
def wickLocs (r first n : Nat) : List (Nat × Nat) := [(65536 + r * 4096 + first, 65536 + r * 4096 + first + n)]

/-- Flag word n as a location; 0 names none. -/
def flagLocs (n : Nat) : List (Nat × Nat) := if n = 0 then [] else [(65536 + 34 * 4096 + n, 65536 + 34 * 4096 + n + 1)]

/-- Two lists of ranges meet. -/
def locsMeet (a b : List (Nat × Nat)) : Bool := a.any fun x => b.any fun y => decide (x.1 < y.2 ∧ y.1 < x.2)

/-- An instruction in flight on engine e, not complete, that an instruction with these locations depends on (03 R70): it
writes what that one reads or writes, or reads what that one writes. -/
def State.dependsOn (s : State) (p e : Nat) (l : Locs) : Bool :=
  (s.eng p e).flight.any fun f => (f.stage == .run || f.stage == .held) &&
    (locsMeet f.writes (l.reads ++ l.writes) || locsMeet f.reads l.writes)

/-! ### What other engines are writing (02 R38) -/

/-- The bytes in which two memories differ, with what the first holds there. -/
def memDiff : Nat → Tab Byte → Tab Byte → List (Nat × Byte)
  | 0, _, _ => []
  | _ + 1, [], [] => []
  | n + 1, (k, v) :: t, [] => (k, v) :: memDiff n t []
  | n + 1, [], (k, _) :: u => (k, 0) :: memDiff n [] u
  | n + 1, (k, v) :: t, (k', v') :: u =>
    if k < k' then (k, v) :: memDiff n t ((k', v') :: u)
    else if k' < k then (k', 0) :: memDiff n ((k, v) :: t) u
    else if v = v' then memDiff n t u
    else (k, v) :: memDiff n t u

/-- The bytes of parcel p's memory that a step from s to r changed, with what they held in s. -/
def State.changed (s r : State) (p : Nat) : List (Nat × Byte) :=
  if s.mem = r.mem then []
  else (memDiff (s.mem.length + r.mem.length) s.mem r.mem).filter fun ab => ab.1 / 0x400000 == p

/-- The bytes that instructions in flight on parcel p's other engines have changed, with what they held before. -/
def State.unsettled (s : State) (p e : Nat) : List (Nat × Byte) :=
  (List.range 6).flatMap fun g =>
    if g = e then []
    else (s.eng p g).flight.flatMap fun f => if f.stage = .run ∨ f.stage = .held then f.old else []

/-- The memory as engine e reads it without a wait: each byte being written holds its old or its new value, a free choice. -/
def State.mixed (s : State) (l : List (Nat × Byte)) : State :=
  l.foldl (fun s ab =>
    let d := s.draw
    if d.1 % 2 = 1 then { d.2 with mem := tabPut 0 d.2.mem ab.1 ab.2 } else d.2) s

/-- After an act on the mixture v of s: the bytes of the mixture that the act left alone are as in s. -/
def State.unmixed (r s v : State) (l : List (Nat × Byte)) : State :=
  l.foldl (fun r ab =>
    if r.rd8 ab.1 = v.rd8 ab.1 then { r with mem := tabPut 0 r.mem ab.1 (s.rd8 ab.1) } else r) r

/-- An effect that met more lines with a corrected error. -/
def Effect.meeting (f : Effect) (l : List Nat) : Effect := { f with met := f.met ++ l }

/-- The flight record of an effect. -/
def Effect.flight (f : Effect) (q : QEntry) : Flight :=
  match f.time with
  | some (o, l) => { entry := q, status := f.status, occ := o, lat := l, met := f.met }
  | none => { entry := q, status := f.status, stage := .held }

/-- Start the head of an engine's queue with its effect, where it may start and depends on nothing in flight (03 R70). It
reads what other engines are writing as a mixture (02 R38). An engine whose wheel gives it no phase never makes its
accesses: the instruction stays in flight without them (02 R49). -/
def State.startEngine (s : State) (p e op : Nat) (locs : State → QEntry → Locs) (eff : State → QEntry → Effect) : State :=
  match s.readyHead p e op with
  | none => s
  | some q =>
    let l := locs s q
    if s.dependsOn p e l then s
    else
      let m := s.unsettled p e
      let v := s.mixed m
      let f := eff v q
      let r := f.st.unmixed s v m
      let flag := if wFlagSel q.w = 0 then [] else s.corrLines [(pmAddr p (0x3FFFC0 + 8 * wFlagSel q.w), 8)]
      r.launch p e { (f.meeting flag).flight q with reads := l.reads, writes := l.writes, old := v.changed f.st p }

/-- OR a set of flags into flag word n, once, as the last act (03 R68). Fails where the word reads
uncorrectable (R69); n = 0 names no word. -/
def State.orFlagWord (s : State) (p n flags : Nat) : State × Bool :=
  let a := pmAddr p (0x3FFFC0 + 8 * n)
  if n = 0 then (s, false)
  else if tabGet false s.uncorr (a / 8) then (s, true)
  else (s.wrNat a 8 (orFlags (s.rdNat a 8) flags), false)

/-! ### The commands of the issue stage and of completion -/

/-- ISSUE (02 R32). -/
def execIssue (p : ParcelId) (s : State) : Host.Outcome State Fault Refusal := done (s.issueStage p)

/-- NOP (04 R84). -/
def execNop (p : ParcelId) (s : State) : Host.Outcome State Fault Refusal := done (s.issueIf p 0x00)

/-- REPLAY (02 R52). -/
def execReplay (p : ParcelId) (s : State) : Host.Outcome State Fault Refusal := done (s.issueIf p 0x01)

/-- BR (04 R106). -/
def execBr (p : ParcelId) (s : State) : Host.Outcome State Fault Refusal := done (s.issueIf p 0x02)

/-- BFORK (04 R107, R108). -/
def execBfork (p : ParcelId) (s : State) : Host.Outcome State Fault Refusal := done (s.issueIf p 0x03)

/-- BMERGE (04 R108). -/
def execBmerge (p : ParcelId) (s : State) : Host.Outcome State Fault Refusal := done (s.issueIf p 0x04)

/-- LOOP (04 R109). -/
def execLoop (p : ParcelId) (s : State) : Host.Outcome State Fault Refusal := done (s.issueIf p 0x05)

/-- END (04 R106). -/
def execEndStream (p : ParcelId) (s : State) : Host.Outcome State Fault Refusal := done (s.issueIf p 0x06)

/-- TCALL (03 R83): the call enters the taper's queue. -/
def execTcall (p : ParcelId) (s : State) : Host.Outcome State Fault Refusal := done (s.issueIf p 0x60)

end Sys2Proof.Machine
end

