-- ==== Sys2Proof/Machine/Tensor.lean ====
section
/-!
DEFINITION. The tensor engine: TMUL, TLSADD, TLSCVT, TLSSET (03 R71 to R76, 05 R120 to R126, 06 R135 to
R141).
-/
namespace Sys2Proof.Machine

/-! ### Operand tiles -/

/-- The code of element i of a packed row at an offset (05 R113). -/
def State.elemAt (s : State) (p off fmt i : Nat) : Nat := s.pmBits p off (i * fmtBits fmt) (fmtBits fmt)

/-- The exponent of an MX scale byte; none for a NaN scale (05 R112). -/
def scaleExp (c : Nat) : Option Int := if c = 255 then none else some ((c : Int) - 127)

/-- The scale exponent of an element of a plain or MX tile: 0 for a plain format (03 R72), none for a NaN
scale; `idx` is the scale's index in its plane. -/
def State.scaleOf (s : State) (p fmt plane idx : Nat) : Option Int :=
  if fmtIsMx fmt then scaleExp (s.rd8 (pmAddr p (plane + idx))).toNat else some 0

/-- A decoded operand together with its scale exponent; a NaN scale makes a NaN operand (05 R112). -/
def scaledNum (fmt code : Nat) (sc : Option Int) : Num × Int :=
  match sc with
  | none => (.nan, 0)
  | some k => (decodeElem fmt code, k)

/-- Row i of an activation tile: K operands with their scales (03 R71, R67). -/
def State.actRow (s : State) (p base d i : Nat) : List (Num × Int) :=
  let k := dExt d 0
  let fmt := dFmt d
  let row := addrAdd base ((i : Int) * dStr1 d)
  (List.range k).map fun x =>
    scaledNum fmt (s.elemAt p row fmt x) (s.scaleOf p fmt (base + dScaleOff d) (i * (k / 32) + x / 32))

/-- The kept weights of column j: (logical position, code), by the tile's form (06 R136 to R139). -/
def State.weightCodes (s : State) (p base d j : Nat) : List (Nat × Nat) :=
  let k := dExt d 0
  let fmt := dFmt d
  let md := base + dMetaOff d
  if dForm d = 1 then
    match dSparsity d with
    | 0 =>
      let row := addrAdd base ((j : Int) * dStr1 d)
      (List.range (k / 4)).flatMap fun g =>
        let f := s.pmBits p (md + j * (k / 8)) (4 * g) 4
        [(4 * g + bitsOf f 0 2, s.elemAt p row fmt (2 * g)), (4 * g + bitsOf f 2 2, s.elemAt p row fmt (2 * g + 1))]
    | 1 =>
      let row := addrAdd base ((j : Int) * dStr1 d)
      (List.range (k / 4)).map fun g =>
        (4 * g + s.pmBits p (md + j * (k / 16)) (2 * g) 2, s.elemAt p row fmt g)
    | _ =>
      let c := j / 16
      let present := (List.range (k / 16)).filter fun t => s.pmBits p (md + 32 * c) t 1 == 1
      (present.zipIdx).flatMap fun kt =>
        let tile := addrAdd base ((c : Int) * dStr1 d + ((kt.2 * (256 * fmtBits fmt / 8) : Nat) : Int))
        (List.range 16).map fun i => (16 * kt.1 + i, s.elemAt p tile fmt ((j % 16) * 16 + i))
  else
    let row := addrAdd base ((j : Int) * dStr1 d)
    (List.range k).map fun x => (x, s.elemAt p row fmt x)

/-- Column j of a weight tile: (logical position, operand, scale). The scale plane covers the logical
tile (06 R135). -/
def State.weightCol (s : State) (p base d j : Nat) : List (Nat × Num × Int) :=
  let k := dExt d 0
  let fmt := dFmt d
  (s.weightCodes p base d j).map fun kc =>
    (kc.1, scaledNum fmt kc.2 (s.scaleOf p fmt (base + dScaleOff d) (j * (k / 32) + kc.1 / 32)))

/-- The smallest counted scale exponent of a list of scale bytes; 0 when none counts (05 R122). -/
def minScale (l : List (Option Int)) : Int :=
  match l.filterMap id with
  | [] => 0
  | a :: t => t.foldl min a

/-- s_min of an MX operand: every scale of its first n dimension-1 indices (05 R122). -/
def State.scaleMin (s : State) (p base d n : Nat) : Int :=
  if fmtIsMx (dFmt d) then
    minScale ((List.range (n * (dExt d 0 / 32))).map fun i => s.scaleOf p (dFmt d) (base + dScaleOff d) i)
  else 0

/-- The automatic grid of a pass (05 R122). -/
def State.autoGrid (s : State) (p ab ad r wb wd : Nat) : Int :=
  fmtLsb (dFmt ad) + fmtLsb (dFmt wd) + s.scaleMin p ab ad r + s.scaleMin p wb wd (dExt wd 1)

/-! ### Lines and errors -/

/-- The 64-byte lines of a tile's planes, one access per row and line: value rows, scale plane, metadata
plane, grid word. `rows` is how many dimension-1 indices are counted. -/
def tileLines (base d rows : Nat) : List Nat :=
  let k := dExt d 0
  let fmt := dFmt d
  let values : List Nat :=
    if dForm d = 1 then
      match dSparsity d with
      | 0 => (List.range rows).flatMap fun (j : Nat) => linesOf (addrAdd base ((j : Int) * dStr1 d)) (packBytes fmt (k / 2))
      | 1 => (List.range rows).flatMap fun (j : Nat) => linesOf (addrAdd base ((j : Int) * dStr1 d)) (packBytes fmt (k / 4))
      | _ => []
    else (List.range rows).flatMap fun (j : Nat) => linesOf (addrAdd base ((j : Int) * dStr1 d)) (packBytes fmt k)
  let meta' : List Nat :=
    if dForm d = 1 then
      match dSparsity d with
      | 0 => linesOf (base + dMetaOff d) (rows * (k / 8))
      | 1 => linesOf (base + dMetaOff d) (rows * (k / 16))
      | _ => linesOf (base + dMetaOff d) (32 * (rows / 16))
    else []
  let scales := if fmtIsMx fmt then linesOf (base + dScaleOff d) (rows * (k / 32)) else []
  let grid := if fmt = 14 then linesOf (base + dScaleOff d) 8 else []
  values ++ meta' ++ scales ++ grid

/-- The value lines of a block-sparse tile: its non-empty 16 × 16 tiles (06 R139). -/
def State.blockLines (s : State) (p base d : Nat) : List Nat :=
  if dForm d = 1 ∧ dSparsity d = 2 then
    (List.range (dExt d 1 / 16)).flatMap fun (c : Nat) =>
      let n := ((List.range (dExt d 0 / 16)).filter fun t => s.pmBits p (base + dMetaOff d + 32 * c) t 1 == 1).length
      linesOf (addrAdd base ((c : Int) * dStr1 d)) (n * (256 * fmtBits (dFmt d) / 8))
  else []

/-- The lines of every row of a dense tensor of any rank, with its grid word (03 R65, R67). -/
def denseLines (base d : Nat) : List Nat :=
  ((dRows d).flatMap fun o => linesOf (addrAdd base o) (packBytes (dFmt d) (dExt d 0))) ++
    (if dFmt d = 14 then linesOf (base + dScaleOff d) 8 else [])

/-- Some line of a list (by offset divided by 64) of parcel p holds an uncorrectable word. -/
def State.anyLineBad (s : State) (p : Nat) (lines : List Nat) : Bool :=
  !s.uncorr.isEmpty && lines.any fun l => s.lineBad (pmAddr p (64 * l)) 64

/-- A write of n bytes at an offset covers part of an uncorrectable word (02 R167). -/
def State.pmPartialBad (s : State) (p off n : Nat) : Bool := s.partialBad (pmAddr p off) n

/-- The line of a flag word, where the instruction names one. -/
def flagLine (n : Nat) : List Nat := if n = 0 then [] else [0x3FFFC0 / 64]

/-- The memory access of one output row: an offset and its bytes. -/
abbrev RowWrite := Nat × List Byte

/-- Write output rows in order. -/
def State.writeRows (s : State) (p : Nat) (l : List RowWrite) : State :=
  l.foldl (fun s w => s.pmWrite p w.1 w.2) s

/-- Some output row covers part of an uncorrectable word. -/
def State.rowsPartialBad (s : State) (p : Nat) (l : List RowWrite) : Bool :=
  !s.uncorr.isEmpty && l.any fun w => s.pmPartialBad p w.1 w.2.length

/-- Free bytes in place of rows. -/
def State.freeRows (s : State) (p : Nat) (l : List RowWrite) : State :=
  l.foldl (fun s w =>
    let f := s.freeBytes w.2.length
    f.2.pmWrite p w.1 f.1) s

/-- The lines that a list of row writes touches. -/
def rowLines (l : List RowWrite) : List Nat := sortDedup (l.flatMap fun w => linesOf w.1 w.2.length)

/-- Free bytes in whole lines, as a failed instruction leaves the lines it would have written (03 R69). Their check bits stay. -/
def State.freeLines (s : State) (p : Nat) (lines : List Nat) : State :=
  lines.foldl (fun s l =>
    let f := s.freeBytes 64
    { f.2 with mem := putBytes f.2.mem (pmAddr p (64 * l)) f.1 }) s

/-- The common end of a tensor or vector instruction that writes memory rows: without a phase of its engine it makes no
access; it fails with UNCORRECTABLE_MEMORY where it met an uncorrectable line (the lines then hold free values and no flag
word is updated, 03 R69); otherwise it writes the rows and ORs its flags. -/
def State.commitRows (s : State) (p flagSel : Nat) (bad : Bool) (rows : List RowWrite) (flags : Nat)
    (time : Option (Nat × Nat)) : Effect :=
  if time = none then { st := s, time := none }
  else
    let met := s.corrParts (rows.map fun w => (pmAddr p w.1, w.2.length))
    if bad || s.rowsPartialBad p rows then { st := s.freeLines p (rowLines rows), status := 0x40, time := time, met := met }
    else
      let r := (s.writeRows p rows).orFlagWord p flagSel flags
      if r.2 then { st := s.freeLines p (rowLines rows), status := 0x40, time := time, met := met }
      else { st := r.1, time := time, met := met }

/-- The 20 little-endian bytes of a long sum (03 R67). -/
def lsBytes (n : Int) : List Byte := leBytes 20 (wrapTo 160 n)

/-- A long sum read from memory. -/
def State.lsAt (s : State) (p off : Nat) : Int := sextOf 160 (leNat (s.pmRead p off 20))

/-- The grid word of an LS160 tensor. -/
def State.gridAt (s : State) (p base d : Nat) : Int := gridOf (leNat (s.pmRead p (base + dScaleOff d) 8))

/-- An optional fixed grid operand: none for KIND 0 (03 R74). -/
def Opnd.grid (o : Opnd) : Option Int :=
  match o with
  | .none => Option.none
  | o => some (gridOf (o.num 16))

/-- Occupancy max(C, M, 16), latency + 32 for TMUL (03 R75). -/
def tmulTime (c : Nat) (m : Option Nat) : Option (Nat × Nat) :=
  m.map fun m => (max (max c m) 16, max (max c m) 16 + 32)

/-- Occupancy M + 8, latency + 16 for the other tensor instructions (03 R75). -/
def tlsTime (m : Option Nat) : Option (Nat × Nat) := m.map fun m => (m + 8, m + 8 + 16)

/-! ### TMUL -/

/-- kpc as a fraction (numerator, denominator) of a pass's operand pair (03 R72). -/
def kpcOf (fa fw : Nat) : Nat × Nat :=
  if fa = 1 then (1, 4) else if fa = 12 ∧ fw = 12 then (2, 1) else (1, 1)

/-- The operand pairs TMUL accepts (03 R72). -/
def tmulPairOk (fa fw : Nat) : Bool :=
  let fl (f : Nat) := decide ((2 ≤ f ∧ f ≤ 5) ∨ (8 ≤ f ∧ f ≤ 12))
  let it (f : Nat) := f == 6 || f == 13
  (fa == 1 && fw == 1) || (fl fa && fl fw) || (it fa && it fw)

/-- Compute cycles C (03 R75). -/
def State.tmulCycles (s : State) (p wb ad wd : Nat) : Nat :=
  let k := dExt wd 0
  let kp := kpcOf (dFmt ad) (dFmt wd)
  if dForm wd = 1 then
    if dSparsity wd = 2 then
      let worst := (List.range (dExt wd 1 / 16)).foldl (fun m c =>
        max m ((List.range (k / 16)).filter fun t => s.pmBits p (wb + dMetaOff wd + 32 * c) t 1 == 1).length) 0
      ceilDiv (worst * 16 * kp.2) kp.1
    else ceilDiv (k * kp.2) (2 * kp.1)
  else ceilDiv (k * kp.2) kp.1

/-- The terms of element (row, column): one product per kept weight (03 R73). -/
def tmulTerms (row : List (Num × Int)) (col : List (Nat × Num × Int)) : List Term :=
  col.map fun kw =>
    let a := row.getD kw.1 (.fin false 0 0, 0)
    productTerm a.1 kw.2.1 (a.2 + kw.2.2)

/-- The output element: the bytes written and the flags raised (03 R73, 05 R120, R121). -/
def tmulElem (g : Int) (fmt : Nat) (old : Option (Int × Bool)) (terms : List Term) : List Byte × Nat :=
  let acc0 : LsAcc := match old with
    | some (n, sat) => ({} : LsAcc).addInt n |> fun a => { a with sat := a.sat || sat }
    | none => {}
  let r := (terms.foldl (LsAcc.addTerm g) acc0).finish
  match fmt with
  | 14 => (lsBytes r.1.toLong.1, orFlags r.2 r.1.toLong.2)
  | 0 => (leBytes 4 (r.1.toFloat fmtFp32 g).val, orFlags r.2 (r.1.toFloat fmtFp32 g).flags)
  | _ => (leBytes 2 (r.1.toFloat fmtBf16 g).val, orFlags r.2 (r.1.toFloat fmtBf16 g).flags)

/-- A descriptor's shape is one the loader accepts: FORM, FMT, SPARSITY, extents beyond the rank, whole groups of 32 in an MX
tensor and of 4 in FP6, the shape and formats of a compressed tile (03 R64, R65, R67, R72, 05 R113, 06 R135). -/
def descShape (d : Nat) : Bool :=
  let r := dRank d
  decide (dForm d ≤ 2) && decide (dFmt d ≤ 16) &&
  (List.range 4).all (fun i => decide (i ≤ r) || dExt d i == 1) &&
  (!fmtIsMx (dFmt d) || dExt d 0 % 32 == 0) &&
  (dForm d == 1 || !(dFmt d == 4 || dFmt d == 5) || dExt d 0 % 4 == 0) &&
  (dForm d != 1 || (r == 1 && dExt d 0 % 32 == 0 && decide (dExt d 0 ≤ 4096) && dExt d 1 % 16 == 0 &&
    decide (dExt d 1 ≤ 128) && decide (bitsOf d 192 32 ≤ 2) &&
    !([0, 7, 14, 15, 16].contains (dFmt d))))

/-- The grid word of an LS160 tensor at a base is 8-byte aligned (03 R67). -/
def gridAligned (base d : Nat) : Bool := dFmt d != 14 || (base + dScaleOff d) % 8 == 0

/-- An operand's descriptor, as it reaches issue, breaks a rule of its own (03 R63): its shape, or where its grid word lies. -/
def Opnd.broken (o : Opnd) : Bool := !descShape o.bits || !gridAligned o.base o.bits

/-- TMUL's effective rows (03 R71). -/
def tmulRows (v : Nat) : Nat := if v = 0 ∨ 64 < v then 64 else v

/-- TMUL's descriptors do not agree as its table requires (03 R71, R72). The rows of an immediate OPD must lie in both tensors;
those of a register are not judged. -/
def State.tmulBroken (da aa wa : Opnd) (q : QEntry) : Bool :=
  let d := da.bits
  let a := aa.bits
  let w := wa.bits
  let k := dExt w 0
  let n := dExt w 1
  dForm d != 0 || dForm a != 0 || decide (2 ≤ dForm w) || (dForm w == 1 && dSparsity w == 3) ||
  !tmulPairOk (dFmt a) (dFmt w) || !([0, 1, 14].contains (dFmt d)) || (bitAt (wMod q.w) 0 && dFmt d != 14) ||
  k % 32 != 0 || decide (4096 < k) || n % 16 != 0 || decide (128 < n) || dExt a 0 != k || dExt d 0 != n ||
  (q.op 4 == .none && (dFmt a == 1 || dFmt w == 1)) ||
  (match q.op 3 with
    | .imm i => decide (dExt a 1 < tmulRows (wrapTo 7 i)) || decide (dExt d 1 < tmulRows (wrapTo 7 i))
    | _ => false)

/-- Free bytes over the rows of a dense tensor that name an instruction's destination (03 R63). -/
def State.freeDense (s : State) (p base d : Nat) : State :=
  s.freeRows p ((dRows d).map fun o => (addrAdd base o, leBytes (packBytes (dFmt d) (dExt d 0)) 0))

/-- TMUL's effect (03 R71 to R76). DESIGN CHOICE (log entry 85): rows that a register supplies beyond dimension 1 of a tensor are
read and written where its stride places them. -/
def tmulEffect (p : Nat) (s : State) (q : QEntry) : Effect :=
  let od := q.op 0
  let oa := q.op 1
  let ow := q.op 2
  let d := od.bits
  let ad := oa.bits
  let wd := ow.bits
  let db := od.base
  let ab := oa.base
  let wb := ow.base
  if State.tmulBroken od oa ow q || od.broken || oa.broken || ow.broken then { st := s.freeDense p db d, time := some (16, 48) }
  else
    let r := tmulRows ((q.op 3).num 7)
    let n := dExt wd 1
    let acc := bitAt (wMod q.w) 0
    let auto := s.autoGrid p ab ad r wb wd
    let g0 := s.gridAt p db d
    let g := match (q.op 4).grid with
      | some f => f
      | none => if acc then min g0 auto else auto
    let cols := (List.range n).map (s.weightCol p wb wd)
    let esz := fmtBits (dFmt d) / 8
    let rows := (List.range r).map fun (i : Nat) =>
      let off := addrAdd db ((i : Int) * dStr1 d)
      let row := s.actRow p ab ad i
      let es := (cols.zipIdx).map fun cj =>
        let old := if acc then some (regrid (s.lsAt p (off + esz * cj.2)) g0 g) else none
        tmulElem g (dFmt d) old (tmulTerms row cj.1)
      ((off, es.flatMap (·.1)), unionFlags (es.map (·.2)))
    let gridRow : List RowWrite := if dFmt d = 14 then [(db + dScaleOff d, leBytes 8 (gridWord g))] else []
    let dst := tileLines db d 64
    let reads := tileLines ab ad 64 ++ tileLines wb wd n ++ s.blockLines p wb wd
    let lines := reads ++ dst ++ (if acc then dst else []) ++ flagLine (wFlagSel q.w)
    let used := tileLines ab ad r ++ tileLines wb wd n ++ s.blockLines p wb wd ++ (if acc then tileLines db d r else [])
    (s.commitRows p (wFlagSel q.w) (s.anyLineBad p used) (rows.map (·.1) ++ gridRow) (unionFlags (rows.map (·.2)))
      (tmulTime (s.tmulCycles p wb ad wd) (s.memTerm p 0 1024 lines))).meeting (s.pmCorr p used)

/-! ### The other tensor instructions -/

/-- The element offsets of a dense tensor, in linear order, for an element of `esz` bytes. -/
def dElems (base d esz : Nat) : List Nat :=
  (dRows d).flatMap fun o => (List.range (dExt d 0)).map fun i => addrAdd base (o + ((i * esz : Nat) : Int))

/-- The four extents agree. -/
def sameExtents (a b : Nat) : Bool := (List.range 4).all fun i => dExt a i == dExt b i

/-- TLSADD's effect: the elementwise exact sum (03 R71, R74). -/
def tlsaddEffect (p : Nat) (s : State) (q : QEntry) : Effect :=
  let d := (q.op 0).bits
  let a := (q.op 1).bits
  let b := (q.op 2).bits
  let db := (q.op 0).base
  let ab := (q.op 1).base
  let bb := (q.op 2).base
  if dFmt d != 14 || dFmt a != 14 || dFmt b != 14 || !sameExtents d a || !sameExtents d b ||
      dForm d != 0 || dForm a != 0 || dForm b != 0 || (q.op 0).broken || (q.op 1).broken || (q.op 2).broken then
    { st := s.freeDense p db d, time := some (8, 24) }
  else
    let ga := s.gridAt p ab a
    let gb := s.gridAt p bb b
    let g := (((q.op 4).grid).getD (min ga gb))
    let outs := (List.zip (dElems db d 20) (List.zip (dElems ab a 20) (dElems bb b 20))).map fun e =>
      let x := regrid (s.lsAt p e.2.1) ga g
      let y := regrid (s.lsAt p e.2.2) gb g
      let r := ((({} : LsAcc).addInt x.1).addInt y.1).finish
      ((e.1, lsBytes r.1.toLong.1), orFlags r.2 (flagIf (x.2 || y.2) flagLsSat))
    let rows := outs.map (·.1) ++ [(db + dScaleOff d, leBytes 8 (gridWord g))]
    let reads := denseLines ab a ++ denseLines bb b
    (s.commitRows p (wFlagSel q.w) (s.anyLineBad p reads) rows (unionFlags (outs.map (·.2)))
      (tlsTime (s.memTerm p 0 1024 (reads ++ denseLines db d ++ flagLine (wFlagSel q.w))))).meeting (s.pmCorr p reads)

/-- The rounding an instruction selects (05 R116): 0 to nearest, 1 toward zero, 2 stochastic with the
element's counter-generator word. -/
def roundingOf (q : QEntry) (mode index : Nat) : Rounding :=
  match mode with
  | 0 => .nearest
  | 1 => .towardZero
  | _ => .stochastic (q.random index)

/-- TLSCVT's effect: one rounding of each long sum (03 R71, 05 R116, R131). -/
def tlscvtEffect (p : Nat) (s : State) (q : QEntry) : Effect :=
  let d := (q.op 0).bits
  let a := (q.op 1).bits
  let db := (q.op 0).base
  let ab := (q.op 1).base
  match floatFmt? (dFmt d) with
  | some f =>
    if decide (3 < dFmt d) || dFmt a != 14 || !sameExtents d a || dForm d != 0 || dForm a != 0 || (q.op 0).broken || (q.op 1).broken then
      { st := s.freeDense p db d, time := some (8, 24) }
    else
      let g := s.gridAt p ab a
      let esz := fmtBits (dFmt d) / 8
      let outs := ((List.zip (dElems db d esz) (dElems ab a 20)).zipIdx).map fun e =>
        let r := lsConvert f (roundingOf q (bitsOf (wMod q.w) 0 2) e.2) (s.lsAt p e.1.2) g
        ((e.1.1, leBytes esz r.val), r.flags)
      let reads := denseLines ab a
      (s.commitRows p (wFlagSel q.w) (s.anyLineBad p reads) (outs.map (·.1)) (unionFlags (outs.map (·.2)))
        (tlsTime (s.memTerm p 0 1024 (reads ++ denseLines db d ++ flagLine (wFlagSel q.w))))).meeting (s.pmCorr p reads)
  | none => { st := s.freeDense p db d, time := some (8, 24) }

/-- TLSSET's effect: zero every element and write the grid word (03 R71). -/
def tlssetEffect (p : Nat) (s : State) (q : QEntry) : Effect :=
  let d := (q.op 0).bits
  let db := (q.op 0).base
  if dFmt d != 14 || dForm d != 0 || (q.op 0).broken then { st := s.freeDense p db d, time := some (8, 24) }
  else
    let g := gridOf ((q.op 4).num 16)
    let rows := (dElems db d 20).map (fun o => (o, lsBytes 0)) ++ [(db + dScaleOff d, leBytes 8 (gridWord g))]
    s.commitRows p (wFlagSel q.w) false rows 0
      (tlsTime (s.memTerm p 0 1024 (denseLines db d ++ flagLine (wFlagSel q.w))))

/-- The lines that a tensor instruction writes: rows below r of TMUL's destination, every row of the others', and the grid
word. -/
def tensorWrites (q : QEntry) : List Nat :=
  let d := (q.op 0).bits
  let db := (q.op 0).base
  if wOpcode q.w = 0x10 ∧ State.tmulBroken (q.op 0) (q.op 1) (q.op 2) q = false then tileLines db d (tmulRows ((q.op 3).num 7))
  else denseLines db d

/-- The lines that a tensor instruction reads. -/
def State.tensorReads (s : State) (p : Nat) (q : QEntry) : List Nat :=
  let r := tmulRows ((q.op 3).num 7)
  match wOpcode q.w with
  | 0x10 =>
    tileLines (q.op 1).base (q.op 1).bits r ++ tileLines (q.op 2).base (q.op 2).bits (dExt (q.op 2).bits 1) ++
      s.blockLines p (q.op 2).base (q.op 2).bits ++
      (if bitAt (wMod q.w) 0 then tileLines (q.op 0).base (q.op 0).bits r else [])
  | 0x11 => denseLines (q.op 1).base (q.op 1).bits ++ denseLines (q.op 2).base (q.op 2).bits
  | 0x12 => denseLines (q.op 1).base (q.op 1).bits
  | _ => []

/-- A tensor instruction's locations (03 R70). -/
def tensorLocs (p : Nat) (s : State) (q : QEntry) : Locs :=
  { reads := lineLocs (sortDedup (s.tensorReads p q)) ++ flagLocs (wFlagSel q.w)
    writes := lineLocs (sortDedup (tensorWrites q)) ++ flagLocs (wFlagSel q.w) }

/-- A tensor pass whose residue check fails with RESIDUE_MISMATCH (03 R76): the lines it would have written hold free
values and no flag word is updated (R69). The check of a sound pass passes; a drill's injection arms one
failure (13 R341). -/
def State.residueCheck (s : State) (p : Nat) (q : QEntry) (f : Effect) : Effect :=
  if tabGet false s.residueArmed p && f.time.isSome then
    let s' := { s with residueArmed := tabPut false s.residueArmed p false }
    { st := s'.freeLines p (sortDedup (tensorWrites q)), status := 0x41, time := f.time }
  else f

/-- TMUL (03 R73). -/
def execTmul (p : ParcelId) (s : State) : Host.Outcome State Fault Refusal :=
  done (s.startEngine p 0 0x10 (tensorLocs p) fun s q => s.residueCheck p q (tmulEffect p s q))

/-- TLSADD (03 R74). -/
def execTlsadd (p : ParcelId) (s : State) : Host.Outcome State Fault Refusal :=
  done (s.startEngine p 0 0x11 (tensorLocs p) fun s q => s.residueCheck p q (tlsaddEffect p s q))

/-- TLSCVT (03 R71). -/
def execTlscvt (p : ParcelId) (s : State) : Host.Outcome State Fault Refusal :=
  done (s.startEngine p 0 0x12 (tensorLocs p) (tlscvtEffect p))

/-- TLSSET (03 R71). -/
def execTlsset (p : ParcelId) (s : State) : Host.Outcome State Fault Refusal :=
  done (s.startEngine p 0 0x13 (tensorLocs p) (tlssetEffect p))

end Sys2Proof.Machine
end

