-- ==== Sys2Proof/Machine/Tier.lean ====
section
/-!
DEFINITION. HBM and DDR5: line placement, calendars, refresh windows, and the visibility of tier writes (07
R155 to R164, R176, R177).
-/
namespace Sys2Proof.Machine

/-! ### Placement (07 R155, R156) -/

/-- The HBM map in force. -/
def State.hbmMap (s : State) : Nat := s.fld Reg.HBC_MAP 0

/-- log2 of a DIMM's rank count. -/
def rankLog (ranks : Nat) : Nat := if ranks = 4 then 2 else if ranks = 2 then 1 else 0

/-- The controller of a tier address: stack 0 to 7, or 8 plus the DDR5 channel. -/
def State.ctrlOf (s : State) (a : Nat) : Nat :=
  if inHbm a then
    let x := a - 0x010000000000
    if s.hbmMap = 0 then bitsOf x 6 3 else bitsOf x 36 3
  else 8 + ddrChannel a

/-- The pseudo-channel, or subchannel. -/
def State.laneOf (s : State) (a : Nat) : Nat :=
  if inHbm a then
    let x := a - 0x010000000000
    if s.hbmMap = 0 then bitsOf x 9 6 else bitsOf x 6 6
  else bitsOf ((a - 0x020000000000) % 0x4000000000) 6 1

/-- The bank as the error record shows it: HBM bank, or bank group × 4 + bank, modulo 16 (07 R179). -/
def State.tierBank (s : State) (a : Nat) : Nat :=
  if inHbm a then
    let x := a - 0x010000000000
    if s.hbmMap = 0 then bitsOf x 19 4 else bitsOf x 16 4
  else
    let x := (a - 0x020000000000) % 0x4000000000
    (bitsOf x 15 3 * 4 + bitsOf x 13 2) % 16

/-- The row. -/
def State.tierRow (s : State) (a : Nat) : Nat :=
  if inHbm a then
    let x := a - 0x010000000000
    if s.hbmMap = 0 then bitsOf x 23 16 else bitsOf x 20 16
  else (a - 0x020000000000) % 0x4000000000 / 2 ^ (18 + rankLog (s.fld Reg.DDC_RANKS (8 + ddrChannel a)))

/-- The bank index that refreshes together: the HBM bank, or the DDR5 bank within its group (07 R163). -/
def State.refreshIndex (s : State) (a : Nat) : Nat :=
  if inHbm a then s.tierBank a else bitsOf ((a - 0x020000000000) % 0x4000000000) 13 2

/-- The address lies in HBM or installed DDR5. -/
def State.inTier (s : State) (a : Nat) : Bool := inHbm a || s.inDdr a

/-- The whole bank: the HBM bank, or rank, group and bank of DDR5 (07 R155, R156). -/
def State.fullBank (s : State) (a : Nat) : Nat :=
  if inHbm a then s.tierBank a
  else bitsOf ((a - 0x020000000000) % 0x4000000000) 13 (5 + rankLog (s.fld Reg.DDC_RANKS (8 + ddrChannel a)))

/-- A controller's working state. -/
def State.tctl (s : State) (c : Nat) : TierCtl := tabGet {} s.tierCtl c
/-- Replace a controller's working state. -/
def State.setTctl (s : State) (c : Nat) (x : TierCtl) : State := { s with tierCtl := tabPut {} s.tierCtl c x }

/-! ### Calendars (07 R157, R158) -/

/-- An entry's key. -/
def calKey (c lane pos : Nat) : Nat := (c * 64 + lane % 64) * 2048 + pos % 2048

/-- A position lies in tract t's share of a controller's lanes (07 R160). -/
def State.inShare (s : State) (t c pos : Nat) : Bool :=
  let x : TractCfg := tabGet {} s.tractCfg t
  if c < 8 then decide (x.hbmPosFirst ≤ pos ∧ pos < x.hbmPosFirst + x.hbmPosCount)
  else decide (x.ddrPosFirst ≤ pos ∧ pos < x.ddrPosFirst + x.ddrPosCount)

/-- The tract whose share holds a position. -/
def State.shareOf (s : State) (c pos : Nat) : Option Nat :=
  (List.range 8).find? fun t => s.inShare t c pos

/-- What the calendar table holds where nothing has been installed: no entry. -/
def calNone : BitVec 16 := 0xFFFF

/-- An entry nothing has installed (07 R160): idle inside a share; the positions outside every share firmware gives to KIND 3 and
KIND 4 in turn, so that each has half, and each kind's to reads and writes in turn (DESIGN CHOICE, log entry 14). -/
def State.calBase (s : State) (c pos : Nat) : Nat :=
  match s.shareOf c pos with
  | some _ => 0
  | none =>
    let n := (List.range pos).countP fun i => (s.shareOf c i).isNone
    (3 + n % 2) * 512 + n / 2 % 2 * 4096

/-- The installed entry. -/
def State.calInstalled (s : State) (key : Nat) : Nat :=
  let e := tabGet calNone s.cal key
  if e = calNone then s.calBase (key / 131072) (key % 2048) else e.toNat

/-- The position lies in the share of a tract that is being loaded, which serves as KIND 4 (07 R160). -/
def State.shareLoading (s : State) (c pos : Nat) : Bool :=
  match s.shareOf c pos with
  | some t => s.fld Reg.TRC_STATE_CODE t == 1
  | none => false

/-- The newest calendar write to a key made before tick t, or otherwise d. -/
def calLatest (l : List CalWrite) (key t : Nat) (d : Nat) : Nat :=
  l.foldl (fun v w => if w.key = key ∧ w.tick < t then w.entry.toNat else v) d

/-- The calendar entry in force. -/
def State.calEntry (s : State) (c lane pos : Nat) : Nat :=
  let e := calLatest s.calWrites (calKey c lane pos) s.tickNow (s.calInstalled (calKey c lane pos))
  if s.shareLoading c pos then 4 * 512 + bitsOf e 12 1 * 4096 else e

/-- The entry as last written, in force or not (what xx_CAL_DATA shows). -/
def State.calShown (s : State) (key : Nat) : Nat :=
  calLatest s.calWrites key (s.tickNow + 1) (s.calInstalled key)

/-- OWNER. -/
def calOwner (e : Nat) : Nat := bitsOf e 0 9
/-- KIND. -/
def calKind (e : Nat) : Nat := bitsOf e 9 3
/-- DIR: 1 for a write. -/
def calDir (e : Nat) : Nat := bitsOf e 12 1

/-- Positions per tick of a lane (07 R157). -/
def positionsOf (c : Nat) : Nat := if c < 8 then 1280 else 1126

/-- The nominal cycle, from the tick boundary, at which a position begins (07 R157). -/
def positionCycle (c pos : Nat) : Nat := if c < 8 then 8 * pos / 5 else 20 * pos / 11

/-- The positions at which something has been installed, each once. -/
def State.calKeys (s : State) : List Nat :=
  s.cal.map (·.1) ++ ((s.calWrites.map (·.key)).filter fun k => tabGet calNone s.cal k == calNone).eraseDups

/-- Calendar writes are made: those of earlier ticks are in force and enter the calendar, the new ones wait for the next tick (07
R179). -/
def State.writeCal (s : State) (l : List (Nat × Nat)) : State :=
  let t := s.tickNow
  let past := s.calWrites.filter fun w => decide (w.tick < t)
  { s with
    cal := past.foldl (fun c w => tabPut calNone c w.key w.entry) s.cal
    calWrites := (s.calWrites.filter fun w => decide (t ≤ w.tick)) ++
      l.map fun ke => { key := ke.1, entry := BitVec.ofNat 16 ke.2, tick := t } }

/-- Positions per tick that the calendar gives a parcel on a tier in a direction (07 R161). -/
def State.grant (s : State) (p : Nat) (hbm : Bool) (dir : Nat) : Nat :=
  s.calKeys.countP fun k =>
    let e := s.calEntry (k / 131072) (k / 2048 % 64) (k % 2048)
    decide ((k / 131072 < 8) ↔ hbm = true) && calKind e == 1 && calOwner e == p && calDir e == dir

/-! ### Refresh (07 R163, R164) -/

/-- Whether a window of a refresh mode (0 A, 1 B, 2 B with the additions above 95 °C) covers bank index j at
a cycle. -/
def inRefresh (hbm : Bool) (mode j cyc : Nat) : Bool :=
  let step := if hbm then 56 else 256
  let len := if hbm then 120 else 200
  let win (start : Nat) : Bool := decide ((cyc + 2048 - start % 2048) % 2048 < len)
  win (step * j) || (decide (1 ≤ mode) && win (1024 + step * j)) ||
    (decide (2 ≤ mode) && (win (512 + step * j) || win (1536 + step * j)))

/-- The mode that the running plats compiled, or that the expert override names (07 R179); no plat loaded counts as A. -/
def State.namedMode (s : State) (c : Nat) : Nat :=
  if s.ctl Reg.XX_REF_OVR_EN c = 1 then s.ctl Reg.XX_REF_OVR c else s.fld Reg.XX_REF_PLAN c - 1

/-- The planned mode in force: what is named acts from the tick after it was named (07 R179, 08 R194). -/
def State.plannedMode (s : State) (c : Nat) : Nat :=
  match (s.tctl c).oldMode with
  | some (t, m) => if s.tickNow ≤ t then m else s.namedMode c
  | none => s.namedMode c

/-- An act that may name another planned mode: the one in force stays through this tick. -/
def State.nextMode (s : State) (c : Nat) (f : State → State) : State :=
  let old := s.plannedMode c
  let r := f s
  if r.namedMode c = s.namedMode c then r else r.setTctl c { r.tctl c with oldMode := some (s.tickNow, old) }

/-- A refresh window, planned or required by temperature, covers the line's bank at a position. -/
def State.refreshBusy (s : State) (c a pos : Nat) : Bool :=
  let j := s.refreshIndex a
  let cyc := positionCycle c pos
  inRefresh (decide (c < 8)) (s.plannedMode c) j cyc || inRefresh (decide (c < 8)) (s.fld Reg.XX_REF_NEED c) j cyc

/-- The covering window is not one of the compiled mode: a deferral by it is a refresh overrun (07 R164). -/
def State.refreshUnplanned (s : State) (c a pos : Nat) : Bool :=
  let j := s.refreshIndex a
  let cyc := positionCycle c pos
  !inRefresh (decide (c < 8)) (s.plannedMode c) j cyc && inRefresh (decide (c < 8)) (s.fld Reg.XX_REF_NEED c) j cyc

/-! ### Visibility of tier writes (07 R176, R177) -/

/-- The bytes of a 64-byte line as memory holds them. -/
def State.lineBytes (s : State) (line : Nat) : List Byte := s.rdBytes line 64

/-- A line with some bytes replaced. -/
def overlay (l : List Byte) (bs : List (Nat × Byte)) : List Byte :=
  bs.foldl (fun l ob => l.set ob.1 ob.2) l

/-- The line as parcel p reads it: its own writes ordered before `ord`, visible to others or not, over
memory (04 R90). -/
def State.ownLine (s : State) (p line ord : Nat) : List Byte :=
  (s.tierWrites.filter fun w => decide (w.parcel = p ∧ w.line = line ∧ w.ord < ord)).foldl
    (fun l w => overlay l w.bytes) (s.lineBytes line)

/-- One byte of a tier as parcel p reads it now. -/
def State.ownByte (s : State) (p a : Nat) : Byte :=
  (s.ownLine p (a / 64 * 64) s.reqCtr).getD (a % 64) 0

/-- A write to a tier line takes its position: what it covers of the accepted writes `sel` that are still held back is
superseded (07 R176). -/
def State.supersede (s : State) (line : Nat) (covers : Nat → Bool) (sel : TierWrite → Bool) : State :=
  { s with tierWrites := s.tierWrites.map fun x =>
      if x.line == line && x.accepted && sel x then { x with bytes := x.bytes.filter fun b => !covers b.1 } else x }

/-- One tier write reaches every agent: its bytes enter memory, with fresh check bits, and a shared window's
copy is invalidated (16 R390). What other owners wrote before it in the line no longer shows under it (07 R176). -/
def State.applyTier (s : State) (w : TierWrite) : State :=
  let s := s.wrBytes w.line (overlay (s.lineBytes w.line) w.bytes)
  let s := s.supersede w.line (fun o => w.bytes.any (·.1 == o)) fun x => decide (x.accOrd < w.accOrd)
  (s.cancelRewrite w.line).backInvalidate w.line

/-- An agent that is no parcel has written n bytes at a, in one line of a tier: lines accepted before stand under them (07
R176). -/
def State.outsideWrote (s : State) (a n : Nat) : State :=
  s.supersede (a / 64 * 64) (fun o => decide (a % 64 ≤ o ∧ o < a % 64 + n)) fun _ => true

/-- Insert a write in order of acceptance. -/
def insertWrite (w : TierWrite) : List TierWrite → List TierWrite
  | [] => [w]
  | v :: t => if w.accOrd ≤ v.accOrd then w :: v :: t else v :: insertWrite w t

/-- Writes in order of acceptance. -/
def sortWrites (l : List TierWrite) : List TierWrite := l.foldr insertWrite []

/-- Make the accepted writes that satisfy `sel` visible, together with every write of the same parcel to the same line that
was accepted before one of them, in order of acceptance (07 R176). -/
def State.publish (s : State) (sel : TierWrite → Bool) : State :=
  let chosen (w : TierWrite) : Bool := w.accepted && (s.tierWrites.any fun v =>
    v.accepted && sel v && v.line == w.line && v.parcel == w.parcel && decide (w.accOrd ≤ v.accOrd))
  let now := sortWrites (s.tierWrites.filter chosen)
  let s := { s with tierWrites := s.tierWrites.filter fun w => !chosen w }
  now.foldl State.applyTier s

/-- A parcel's tier writes in issue order: by move, and within one in element order. -/
def State.inIssueOrder (s : State) (p : Nat) : List TierWrite :=
  let mine := s.tierWrites.filter fun w => w.parcel == p
  (sortDedup (mine.map (·.seq))).flatMap fun n => mine.filter fun w => w.seq == n

/-- Under strict ordering a parcel's accepted lines are released in its issue order (07 R177, 01 R21): the front of its writes, as
far as it is accepted and no earlier move still has lines to read before it writes. -/
def State.releaseStrict (s : State) (p : Nat) : State :=
  let waits (w : TierWrite) : Bool := (s.eng p 2).flight.any fun f => f.need != [] && decide (f.entry.seq < w.seq)
  let front := ((s.inIssueOrder p).takeWhile fun w => w.accepted && !waits w).map (·.ord)
  s.publish fun w => front.contains w.ord

/-- The drain of a fence or a release (04 R95, R98): the parcel's accepted writes of moves before number
`seq` become visible, and none of them counts for a later drain (R99). -/
def State.drainTier (s : State) (p seq : Nat) : State :=
  let s := s.publish fun w => w.parcel == p && decide (w.seq < seq)
  { s with drained := tabPut [] s.drained p ((tabGet [] s.drained p).filter fun e => decide (seq ≤ e.1)) }

/-- The KIND 0 latency of a drain (04 R99) from the writes that count: DDR5 160, HBM only 48, none 4. -/
def State.drainCycles (s : State) (p seq : Nat) : Nat :=
  let l := (tabGet [] s.drained p).filter fun e => decide (e.1 < seq)
  if l.any fun e => bitAt e.2 1 then 160 else if l.any fun e => bitAt e.2 0 then 48 else 4

end Sys2Proof.Machine
end

