-- ==== Sys2Proof/Machine/Move.lean ====
section
/-!
DEFINITION. The move engine: MCOPY, MFILL, MGATH, MSCAT (04 R86 to R90), over parcel memories and the tiers.
-/
namespace Sys2Proof.Machine

/-! ### Reach (04 R86) -/

/-- A byte the move engine may access: parcel memory of the parcel's own tract, HBM, installed DDR5. -/
def State.reach (s : State) (p a : Nat) : Bool :=
  if inParcelMem a then
    match s.ptract p with
    | some t => s.ptract (a / 0x400000) == some t
    | none => a / 0x400000 == p
  else s.inTier a

/-! ### What a move copies: runs of bytes -/

/-- A run of n bytes: written at `dst`, read at `src`, or constant when it has no source. -/
structure Run where
  dst : Nat
  src : Option Nat := none
  const : List Byte := []
  n : Nat
deriving DecidableEq, Repr

/-- The value-plane runs of a tensor: (address, bytes) per row, column, or column group (03 R65, 06 R136 to
R139); `tiles c` is the non-empty tile count of column group c. -/
def valueRuns (base d : Nat) (tiles : Nat → Nat) : List (Nat × Nat) :=
  let k := dExt d 0
  let fmt := dFmt d
  if dForm d = 1 then
    match dSparsity d with
    | 0 => (List.range (dExt d 1)).map fun (j : Nat) => (addrAdd base ((j : Int) * dStr1 d), packBytes fmt (k / 2))
    | 1 => (List.range (dExt d 1)).map fun (j : Nat) => (addrAdd base ((j : Int) * dStr1 d), packBytes fmt (k / 4))
    | _ => (List.range (dExt d 1 / 16)).map fun (c : Nat) =>
        (addrAdd base ((c : Int) * dStr1 d), tiles c * (256 * fmtBits fmt / 8))
  else (dRows d).map fun o => (addrAdd base o, packBytes fmt k)

/-- The side planes of a tensor that MCOPY carries: the metadata plane of FORM 1 and the scale plane of an
MX format, as (address, bytes) (04 R87). -/
def sideRuns (base d : Nat) : List (Nat × Nat) :=
  let k := dExt d 0
  let n := dExt d 1
  (if dForm d = 1 then
    [(addrAdd base (dMetaOff d : Nat), match dSparsity d with
      | 0 => n * (k / 8)
      | 1 => n * (k / 16)
      | _ => 32 * (n / 16))]
   else []) ++
  (if fmtIsMx (dFmt d) then
    [(addrAdd base (dScaleOff d : Nat), (if dForm d = 1 then n else (dRows d).length) * (k / 32))]
   else [])

/-- One byte as the move engine of p reads it: 0 out of reach, its own tier writes included. -/
def State.moveByte (s : State) (p a : Nat) : Byte :=
  if !s.reach p a then 0 else if inParcelMem a then s.rd8 a else s.ownByte p a

/-- A source byte, from the tier lines that were read for it, or from memory now. -/
def State.gotByte (s : State) (p : Nat) (got : List (Nat × List Byte)) (a : Nat) : Byte :=
  match got.find? fun g => g.1 == a / 64 * 64 with
  | some g => g.2.getD (a % 64) 0
  | none => s.moveByte p a

/-- The non-empty tiles of a block tile's column group, from its bitmap (06 R139). -/
def State.tileCount (s : State) (p : Nat) (got : List (Nat × List Byte)) (base d c : Nat) : Nat :=
  ((List.range (dExt d 0 / 16)).filter fun t =>
    bitAt (s.gotByte p got (addrAdd base ((dMetaOff d + 32 * c + t / 8 : Nat) : Int))).toNat (t % 8)).length

/-- MCOPY's runs. -/
def State.mcopyRuns (s : State) (p : Nat) (got : List (Nat × List Byte)) (q : QEntry) : List Run :=
  let d := (q.op 0).bits
  let a := (q.op 1).bits
  let db := (q.op 0).base
  let ab := (q.op 1).base
  let tiles := s.tileCount p got ab a
  (List.zip (valueRuns db d tiles ++ sideRuns db d) (valueRuns ab a tiles ++ sideRuns ab a)).map fun e =>
    { dst := e.1.1, src := some e.2.1, n := e.2.2 }

/-- The bytes of a dense tensor in element order, as runs (04 R87). -/
def fillRuns (base d : Nat) (pat : List Byte) : List Run :=
  let n := packBytes (dFmt d) (dExt d 0)
  ((dRows d).zipIdx).map fun oi =>
    { dst := addrAdd base oi.1, n := n,
      const := (List.range n).map fun j => pat.getD ((oi.2 * n + j) % 8) 0 }

/-- An index element: none where it is empty, all ones or not below the table's rows (04 R88). -/
def State.indexAt (s : State) (p : Nat) (got : List (Nat × List Byte)) (o : Opnd) (rows i : Nat) : Option Nat :=
  let n := fmtBits (dFmt o.bits) / 8
  let v := leNat ((List.range n).map fun j => s.gotByte p got (addrAdd o.base ((i * n + j : Nat) : Int)))
  if v = 2 ^ (8 * n) - 1 ∨ rows ≤ v then none else some v

/-- The runs of one row and its scales: from row i of a to row j of d; no source row zeroes the row. -/
def rowRuns (d db a ab j : Nat) (i : Option Nat) : List Run :=
  let n := packBytes (dFmt d) (dExt d 0)
  let m := if fmtIsMx (dFmt d) then dExt d 0 / 32 else 0
  let mk (dst n : Nat) (src : Option Nat) : Run :=
    { dst := dst, src := src, n := n, const := if src.isSome then [] else List.replicate n 0 }
  mk (addrAdd db ((j : Int) * dStr1 d)) n (i.map fun (i : Nat) => addrAdd ab ((i : Int) * dStr1 a)) ::
    (if m = 0 then []
     else [mk (addrAdd db ((dScaleOff d + j * m : Nat) : Int)) m
       (i.map fun i => addrAdd ab ((dScaleOff a + i * m : Nat) : Int))])

/-- MGATH's runs: destination row i from source row idx[i]. -/
def State.mgathRuns (s : State) (p : Nat) (got : List (Nat × List Byte)) (q : QEntry) : List Run :=
  let d := (q.op 0).bits
  let a := (q.op 1).bits
  (List.range (dExt d 1)).flatMap fun i =>
    rowRuns d (q.op 0).base a (q.op 1).base i (s.indexAt p got (q.op 2) (dExt a 1) i)

/-- MSCAT's runs: destination row idx[i] from source row i, in ascending i; an empty index writes nothing. -/
def State.mscatRuns (s : State) (p : Nat) (got : List (Nat × List Byte)) (q : QEntry) : List Run :=
  let d := (q.op 0).bits
  let a := (q.op 1).bits
  (List.range (dExt a 1)).flatMap fun i =>
    match s.indexAt p got (q.op 2) (dExt d 1) i with
    | some j => rowRuns d (q.op 0).base a (q.op 1).base j (some i)
    | none => []

/-- The lines of index elements that a gather or scatter reads. -/
def indexSpan (o : Opnd) (n : Nat) : Nat × Nat := (o.base, n * (fmtBits (dFmt o.bits) / 8))

/-- The runs of a move by its opcode; `got` are the tier lines read for it so far. -/
def State.moveRuns (s : State) (p : Nat) (got : List (Nat × List Byte)) (q : QEntry) : List Run :=
  match wOpcode q.w with
  | 0x80 => s.mcopyRuns p got q
  | 0x81 => fillRuns (q.op 0).base (q.op 0).bits (leBytes 8 ((q.op 1).num 64))
  | 0x82 => s.mgathRuns p got q
  | _ => s.mscatRuns p got q

/-- The bytes a move reads besides its runs: its index tensor. -/
def State.moveIndex (q : QEntry) : List (Nat × Nat) :=
  match wOpcode q.w with
  | 0x82 => [indexSpan (q.op 2) (dExt (q.op 0).bits 1)]
  | 0x83 => [indexSpan (q.op 2) (dExt (q.op 1).bits 1)]
  | _ => []

/-- What MGATH and MSCAT ask of their descriptors (04 R87): dense tables of rank 2 with the same FMT and row length, and an index
of rank 1 and FMT 15 or 16 with one element for each of the rows of `rows`. -/
def rowsAgree (d a x rows : Nat) : Bool :=
  dForm d == 0 && dForm a == 0 && dRank d == 1 && dRank a == 1 && dFmt d == dFmt a && dExt d 0 == dExt a 0 &&
  dForm x == 2 && dRank x == 0 && [15, 16].contains (dFmt x) && dExt x 0 == dExt rows 1

/-- The descriptors of a move do not agree as its table requires (04 R87). -/
def moveDisagrees (q : QEntry) : Bool :=
  let d := (q.op 0).bits
  let a := (q.op 1).bits
  match wOpcode q.w with
  | 0x80 => dForm d != dForm a || dFmt d != dFmt a || !sameExtents d a || (dForm d == 1 && dSparsity d != dSparsity a)
  | 0x81 => dForm d != 0 || (dExt d 0 * fmtBits (dFmt d)) % 8 != 0 || ((dRows d).length * packBytes (dFmt d) (dExt d 0)) % 8 != 0
  | 0x82 => !rowsAgree d a (q.op 2).bits d
  | _ => !rowsAgree d a (q.op 2).bits a

/-- A rule that the loader judges from descriptors is broken: the results are unspecified (03 R63). -/
def moveBroken (q : QEntry) : Bool :=
  moveDisagrees q || [q.op 0, q.op 1, q.op 2].any fun o => match o with
    | .desc _ _ => o.broken
    | _ => false

/-! ### Time (04 R89) -/

/-- The parts of n bytes at a that lie in one 64-byte line each: address modulo 2^48, first byte and number of bytes. -/
def lineParts (a n : Nat) : List (Nat × Nat × Nat) :=
  if n = 0 then []
  else (List.range ((a + n + 63) / 64 - a / 64)).map fun i =>
    let l := a / 64 + i
    let lo := max a (64 * l)
    (lo % 2 ^ 48, lo - a, min (a + n) (64 * l + 64) - lo)

/-- The 64-byte lines (by address divided by 64) of n bytes. -/
def addrLines (a n : Nat) : List Nat := (lineParts a n).map fun x => x.1 / 64

/-- Every line access of a move: (line, is a write), reachable lines only. -/
def State.moveAccesses (s : State) (p : Nat) (runs : List Run) (idx : List (Nat × Nat)) : List (Nat × Bool) :=
  let rd (r : Run) : List Nat := match r.src with
    | some a => addrLines a r.n
    | none => []
  let index : List (Nat × Bool) := idx.flatMap fun e => (addrLines e.1 e.2).map fun l => (l, false)
  let body : List (Nat × Bool) := runs.flatMap fun r =>
    (rd r).map (fun l => (l, false)) ++ (addrLines r.dst r.n).map (fun l => (l, true))
  (index ++ body).filter fun e => s.reach p (64 * e.1)

/-- The term of another parcel's memory (04 R89): the issuing parcel's exchange phases, and each touched
parcel's own. -/
def State.otherTerm (s : State) (p : Nat) (lines : List Nat) : Option Nat :=
  let owners := sortDedup (lines.map fun l => l / 65536)
  let φ (p : Nat) := s.cycleNow (p / 16)
  let mine := phaseEnd (s.wheel p) 3 (φ p) (ceilDiv lines.length 32)
  let each := owners.map fun o =>
    let ls := lines.filter fun l => l / 65536 == o
    (ls, o, phaseEnd (s.wheel o) 3 (φ o) (bankPeak ls))
  let plain := s.wheel p == defaultWheel && each.all fun e =>
    s.wheel e.2.1 == defaultWheel && decide (bankPeak e.1 ≤ ceilDiv e.1.length 32)
  if lines = [] then some 0
  else if plain then some (ceilDiv (64 * lines.length) 128)
  else each.foldl (fun m e => match m, e.2.2 with
    | some a, some b => some (max a b)
    | _, _ => none) mine

/-- The lines of a list, with their directions, each once. -/
def onceEach (l : List (Nat × Bool)) : List (Nat × Bool) :=
  (sortDedup (l.map fun e => 2 * e.1 + b2n e.2)).map fun k => (k / 2, k % 2 == 1)

/-- A tier's term: lines against the grant, in nominal cycles; none where the calendar grants nothing. -/
def State.tierTerm (s : State) (p : Nat) (hbm : Bool) (dir lines : Nat) : Option Nat :=
  if lines = 0 then some 0
  else if s.grant p hbm dir = 0 then none
  else some (ceilDiv (lines * 2048) (s.grant p hbm dir))

/-- The Manhattan distance between two parcels' townships (00 R5). -/
def townDist (a b : Nat) : Nat :=
  let w := a / 16
  let v := b / 16
  absDiff (w % 8) (v % 8) + absDiff (w / 8) (v / 8)

/-- The largest of a list of terms, none when one of them never ends. -/
def maxTerms (l : List (Option Nat)) : Option Nat :=
  l.foldl (fun m x => match m, x with
    | some a, some b => some (max a b)
    | _, _ => none) (some 0)

/-- Occupancy and latency of a move (04 R89, 07 R177). -/
def State.moveTime (s : State) (p : Nat) (acc : List (Nat × Bool)) : Option (Nat × Nat) :=
  let own := (acc.map (·.1)).filter fun l => l / 65536 == p && decide (l < 0x2000000)
  let oth := (acc.map (·.1)).filter fun l => decide (l < 0x2000000) && l / 65536 != p
  let tiers := onceEach (acc.filter fun e => decide (0x2000000 ≤ e.1))
  let cnt (hbm wr : Bool) : Nat := tiers.countP fun e => inHbm (64 * e.1) == hbm && e.2 == wr
  let tier := fun (hbm wr : Bool) => s.tierTerm p hbm (b2n wr) (cnt hbm wr)
  let occ := maxTerms [s.memTerm p 2 256 own, s.otherTerm p oth, tier true false, tier true true,
    tier false false, tier false true, some 8]
  let d := (oth.map fun l => townDist p (l / 65536)).foldl max 0
  let rd := if cnt false false ≠ 0 then 260 else if cnt true false ≠ 0 then 120 else 0
  let wr := if s.strict p then (if cnt false true ≠ 0 then 160 else if cnt true true ≠ 0 then 48 else 0) else 0
  occ.map fun o => (o, o + 24 + (if oth = [] then 0 else 2 * d) + rd + wr)

/-! ### The data -/

/-- The bytes of a run. -/
def State.runBytes (s : State) (p : Nat) (got : List (Nat × List Byte)) (r : Run) : List Byte :=
  match r.src with
  | some a => (List.range r.n).map fun i => s.gotByte p got ((a + i) % 2 ^ 48)
  | none => r.const

/-- Tier lines that a list of runs reads, without repeats. -/
def State.tierLinesRead (s : State) (runs : List Run) : List Nat :=
  sortDedup (((runs.flatMap fun r => match r.src with
    | some a => addrLines a r.n
    | none => []).map (64 * ·)).filter s.inTier)

/-- Put one tier write in the pending list: a write of part of a line needs the old line read first. -/
def State.pushTier (s : State) (p seq line : Nat) (bs : List (Nat × Byte)) : State :=
  let full := decide (64 ≤ (sortDedup (bs.map (·.1))).length)
  { s with
    tierWrites := s.tierWrites ++ [{ ord := s.reqCtr, parcel := p, seq := seq, line := line, bytes := bs, needRead := !full }]
    reqCtr := s.reqCtr + 1
    drained := tabPut [] s.drained p ((tabGet [] s.drained p) ++ [(seq, if inHbm line then 1 else 2)]) }

/-- Bytes of tier lines that a move writes: per line, (offset, byte) in the order written. -/
abbrev TierBytes := List (Nat × List (Nat × Byte))

/-- More bytes of a line: a line that the move has written already takes them with the rest (07 R176). -/
def addLine (line : Nat) (bs : List (Nat × Byte)) : TierBytes → TierBytes
  | [] => [(line, bs)]
  | e :: t => if e.1 = line then (line, e.2 ++ bs) :: t else e :: addLine line bs t

/-- Write the bytes of one run, line by line: reachable parcel memory at once, tier lines gathered, the rest dropped (04 R86). -/
def State.writeRun (p dst : Nat) (bs : List Byte) (acc : State × TierBytes) : State × TierBytes :=
  (lineParts dst bs.length).foldl (fun acc x =>
    let part := (bs.drop x.2.1).take x.2.2
    if !acc.1.reach p x.1 then acc
    else if inParcelMem x.1 then (acc.1.wrBytes x.1 part, acc.2)
    else (acc.1, addLine (x.1 / 64 * 64) ((part.zipIdx).map fun bi => (x.1 % 64 + bi.2, bi.1)) acc.2)) acc

/-- The source and destination bytes of a move overlap (04 R88). -/
def runsOverlap (runs : List Run) : Bool :=
  runs.any fun r => runs.any fun t => match t.src with
    | some a => decide (r.dst < a + t.n ∧ a < r.dst + r.n ∧ 0 < r.n ∧ 0 < t.n)
    | none => false

/-- Write every run, then give each tier line to its controller once, with all the move writes there (07 R176); `free` puts free
values in place of the data (overlap, failure, broken descriptors). -/
def State.writeRuns (s : State) (p seq : Nat) (free : Bool) (data : List (Nat × List Byte)) : State :=
  let r := data.foldl (fun (acc : State × TierBytes) db =>
    if free then
      let f := acc.1.freeBytes db.2.length
      State.writeRun p db.1 f.1 (f.2, acc.2)
    else State.writeRun p db.1 db.2 acc) (s, [])
  r.2.foldl (fun s lb => s.pushTier p seq lb.1 lb.2) r.1

/-- The parts of spans that a move reaches in parcel memory (04 R86): address and number of bytes, a line each. -/
def State.hereParts (s : State) (p : Nat) (spans : List (Nat × Nat)) : List (Nat × Nat) :=
  (spans.flatMap fun e => (lineParts e.1 e.2).map fun x => (x.1, x.2.2)).filter fun e => inParcelMem e.1 && s.reach p e.1

/-- What a move reads, as spans: its index tensor and the sources of its runs. -/
def readSpans (runs : List Run) (idx : List (Nat × Nat)) : List (Nat × Nat) :=
  idx ++ runs.filterMap fun r => r.src.map fun a => (a, r.n)

/-- A line of parcel memory that a move reads, or part of a word it writes there, is uncorrectable (07 R167, R170). -/
def State.runsBad (s : State) (p : Nat) (runs : List Run) (idx : List (Nat × Nat)) : Bool :=
  !s.uncorr.isEmpty &&
    ((s.hereParts p (readSpans runs idx)).any (fun e => s.lineBad e.1 e.2) ||
     (s.hereParts p (runs.map fun r => (r.dst, r.n))).any fun e => s.partialBad e.1 e.2)

/-- The lines of parcel memory that a move reads with a corrected error, those that it writes in part included. -/
def State.moveCorr (s : State) (p : Nat) (runs : List Run) (idx : List (Nat × Nat)) : List Nat :=
  s.corrLines (s.hereParts p (readSpans runs idx)) ++ s.corrParts (s.hereParts p (runs.map fun r => (r.dst, r.n)))

/-- The move's data effect, once every tier line it reads has come. It reads what other engines are writing as a mixture (02
R38). The bytes of its own parcel's memory that it changed are the third part. -/
def State.moveData (s : State) (p : Nat) (q : QEntry) (got : List (Nat × List Byte)) (failed : Bool) :
    State × Nat × List (Nat × Byte) :=
  let m := s.unsettled p 2
  let v := s.mixed m
  let runs := v.moveRuns p got q
  let bad := failed || v.runsBad p runs (State.moveIndex q)
  let data := runs.map fun r => (r.dst, v.runBytes p got r)
  let r := v.writeRuns p q.seq (bad || runsOverlap runs || moveBroken q) data
  (r.unmixed s v m, if bad then 0x40 else 0, v.changed r p)

/-- What a move reads before it can tell what it copies, as spans: its index tensor, or the bitmap of a block tile. -/
def planSpans (q : QEntry) : List (Nat × Nat) :=
  let a := (q.op 1).bits
  State.moveIndex q ++
    (if wOpcode q.w = 0x80 ∧ dForm a = 1 ∧ dSparsity a = 2 then
      [(addrAdd (q.op 1).base (dMetaOff a : Nat), 32 * (dExt a 1 / 16))] else [])

/-- The tier lines that a move has still to read: first those that tell what it copies, then its sources. -/
def State.linesLeft (s : State) (p : Nat) (q : QEntry) (got : List (Nat × List Byte)) : List Nat :=
  let new (l : List Nat) : List Nat := l.filter fun a => !got.any (·.1 == a)
  let plan := new (sortDedup (((planSpans q).flatMap fun e => addrLines e.1 e.2).map (64 * ·) |>.filter s.inTier))
  if plan ≠ [] then plan else new (s.tierLinesRead (s.moveRuns p got q))

/-- What a move reads and writes, as lines of the module's memory (03 R70). -/
def moveLocs (acc : List (Nat × Bool)) : Locs :=
  { reads := lineLocs ((acc.filter fun e => !e.2).map (·.1)), writes := lineLocs ((acc.filter (·.2)).map (·.1)) }

/-- Queue the tier reads of a move (07 R159). -/
def State.requestLines (s : State) (p seq : Nat) (lines : List Nat) : State :=
  lines.foldl (fun s l =>
    { s with
      tierReads := s.tierReads ++ [{ ord := s.reqCtr, parcel := p, seq := seq, line := l }]
      reqCtr := s.reqCtr + 1 }) s

/-- Start a move (04 R87 to R90), where it depends on no move in flight (03 R70): with no tier line to read its data moves at
once; otherwise it requests lines, and its data moves when the last of them has come. -/
def State.startMove (s : State) (p op : Nat) : State :=
  match s.readyHead p 2 op with
  | none => s
  | some q =>
    let runs := s.moveRuns p [] q
    let acc := s.moveAccesses p runs (State.moveIndex q)
    let l := moveLocs acc
    if s.dependsOn p 2 l then s
    else
      let f : Flight := { entry := q, met := s.moveCorr p runs (State.moveIndex q), reads := l.reads, writes := l.writes }
      match s.moveTime p acc with
      | none => s.launch p 2 { f with stage := .held }
      | some ol =>
        let lines := s.linesLeft p q []
        if lines = [] then
          let r := s.moveData p q [] false
          r.1.launch p 2 { f with status := r.2.1, occ := ol.1, lat := ol.2, old := r.2.2 }
        else (s.requestLines p q.seq lines).launch p 2 { f with need := lines, occ := ol.1, lat := ol.2 }

/-- A move may complete (04 R90): every line read has come; and every line it writes to a tier has been
accepted under relaxed ordering, or is visible under strict. -/
def State.moveReady (s : State) (p : Nat) (f : Flight) : Bool :=
  decide (f.need = []) && s.tierWrites.all fun w =>
    !(w.parcel == p && w.seq == f.entry.seq) || (w.accepted && !s.strict p)

/-- MCOPY (04 R87). -/
def execMcopy (p : ParcelId) (s : State) : Host.Outcome State Fault Refusal := done (s.startMove p 0x80)
/-- MFILL (04 R87). -/
def execMfill (p : ParcelId) (s : State) : Host.Outcome State Fault Refusal := done (s.startMove p 0x81)
/-- MGATH (04 R88). -/
def execMgath (p : ParcelId) (s : State) : Host.Outcome State Fault Refusal := done (s.startMove p 0x82)
/-- MSCAT (04 R88). -/
def execMscat (p : ParcelId) (s : State) : Host.Outcome State Fault Refusal := done (s.startMove p 0x83)

end Sys2Proof.Machine
end

