-- ==== Sys2Proof/Machine/BeaconUnit.lean ====
section
/-!
DEFINITION. The beacon unit: BSIG, BWAIT, BBCAST, BSUB, FENCE, and the arrival and return of their operations
(04 R91 to R99).
-/
namespace Sys2Proof.Machine

/-- The beacon latency between two parcels (04 R96). -/
def beaconLatency (p q : Nat) : Nat :=
  if p = q then 1 else if p / 16 = q / 16 then 6 else 6 + 2 * townDist p q

/-- The operation passes township w's crossing. -/
def BeaconOp.crosses (o : BeaconOp) (w : Nat) : Bool := decide (o.parcel / 16 = w) != decide (o.beacon / 1024 = w)

/-- An operation of parcel p on beacon b would enter a full crossing of the beacon's township: its sender holds (09 R224). The crossing
fills only where that township lags by more than a tick; what it holds is 1.5 ticks of a traffic that the spec does not give (DESIGN
CHOICE, log entry 105). -/
def State.crossFull (s : State) (p b : Nat) : Bool :=
  let w := beaconHome b / 16
  decide (p / 16 ≠ w) && decide (2048 < (s.town w).lag) && decide (Config.crossingHolds w ≤ s.beaconOps.countP (·.crosses w))

/-- Put a beacon operation on its way, the instruction held until its answer returns. A crossing under reset refuses it, and it is
counted (09 R226). -/
def State.sendBeaconOp (s : State) (p : Nat) (q : QEntry) (k : BeaconKind) : State :=
  let o : BeaconOp := { kind := k, parcel := p, seq := q.seq, beacon := wBeacon q.w, amount := wAmount q.w }
  let w := beaconHome o.beacon / 16
  let l := beaconLatency p (beaconHome (wBeacon q.w))
  let s' := s.launch p 4 { entry := q, stage := .held, occ := 1, lat := 2 * l }
  if p / 16 ≠ w ∧ s.bit Reg.TWN_XRST w = true then s'.count Reg.TWN_FLUSHED w 1
  else { s' with beaconOps := s.beaconOps ++ [o] }

/-- The head of parcel p's beacon unit, of an opcode, where its operation has room in the crossings it takes. -/
def State.beaconHead (s : State) (p op : Nat) : Option QEntry :=
  match s.readyHead p 4 op with
  | some q => if s.crossFull p (wBeacon q.w) then none else some q
  | none => none

/-- The drain of a release (04 R95): under relaxed ordering, as of FENCE kind 0. -/
def State.releaseDrain (s : State) (p : Nat) (q : QEntry) : State := s.drainTier p q.cover

/-- BSIG (04 R92): a release that adds AMOUNT. -/
def execBsig (p : ParcelId) (s : State) : Host.Outcome State Fault Refusal :=
  match s.beaconHead p 0xC0 with
  | some q => done ((s.releaseDrain p q).sendBeaconOp p q .sig)
  | none => done s

/-- BWAIT (04 R92, R96): a parcel holds at most eight waits, and a ninth does not start. -/
def execBwait (p : ParcelId) (s : State) : Host.Outcome State Fault Refusal :=
  match s.beaconHead p 0xC1 with
  | some q =>
    let open' := (s.eng p 4).flight.countP fun f => wOpcode f.entry.w == 0xC1 && (f.stage == .held || f.stage == .run)
    if open' < 8 then done (s.sendBeaconOp p q .wait) else done s
  | none => done s

/-- BBCAST (04 R92): a release that releases every registered waiter. -/
def execBbcast (p : ParcelId) (s : State) : Host.Outcome State Fault Refusal :=
  match s.beaconHead p 0xC2 with
  | some q => done ((s.releaseDrain p q).sendBeaconOp p q .bcast)
  | none => done s

/-- BSUB (04 R92): subtracts without waiting; covers nothing. -/
def execBsub (p : ParcelId) (s : State) : Host.Outcome State Fault Refusal :=
  match s.beaconHead p 0xC3 with
  | some q => done (s.sendBeaconOp p q .sub)
  | none => done s

/-- FENCE (04 R98, R99): the covered writes become visible to every agent. -/
def execFence (p : ParcelId) (s : State) : Host.Outcome State Fault Refusal :=
  match s.readyHead p 4 0xC8 with
  | some q =>
    let c := s.drainCycles p q.cover + 64 * bitsOf (wMod q.w) 0 1
    done ((s.drainTier p q.cover).launch p 4 { entry := q, stage := .run, occ := 1, lat := c })
  | none => done s

/-- The oldest operation of parcel p on its way to beacon b. -/
def State.oldestOp (s : State) (b p : Nat) : Option BeaconOp :=
  s.beaconOps.find? fun o => o.parcel == p && o.beacon == b

/-- An operation is behind one of `l`'s way that does not arrive with it: between two townships a crossing keeps its entries in order
(09 R224). -/
def State.behind (s : State) (l : List BeaconOp) (o : BeaconOp) : Bool :=
  decide (o.parcel / 16 ≠ beaconHome o.beacon / 16) &&
    (s.beaconOps.takeWhile (· != o)).any fun x =>
      x.parcel / 16 == o.parcel / 16 && beaconHome x.beacon / 16 == beaconHome o.beacon / 16 && !l.contains x

/-- BEACON_OP_ARRIVAL (04 R94): the operations of the listed parcels reach beacon b in one plan cycle of its home: registrations
first, then the rest, each in ascending parcel number. At rest and in a freeze the home parcel holds its counts (08 R198). -/
def execBeaconOpArrival (b : Fin 32768) (ps : List ParcelId) (s : State) : Host.Outcome State Fault Refusal :=
  if s.planRuns (beaconHome b / 16) = false then done s
  else
  let come := (sortDedup (ps.map (·.val))).filterMap (s.oldestOp b)
  let ops := come.filter fun o => !s.behind come o
  let isWait (o : BeaconOp) : Bool := o.kind == .wait
  let order := ops.filter isWait ++ ops.filter fun o => !isWait o
  let s := { s with beaconOps := s.beaconOps.filter fun o => !ops.contains o }
  done (order.foldl State.applyBeaconOp s)

/-- BEACON_ACK_RETURN (04 R96): the answer to instruction i in flight on the beacon unit has come back, and the
instruction completes, or raises its failure, in a plan cycle of its parcel (08 R198). -/
def execBeaconAckReturn (p : ParcelId) (i : Nat) (s : State) : Host.Outcome State Fault Refusal :=
  match (s.eng p 4).flight[i]? with
  | some f =>
    if f.stage = .run ∧ wOpcode f.entry.w ≠ 0xC8 ∧ s.planRuns (p / 16) = true then done (s.finishFlight p 4 i) else done s
  | none => done s

end Sys2Proof.Machine
end

