-- ==== Sys2Proof/Machine/TaperCpu.lean ====
section
/-!
DEFINITION. The taper: an RV32IMC processor in machine mode only (02 R50, R425, R426, 03 R83). The base
instruction set is the RISC-V one the spec names (DEDUCED, log entry 10).
-/
namespace Sys2Proof.Machine

/-! ### Registers and the taper's address space -/

/-- A taper integer register; x0 reads zero. -/
def Taper.reg (t : Taper) (r : Nat) : Nat := if r = 0 then 0 else (tabGet 0 t.regs r).toNat

/-- Write a taper integer register; a write to x0 is discarded. -/
def Taper.setReg (t : Taper) (r v : Nat) : Taper :=
  if r = 0 then t else { t with regs := tabPut 0 t.regs r (BitVec.ofNat 32 v) }

/-- Write a register of parcel p's taper. -/
def State.setTreg (s : State) (p r v : Nat) : State :=
  let x := s.par p
  s.setPar p { x with taper := x.taper.setReg r v }

/-- A register of parcel p's taper. -/
def State.treg (s : State) (p r : Nat) : Nat := (s.par p).taper.reg r

/-- Bytes of the taper's instruction memory. -/
def State.imemRead (s : State) (p off n : Nat) : Nat :=
  leNat ((List.range n).map fun i => tabGet 0 s.imem (p * 65536 + (off + i) % 65536))

/-- The result of a taper load: a value, an exception code, an uncorrectable line (03 R69), or a wait for a wheel phase that
never comes (02 R49). -/
inductive TLoad where
  | val (v : Nat)
  | trap (cause : Nat)
  | bad
  | wait
deriving DecidableEq, Repr

/-- A load of n bytes from the taper's address space (02 R50). Misaligned: cause 4; outside the ranges or
narrower than 32 bits on the windows: cause 5. DESIGN CHOICE (log entry 85): of an access that is misaligned and also
outside the ranges or too narrow, misalignment is raised; the tick word shows the datum tick, though the township lags. -/
def State.tload (s : State) (p a n : Nat) : TLoad :=
  if a % n ≠ 0 then .trap 4
  else if a < 0x10000 then .val (s.imemRead p a n)
  else if 0x10000000 ≤ a ∧ a < 0x10040000 then
    let m := taperBase p + (a - 0x10000000)
    if s.lineBad m n then .bad else .val (s.rdNat m n)
  else if 0x20000000 ≤ a ∧ a < 0x20000800 then
    if n ≠ 4 then .trap 5 else .val (bitsOf (s.shadowP p ((a - 0x20000000) / 8)) (32 * (a / 4 % 2)) 32)
  else if 0x20001000 ≤ a ∧ a < 0x20001800 then
    if n ≠ 4 then .trap 5 else .val (bitsOf (s.liveP p ((a - 0x20001000) / 8)) (32 * (a / 4 % 2)) 32)
  else if a = 0x20002004 ∧ n = 4 then .val (s.tickNow % 2 ^ 32)
  else if 0x40000000 ≤ a ∧ a < 0x40400000 then
    let m := parcelBase p + (a - 0x40000000)
    if !s.hasPhase p 4 then .wait else if s.lineBad m n then .bad else .val (s.rdNat m n)
  else .trap 5

/-- The lines of data or parcel memory with a corrected error that a taper access of n bytes meets. -/
def State.taperCorr (s : State) (p a n : Nat) : List Nat :=
  if 0x10000000 ≤ a ∧ a < 0x10040000 then s.corrLines [(taperBase p + (a - 0x10000000), n)]
  else if 0x40000000 ≤ a ∧ a < 0x40400000 then s.corrLines [(parcelBase p + (a - 0x40000000), n)]
  else []

/-- The routine ends: TAPER_DONE was written. The call that runs, the last taken, completes and the taper may
take the next (02 R50). A call that trapped or was abandoned before it stays, and holds the counter (R426). -/
def State.taperDone (s : State) (p : Nat) : State :=
  let x := s.par p
  let s := s.setPar p { x with taper := { x.taper with running := false } }
  s.finishFlight p 5 ((s.eng p 5).flight.length - 1)

/-- What a taper store did: a new state, an exception code, a partial write of an uncorrectable word, or a wait for a wheel
phase that never comes. -/
inductive TStore where
  | ok (s : State)
  | trap (cause : Nat)
  | bad
  | wait
deriving DecidableEq, Repr

/-- A store of n bytes (02 R50). Misaligned: cause 6; outside the ranges or narrower than 32 bits on the
parameter window: cause 7; of both, misaligned (DESIGN CHOICE, log entry 85). A shadow register that the register interconnect
wrote in the same cycle keeps that value (R51). -/
def State.tstore (s : State) (p a n v : Nat) : TStore :=
  if a % n ≠ 0 then .trap 6
  else if 0x10000000 ≤ a ∧ a < 0x10040000 then
    let m := taperBase p + (a - 0x10000000)
    if s.partialBad m n then .bad else .ok ((s.noteLines 4 (s.corrParts [(m, n)])).wrNat m n v)
  else if 0x20000000 ≤ a ∧ a < 0x20000800 then
    if n ≠ 4 then .trap 7
    else
      let r := (a - 0x20000000) / 8
      if tabGet 0 s.paramAt (p * 256 + r) = s.datum + 1 then .ok s
      else .ok (s.setShadow p r (putBits (s.shadowP p r) (32 * (a / 4 % 2)) 32 v))
  else if 0x20002000 ≤ a ∧ a < 0x20002004 then .ok (s.taperDone p)
  else if 0x40000000 ≤ a ∧ a < 0x40400000 then
    let m := parcelBase p + (a - 0x40000000)
    if !s.hasPhase p 4 then .wait
    else if s.partialBad m n then .bad else .ok ((s.noteLines 4 (s.corrParts [(m, n)])).wrNat m n v)
  else .trap 7

/-- A trap halts the taper: pc and cause recorded, the event set (02 R50). The call in flight can no
longer end. -/
def State.taperTrap (s : State) (p pc cause : Nat) : State :=
  let x := s.par p
  let s := ((s.setPar p { x with taper := { x.taper with running := false } }).setFlds p
    [(Reg.PCT_TAPER_PC, pc), (Reg.PCT_TAPER_CAUSE, cause), (Reg.PCT_TAPER_TRAPPED, 1)]).raise Reg.PCT_EVT_TAPER_TRAP p
  match s.ptract p with
  | some t => s.jobFailure t 1 p 0
  | none => s

/-! ### The compressed instructions, expanded to their 32-bit forms -/

/-- An I-type word. -/
def encI (opc f3 rd rs1 imm : Nat) : Nat := opc + rd * 2 ^ 7 + f3 * 2 ^ 12 + rs1 * 2 ^ 15 + imm % 4096 * 2 ^ 20
/-- An R-type word. -/
def encR (f7 f3 rd rs1 rs2 : Nat) : Nat := 0x33 + rd * 2 ^ 7 + f3 * 2 ^ 12 + rs1 * 2 ^ 15 + rs2 * 2 ^ 20 + f7 * 2 ^ 25
/-- An S-type word. -/
def encS (f3 rs1 rs2 imm : Nat) : Nat :=
  0x23 + imm % 32 * 2 ^ 7 + f3 * 2 ^ 12 + rs1 * 2 ^ 15 + rs2 * 2 ^ 20 + imm / 32 % 128 * 2 ^ 25
/-- A B-type word for a signed byte offset. -/
def encB (f3 rs1 rs2 : Nat) (off : Int) : Nat :=
  let i := wrapTo 13 off
  0x63 + bitsOf i 11 1 * 2 ^ 7 + bitsOf i 1 4 * 2 ^ 8 + f3 * 2 ^ 12 + rs1 * 2 ^ 15 + rs2 * 2 ^ 20 +
    bitsOf i 5 6 * 2 ^ 25 + bitsOf i 12 1 * 2 ^ 31
/-- A JAL word for a signed byte offset. -/
def encJ (rd : Nat) (off : Int) : Nat :=
  let i := wrapTo 21 off
  0x6F + rd * 2 ^ 7 + bitsOf i 12 8 * 2 ^ 12 + bitsOf i 11 1 * 2 ^ 20 + bitsOf i 1 10 * 2 ^ 21 + bitsOf i 20 1 * 2 ^ 31

/-- The 32-bit form of a compressed instruction; none where it is illegal or reserved in RV32C without
floating point. -/
def expandC (h : Nat) : Option Nat :=
  let rdp := 8 + bitsOf h 2 3
  let rs1p := 8 + bitsOf h 7 3
  let rd := bitsOf h 7 5
  let rs2 := bitsOf h 2 5
  let imm6 := wrapTo 12 (sextOf 6 (bitsOf h 12 1 * 32 + bitsOf h 2 5))
  let jOff : Int := sextOf 12 (bitsOf h 12 1 * 2 ^ 11 + bitsOf h 8 1 * 2 ^ 10 + bitsOf h 9 2 * 2 ^ 8 +
    bitsOf h 6 1 * 2 ^ 7 + bitsOf h 7 1 * 2 ^ 6 + bitsOf h 2 1 * 2 ^ 5 + bitsOf h 11 1 * 2 ^ 4 + bitsOf h 3 3 * 2)
  let bOff : Int := sextOf 9 (bitsOf h 12 1 * 2 ^ 8 + bitsOf h 5 2 * 2 ^ 6 + bitsOf h 2 1 * 2 ^ 5 +
    bitsOf h 10 2 * 2 ^ 3 + bitsOf h 3 2 * 2)
  match bitsOf h 0 2, bitsOf h 13 3 with
  | 0, 0 =>
    let i := bitsOf h 7 4 * 64 + bitsOf h 11 2 * 16 + bitsOf h 5 1 * 8 + bitsOf h 6 1 * 4
    if i = 0 then none else some (encI 0x13 0 rdp 2 i)
  | 0, 2 => some (encI 0x03 2 rdp rs1p (bitsOf h 5 1 * 64 + bitsOf h 10 3 * 8 + bitsOf h 6 1 * 4))
  | 0, 6 => some (encS 2 rs1p rdp (bitsOf h 5 1 * 64 + bitsOf h 10 3 * 8 + bitsOf h 6 1 * 4))
  | 1, 0 => some (encI 0x13 0 rd rd imm6)
  | 1, 1 => some (encJ 1 jOff)
  | 1, 2 => some (encI 0x13 0 rd 0 imm6)
  | 1, 3 =>
    if rd = 2 then
      let i := sextOf 10 (bitsOf h 12 1 * 512 + bitsOf h 3 2 * 128 + bitsOf h 5 1 * 64 + bitsOf h 2 1 * 32 + bitsOf h 6 1 * 16)
      if i = 0 then none else some (encI 0x13 0 2 2 (wrapTo 12 i))
    else
      let i := sextOf 6 (bitsOf h 12 1 * 32 + bitsOf h 2 5)
      if i = 0 then none else some (0x37 + rd * 2 ^ 7 + wrapTo 20 i * 2 ^ 12)
  | 1, 4 =>
    match bitsOf h 10 2 with
    | 0 => if bitsOf h 12 1 = 1 then none else some (encI 0x13 5 rs1p rs1p (bitsOf h 2 5))
    | 1 => if bitsOf h 12 1 = 1 then none else some (encI 0x13 5 rs1p rs1p (bitsOf h 2 5 + 1024))
    | 2 => some (encI 0x13 7 rs1p rs1p imm6)
    | _ =>
      if bitsOf h 12 1 = 1 then none
      else
        match bitsOf h 5 2 with
        | 0 => some (encR 0x20 0 rs1p rs1p rdp)
        | 1 => some (encR 0 4 rs1p rs1p rdp)
        | 2 => some (encR 0 6 rs1p rs1p rdp)
        | _ => some (encR 0 7 rs1p rs1p rdp)
  | 1, 5 => some (encJ 0 jOff)
  | 1, 6 => some (encB 0 rs1p 0 bOff)
  | 1, 7 => some (encB 1 rs1p 0 bOff)
  | 2, 0 => if bitsOf h 12 1 = 1 then none else some (encI 0x13 1 rd rd (bitsOf h 2 5))
  | 2, 2 =>
    if rd = 0 then none
    else some (encI 0x03 2 rd 2 (bitsOf h 2 2 * 64 + bitsOf h 12 1 * 32 + bitsOf h 4 3 * 4))
  | 2, 4 =>
    if bitsOf h 12 1 = 0 then
      if rs2 = 0 then (if rd = 0 then none else some (encI 0x67 0 0 rd 0))
      else some (encR 0 0 rd 0 rs2)
    else if rs2 = 0 then (if rd = 0 then some 0x00100073 else some (encI 0x67 0 1 rd 0))
    else some (encR 0 0 rd rd rs2)
  | 2, 6 => some (encS 2 2 rs2 (bitsOf h 7 2 * 64 + bitsOf h 9 4 * 4))
  | _, _ => none

/-! ### Execution -/

/-- The taper ALU: OP and OP-IMM share it; `alt` is instruction bit 30. -/
def aluOp (f3 : Nat) (alt : Bool) (a b : Nat) : Nat :=
  match f3 with
  | 0 => if alt then (a + 2 ^ 32 - b) % 2 ^ 32 else (a + b) % 2 ^ 32
  | 1 => a * 2 ^ (b % 32) % 2 ^ 32
  | 2 => b2n (decide (sextOf 32 a < sextOf 32 b))
  | 3 => b2n (decide (a < b))
  | 4 => Nat.xor a b
  | 5 => if alt then wrapTo 32 (sextOf 32 a / ((2 ^ (b % 32) : Nat) : Int)) else a / 2 ^ (b % 32)
  | 6 => Nat.lor a b
  | _ => Nat.land a b

/-- The M extension, with its division corners: division by zero gives all ones and the dividend, and
the overflow gives the dividend and zero. -/
def mulOp (f3 a b : Nat) : Nat :=
  let x := sextOf 32 a
  let y := sextOf 32 b
  match f3 with
  | 0 => a * b % 2 ^ 32
  | 1 => wrapTo 32 (x * y / ((2 ^ 32 : Nat) : Int))
  | 2 => wrapTo 32 (x * (b : Int) / ((2 ^ 32 : Nat) : Int))
  | 3 => a * b / 2 ^ 32 % 2 ^ 32
  | 4 => if b = 0 then 2 ^ 32 - 1 else wrapTo 32 (Int.tdiv x y)
  | 5 => if b = 0 then 2 ^ 32 - 1 else a / b
  | 6 => if b = 0 then a else wrapTo 32 (Int.tmod x y)
  | _ => if b = 0 then a else a % b

/-- A branch's condition. -/
def branchTaken (f3 a b : Nat) : Bool :=
  match f3 with
  | 0 => a == b
  | 1 => a != b
  | 4 => decide (sextOf 32 a < sextOf 32 b)
  | 5 => decide (sextOf 32 b ≤ sextOf 32 a)
  | 6 => decide (a < b)
  | _ => decide (b ≤ a)

/-- The machine counters a CSR read returns (02 R425): mcycle, minstret, their high halves and aliases. -/
def csrRead (t : Taper) (n : Nat) : Option Nat :=
  if n = 0xB00 ∨ n = 0xC00 then some (bitsOf t.mcycle.toNat 0 32)
  else if n = 0xB80 ∨ n = 0xC80 then some (bitsOf t.mcycle.toNat 32 32)
  else if n = 0xB02 ∨ n = 0xC02 then some (bitsOf t.minstret.toNat 0 32)
  else if n = 0xB82 ∨ n = 0xC82 then some (bitsOf t.minstret.toNat 32 32)
  else none

/-- What one instruction did: the next pc with the state, or a trap, or an uncorrectable access, or a wait for its phase of
parcel memory that never comes (02 R49). -/
inductive TOut where
  | next (pc : Nat) (s : State)
  | trap (cause : Nat)
  | bad
  | wait
deriving DecidableEq, Repr

/-- Retire with a register result. -/
def State.tset (s : State) (p rd v npc : Nat) : TOut := .next npc (s.setTreg p rd v)

/-- One 32-bit instruction at pc, of length len (4, or 2 for an expanded one). -/
def State.rv32 (s : State) (p pc len w : Nat) : TOut :=
  let rd := bitsOf w 7 5
  let f3 := bitsOf w 12 3
  let rs1 := bitsOf w 15 5
  let rs2 := bitsOf w 20 5
  let f7 := bitsOf w 25 7
  let a := s.treg p rs1
  let b := s.treg p rs2
  let immI := wrapTo 32 (sextOf 12 (bitsOf w 20 12))
  let npc := (pc + len) % 2 ^ 32
  let ill : TOut := .trap 2
  let target (off : Int) : Nat := wrapTo 32 ((pc : Int) + off)
  match bitsOf w 0 7 with
  | 0x37 => s.tset p rd (bitsOf w 12 20 * 4096) npc
  | 0x17 => s.tset p rd ((pc + bitsOf w 12 20 * 4096) % 2 ^ 32) npc
  | 0x6F =>
    let off := sextOf 21 (bitsOf w 31 1 * 2 ^ 20 + bitsOf w 12 8 * 2 ^ 12 + bitsOf w 20 1 * 2 ^ 11 + bitsOf w 21 10 * 2)
    s.tset p rd npc (target off)
  | 0x67 => if f3 = 0 then s.tset p rd npc ((a + immI) % 2 ^ 32 / 2 * 2) else ill
  | 0x63 =>
    let off := sextOf 13 (bitsOf w 31 1 * 2 ^ 12 + bitsOf w 7 1 * 2 ^ 11 + bitsOf w 25 6 * 2 ^ 5 + bitsOf w 8 4 * 2)
    if f3 = 2 ∨ f3 = 3 then ill
    else .next (if branchTaken f3 a b then target off else npc) s
  | 0x03 =>
    let ad := (a + immI) % 2 ^ 32
    let ld (n : Nat) (signed : Bool) : TOut :=
      match s.tload p ad n with
      | .val v => (s.noteLines 4 (s.taperCorr p ad n)).tset p rd (if signed then wrapTo 32 (sextOf (8 * n) v) else v) npc
      | .trap c => .trap c
      | .bad => .bad
      | .wait => .wait
    match f3 with
    | 0 => ld 1 true
    | 1 => ld 2 true
    | 2 => ld 4 true
    | 4 => ld 1 false
    | 5 => ld 2 false
    | _ => ill
  | 0x23 =>
    let ad := (a + wrapTo 32 (sextOf 12 (f7 * 32 + rd))) % 2 ^ 32
    if f3 ≤ 2 then
      match s.tstore p ad (2 ^ f3) (b % 2 ^ (8 * 2 ^ f3)) with
      | .ok s => .next npc s
      | .trap c => .trap c
      | .bad => .bad
      | .wait => .wait
    else ill
  | 0x13 =>
    if f3 = 1 then (if f7 = 0 then s.tset p rd (aluOp 1 false a rs2) npc else ill)
    else if f3 = 5 then
      (if f7 = 0 then s.tset p rd (aluOp 5 false a rs2) npc
       else if f7 = 0x20 then s.tset p rd (aluOp 5 true a rs2) npc else ill)
    else s.tset p rd (aluOp f3 false a immI) npc
  | 0x33 =>
    if f7 = 1 then s.tset p rd (mulOp f3 a b) npc
    else if f7 = 0 then s.tset p rd (aluOp f3 false a b) npc
    else if f7 = 0x20 ∧ (f3 = 0 ∨ f3 = 5) then s.tset p rd (aluOp f3 true a b) npc
    else ill
  | 0x0F => if f3 = 0 then .next npc s else ill
  | 0x73 =>
    if w = 0x00000073 then .trap 11
    else if w = 0x00100073 then .trap 3
    else if w = 0x30200073 ∨ f3 = 0 ∨ f3 = 4 then ill
    else
      -- CSRRW and CSRRWI always write; CSRRS/C and their immediate forms write unless the source is 0
      if f3 = 1 ∨ f3 = 5 ∨ rs1 ≠ 0 then ill
      else
        match csrRead (s.par p).taper (bitsOf w 20 12) with
        | some v => s.tset p rd v npc
        | none => ill
  | _ => ill

/-- One instruction at the taper's pc: a fetch outside instruction memory is cause 1 (02 R50). -/
def State.taperFetch (s : State) (p pc : Nat) : TOut :=
  if 0x10000 ≤ pc then .trap 1
  else
    let h := s.imemRead p pc 2
    if h % 4 = 3 then
      if 0x10000 ≤ pc + 2 then .trap 1 else s.rv32 p pc 4 (s.imemRead p pc 4)
    else
      match expandC h with
      | some w => s.rv32 p pc 2 w
      | none => .trap 2

/-- mcycle counts every plan cycle while PCT_TAPER_RESET is 0 (02 R425). -/
def State.taperCycles (s : State) (p n : Nat) : State :=
  if s.bit Reg.PCT_TAPER_RESET p then s
  else
    let x := s.par p
    s.setPar p { x with taper := { x.taper with mcycle := x.taper.mcycle + BitVec.ofNat 64 n } }

/-- The counters and registers after a load or a reset of the taper (02 R425, R426). -/
def State.taperZero (s : State) (p : Nat) : State :=
  let x := s.par p
  (s.setPar p { x with taper := { x.taper with regs := [], mcycle := 0, minstret := 0, running := false } }).setFld
    Reg.PCT_TAPER_PC p 0

/-- TAPER_TAKE_CALL (02 R50, 03 R83): the next call, its waits holding, sets pc and a0. -/
def execTaperTakeCall (p : ParcelId) (s : State) : Host.Outcome State Fault Refusal :=
  let x := s.par p
  if s.bit Reg.PCT_TAPER_RESET p || s.bit Reg.PCT_TAPER_TRAPPED p || x.taper.running then done s
  else
    match s.readyHead p 5 0x60 with
    | none => done s
    | some q =>
      let s := s.launch p 5 { entry := q, stage := .held }
      let s := s.setFld Reg.PCT_TAPER_PC p (2 * bitsOf q.w 16 16)
      let x := s.par p
      done (s.setPar p { x with taper := { (x.taper.setReg 10 ((q.op 0).num 32)) with running := true } })

/-- The call whose routine runs keeps what an instruction of it changed in parcel memory (02 R38). -/
def State.logTaper (s : State) (p : Nat) (old : List (Nat × Byte)) : State :=
  if old = [] then s
  else
    let i := (s.eng p 5).flight.length - 1
    match (s.eng p 5).flight[i]? with
    | some f => s.setFlight p 5 i { f with old := f.old ++ old.filter fun ab => !f.old.any fun x => x.1 == ab.1 }
    | none => s

/-- TAPER_INSTRUCTION (02 R50): one instruction, `dt` plan cycles after the one before; it reads what the engines are writing
as a mixture (R38). A load of an uncorrectable line fails the call with UNCORRECTABLE_MEMORY (03 R69); an access of parcel
memory without a wheel phase waits (R49). -/
def execTaperInstruction (p : ParcelId) (dt : Nat) (s : State) : Host.Outcome State Fault Refusal :=
  if s.shut (p / 16) then done s else
  let s := s.taperCycles p dt
  if !(s.par p).taper.running || s.bit Reg.PCT_TAPER_RESET p || !(s.planRuns (p / 16)) then done s
  else
    let pc := s.fld Reg.PCT_TAPER_PC p
    let m := s.unsettled p 5
    let v := s.mixed m
    match v.taperFetch p pc with
    | .next npc r =>
      let s := (r.unmixed s v m).logTaper p (v.changed r p)
      let x := s.par p
      let s := s.setPar p { x with taper := { x.taper with minstret := x.taper.minstret + 1 } }
      done (s.setFld Reg.PCT_TAPER_PC p npc)
    | .wait => done s
    | .trap c => done (s.taperTrap p pc c)
    | .bad =>
      let x := s.par p
      let s := s.setPar p { x with taper := { x.taper with running := false } }
      let i := (s.eng p 5).flight.length - 1
      match (s.eng p 5).flight[i]? with
      | some f => done (s.setFlight p 5 i { f with status := 0x40 } |>.finishFlight p 5 i)
      | none => done s

/-- A write of PCT_TAPER_RESET (02 R426): 1 abandons a running routine, whose call stays in flight for good, and clears the
taper; 0 lets it run. -/
def State.taperReset (s : State) (p : Nat) (v : Bool) : State :=
  if v then ((s.setFld Reg.PCT_TAPER_RESET p 1).setFld Reg.PCT_TAPER_TRAPPED p 0).taperZero p
  else s.setFld Reg.PCT_TAPER_RESET p 0

/-- PCT_TAPER_RESET (02 R426). -/
def execPctTaperReset (p : ParcelId) (v : Bool) (s : State) : Host.Outcome State Fault Refusal :=
  if s.disabled p || s.shut (p / 16) then done s else done (s.taperReset p v)

end Sys2Proof.Machine
end

