-- ==== Sys2Proof/Machine/ParcelCtl.lean ====
section
/-!
DEFINITION. Parcel control: completion of engine instructions, the replay boundary, starting and stopping,
quiescence, the PCT data registers (02 R36, R40 to R43, R51, R52, R57, R58).
-/
namespace Sys2Proof.Machine

/-! ### Stopping -/

/-- A transition of a tract that no command made (08 R193). -/
def State.trcMove (s : State) (t code : Nat) : State :=
  let old := s.fld Reg.TRC_STATE_CODE t
  (s.setTract t { s.tract t with won := some (s.datum, old) }).setFld Reg.TRC_STATE_CODE t code

/-- The state and load step of tract t before it went dark in this very cycle; none otherwise. -/
def State.darkNow (s : State) (t : Nat) : Option (Nat × Nat) :=
  match (s.tract t).darkFrom with
  | some (d, st, stage) => if d = s.datum ∧ s.fld Reg.TRC_STATE_CODE t = 7 then some (st, stage) else none
  | none => none

/-- A transition that reaches tract t in the cycle in which it went dark comes before DARK, which stands after it (08 R193; DEDUCED,
log entry 93): what the transition does from the state before, and the tract, its parcels and its loading dark again. -/
def State.beforeDark (s : State) (t : Nat) (was : Nat × Nat) (f : State → State) : State :=
  let ps := (List.range 512).filter fun p => decide (s.ptract p = some t)
  let r := f ((s.setTract t { s.tract t with stage := was.2 }).setFld Reg.TRC_STATE_CODE t was.1)
  let r := ps.foldl (fun r p => r.setPstate p (s.pstate p)) r
  (r.setTract t { r.tract t with armed := false, stage := 0, darkFrom := (s.tract t).darkFrom }).setFlds t
    [(Reg.TRC_STATE_CODE, 7), (Reg.TRC_FAULT_STATUS, 0xFF)]

/-- RUNNING or STOPPING ends when every placed parcel is STOPPED (08 R193, R197). -/
def State.tractCheck (s : State) (t : Nat) : State :=
  let st := s.fld Reg.TRC_STATE_CODE t
  let placed := (s.tract t).landing
  if (st = 3 ∨ st = 4) ∧ placed ≠ [] ∧ placed.all (fun p => s.pstate p == stStopped) = true then
    ((s.trcMove t 5).trcEvent Reg.TRC_EVT_STOPPED t).jobStopped t (placed.all fun p => (s.par p).byEnd)
  else s

/-- The tract check of a parcel's tract. -/
def State.ptractCheck (s : State) (p : Nat) : State :=
  match s.ptract p with
  | some t => s.tractCheck t
  | none => s

/-- Parcel p enters STOPPED: no transition is pending any more. -/
def State.enterStopped (s : State) (p : Nat) : State :=
  let x := s.par p
  let y := { x with
    armed := false
    faulted := false
    ended := false
    replayTo := none
    stopping := false
    stopNow := false
    stepping := false
    stepEng := none
    haltReq := false }
  (((s.setPar p y).setPstate p stStopped).setFld Reg.PCT_COPYING p 0).standing p 7

/-- The parcel stops with a status, and its tract sees it. -/
def State.stopWith (s : State) (p status : Nat) (ev : Bool) : State :=
  let s := (s.enterStopped p).setFld Reg.PCT_FAULT_STATUS p status
  (if ev then s.raise Reg.PCT_EVT_STOPPED p else s).ptractCheck p

/-- Calls of a taper whose routine can no longer end (02 R43): in flight, and no routine runs. -/
def State.deadCalls (s : State) (p : Nat) : Nat :=
  if (s.par p).taper.running then 0 else (s.eng p 5).flight.countP fun f => f.stage == .held

/-- Discard everything not started, withdrawn waits and dead taper calls (02 R43, 08 R210). -/
def State.discardAll (s : State) (p : Nat) : State :=
  let queued := ((List.range 6).map fun e => (s.eng p e).queue.length).foldl (· + ·) 0
  let n := queued + (s.openWaits p).length + s.deadCalls p
  let dead := !(s.par p).taper.running
  let s := s.withdrawWaits p
  let s := (List.range 6).foldl (fun s e =>
    let x := s.eng p e
    let fl := if e = 5 ∧ dead = true then x.flight.map fun f => if f.stage = .held then { f with stage := .gone } else f
      else x.flight
    s.setEng p e { x with queue := [], flight := fl }) s
  s.count Reg.PCT_FAULT_DISCARDS p n

/-- PARCEL_QUIESCED (02 R40, R43, 04 R106): every engine of a stopping parcel is quiet, or the drain of a
draining or ended one is complete. A taper call that died after PCT_STOP_NOW is discarded and counted with the rest. A parcel
that does not advance holds its state (08 R198). -/
def execParcelQuiesced (p : ParcelId) (s : State) : Host.Outcome State Fault Refusal :=
  let x := s.par p
  let st := s.pstate p
  let alive := st == stRun || st == stDraining || st == stHalted
  if s.planRuns (p / 16) = false then done s
  else if alive && x.faulted && s.quiet p then done ((s.enterStopped p).ptractCheck p)
  else if alive && x.stopNow && s.quiet p then done ((s.discardAll p).stopWith p 0x03 true)
  else if st = stDraining ∧ s.drainComplete p = true ∧ s.bit Reg.PCT_COPYING p = false then
    done (s.stopWith p 0x00 true)
  else if st = stRun ∧ x.ended = true ∧ s.drainComplete p = true then
    done ((s.setPar p { x with byEnd := true }).stopWith p 0x00 true)
  else done s

/-- PCT_START (02 R42): arms an IDLE parcel. -/
def State.pctStart (s : State) (p : Nat) : State :=
  if s.pstate p = stIdle then s.setPar p { s.par p with armed := true } else s

/-- PCT_STOP (02 R43): a RUN parcel drains; a boundary copy already running ends first, and a REPLAY that still drains
starts no boundary (DEDUCED, log entry 13). A fault of the same time has won (R41). -/
def State.pctStop (s : State) (p : Nat) : State :=
  let s := s.dropHalt p
  if s.pstate p = stRun ∧ (s.par p).faulted = false then
    let s := s.keepStop p
    let x := s.par p
    let target := if s.bit Reg.PCT_COPYING p then x.replayTo else none
    let y := { x with stopping := true, ended := false, replayTo := target, stepping := false, stepEng := none, haltReq := false }
    ((s.setPar p y).setPstate p stDraining).standing p 4
  else s

/-- PCT_STOP_NOW (02 R43): queued work is discarded, executing instructions finish. A boundary copy under way ends with it,
and the shadow writes it held stay unapplied (DEDUCED, log entry 13). -/
def State.pctStopNow (s : State) (p : Nat) : State :=
  let s := s.dropHalt p
  if (s.pstate p = stRun ∨ s.pstate p = stDraining) ∧ (s.par p).faulted = false then
    let s := (s.keepStop p).discardAll p
    s.setPar p { s.par p with
      stopNow := true, stopping := false, ended := false, replayTo := none, stepping := false, stepEng := none, haltReq := false }
  else s

/-- PCT_START (02 R42). -/
def execPctStart (p : ParcelId) (s : State) : Host.Outcome State Fault Refusal :=
  if s.disabled p || s.shut (p / 16) then done s else done (s.pctStart p)

/-- PCT_STOP (02 R43). -/
def execPctStop (p : ParcelId) (s : State) : Host.Outcome State Fault Refusal :=
  if s.disabled p || s.shut (p / 16) then done s else done (s.pctStop p)

/-- PCT_STOP_NOW (02 R43), expert. -/
def execPctStopNow (p : ParcelId) (s : State) : Host.Outcome State Fault Refusal :=
  if s.disabled p || s.shut (p / 16) || !s.expertOpen Reg.PCT_STOP_NOW then done s else done (s.pctStopNow p)

/-! ### Completion (02 R36) -/

/-- XRECV's expected count (04 R101, R105). -/
def xrecvExpect (q : QEntry) : Nat := (q.op 1).num 13

/-- XRECV's tally. -/
def xrecvTally (q : QEntry) : Nat := (q.op 0).num 6

/-- XRECV's tally has its expected count and the last flag (04 R101); a count outside 1 to 4,096 is never
met. -/
def State.tallyMet (s : State) (p : Nat) (q : QEntry) : Bool :=
  let t := s.tally p (xrecvTally q)
  let n := xrecvExpect q
  decide (1 ≤ n ∧ n ≤ 4096 ∧ n ≤ t.count) && t.last

/-- XRECV completes: its count leaves the tally, and the last flag is cleared. -/
def State.consumeTally (s : State) (p : Nat) (q : QEntry) : State :=
  let t := s.tally p (xrecvTally q)
  s.setTally p (xrecvTally q) { count := t.count - xrecvExpect q, last := false }

/-- ENGINE_COMPLETION (02 R36): instruction i in flight on engine e of parcel p completes, where nothing it
waits for is outstanding: moves as 04 R90 says, XRECV on its tally, a fence of KIND 1 once its
back-invalidations are sent (04 R98). Taper calls complete by TAPER_DONE, beacon operations by their
acknowledgement. -/
def execEngineCompletion (p : ParcelId) (e : Fin 6) (i : Nat) (s : State) : Host.Outcome State Fault Refusal :=
  match (s.eng p e).flight[i]? with
  | none => done s
  | some f =>
    if !s.planRuns (p / 16) then done s
    else
      match e.val with
      | 0 => if f.stage = .run then done (s.finishFlight p 0 i) else done s
      | 1 => if f.stage = .run then done (s.finishFlight p 1 i) else done s
      | 2 => if f.stage = .run ∧ s.moveReady p f = true then done (s.finishFlight p 2 i) else done s
      | 3 =>
        if wOpcode f.entry.w = 0xA1 then
          if f.stage = .held ∧ s.tallyMet p f.entry = true then
            done ((s.consumeTally p f.entry).finishFlight p 3 i)
          else done s
        else if f.stage = .run then done (s.finishFlight p 3 i)
        else done s
      | 4 =>
        if f.stage = .run ∧ wOpcode f.entry.w = 0xC8 ∧
            (bitsOf (wMod f.entry.w) 0 1 = 0 ∨ s.invalidationsSent = true) then done (s.finishFlight p 4 i)
        else done s
      | _ => done s

/-! ### The replay boundary (02 R52) -/

/-- Hold or apply a shadow write of the register interconnect (02 R52); its time is kept, since it stands against a taper's
write of the same cycle (R51). -/
def State.paramWrite (s : State) (p n : Nat) (v : BitVec 64) : State :=
  if s.bit Reg.PCT_COPYING p then s.setPar p { s.par p with held := (s.par p).held ++ [(n % 256, v)] }
  else { s.setShadow p n v.toNat with paramAt := tabPut 0 s.paramAt (p * 256 + n % 256) (s.datum + 1) }

/-- A parcel's slice of a table, copied from another. -/
def tabCopy {α : Type} [DecidableEq α] (d : α) (src dst : Tab α) (lo n : Nat) : Tab α :=
  (List.range n).foldl (fun t i => tabPut d t (lo + i) (tabGet d src (lo + i))) dst

/-- Step 5 of the boundary: the shadow bank is live, counters start over, held writes land, fetch restarts. -/
def State.finishBoundary (s : State) (p target : Nat) : State :=
  let s := { s with
    live := tabCopy 0 s.shadow s.live (256 * p) 256
    dirty := tabClear s.dirty (256 * p) (256 * p + 256) }
  let s := (List.range 6).foldl (fun s e =>
    (s.setEng p e { s.eng p e with issued := 0 }).setFld (cntFld e) p 0) s
  let held := (s.par p).held
  let s := s.setPar p { s.par p with held := [], replayTo := none, pc := target }
  let s := held.foldl (fun s nv => s.setShadow p nv.1 nv.2.toNat) s
  let s := s.setFlds p [(Reg.PCT_CMD, 0), (Reg.PCT_COPYING, 0), (Reg.PCT_STALLED, 0), (Reg.PCT_STALL_CAUSE, 0),
    (Reg.PCT_REPLAYS, s.fld Reg.PCT_REPLAYS p + 1)]
  s.raise Reg.PCT_EVT_REPLAY p

/-- The tract's step counter follows its lead parcel (08 R205, and in serve mode 12 R287); request tracking leaves the lost lantern
cores at a step boundary (01 R18). -/
def State.leadStep (s : State) (p : Nat) : State :=
  match s.ptract p with
  | some t =>
    if (s.tract t).landing.head? = some p then
      let s := s.setFld Reg.TRC_STEP_NUM t ((s.tract t).stepStart + s.fld Reg.PCT_REPLAYS p)
      s.setTract t { s.tract t with trackLost := s.fld Reg.SFM_LWDT_LOST 0 }
    else s
  | none => s

/-- REPLAY_DRAIN_COMPLETE (02 R52): with `copied` false, step 3: the drain is complete, and the copy begins, or the
parcel of a STOPPING tract stops (08 R197), as at a STOP_STEP (13 R325); with `copied` true, step 5: the copy is complete. -/
def execReplayDrainComplete (p : ParcelId) (copied : Bool) (s : State) : Host.Outcome State Fault Refusal :=
  let x := s.par p
  match x.replayTo with
  | none => done s
  | some target =>
    if s.planRuns (p / 16) = false ∨ x.faulted = true ∨ x.stopNow = true then done s
    else if copied then
      if s.bit Reg.PCT_COPYING p && (s.pstate p == stRun || s.pstate p == stDraining) then
        let s1 := ((s.finishBoundary p target).leadStep p).active p
        done (if x.haltReq && s1.pstate p == stRun then s1.haltNow p 1 else s1)
      else done s
    else if s.bit Reg.PCT_COPYING p || !s.drainComplete p || s.pstate p != stRun then done s
    else
      match s.ptract p with
      | some t =>
        let next := (s.tract t).stepStart + s.fld Reg.PCT_REPLAYS p + 1
        if s.fld Reg.TRC_STATE_CODE t = 4 ∨ (s.tract t).stopStep = some next then done (s.stopWith p 0x00 false)
        else done ((s.setFld Reg.PCT_COPYING p 1).standing p 5)
      | none => done ((s.setFld Reg.PCT_COPYING p 1).standing p 5)

/-! ### Data registers (02 R51, R58) -/

/-- PCT_PARAM_WRITE (02 R51). -/
def execPctParamWrite (p : ParcelId) (n : Fin 256) (v : BitVec 64) (s : State) : Host.Outcome State Fault Refusal :=
  if s.disabled p || s.shut (p / 16) then done s else done (s.paramWrite p n v)

/-- A write to the code or descriptor data register is performed in the parcel's state (02 R58). -/
def State.dataOpen (s : State) (p : Nat) : Bool := [stOff, stIdle, stStopped, stHalted].contains (s.pstate p)

/-- The selector of stream code moves on (02 R57). -/
def State.codeStep (s : State) (p : Nat) : State :=
  if s.bit Reg.PCT_CODE_AUTOINC p then
    let n := (2 * s.fld Reg.PCT_CODE_WORD p + s.fld Reg.PCT_CODE_HALF p + 1) % 16384
    s.setFlds p [(Reg.PCT_CODE_WORD, n / 2), (Reg.PCT_CODE_HALF, n % 2)]
  else s

/-- PCT_CODE_DATA, read or written by an agent. -/
def State.codeData (s : State) (g : Agent) (p : Nat) (wr : Option (BitVec 64)) : State :=
  let k := p * 8192 + s.fld Reg.PCT_CODE_WORD p
  let h := s.fld Reg.PCT_CODE_HALF p
  match wr with
  | none => ({ s with lastRead := BitVec.ofNat 64 (bitsOf (tabGet 0 s.code k).toNat (64 * h) 64) }).codeStep p
  | some v =>
    if s.dataOpen p then
      let w := putBits (tabGet 0 s.code k).toNat (64 * h) 64 v.toNat
      ({ s with code := tabPut 0 s.code k (BitVec.ofNat 128 w) }).codeStep p
    else (s.regError g (fieldAddr Reg.PCT_CODE_VAL p)).codeStep p

/-- The selector of the descriptor table moves on (02 R57). -/
def State.descStep (s : State) (p : Nat) : State :=
  if s.bit Reg.PCT_DESC_AUTOINC p then
    let n := (4 * s.fld Reg.PCT_DESC_INDEX p + s.fld Reg.PCT_DESC_PART p + 1) % 4096
    s.setFlds p [(Reg.PCT_DESC_INDEX, n / 4), (Reg.PCT_DESC_PART, n % 4)]
  else s

/-- PCT_DESC_DATA, read or written by an agent. -/
def State.descData (s : State) (g : Agent) (p : Nat) (wr : Option (BitVec 64)) : State :=
  let k := p * 1024 + s.fld Reg.PCT_DESC_INDEX p
  let h := s.fld Reg.PCT_DESC_PART p
  match wr with
  | none => ({ s with lastRead := BitVec.ofNat 64 (bitsOf (tabGet 0 s.descs k).toNat (64 * h) 64) }).descStep p
  | some v =>
    if s.dataOpen p then
      let w := putBits (tabGet 0 s.descs k).toNat (64 * h) 64 v.toNat
      ({ s with descs := tabPut 0 s.descs k (BitVec.ofNat 256 w) }).descStep p
    else (s.regError g (fieldAddr Reg.PCT_DESC_VAL p)).descStep p

/-- PCT_CODE_DATA_ACCESS (02 R58), by lantern firmware; a disabled parcel's block reads as zero. -/
def execPctCodeDataAccess (p : ParcelId) (wr : Option (BitVec 64)) (s : State) : Host.Outcome State Fault Refusal :=
  if s.disabled p then done (if wr.isNone then { s with lastRead := 0 } else s)
  else if s.shut (p / 16) then done (if wr.isNone then s.noData else s)
  else done (s.codeData .lantern p wr)

/-- PCT_DESC_DATA_ACCESS (02 R58), by lantern firmware. -/
def execPctDescDataAccess (p : ParcelId) (wr : Option (BitVec 64)) (s : State) : Host.Outcome State Fault Refusal :=
  if s.disabled p then done (if wr.isNone then { s with lastRead := 0 } else s)
  else if s.shut (p / 16) then done (if wr.isNone then s.noData else s)
  else done (s.descData .lantern p wr)

end Sys2Proof.Machine
end

