-- ==== Sys2Proof/Machine/Tick.lean ====
section
/-!
DEFINITION. Ticks and plan time: gates, windows, overruns, the tick watchdog (08 R198 to R204).
-/
namespace Sys2Proof.Machine

/-- The parcels of township w. -/
def townParcels (w : Nat) : List Nat := (List.range 16).map (16 * w + ·)

/-- The townships of tract t. -/
def State.tractTowns (s : State) (t : Nat) : List Nat :=
  (List.range 32).filter fun w => decide (s.tractOf w = some t)

/-- A tick boundary reaches parcel p: the wheel in force (02 R49, R57), and an armed IDLE parcel runs (02 R42). -/
def State.parcelGate (s : State) (p : Nat) : State :=
  let ovr := s.expertOpen Reg.PCT_WHEEL_OVR_EN && s.bit Reg.PCT_WHEEL_OVR_EN p
  let s := s.setFld Reg.PCT_WHEEL_NOW p (if ovr then s.ctl Reg.PCT_WHEEL_SET p else (s.par p).platWheel.toNat)
  let s := if (s.par p).busy = (s.par p).busyPrev ∧ (s.par p).busy = 0 then s
    else s.setPar p { s.par p with busyPrev := (s.par p).busy, busy := 0 }
  if s.pstate p = stIdle ∧ (s.par p).armed = true then
    ((s.setPar p { s.par p with armed := false }).setPstate p stRun).active p
  else s

/-- The start gate of tract t (08 R196): every placed parcel enters RUN, and the tract runs; a serve-mode tract that uses a
RETIRING controller runs to its next step boundary (01 R18). -/
def State.startTract (s : State) (t : Nat) : State :=
  let s := (s.tract t).landing.foldl (fun s p =>
    if s.pstate p = stIdle then ((s.setPar p { s.par p with armed := false }).setPstate p stRun).active p else s) s
  let s := s.setTract t { s.tract t with armed := false }
  let s := ((s.trcMove t 3).trcEvent Reg.TRC_EVT_STARTED t).jobStarted t
  if (s.tract t).retiring then s.setFld Reg.TRC_STATE_CODE t 4 else s

/-- The lag registers of tract t (08 R216). -/
def State.showLag (s : State) (t : Nat) : State :=
  let l := min 65535 (((s.tractTowns t).map fun w => (s.town w).lag).foldl max 0)
  s.setFlds t [(Reg.TRC_LAG_NOW, l), (Reg.TRC_LAG_MAX, max l (s.fld Reg.TRC_LAG_MAX t))]

/-- The clock period in ps under the cap stretch in force: 2 ps a step (17 R416). -/
def State.capPeriod (s : State) : Nat := 1000 + 2 * s.fld Reg.PWR_STRETCH_NOW 0

/-- A resting township takes the stretch in force (17 R416); its register shows it unless a droop holds the clock. -/
def State.takeStretch (s : State) (w : Nat) : State :=
  let p := s.capPeriod
  if (s.town w).clocked && (s.town w).period != p then
    let s := s.setTown w { s.town w with period := p }
    if s.fld Reg.TWN_CLK_STATE w = 3 then s else s.setFld Reg.TWN_PERIOD_PS w p
  else s

/-- Tick n runs with a stretch that is not 0: counted once (17 R423). -/
def State.countCapTick (s : State) (w n : Nat) : State :=
  if (s.town w).period = 1000 ∨ n < s.clk.capTick then s
  else ({ s with clk := { s.clk with capTick := n + 1 } }).count Reg.PWR_CAP_TICKS 0 1

/-- The tick whose gate township w opens next at datum t: with none behind it the clock has just started, and waits for the first edge
of a tick. -/
def State.nextTick (s : State) (w t : Nat) : Nat :=
  match (s.town w).tick with
  | some n => n + 1
  | none => t / 2048

/-- TICK_GATE (08 R198, R199): township w opens the gate of its next tick at datum t, no earlier than the tick,
its last window ended and no freeze in force; the first of a clock that has started within two edges of the tick, the error of the
local copy in (09 R225). What a gate opens later than it might is crossing delay (R203; log entry 108). -/
def execTickGate (w : TownshipId) (t : Nat) (s : State) : Host.Outcome State Fault Refusal :=
  let n := s.nextTick w t
  let x := s.town w
  if !x.clocked || tabGet false s.windowOpen w || decide (x.freezes ≠ []) || decide (t < 2048 * n) || decide (t < s.datum) ||
      (x.tick.isNone && decide (2048 * n + 3 < t)) then
    done s
  else
    let cross := if x.tick.isSome then t - max (2048 * n) x.mark else t - 2048 * n
    let s := (s.at t).account w
    let x := s.town w
    let s := s.setTown w { x with tick := some n, lag := t - 2048 * n, inWindow := 0, cross := cross }
    let s := { s with windowOpen := tabPut false s.windowOpen w true, gateAt := tabPut 0 s.gateAt w t }
    let s := ((townParcels w).foldl State.parcelGate s).countCapTick w n
    match s.tractOf w with
    | none => done s
    | some r =>
      let s := s.showLag r
      if (s.tract r).armed && s.fld Reg.TRC_STATE_CODE r == 2 && s.fld Reg.TRC_START_TICK_NUM r == n then
        done (s.startTract r)
      else done s

/-- Count an overrunning tick in the causes that stretched it (08 R203). -/
def State.countOverrun (s : State) (r droop refresh retry : Nat) : State :=
  let s := if droop = 0 then s else s.count Reg.TRC_OVR_DROOP r 1
  let s := if refresh = 0 then s else s.count Reg.TRC_OVR_REFRESH r 1
  let s := if retry = 0 then s else s.count Reg.TRC_OVR_RETRY r 1
  (s.count Reg.TRC_OVR_TICKS r 1).trcEvent Reg.TRC_EVT_OVERRUN r

/-- WINDOW_END (08 R198, R202, R203): township w's window ends at datum t, after 1,945 plan cycles; its stretch is
accounted. -/
def execWindowEnd (w : TownshipId) (t : Nat) (s : State) : Host.Outcome State Fault Refusal :=
  let x := s.town w
  let gate := tabGet 0 s.gateAt w
  if !tabGet false s.windowOpen w || decide (x.freezes ≠ []) || decide (t < gate + 1945 + x.inWindow) || decide (t < s.datum) then
    done s
  else
    let s := s.at t
    let s := { s with windowOpen := tabPut false s.windowOpen w false }
    let droop := t - gate - 1945 - x.inWindow + x.cross
    let s := (s.setTown w { x with mark := t, refreshCyc := 0, retryCyc := 0, inWindow := 0 }).takeStretch w
    let s := s.setFld Reg.TWN_DROOP_WORST w (max (s.fld Reg.TWN_DROOP_WORST w) (min 65535 droop))
    match s.tractOf w with
    | none => done s
    | some r =>
      let s := ((s.count Reg.TRC_STR_DROOP_CYC r droop).count Reg.TRC_STR_REFRESH_CYC r x.refreshCyc).count
        Reg.TRC_STR_RETRY_CYC r x.retryCyc
      if 2048 * ((x.tick.getD 0) + 1) < t then done (s.countOverrun r droop x.refreshCyc x.retryCyc) else done s

/-- The tick watchdog's condition (08 R204): lag or freeze beyond its limit, or a stall of as many whole ticks as its limit. -/
def State.watchdogDue (s : State) (r : Nat) : Bool :=
  ((s.tractTowns r).any fun w =>
    (tabGet false s.windowOpen w && decide (2048 * s.ctl Reg.TRC_LAG_LIMIT r < (s.town w).lag)) ||
    (s.town w).freezes.any fun f => decide (2048 * s.ctl Reg.TRC_FREEZE_LIMIT r < s.datum - f.began)) ||
  (s.tractParcels r).any fun p =>
    (s.pstate p == stRun || s.pstate p == stDraining) &&
      decide (s.ctl Reg.TRC_STALL_LIMIT r < s.tickNow - tabGet 0 s.lastAct p)

/-- TICK_WATCHDOG_FIRE (08 R204) at datum t. -/
def execTickWatchdogFire (r : TractId) (t : Nat) (s : State) : Host.Outcome State Fault Refusal :=
  let s := s.at t
  if s.bit Reg.TRC_CONFIGURED r && s.watchdogDue r then
    done (((s.setFld Reg.TRC_FAULT_STATUS r 0x42).trcEvent Reg.TRC_EVT_WATCHDOG r).noteWatchdog r)
  else done s

end Sys2Proof.Machine
end

