-- ==== Sys2Proof/Machine/Clocks.lean ====
section
/-!
DEFINITION. Clocks of townships, crossing resets, the dark (09 R218 to R226, 14 R348, R362 to R364).
-/
namespace Sys2Proof.Machine

/-- A township's clock state changes (09 R232). -/
def State.setTownClk (s : State) (w st period : Nat) : State :=
  if s.fld Reg.TWN_CLK_STATE w = st then s.setFld Reg.TWN_PERIOD_PS w period
  else (s.setFlds w [(Reg.TWN_CLK_STATE, st), (Reg.TWN_PERIOD_PS, period)]).raise Reg.TWN_EVT_CLK w

/-- A township's clock stops: 0 stopped, 5 dark (09 R219). Its window closes and nothing in it changes. -/
def State.haltClock (s : State) (w st : Nat) : State :=
  let s := { s with windowOpen := tabPut false s.windowOpen w false }
  (s.setTown w { s.town w with clocked := false, tick := none, freezes := [], refreshCyc := 0, retryCyc := 0 }).setTownClk w st 0

/-- A township's clock stops on a fault. -/
def State.stopClock (s : State) (w : Nat) : State := s.haltClock w 5

/-- A township's clock starts; a crossing reset that was waiting for it completes (09 R226). -/
def State.startClock (s : State) (w : Nat) : State :=
  let hold := s.fld Reg.CLK_REF_STATE 0 == 3
  let s := (s.setTown w { s.town w with clocked := true, mark := s.datum, clockFault := false, period := s.capPeriod }).setTownClk w
    (if hold then 4 else 2) s.capPeriod
  if s.bit Reg.TWN_XRST w then (s.setFld Reg.TWN_XRST w 0).raise Reg.TWN_EVT_FLUSH w else s

/-- A signal flushed from a crossing of township w is counted as one to an orphaned beacon (09 R226, 08 R212). -/
def State.flushedSignals (s : State) (w n : Nat) : State :=
  if n = 0 then s
  else match s.tractOf w with
    | some t => s.count Reg.TRC_ORPHAN_SIGNALS t n
    | none => s.count Reg.MCB_ORPHAN_SIGNALS 0 n

/-- The entries in township w's crossings, in either direction, and the beacon signals among them (09 R226): beacon operations between
townships, packets accepted for its parcels and not yet written, packets of its parcels not yet sent, and lines of tier memory on
their way to them. -/
def State.crossEntries (s : State) (w : Nat) : Nat × Nat :=
  let crosses (o : BeaconOp) : Bool := decide (o.parcel / 16 = w) != decide (o.beacon / 1024 = w)
  let mine (p : Nat) : Bool := p / 16 == w
  let arr := s.arrivals.filter fun a => mine a.parcel
  (s.beaconOps.countP crosses + arr.length + (s.txq.countP fun x => mine x.parcel) + s.tierReads.countP fun r => mine r.parcel,
    (s.beaconOps.countP fun o => crosses o && o.kind == .sig) + arr.countP fun a => a.pkt.kind == 0x81)

/-- A reset of township w's crossings (09 R226): their entries are flushed and counted. -/
def State.crossReset (s : State) (w : Nat) : State :=
  let crosses (o : BeaconOp) : Bool := decide (o.parcel / 16 = w) != decide (o.beacon / 1024 = w)
  let mine (p : Nat) : Bool := p / 16 == w
  let arr := s.arrivals.filter fun a => mine a.parcel
  let c := s.crossEntries w
  let s := arr.foldl (fun s a => s.endFreeze w 1 a.num) s
  let s := { s with
    beaconOps := s.beaconOps.filter fun o => !crosses o
    arrivals := s.arrivals.filter fun a => !mine a.parcel
    txq := s.txq.filter fun x => !mine x.parcel
    tierReads := s.tierReads.filter fun r => !mine r.parcel }
  let s := (s.count Reg.TWN_FLUSHED w c.1).flushedSignals w c.2
  if (s.town w).clocked then (s.setFld Reg.TWN_XRST w 0).raise Reg.TWN_EVT_FLUSH w else s.setFld Reg.TWN_XRST w 1

/-- The township stopped on a clock fault. -/
def State.clockFaulted (s : State) (w : Nat) : Bool := (s.town w).clockFault

/-- TRC_RESET of a DARK tract restarts the clocks of its townships (14 R364). The record of a clock fault stays
until the township's test has passed. -/
def State.restartClocks (s : State) (t : Nat) : State :=
  let s := (s.tractTowns t).foldl (fun s w =>
    let f := (s.town w).clockFault
    let s := s.startClock w
    s.setTown w { s.town w with clockFault := f }) s
  let dark := s.fld Reg.SFM_TRACT_DARK 0
  let left := if bitAt dark t then dark - 2 ^ t else dark
  let s := s.setFld Reg.SFM_TRACT_DARK 0 left
  if s.fld Reg.SFM_MODULE 0 = 1 ∧ left = 0 then s.setFld Reg.SFM_MODULE 0 0 else s

/-- A parcel enters DARK, from any state but OFF and QUARANTINED (02 R42). -/
def State.darkParcel (s : State) (p : Nat) : State :=
  let st := s.pstate p
  if st = stOff ∨ st = stQuarantined ∨ st = stDark then s else s.setPstate p stDark

/-- The parent link is in lock. -/
def State.parentLocked (s : State) : Bool := s.fld Reg.CLK_PARENT_NOW 0 != 7

/-- The datum state becomes unsure (09 R229). -/
def State.unsure (s : State) : State := (s.setFld Reg.CLK_DATUM_STATE 0 5).raise Reg.CLK_EVT_UNSURE 0

/-- Holdover has passed its limit with no parent link in lock and no pulse: datum is unsure (09 R229). -/
def State.checkSure (s : State) : State :=
  if s.clk.limitHit && !s.parentLocked && !s.bit Reg.CLK_PULSE_EN 0 && s.fld Reg.CLK_DATUM_STATE 0 != 5 then s.unsure else s

/-- The parent link drops out of lock (09 R229): the module disciplines from the pulse until a new parent is named, and runs freely
where it uses no pulse (R231; DEDUCED, log entry 107). -/
def State.loseParent (s : State) : State :=
  let s := { s with clk := { s.clk with parentLost := true } }
  let s := (s.setFld Reg.CLK_PARENT_NOW 0 7).raise Reg.CLK_EVT_PARENT_LOST 0
  let s := if s.fld Reg.CLK_DATUM_STATE 0 = 3 ∧ s.bit Reg.CLK_PULSE_EN 0 = false then s.setFld Reg.CLK_DATUM_STATE 0 4 else s
  s.checkSure

/-- The six directions of links that send and receive, DARK (14 R362); a parent link among them is out of lock. -/
def State.darkLinks (s : State) : State :=
  let s := (List.range 6).foldl (fun s k => s.setFlds k [(Reg.LNK_RX_STATE, 6), (Reg.LNK_TX_STATE, 6)]) s
  if s.parentLocked then s.loseParent else s

/-- The memory controllers place their memories in self-refresh (14 R362): those that hold memories in service. -/
def State.selfRefreshAll (s : State) : State :=
  (List.range 16).foldl (fun s c =>
    let st := s.fld Reg.XX_STATE_CODE c
    if st = 1 ∨ st = 2 ∨ st = 4 then (s.setFld Reg.XX_STATE_CODE c 3).raise Reg.XX_EVT_STATE c else s) s

/-- The causes that open the input switch (14 R362). -/
def opensSwitch (cause : Nat) : Bool := decide (1 ≤ cause ∧ cause ≤ 4)

/-- The module goes dark with a cause (14 R362, R363). A cause that arrives in the decision cycle is merged, the
lowest kept; a later one is recorded only, though causes 1 to 4 still open the switch. -/
def State.goDark (s : State) (cause : Nat) : State :=
  let s := s.safeRec { kind := 8, status := 0xFF }
  let hz (s : State) : State := if opensSwitch cause then { s with safety := { s.safety with hazard := cause } } else s
  if s.moduleDark then
    if s.safety.darkAt = some s.datum then
      hz (s.setFlds 0 [(Reg.SFM_DARK_CAUSE, min cause (s.fld Reg.SFM_DARK_CAUSE 0)), (Reg.SFM_DARK_MORE, 1)])
    else hz s
  else
    let s := s.setFlds 0 [(Reg.SFM_MODULE, 2), (Reg.SFM_DARK_CAUSE, cause), (Reg.SFM_DARK_MORE, 0)]
    let s := ({ s with safety := { s.safety with darkAt := some s.datum } } : State).noRecovery
    let s := (List.range 8).foldl (fun s t =>
      let x := s.tract t
      (s.setTract t { x with armed := false, stage := 0 }).setFlds t [(Reg.TRC_FAULT_STATUS, 0xFF), (Reg.TRC_STATE_CODE, 7)]) s
    let s := (List.range 32).foldl (fun s w => s.haltClock w 5) s
    let s := (List.range 512).foldl State.darkParcel s
    let s := (s.darkLinks).selfRefreshAll
    let s := { s with boot := { s.boot with kind := 0, step := 0 } }
    hz (s.setFlds 0 [(Reg.MCB_STATE_CODE, 5), (Reg.PWR_STAGE, 1)])

end Sys2Proof.Machine
end

