-- ==== Sys2Proof/Machine/Clock.lean ====
section
/-!
DEFINITION. Reference, holdover, droop and datum time: the commands of 09.
-/
namespace Sys2Proof.Machine

/-! ### Reference and holdover (09 R220, R221, R229) -/

/-- Every running township's clock state changes with the reference. -/
def State.townsRef (s : State) (old new : Nat) : State :=
  (List.range 32).foldl (fun s w => if s.fld Reg.TWN_CLK_STATE w = old then s.setTownClk w new (s.town w).period else s) s

/-- REFERENCE_LOST (09 R220): every generator enters holdover. -/
def execReferenceLost (t : Nat) (s : State) : Host.Outcome State Fault Refusal :=
  let s := s.at t
  let r := s.fld Reg.CLK_REF_STATE 0
  if r = 1 ∨ r = 2 then
    let s := { s with clk := { s.clk with holdSince := some s.datum, limitHit := false } }
    done (((s.setFlds 0 [(Reg.CLK_REF_STATE, 3), (Reg.CLK_HOLD_S, 0)]).raise Reg.CLK_EVT_REF_LOST 0).townsRef 2 4)
  else done s

/-- REFERENCE_BACK (09 R221): the generators return to lock without a phase step. -/
def execReferenceBack (t : Nat) (s : State) : Host.Outcome State Fault Refusal :=
  let s := s.at t
  if s.fld Reg.CLK_REF_STATE 0 = 3 then
    let s := { s with clk := { s.clk with holdSince := none, limitHit := false } }
    done (((s.setFlds 0 [(Reg.CLK_REF_STATE, 2), (Reg.CLK_HOLD_S, 0)]).raise Reg.CLK_EVT_REF_BACK 0).townsRef 4 2)
  else done s

/-- HOLD_LIMIT_EXPIRY (09 R221, R229): holdover has lasted CLK_HOLD_LIMIT seconds. -/
def execHoldLimitExpiry (t : Nat) (s : State) : Host.Outcome State Fault Refusal :=
  let s := s.at t
  match s.clk.holdSince with
  | some b =>
    if s.fld Reg.CLK_REF_STATE 0 = 3 ∧ s.clk.limitHit = false ∧ b + s.ctl Reg.CLK_HOLD_LIMIT 0 * 1000000000 ≤ s.datum then
      done (({ s with clk := { s.clk with limitHit := true } }).raise Reg.CLK_EVT_HOLD_LIMIT 0).checkSure
    else done s
  | none => done s

/-! ### Droop (09 R222) -/

/-- The period in ps to which a supply `droop` hundredths of a percent below nominal lengthens a period: by 1.5 % for each percent, and
15 % at most (09 R222; the spec's "about" taken as exact: DESIGN CHOICE, log entry 104). -/
def droopPeriod (base droop : Nat) : Nat := base + min (base * 15 / 100) (base * 15 * droop / 100000)

/-- Hundredths of a percent below nominal beyond which island i's supply droops: the spine, 32, has no register of its own, and uses the
value townships have at reset (DESIGN CHOICE, log entry 104). -/
def State.droopThr (s : State) (i : Nat) : Nat := 100 * (if i = 32 then 3 else s.ctl Reg.TWN_DROOP_THR i)

/-- Cycles for which a supply must have stayed above the threshold: the spine's as at its threshold. -/
def State.droopHold (s : State) (i : Nat) : Nat := if i = 32 then 32 else s.ctl Reg.TWN_DROOP_HOLD i

/-- The droop oscillator of island i drives its clock now: its period, and since when the supply has been above the threshold. -/
def State.drooping (s : State) (i : Nat) : Option (Nat × Option Nat) :=
  if i = 32 then (if s.clk.spineDroop then some (s.clk.spinePeriod, s.clk.spineAbove) else none)
  else if s.fld Reg.TWN_CLK_STATE i = 3 then some (s.fld Reg.TWN_PERIOD_PS i, (s.town i).above) else none

/-- Since when island i's supply has stayed above the threshold. -/
def State.setAbove (s : State) (i : Nat) (a : Option Nat) : State :=
  if i = 32 then { s with clk := { s.clk with spineAbove := a } } else s.setTown i { s.town i with above := a }

/-- The droop oscillator takes island i's next edges, or goes on, with a period in ps (09 R222). -/
def State.droopClock (s : State) (i p : Nat) : State :=
  if i = 32 then { s with clk := { s.clk with spineDroop := true, spinePeriod := p } }
  else
    let st := s.fld Reg.TWN_CLK_STATE i
    if st = 2 ∨ st = 4 ∨ st = 3 then
      let s := if st = 3 then s else (s.count Reg.TWN_DROOP_EVENTS i 1).raise Reg.TWN_EVT_DROOP i
      let s := s.setTownClk i 3 p
      s.setFld Reg.TWN_DROOP_MAXP i (max p (s.fld Reg.TWN_DROOP_MAXP i))
    else s

/-- DROOP_RESPONSE (09 R222): the supply of island i, 32 the spine, stands now `droop` hundredths of a percent below nominal.
Beyond the threshold the droop oscillator drives the clock: no cycle is shorter than the period the cap stretch gives, nor longer than
15 % above it (17 R416). Above the threshold again the hold begins. -/
def execDroopResponse (i : Fin 33) (droop : Nat) (s : State) : Host.Outcome State Fault Refusal :=
  if s.droopThr i < droop then
    done ((s.setAbove i none).droopClock i (droopPeriod (if i.val = 32 then s.capPeriod else (s.town i).period) droop))
  else
    match s.drooping i with
    | some (_, none) => done (s.setAbove i (some s.datum))
    | _ => done s

/-- DROOP_HANDBACK (09 R222): the supply has stayed above the threshold for the hold, counted in the cycles the droop
oscillator gives, and the edge returns to the generator, aligned in phase. -/
def execDroopHandback (i : Fin 33) (s : State) : Host.Outcome State Fault Refusal :=
  match s.drooping i with
  | some (p, some a) =>
    if 1000 * s.datum < 1000 * a + s.droopHold i * p then done s
    else
      let s := s.setAbove i none
      if i.val = 32 then done { s with clk := { s.clk with spineDroop := false, spinePeriod := s.capPeriod } }
      else done (s.setTownClk i (if s.fld Reg.CLK_REF_STATE 0 = 3 then 4 else 2) (s.town i).period)
  | _ => done s

/-! ### Datum (09 R227 to R231) -/

/-- Datum may step: no tract is LOADED, RUNNING or STOPPING (09 R228). -/
def State.mayStep (s : State) : Bool :=
  (List.range 8).all fun t => !([2, 3, 4].contains (s.fld Reg.TRC_STATE_CODE t))

/-- Set datum by step. -/
def State.stepDatum (s : State) (v : Nat) : State :=
  ({ s with datum := v % 2 ^ 64, datumFrac := 0 }).raise Reg.CLK_EVT_STEPPED 0

/-- The frequency trim after a measurement: the spec gives no rule for it but its bound, so it is a free value
of at most 8 units (DESIGN CHOICE, log entry 16). -/
def State.drawTrim (s : State) : State :=
  let d := s.draw
  ({ d.2 with clk := { d.2.clk with freqTrim := ((d.1 % 17 : Nat) : Int) - 8 } }).showTrim

/-- Discipline by a measured offset, in sixteenths of a nanosecond, this module ahead when positive (09 R228,
R229): at most 100 ns is removed by trim; more makes the state unsure while datum may not step, and is stepped
away when it may. -/
def State.discipline (s : State) (off : Int) (st : Nat) : State :=
  let s := s.drawTrim
  if 1600 < off.natAbs then
    if s.mayStep then
      (s.stepDatum (((s.datum : Int) - off / 16).toNat)).setFld Reg.CLK_DATUM_STATE 0 st
    else s.unsure
  else ({ s with clk := { s.clk with slew := -2 * off } }).showTrim.setFld Reg.CLK_DATUM_STATE 0 st

/-- A value in sixteenths of a nanosecond in ps: 62.5 ps each; half a picosecond goes to a free side. -/
def State.toPs (s : State) (x : Int) : Int × State :=
  if x % 2 = 0 then (x * 125 / 2, s)
  else
    let d := s.draw
    (x * 125 / 2 + ((d.1 % 2 : Nat) : Int), d.2)

/-- DATUM_EXCHANGE_START (09 R228): at datum t the parent starts an exchange on link l, every CLK_EXCH_TICKS ticks; the
unit waits for a slack unit, where t1 is stamped. -/
def execDatumExchangeStart (l : LinkId) (t : Nat) (s : State) : Host.Outcome State Fault Refusal :=
  let s := s.at t
  let tx := s.fld Reg.LNK_TX_STATE l
  let lastT := tabGet 0 s.clk.exchTick l
  let due := lastT = 0 ∨ lastT - 1 + s.ctl Reg.CLK_EXCH_TICKS 0 ≤ s.tickNow
  let isParent := s.fld Reg.CLK_ROOT 0 = 0 ∧ s.fld Reg.CLK_PARENT 0 = l.val
  if (tx = 2 ∨ tx = 3 ∨ tx = 4) ∧ due ∧ ¬ isParent then
    let x := s.link l
    let s := s.setLink l { x with datumQ := x.datumQ ++ [{ kind := 0x20, args := [0, 0, 0, 0] }] }
    done { s with clk := { s.clk with exchTick := tabPut 0 s.clk.exchTick l (s.tickNow + 1) } }
  else done s

/-- The stamp that a datum unit takes now: datum in eighths of a nanosecond (09 R228). -/
def State.stampNow (s : State) : Nat := 8 * s.datum + s.datumFrac / 8192

/-- A datum unit with stamps in eighths of a nanosecond (09 R228), a stamp of 0 not yet taken, arriving at stamp
`now`: the child answers the first unit, the parent returns the reply with t4, and the child trims by the
last. A parent whose link has dropped out of lock is none until it is named anew (R229). -/
def State.datumUnit (s : State) (l t1 t2 t3 t4 now : Nat) : State :=
  let x := s.link l
  let reply (a : List Nat) : State := s.setLink l { x with datumQ := x.datumQ ++ [{ kind := 0x20, args := a }] }
  let child := s.fld Reg.CLK_ROOT 0 = 0 ∧ s.fld Reg.CLK_PARENT 0 = l ∧ s.clk.parentLost = false
  if t2 = 0 then (if child then reply [t1, now, 0, 0] else s)
  else if t4 = 0 then reply [t1, t2, t3, now]
  else if child then
    let a : Int := (t2 : Int) - t1
    let b : Int := (t4 : Int) - t3
    let off := s.toPs (a - b)
    let del := off.2.toPs (a + b)
    let s := del.2.setFlds 0 [(Reg.CLK_OFS_PS, wrapTo 32 off.1), (Reg.CLK_DELAY_PS, wrapTo 32 del.1), (Reg.CLK_PARENT_NOW, l)]
    s.discipline (a - b) 3
  else s

/-- DATUM_UNIT (09 R228): a datum unit received on link l. -/
def execDatumUnit (l : LinkId) (t1 t2 t3 t4 now : Nat) (s : State) : Host.Outcome State Fault Refusal :=
  done (s.datumUnit l t1 t2 t3 t4 now)

/-- DATUM_PULSE_EDGE (09 R227): a pulse edge, at local datum t. It sets datum where management has asked for it, but never by a step
while datum may not step (R228); otherwise its error is measured, and trims the root, or a module without a parent link in lock. -/
def execDatumPulseEdge (t : Nat) (s : State) : Host.Outcome State Fault Refusal :=
  let s := s.at t
  match s.clk.setAt with
  | some v =>
    let s := { s with clk := { s.clk with setAt := none } }
    if s.mayStep then done ((s.stepDatum v).setFld Reg.CLK_DATUM_STATE 0 1) else done s
  | none =>
    if s.bit Reg.CLK_PULSE_EN 0 then
      let r : Nat := s.datum % 1048576
      let whole : Int := if r < 524288 then (r : Int) else (r : Int) - 1048576
      let err : Int := whole * 16 + (s.datumFrac / 4096 : Nat)
      let sat := max (-32768) (min 32767 whole)
      let s := s.setFld Reg.CLK_PULSE_ERR 0 (wrapTo 16 sat)
      if s.bit Reg.CLK_ROOT 0 || !s.parentLocked then
        let p := s.toPs err
        done ((p.2.setFld Reg.CLK_OFS_PS 0 (wrapTo 32 p.1)).discipline err 2)
      else done s
    else done s

/-- CLK_SET_NS (09 R231), expert: by agent g. -/
def State.clkSetNs (s : State) (g : Agent) (v : Nat) : State :=
  if s.mayStep then
    let s := s.stepDatum v
    if s.fld Reg.CLK_DATUM_STATE 0 = 0 then s.setFld Reg.CLK_DATUM_STATE 0 1 else s
  else s.regError g (fieldAddr Reg.CLK_SET_NS 0)

/-- CLK_SET_NS (09 R231). -/
def execClkSetNs (v : BitVec 64) (s : State) : Host.Outcome State Fault Refusal :=
  if s.moduleDark then done s else
  if s.expertOpen Reg.CLK_SET_NS then done (s.clkSetNs .lantern v.toNat) else done s

/-- A write of the datum sources (09 R229, R231): the hall manager names a parent, and without parent or pulse a holdover beyond its
limit is unsure. -/
def State.discWritten (s : State) : State := { s with clk := { s.clk with parentLost := false } }.checkSure

/-- A read of CLK_NS latches the fraction (09 R231). -/
def State.clkNsRead (s : State) : State :=
  { s.setFld Reg.CLK_FRAC 0 s.datumFrac with lastRead := BitVec.ofNat 64 s.datum }

/-- CLK_NS_READ (09 R231). -/
def execClkNsRead (s : State) : Host.Outcome State Fault Refusal := done (s.lit s.clkNsRead)

end Sys2Proof.Machine
end

