-- ==== Sys2Proof/Machine/Codec.lean ====
section
/-!
DEFINITION. The coding of a link's byte stream: the field GF(2^10), the code RS(544, 512), the scrambler, PAM4 symbols, and dealing
across lanes (10 R234, R235, R239). A byte stream is read as bits with the least significant bit of each byte first, ten bits to a
symbol, and the first symbol of a codeword is the coefficient of the highest power (DESIGN CHOICE, log entry 101).
-/
namespace Sys2Proof.Machine

/-! ### The field GF(2^10), with polynomial x^10 + x^3 + 1 (10 R234) -/

/-- A product by x. -/
def gfDouble (a : Nat) : Nat := if 512 ≤ a then (2 * a) ^^^ 0x409 else 2 * a

/-- The product: a's multiples by x, of n bits of b. -/
def gfMulBits : Nat → Nat → Nat → Nat
  | 0, _, _ => 0
  | n + 1, a, b => (if b % 2 = 1 then a else 0) ^^^ gfMulBits n (gfDouble a) (b / 2)

/-- The product of two field elements. -/
def gfMul (a b : Nat) : Nat := gfMulBits 10 a b

/-- α^n, with α = x. -/
def gfPow : Nat → Nat → Nat
  | _, 0 => 1
  | a, n + 1 => gfMul a (gfPow a n)

/-- The inverse, a^1022: the product of the squares a^2, a^4, … a^512. -/
def gfInv (a : Nat) : Nat :=
  ((List.range 9).foldl (fun (acc : Nat × Nat) _ => let q := gfMul acc.1 acc.1; (q, gfMul acc.2 q)) (a, 1)).2

/-- The successive powers of α: n of them from 1 on. -/
def alphaPowers : Nat → Nat → List Nat
  | 0, _ => []
  | n + 1, a => a :: alphaPowers n (gfDouble a)

/-! ### Polynomials over it, lowest coefficient first -/

/-- Sum. -/
def polyAdd : List Nat → List Nat → List Nat
  | [], q => q
  | p, [] => p
  | a :: p, b :: q => (a ^^^ b) :: polyAdd p q

/-- A polynomial times a scalar. -/
def polyScale (c : Nat) (p : List Nat) : List Nat := p.map (gfMul c)

/-- Product. -/
def polyMul (p : List Nat) : List Nat → List Nat
  | [] => []
  | b :: q => polyAdd (polyScale b p) (0 :: polyMul p q)

/-- Value at a point. -/
def polyEval (x : Nat) : List Nat → Nat
  | [] => 0
  | a :: p => a ^^^ gfMul x (polyEval x p)

/-- Without its leading zero coefficients. -/
def polyTrim (p : List Nat) : List Nat := (p.reverse.dropWhile (· == 0)).reverse

/-- Formal derivative: in characteristic 2 the odd coefficients, one power lower. -/
def polyDeriv (p : List Nat) : List Nat := (p.zipIdx.drop 1).map fun ai => if ai.2 % 2 = 1 then ai.1 else 0

/-- Quotient and remainder of a division of trimmed polynomials, with fuel. -/
def polyDivMod : Nat → List Nat → List Nat → List Nat → List Nat × List Nat
  | 0, quot, p, _ => (quot, p)
  | fuel + 1, quot, p, d =>
    if d = [] ∨ p.length < d.length then (quot, p)
    else
      let c := gfMul (p.getLastD 0) (gfInv (d.getLastD 0))
      let shift := List.replicate (p.length - d.length) 0
      polyDivMod fuel (polyAdd quot (shift ++ [c])) (polyTrim (polyAdd p (shift ++ polyScale c d))) d

/-! ### RS(544, 512) (10 R234) -/

/-- The generator polynomial, with the roots α^0 to α^31. -/
def rsGen : List Nat := (alphaPowers 32 1).foldl (fun g r => polyMul g [r, 1]) [1]

/-- One data symbol into the check register, lowest coefficient first. -/
def rsFeed (gen reg : List Nat) (d : Nat) : List Nat :=
  let f := d ^^^ reg.getLastD 0
  polyAdd (0 :: reg.dropLast) (polyScale f (gen.take 32))

/-- The 32 check symbols of 512 data symbols, in the order sent. -/
def rsChecks (data : List Nat) : List Nat :=
  let gen := rsGen
  (data.foldl (rsFeed gen) (List.replicate 32 0)).reverse

/-- A codeword: the data symbols, then the check symbols. -/
def rsEncode (data : List Nat) : List Nat := data ++ rsChecks data

/-- The 32 syndromes of a received word: its values at the generator's roots. -/
def rsSyndromes (r : List Nat) : List Nat := (alphaPowers 32 1).map fun a => polyEval a r.reverse

/-- The locator and evaluator polynomials of a syndrome polynomial, by Euclid's algorithm, with fuel. -/
def rsEuclid : Nat → List Nat → List Nat → List Nat → List Nat → List Nat × List Nat
  | 0, _, r, _, t => (t, r)
  | fuel + 1, r0, r, t0, t =>
    if r.length ≤ 16 then (t, r)
    else
      let qr := polyDivMod 40 [] r0 r
      rsEuclid fuel r qr.2 t (polyTrim (polyAdd t0 (polyMul qr.1 t)))

/-- The errors of a word with a locator and an evaluator: (power, magnitude) at each power of 0 to 543 that is a root. -/
def rsErrors (loc ev : List Nat) : List (Nat × Nat) :=
  let dl := polyDeriv loc
  ((alphaPowers 544 1).zipIdx).filterMap fun xp =>
    let y := gfInv xp.1
    if polyEval y loc = 0 then some (xp.2, gfMul xp.1 (gfMul (polyEval y ev) (gfInv (polyEval y dl)))) else none

/-- Decode a received word of 544 symbols: the 512 data symbols and the number of symbols corrected, at most 16; none where the word
is uncorrectable. -/
def rsDecode (r : List Nat) : Option (List Nat × Nat) :=
  let syn := rsSyndromes r
  if syn.all (· == 0) then some (r.take 512, 0)
  else
    let le := rsEuclid 40 (List.replicate 32 0 ++ [1]) (polyTrim syn) [] [1]
    let errs := rsErrors le.1 le.2
    let fixed := (r.zipIdx).map fun si => match errs.find? fun e => e.1 == 543 - si.2 with
      | some e => si.1 ^^^ e.2
      | none => si.1
    if errs.length ≤ 16 ∧ errs.length + 1 = le.1.length ∧ (rsSyndromes fixed).all (· == 0) = true then some (fixed.take 512, errs.length)
    else none

/-! ### Bytes, bits and symbols -/

/-- The bits of bytes, least significant first. -/
def byteBits (bs : List Byte) : List Bool := bs.flatMap fun b => (List.range 8).map fun i => b.getLsbD i

/-- The number that bits spell, least significant first. -/
def bitsNum (l : List Bool) : Nat := l.foldr (fun b n => b2n b + 2 * n) 0

/-- Cut a list into pieces of n, with fuel. -/
def pieces {α : Type} (n : Nat) : Nat → List α → List (List α)
  | 0, _ => []
  | _, [] => []
  | fuel + 1, l => l.take n :: pieces n fuel (l.drop n)

/-- Ten-bit symbols of bits. -/
def bitSymbols (l : List Bool) : List Nat := (pieces 10 l.length l).map bitsNum

/-- The bytes that symbols of ten bits carry. -/
def symbolBytes (l : List Nat) : List Byte :=
  let bits := l.flatMap fun s => (List.range 10).map fun i => bitAt s i
  (pieces 8 bits.length bits).map fun b => BitVec.ofNat 8 (bitsNum b)

/-! ### The scrambler (10 R235) -/

/-- A logical lane's scrambler as training seeds it: with the lane's number. -/
def scramSeed (i : Nat) : BitVec 58 := BitVec.ofNat 58 i

/-- The next bit of the PRBS58 sequence, x^58 + x^39 + 1, and the register after it. -/
def scramStep (r : BitVec 58) : Bool × BitVec 58 :=
  let b := r.getLsbD 57 ^^ r.getLsbD 38
  (b, (r <<< 1) ||| BitVec.ofNat 58 (b2n b))

/-- Scramble bits, or descramble them: the sequence is added to them. -/
def scramble : BitVec 58 → List Bool → List Bool × BitVec 58
  | r, [] => ([], r)
  | r, b :: l =>
    let x := scramStep r
    let rest := scramble x.2 l
    ((b ^^ x.1) :: rest.1, rest.2)

/-! ### PAM4 (10 R235) -/

/-- The level of a bit pair under Gray coding: 00, 01, 11 and 10 are the levels 0 to 3. -/
def grayLevel (pair : Nat) : Nat := if pair = 2 then 3 else if pair = 3 then 2 else pair

/-- A ten-bit symbol on the wire: five PAM4 symbols, the most significant bit pair first. -/
def pam4 (s : Nat) : List Nat := [8, 6, 4, 2, 0].map fun i => grayLevel (bitsOf s i 2)

/-- The next n bits of PRBS31, x^31 + x^28 + 1, from a register (10 R241). -/
def prbs31 : Nat → BitVec 31 → List Bool
  | 0, _ => []
  | n + 1, r =>
    let b := r.getLsbD 30 ^^ r.getLsbD 27
    b :: prbs31 n ((r <<< 1) ||| BitVec.ofNat 31 (b2n b))

/-! ### Dealing (10 R235) -/

/-- The data bytes of each of n logical lanes in one codeword time: the stream's 4-byte words, dealt round-robin. -/
def dealWords (n : Nat) (bs : List Byte) : List (List Byte) :=
  let ws := pieces 4 bs.length bs
  (List.range n).map fun i => ((ws.zipIdx).filter fun w => w.2 % n == i).flatMap (·.1)

/-- The stream that n logical lanes bring in one codeword time: a lane that is lost brings bytes that are not good. -/
def gatherWords (n : Nat) (lanes : List (Option (List Byte))) : List (Byte × Bool) :=
  let lane (i : Nat) : List (Byte × Bool) := match lanes.getD i none with
    | some bs => bs.map fun b => (b, true)
    | none => List.replicate 640 (0, false)
  let ws := (List.range n).map fun i => pieces 4 160 (lane i)
  (List.range 160).flatMap fun m => ws.flatMap fun l => l.getD m []

/-- XOR of two symbol words. -/
def xorWord (a b : List Nat) : List Nat := a.zipWith (· ^^^ ·) b

end Sys2Proof.Machine
end

