-- ==== Sys2Proof/Machine/LinkPhy.lean ====
section
/-!
DEFINITION. Link lanes: roles, rolling calibration, failure and repair, the coded stream, link states (10 R234 to R255).
-/
namespace Sys2Proof.Machine

/-! ### Lanes and states -/

/-- Lane roles (10 R255). -/
def roleParity : Nat := 16
def roleMirror : Nat := 17
def roleCal : Nat := 18
def roleFailed : Nat := 19
def roleSpare : Nat := 20
def roleIdle : Nat := 21

/-- Direction states (10 R252). -/
def lkDown : Nat := 0
def lkTraining : Nat := 1
def lkUp : Nat := 2
def lkNoSpare : Nat := 3
def lkUp12 : Nat := 4
def lkFailed : Nat := 5
def lkDark : Nat := 6

/-- A direction carries units. -/
def lkCarries (st : Nat) : Bool := st == 2 || st == 3 || st == 4

/-- Give a lane a role. -/
def State.setRole (s : State) (k : Nat) (tx : Bool) (j role : Nat) : State :=
  s.setLane k tx j { s.lane k tx j with role := role }

/-- The physical lane that holds a role in a direction. -/
def State.laneWith (s : State) (k : Nat) (tx : Bool) (role : Nat) : Option Nat :=
  (List.range 17).find? fun j => (s.lane k tx j).role == role

/-- The failed-lane mask of a direction's registers. -/
def State.showFailed (s : State) (k : Nat) (tx : Bool) : State :=
  let m := (List.range 17).foldl (fun m j => if (s.lane k tx j).role = roleFailed then m + 2 ^ j else m) 0
  s.setFld (if tx then Reg.LNK_TX_FAILED else Reg.LNK_RX_FAILED) k m

/-- The free-lane register of a direction: the lane that carries parity, or the mirror during a step. -/
def State.showFree (s : State) (k : Nat) (tx : Bool) : State :=
  let f := match s.laneWith k tx roleParity with
    | some j => j
    | none => match s.laneWith k tx roleMirror with
      | some j => j
      | none => 31
  s.setFld (if tx then Reg.LNK_TX_FREE else Reg.LNK_RX_FREE) k f

/-- Refresh both lane registers of a direction. -/
def State.showLanes (s : State) (k : Nat) (tx : Bool) : State := (s.showFailed k tx).showFree k tx

/-- Working lanes of the receiving direction, ascending: a lane under re-test has not been repaired yet. -/
def State.workingRx (s : State) (k : Nat) : List Nat :=
  (List.range 17).filter fun j => (s.lane k false j).role != roleFailed && (s.link k).retest != some j

/-! ### Packet-times (11 R258) -/

/-- The packet-time of slot s of 1,280. -/
def slotPt (s : Nat) : Nat := s * 1505 / 1280
/-- The packet-time of alternate slot a of 960. -/
def altPt (a : Nat) : Nat := a * 1129 / 960

/-- The slot that occupies a packet-time, none for a slack unit. -/
def ptSlot (pt : Nat) : Option Nat :=
  let s := (pt * 1280 + 1504) / 1505
  if s < 1280 ∧ slotPt s = pt then some s else none

/-- The alternate slot that occupies a packet-time. -/
def ptAlt (pt : Nat) : Option Nat :=
  let a := (pt * 960 + 1128) / 1129
  if a < 960 ∧ altPt a = pt then some a else none

/-- A direction runs twelve lanes. -/
def State.twelve (s : State) (k : Nat) (tx : Bool) : Bool :=
  s.fld (if tx then Reg.LNK_TX_STATE else Reg.LNK_RX_STATE) k == lkUp12

/-- A packet-time of a direction, as it runs now, begins at time t and holds no slot (11 R258). -/
def State.slackAt (s : State) (k : Nat) (tx : Bool) (t : Nat) : Bool :=
  let x := t % 2048
  if s.twelve k tx then
    let pt := ceilDiv (300 * x) 544
    decide (pt < 1129 ∧ pt * 544 / 300 = x) && (ptAlt pt).isNone
  else
    let pt := ceilDiv (100 * x) 136
    decide (pt < 1505 ∧ pt * 136 / 100 = x) && (ptSlot pt).isNone

/-- Queue a control unit (10 R250, R251). -/
def State.sendCtl (s : State) (k kind : Nat) (args : List Nat) : State :=
  let x := s.link k
  s.setLink k { x with ctlQ := x.ctlQ ++ [{ kind := kind, args := args }] }

/-- The index of the codeword time under way in a direction (10 R234): a 48-bit count, from the end of the direction's training, of
codewords of 12.8 ns. -/
def State.cwNow (s : State) (k : Nat) (tx : Bool) : Nat :=
  (s.datum - (if tx then (s.link k).txTrained else (s.link k).rxTrained)) * 10 / 128 % 2 ^ 48

/-- The codeword index has come, by the index now; both wrap. -/
def cwDue (now c : Nat) : Bool := decide ((now + 2 ^ 48 - c % 2 ^ 48) % 2 ^ 48 < 2 ^ 47)

/-- A codeword index of the direction received at least one tick plus twice the one-way delay ahead (10 R241). -/
def State.codewordAhead (s : State) (k : Nat) : Nat :=
  ((s.datum - (s.link k).rxTrained + 2048 + 2 * s.fld Reg.LNK_FLIGHT_NS k) * 10 + 127) / 128 % 2 ^ 48

/-- The first tick whose boundary lies at least 4,096 ns plus twice the one-way delay ahead (10 R246). -/
def State.tickAhead (s : State) (k : Nat) : Nat := (s.datum + 4096 + 2 * s.fld Reg.LNK_FLIGHT_NS k + 2047) / 2048

/-- A sending direction that fails starts its detour at the next tick boundary (11 R267). -/
def State.txFailed (s : State) (k : Nat) : State :=
  s.setLink k { s.link k with detFrom := some (s.tickNow + 1), detTo := none, txChange := none, txWait := false }

/-- Move the direction sent to a state. One that is up again ends its detour (11 R267). -/
def State.setTx (s : State) (k st : Nat) : State :=
  let old := s.fld Reg.LNK_TX_STATE k
  let s := s.setFld Reg.LNK_TX_STATE k st
  let s := if st = lkUp12 ∧ old ≠ lkUp12 then s.raise Reg.LNK_EVT_DEGRADED k else s
  if st = lkFailed ∧ old ≠ lkFailed then (s.txFailed k).raise Reg.LNK_EVT_FAILED k
  else if lkCarries old = false ∧ lkCarries st = true ∧ (s.bit Reg.LNK_DET_ACTIVE k = true ∨ (s.link k).detFrom.isSome = true) then
    s.setLink k { s.link k with detTo := some (s.tickNow + 1) }
  else s

/-- Move the receiving direction to a state; the parent link out of lock (09 R229). -/
def State.setRx (s : State) (k st : Nat) : State :=
  let old := s.fld Reg.LNK_RX_STATE k
  let s := s.setFld Reg.LNK_RX_STATE k st
  let s := if st = lkFailed ∧ old ≠ lkFailed then s.raise Reg.LNK_EVT_FAILED k else s
  let s := if st = lkUp12 ∧ old ≠ lkUp12 then s.raise Reg.LNK_EVT_DEGRADED k else s
  if lkCarries st = false ∧ s.fld Reg.CLK_PARENT_NOW 0 = k then
    s.loseParent
  else s

/-! ### Lane operations at their codewords (10 R241, R244) -/

/-- The receiver's lane operation waits for its codeword. -/
def State.rxAct (s : State) (k cw : Nat) (op : LaneOp) : State :=
  s.setLink k { s.link k with rxActs := (s.link k).rxActs ++ [⟨cw, op⟩] }

/-- The lane that an operation gives a role, and the role. -/
def LaneOp.gives : LaneOp → Nat × Nat
  | .mirror _ f => (f, roleMirror)
  | .calib j => (j, roleCal)
  | .parity j => (j, roleParity)
  | .data i f => (f, i)

/-- A slack unit of the direction received has begun since a codeword index (10 R242). -/
def State.slackSince (s : State) (k c : Nat) : Bool :=
  let age := ((s.cwNow k false + 2 ^ 48 - c % 2 ^ 48) % 2 ^ 48) * 128 / 10
  (List.range 16).any fun d => decide (d ≤ age) && s.slackAt k false (s.datum - age + d - s.fld Reg.LNK_FLIGHT_NS k)

/-- A lane operation is due: its codeword has come, and where the receiver takes a lane over, a slack unit since (10 R244). -/
def State.actDue (s : State) (k : Nat) (tx : Bool) (a : LaneAct) : Bool :=
  cwDue (s.cwNow k tx) a.cw && (match a.op with
    | .data _ _ => tx || s.slackSince k a.cw
    | _ => true)

/-- The receiver's lane operation takes effect; a failed lane takes no role. A mirror that begins starts the adaptation, a release the
calibration of a rolling step. -/
def State.rxOp (s : State) (k : Nat) (op : LaneOp) : State :=
  let j := op.gives.1
  let role := (s.lane k false j).role
  if role = roleFailed then s
  else
    let s1 := (s.setRole k false j op.gives.2).showLanes k false
    match op with
    | .mirror _ _ =>
      if role ≠ roleParity then s
      else if s.fld Reg.LNK_ROLL_PHASE k = 1 then s1.setFld Reg.LNK_ROLL_PHASE k 2 else s1
    | .calib _ => if s.fld Reg.LNK_ROLL_PHASE k = 4 then s1.setFld Reg.LNK_ROLL_PHASE k 5 else s1
    | _ => s1

/-- The transmitter's lane operation takes effect. A release moves the lane's data to the mirror; of the mirror itself it ends the
mirror on a lane that has failed (10 R245). Parity on a lane again, where no spare was left, is a repaired lane (R247). A lane that
takes another's data over finds that one failed (R244). -/
def State.txOp (s : State) (k : Nat) (op : LaneOp) : State :=
  match op with
  | .mirror i f =>
    if (s.lane k true f).role = roleFailed then s
    else (s.setLane k true f { s.lane k true f with role := roleMirror, mirrors := i }).showLanes k true
  | .calib j =>
    let role := (s.lane k true j).role
    if role = roleMirror then
      let s := (s.setRole k true j roleFailed).showLanes k true
      if s.fld Reg.LNK_TX_STATE k = lkUp then s.setTx k lkNoSpare else s
    else
      let s := match s.laneWith k true roleMirror with
        | some f => if role < 16 then s.setRole k true f role else s
        | none => s
      (s.setRole k true j roleCal).showLanes k true
  | .parity j =>
    let s := (s.setRole k true j roleParity).showLanes k true
    if s.fld Reg.LNK_TX_STATE k = lkNoSpare then s.setTx k lkUp else s
  | .data i f =>
    let s := match s.laneWith k true i with
      | some j => if j = f then s else s.setRole k true j roleFailed
      | none => s
    let s := (s.setRole k true f i).showLanes k true
    if s.fld Reg.LNK_TX_STATE k = lkUp then s.setTx k lkNoSpare else s

/-- Every lane operation of a direction that is due takes effect, in order. -/
def State.settleDir (s : State) (k : Nat) (tx : Bool) : State :=
  let x := s.link k
  let acts := if tx then x.txActs else x.rxActs
  let due := acts.filter (s.actDue k tx)
  if due = [] then s
  else
    let rest := acts.filter fun a => !s.actDue k tx a
    let s := s.setLink k (if tx then { x with txActs := rest } else { x with rxActs := rest })
    due.foldl (fun s a => if tx then s.txOp k a.op else s.rxOp k a.op) s

/-- What a link's lanes have come to by now: lane operations whose codewords have come, and the end of a step's adaptation, 105 µs
after its start (10 R241 step 3). -/
def State.settle (s : State) (k : Nat) : State :=
  let s := (s.settleDir k false).settleDir k true
  match (s.link k).roll with
  | some r => if s.fld Reg.LNK_ROLL_PHASE k = 2 ∧ r.began + 105000 ≤ s.datum then s.setFld Reg.LNK_ROLL_PHASE k 3 else s
  | none => s

/-- The role that a lane received has once every operation that waits has taken effect. -/
def State.plannedRole (s : State) (k j : Nat) : Nat :=
  match ((s.link k).rxActs.reverse.find? fun a => a.op.gives.1 == j) with
  | some a => a.op.gives.2
  | none => (s.lane k false j).role

/-- The working lane that is or will be free. -/
def State.plannedFree (s : State) (k : Nat) : Option Nat :=
  (List.range 17).find? fun j => (s.lane k false j).role != roleFailed && s.plannedRole k j == roleParity

/-! ### Rolling calibration (10 R241, R242, R253) -/

/-- The lane after f, counting cyclically and skipping failed lanes: the step's target. -/
def State.rollTarget (s : State) (k f : Nat) : Option Nat :=
  ((List.range 16).map fun d => (f + 1 + d) % 17).find? fun j => (s.lane k false j).role != roleFailed

/-- Start a rolling step: COPY of the target's logical lane onto the free lane, which mirrors it from the codeword named. -/
def State.startRoll (s : State) (k : Nat) : State :=
  match s.laneWith k false roleParity with
  | none => s
  | some f =>
    match s.rollTarget k f with
    | none => s
    | some j =>
      let i := (s.lane k false j).role
      if 16 ≤ i then s
      else
        let c := s.codewordAhead k
        let x := s.link k
        let ms := s.datum / 1000000
        let s := s.setLink k { x with roll := some { logical := i, mirror := f, began := s.datum }, rollLast := ms + 1 }
        let s := (s.rxAct k c (.mirror i f)).sendCtl k 0x10 [i, f, c]
        s.setFlds k [(Reg.LNK_ROLL_TARGET, j), (Reg.LNK_ROLL_PHASE, 1)]

/-- A step may start: enabled, the direction UP, none in progress. -/
def State.mayRoll (s : State) (k : Nat) : Bool :=
  s.bit Reg.LNK_ROLL_EN k && s.fld Reg.LNK_RX_STATE k == lkUp && (s.link k).roll.isNone && (s.link k).retest.isNone

/-- ROLL_STEP_START (10 R241): at datum t, LNK_ROLL_MS after the last step's start. -/
def execRollStepStart (l : LinkId) (t : Nat) (s : State) : Host.Outcome State Fault Refusal :=
  let s := (s.at t).settle l
  let x := s.link l
  if s.mayRoll l && (x.rollLast == 0 || decide (x.rollLast - 1 + s.ctl Reg.LNK_ROLL_MS l ≤ s.datum / 1000000)) then
    done (s.startRoll l)
  else done s

/-- The step in progress is over. -/
def State.endRoll (s : State) (k status : Nat) (abort : Bool) : State :=
  let s := s.setLink k { s.link k with roll := none }
  let s := s.setFlds k [(Reg.LNK_ROLL_TARGET, 0x1F), (Reg.LNK_ROLL_PHASE, 0), (Reg.LNK_ROLL_LAST, status)]
  let s := if abort then (s.count Reg.LNK_ROLL_ABORTS k 1).raise Reg.LNK_EVT_ROLL_ABORT k
    else s.count Reg.LNK_ROLL_STEPS k 1
  s.showLanes k false

/-- ROLL_VERIFY_DONE (10 R241 steps 3 and 4): once the mirror runs, its adaptation and verify end: the verify passes, or restarts,
at most twice; after the third failure the mirror ends and the lane carries parity again (DEDUCED, log entry 17). -/
def execRollVerifyDone (l : LinkId) (pass : Bool) (s : State) : Host.Outcome State Fault Refusal :=
  let s := s.settle l
  let x := s.link l
  match x.roll with
  | none => done s
  | some r =>
    let ph := s.fld Reg.LNK_ROLL_PHASE l
    if ph < 2 ∨ 3 < ph ∨ r.verified = true then done s
    else if pass then
      done ((s.setLink l { x with roll := some { r with verified := true } }).setFld Reg.LNK_ROLL_PHASE l 3)
    else if r.badVerify < 2 then
      done ((s.setLink l { x with roll := some { r with badVerify := r.badVerify + 1 } }).setFld Reg.LNK_ROLL_PHASE l 3)
    else
      let c := s.codewordAhead l
      done (((s.rxAct l c (.parity r.mirror)).sendCtl l 0x12 [r.mirror, c]).endRoll l 0 true)

/-- A free slack unit begins at datum t in the direction received: it holds no slot, and no packet that a NAK has named is still to come
in one (10 R242; DEDUCED, log entry 98). -/
def State.switchAt (s : State) (k t : Nat) : Bool :=
  s.slackAt k false (t - s.fld Reg.LNK_FLIGHT_NS k) && decide ((s.link k).rxTop = (s.link k).rxNext)

/-- ROLL_LANE_SWITCH (10 R241 steps 5 and 6, R242): at the start of a free slack unit the logical lane moves to the mirror lane, and
the target, which carries the same bytes until then, is released for calibration from the codeword that RELEASE names. -/
def execRollLaneSwitch (l : LinkId) (s : State) : Host.Outcome State Fault Refusal :=
  let s := s.settle l
  match (s.link l).roll with
  | none => done s
  | some r =>
    if r.verified = true ∧ s.fld Reg.LNK_ROLL_PHASE l = 3 ∧ s.switchAt l s.datum = true then
      let j := s.fld Reg.LNK_ROLL_TARGET l
      let c := s.codewordAhead l
      let s := (s.setRole l false r.mirror r.logical).setRole l false j roleMirror
      let s := (s.rxAct l c (.calib j)).sendCtl l 0x11 [j, c]
      done ((s.setFld Reg.LNK_ROLL_PHASE l 4).showLanes l false)
    else done s

/-- Full calibration leaves settings the spec does not give: free values (DESIGN CHOICE, log entry 18), but for what an override
holds (10 R254). -/
def State.calibrate (s : State) (k j : Nat) : State :=
  let x := s.lane k false j
  let d0 := s.draw
  let d1 := d0.2.draw
  let d2 := d1.2.draw
  let d3 := d2.2.draw
  let taps := d3.2.freeBytes 32
  let x := { x with calAt := some s.datum, cdr := d3.1 % 256 }
  let x := if x.frozen then x
    else { x with ctle := d0.1 % 256, dfe1 := d1.1 % 256, gain := d2.1 % 256, ffe := taps.1.map (·.toNat) }
  taps.2.setLane k false j x

/-- The lane under calibration: a rolling step's target, or the lane being re-tested. -/
def State.calLane (s : State) (k : Nat) : Option Nat :=
  match (s.link k).retest with
  | some j => some j
  | none =>
    if (s.link k).roll.isSome && decide (5 ≤ s.fld Reg.LNK_ROLL_PHASE k) then some (s.fld Reg.LNK_ROLL_TARGET k) else none

/-- ROLL_CALIBRATION_DONE (10 R241 step 7): transmitter taps are set at the far end, receiver settings here; the
margin scan starts. -/
def execRollCalibrationDone (l : LinkId) (s : State) : Host.Outcome State Fault Refusal :=
  let s := s.settle l
  match s.calLane l with
  | none => done s
  | some j =>
    let d := s.draw
    let s := (d.2.sendCtl l 0x13 [j, d.1 % 2 ^ 48]).calibrate l j
    done (if (s.link l).retest.isSome then s else s.setFld Reg.LNK_ROLL_PHASE l 6)

/-- A lane is declared failed: role and events. -/
def State.markFailed (s : State) (k j : Nat) : State :=
  ((s.setRole k false j roleFailed).raise Reg.LNK_EVT_LANE_FAIL k).showLanes k false

/-- With no free lane left a direction in UP goes to UP_NOSPARE (10 R244). -/
def State.noSpare (s : State) (k : Nat) : State :=
  if s.fld Reg.LNK_RX_STATE k = lkUp then s.setRx k lkNoSpare else s

/-- RESTORE when 17 lanes work in UP12 (10 R247). -/
def State.tryRestore (s : State) (k : Nat) : State :=
  if s.fld Reg.LNK_RX_STATE k = lkUp12 ∧ (s.workingRx k).length = 17 ∧ (s.link k).rxChange = none then
    let t := s.tickAhead k
    let c : LaneChange := { tick := t, lanes := List.range 16, parity := 16 }
    (s.setLink k { s.link k with rxChange := some c }).sendCtl k 0x16 (List.range 16 ++ [16, t])
  else s

/-- The lane that passed its scan becomes the free lane from a codeword that PARITY names. -/
def State.freeFrom (s : State) (k j : Nat) : State :=
  let c := s.codewordAhead k
  (s.rxAct k c (.parity j)).sendCtl k 0x12 [j, c]

/-- ROLL_MARGIN_SCAN_DONE (10 R241 step 8, R247): with enough margin the lane is free, or a held spare in 12-lane
operation; a first failure repeats steps 7 and 8, a second fails the lane. -/
def execRollMarginScanDone (l : LinkId) (margin : Fin 64) (s : State) : Host.Outcome State Fault Refusal :=
  let s := s.settle l
  match s.calLane l with
  | none => done s
  | some j =>
    let s := s.setLane l false j { s.lane l false j with margin := margin }
    let pass := decide (s.ctl Reg.LNK_MARGIN_MIN l ≤ margin.val)
    let x := s.link l
    match x.retest with
    | some _ =>
      if pass then
        let s := s.setLink l { x with retest := none }
        if s.fld Reg.LNK_RX_STATE l = lkUp12 then done (((s.setRole l false j roleSpare).showLanes l false).tryRestore l)
        else done ((s.freeFrom l j).setRx l lkUp)
      else if x.retestBad then done (((s.setLink l { x with retest := none }).setRole l false j roleFailed).showLanes l false)
      else done (s.setLink l { x with retestBad := true })
    | none =>
      match x.roll with
      | none => done s
      | some r =>
        if s.fld Reg.LNK_ROLL_PHASE l ≠ 6 then done s
        else if pass then done ((s.freeFrom l j).endRoll l 0 false)
        else if r.badScan = 0 then
          done ((s.setLink l { x with roll := some { r with badScan := 1 } }).setFld Reg.LNK_ROLL_PHASE l 5)
        else done (((s.markFailed l j).noSpare l).endRoll l 0 true)

/-- A write of LNK_ROLL_EN (10 R253): enable, or the basic disable, which lets the step in progress end. -/
def State.rollEn (s : State) (k : Nat) (v : Bool) : State :=
  let s := s.setFld Reg.LNK_ROLL_EN k (b2n v)
  if v then s else if (s.link k).roll.isNone then s.setFld Reg.LNK_ROLL_LAST k 0 else s

/-- LNK_ROLL_EN (10 R253). -/
def execLnkRollEn (l : LinkId) (v : Bool) (s : State) : Host.Outcome State Fault Refusal := done (s.lit (s.rollEn l v))

/-- LNK_ROLL_NOW (10 R255): the next step starts at once, if none is in progress. -/
def State.rollNow (s : State) (k : Nat) : State :=
  let s := s.settle k
  if s.mayRoll k then s.startRoll k else s

/-- LNK_ROLL_STOP_NOW (10 R253): before the switch the mirror ends and the lane is parity again; after it the
target's calibration stops, and it is the free lane as it stands; in both cases from a codeword that PARITY names. -/
def State.rollStopNow (s : State) (k : Nat) : State :=
  let s := s.settle k
  match (s.link k).roll with
  | none => s
  | some r =>
    let j := if s.fld Reg.LNK_ROLL_PHASE k ≤ 3 then r.mirror else s.fld Reg.LNK_ROLL_TARGET k
    (s.freeFrom k j).endRoll k 0x03 true

/-- LNK_ROLL_NOW (10 R255), expert. -/
def execLnkRollNow (l : LinkId) (s : State) : Host.Outcome State Fault Refusal :=
  if s.moduleDark then done s else
  if s.expertOpen Reg.LNK_ROLL_NOW then done (s.rollNow l) else done s

/-- LNK_ROLL_STOP_NOW (10 R253), expert. -/
def execLnkRollStopNow (l : LinkId) (s : State) : Host.Outcome State Fault Refusal :=
  if s.moduleDark then done s else
  if s.expertOpen Reg.LNK_ROLL_STOP_NOW then done (s.rollStopNow l) else done s

/-! ### Lane failure (10 R243 to R246) -/

/-- The direction fails. -/
def State.rxFail (s : State) (k : Nat) : State :=
  let s := s.setLink k { s.link k with rxChange := none, roll := none, retest := none, rxActs := [] }
  (s.setFlds k [(Reg.LNK_ROLL_TARGET, 0x1F), (Reg.LNK_ROLL_PHASE, 0)]).setRx k lkFailed

/-- Lane i fails over to the working lane f (10 R244): T sends it there from a codeword, and R takes it from there at the first slack
unit after it; until then R rebuilds it from parity, where f carries it. In 12-lane operation the next held spare carries parity. -/
def State.failover (s : State) (k i f : Nat) : State :=
  let c := s.codewordAhead k
  let s := (s.rxAct k c (.data i f)).sendCtl k 0x14 [i, f, c]
  match s.laneWith k false roleSpare with
  | some g => s.freeFrom k g
  | none => s

/-- DEGRADE (10 R246): data lanes in logical order and a parity lane from an agreed tick on. -/
def State.sendDegrade (s : State) (k : Nat) (lanes : List Nat) (parity : Nat) : State :=
  let t := s.tickAhead k
  let c : LaneChange := { tick := t, lanes := lanes, parity := parity }
  (s.setLink k { s.link k with rxChange := some c }).sendCtl k 0x15 (lanes ++ [parity, t])

/-- The second loss (10 R246): twelve lanes from a tick on, or FAILED with fewer than twelve. -/
def State.degrade (s : State) (k : Nat) : State :=
  let w := s.workingRx k
  if w.length < 12 then s.rxFail k else s.sendDegrade k (w.take 12) ((w.drop 12).headD 31)

/-- A data lane carrying logical lane i has failed: fail over to the free lane, or degrade (10 R244, R246). -/
def State.loseData (s : State) (k i : Nat) : State :=
  if s.fld Reg.LNK_RX_STATE k = lkNoSpare then s.degrade k
  else
    match s.plannedFree k with
    | some f => (s.failover k i f).noSpare k
    | none => if s.fld Reg.LNK_RX_STATE k = lkUp12 then s.rxFail k else s.degrade k

/-- A lane fails while RESTORE is pending: the twelve lanes that carry data stand, and a DEGRADE that names them takes its place (10
R246, R247; DEDUCED, log entry 99). -/
def State.keepTwelve (s : State) (k : Nat) : State :=
  let who (role : Nat) : Option Nat := (List.range 17).find? fun j => (s.lane k false j).role != roleFailed && s.plannedRole k j == role
  let lanes := (List.range 12).filterMap who
  if s.fld Reg.LNK_RX_STATE k = lkUp12 ∧ lanes.length = 12 then s.sendDegrade k lanes ((who roleParity).getD 31) else s

/-- Physical lane j fails during a rolling step (10 R245). -/
def State.failInRoll (s : State) (k j role : Nat) (r : Roll) : State :=
  let target := s.fld Reg.LNK_ROLL_TARGET k
  let c := s.codewordAhead k
  let s1 := s.markFailed k j
  let s2 :=
    if s.fld Reg.LNK_ROLL_PHASE k ≤ 3 then
      if j = target then
        -- R takes logical lane i from f at once
        ((s1.setRole k false r.mirror r.logical).sendCtl k 0x14 [r.logical, r.mirror, c]).showLanes k false
      else if j = r.mirror then s1.sendCtl k 0x11 [j, c]
      else s1.failover k role r.mirror
    else if j = target then s1
    else s1.failover k role target
  (s2.noSpare k).endRoll k 0 true

/-- Physical lane j of the receiving direction fails (10 R243 to R246). In a direction that carries nothing it is failed, and no more. -/
def State.failLane (s : State) (k j : Nat) : State :=
  let s := s.settle k
  let role := (s.lane k false j).role
  let st := s.fld Reg.LNK_RX_STATE k
  if 17 ≤ j ∨ role = roleFailed ∨ st = lkDark then s
  else if lkCarries st = false then s.markFailed k j
  else
    let restoring := match (s.link k).rxChange with
      | some c => c.lanes.length == 16
      | none => false
    let x := s.link k
    let s := s.setLink k { x with
      rxActs := x.rxActs.filter fun a => a.op.gives.1 != j
      rxChange := if restoring then none else x.rxChange }
    let s := match x.roll with
      | some r => s.failInRoll k j role r
      | none =>
        let s := s.markFailed k j
        let s := if x.retest = some j then s.setLink k { s.link k with retest := none } else s
        if role < 16 then (s.loseData k role).showLanes k false
        else if role = roleParity then
          match s.laneWith k false roleSpare with
          | some g => s.freeFrom k g
          | none => s.noSpare k
        else s
    if restoring then s.keepTwelve k else s

/-- LANE_FAIL_DECLARED (10 R243): the receiver of link l declares lane j failed. -/
def execLaneFailDeclared (l : LinkId) (j : Fin 17) (s : State) : Host.Outcome State Fault Refusal := done (s.failLane l j)

/-- LNK_FORCE_FAIL (10 R243), expert: 0x1F has no effect; 17 to 30 are reserved (00 R8). -/
def State.forceFail (s : State) (g : Agent) (k j : Nat) : State :=
  if j < 17 then s.failLane k j
  else if j = 0x1F then s
  else s.regError g (fieldAddr Reg.LNK_FORCE_FAIL k)

/-- LNK_FORCE_FAIL (10 R243), expert. -/
def execLnkForceFail (l : LinkId) (j : Fin 32) (s : State) : Host.Outcome State Fault Refusal :=
  if s.moduleDark then done s else
  if s.expertOpen Reg.LNK_FORCE_FAIL then done (s.forceFail .lantern l j) else done s

/-- LNK_RETEST (10 R247): a failed lane runs calibration and margin scan in UP_NOSPARE or UP12. -/
def State.retestLane (s : State) (g : Agent) (k j : Nat) : State :=
  if j < 17 then
    let st := s.fld Reg.LNK_RX_STATE k
    if (st = lkNoSpare ∨ st = lkUp12) ∧ (s.lane k false j).role = roleFailed ∧ (s.link k).retest = none then
      let s := s.setLink k { s.link k with retest := some j, retestBad := false }
      s.setRole k false j roleCal
    else s
  else if j = 0x1F then s
  else s.regError g (fieldAddr Reg.LNK_RETEST k)

/-- LNK_RETEST (10 R247). -/
def execLnkRetest (l : LinkId) (j : Fin 32) (s : State) : Host.Outcome State Fault Refusal := done (s.lit (s.retestLane .lantern l j))

/-! ### The coded stream (10 R234 to R236, R239) -/

/-- Logical lanes of a direction as it runs now. -/
def State.lanesNow (s : State) (k : Nat) (tx : Bool) : Nat := if s.twelve k tx then 12 else 16

/-- The bytes of a codeword time scrambled for their lanes: each lane's data symbols, and the registers after them. -/
def scrambleLanes (scram : Tab (BitVec 58)) (lanes : List (List Byte)) : List (List Nat) × Tab (BitVec 58) :=
  let r := (lanes.zipIdx).map fun li => (scramble (tabGet 0 scram li.2) (byteBits li.1), li.2)
  (r.map fun x => bitSymbols x.1.1, r.foldl (fun t x => tabPut 0 t x.2 x.1.2) scram)

/-- A unit enters the stream sent on link k; once a codeword time's bytes are there they are dealt, scrambled and coded (10 R235,
R236). -/
def State.putUnit (s : State) (k : Nat) (bs : List Byte) : State :=
  let x := s.link k
  let n := s.lanesNow k true
  let all := x.txStream ++ bs
  let full := decide (640 * n ≤ all.length)
  let coded := scrambleLanes x.txScram (dealWords n (all.take (640 * n)))
  s.setLink k { x with
    last := bs
    txStream := if full then all.drop (640 * n) else all
    txWords := if full then (x.txWords + 1) % 2 ^ 48 else x.txWords
    wire := if full then coded.1 else x.wire
    txScram := if full then coded.2 else x.txScram }

/-- The codeword that physical lane j sent in the last codeword time, by its role (10 R239, R241): a data lane its own, the parity lane
the XOR of all, the mirror a copy; a lane under calibration sends PRBS31, whose register is free. -/
def State.wireWord (s : State) (k j : Nat) : List Nat :=
  let x := s.lane k true j
  let words := (s.link k).wire.map rsEncode
  if x.role < 16 then words.getD x.role []
  else if x.role = roleParity then words.foldl xorWord (List.replicate 544 0)
  else if x.role = roleMirror then words.getD x.mirrors []
  else if x.role = roleCal then bitSymbols (prbs31 5440 (BitVec.ofNat 31 (Config.freeValue s.freeCtr)))
  else []

/-- The PAM4 levels of that codeword on the wire (10 R235). -/
def State.wireLevels (s : State) (k j : Nat) : List Nat := (s.wireWord k j).flatMap pam4

/-- A direction starts to stripe over other lanes, at the first packet-time of a tick: what is left of the old striping is not a whole
unit, and is dropped at both ends. -/
def State.restripe (s : State) (k : Nat) (tx : Bool) : State :=
  let x := s.link k
  s.setLink k (if tx then { x with txStream := [] } else { x with rxStream := x.rxStream.take (x.rxStream.length / 1088 * 1088) })

/-- The codewords received on lane j come to LNK_SYM_ERR: its corrected symbols in the last 2^20 codewords; and whether the lane has
failed by them: two uncorrectable of three, or more than 5 × 10^-4 of the symbols (10 R243, R255). -/
def State.noteWord (s : State) (k j : Nat) (bad : Bool) (errs : Nat) : Bool × State :=
  let x := s.lane k false j
  let log := (x.errLog.filter fun e => decide (x.words < e.1 + 2 ^ 20)) ++ (if errs = 0 then [] else [(x.words, errs)])
  let sum : Nat := (log.map (·.2)).foldl (· + ·) 0
  (bad && x.lastBad.contains true || decide (5 * 2 ^ 20 * 544 < 10000 * sum),
   s.setLane k false j { x with errLog := log, symErr := min sum 16777215, words := x.words + 1, lastBad := (bad :: x.lastBad).take 2 })

/-- A word of 544 symbols received on lane j is decoded (10 R234), and the counters counted: its data symbols, or none where it is
uncorrectable or an injected error makes it so. A lane that fails by its codewords is declared failed. A lane that carries no codewords
brings none. -/
def State.laneWord (s : State) (k j : Nat) (w : List Nat) : Option (List Nat) × State :=
  let role := (s.lane k false j).role
  if (16 < role ∧ role ≠ roleMirror) ∨ w.length ≠ 544 then (none, s)
  else
    let x := s.link k
    let forced := x.injCw == some j
    let s := if forced then s.setLink k { x with injCw := none } else s
    let r := if forced then none else rsDecode w
    let errs := match r with
      | some d => d.2
      | none => 0
    let s := if r.isNone then s.count Reg.LNK_FEC_UNCORR k 1 else if errs = 0 then s else s.count Reg.LNK_FEC_CORR k 1
    let n := s.noteWord k j r.isNone errs
    (r.map (·.1), if n.1 then n.2.failLane k j else n.2)

/-- The role that lane j's codeword of now has for the stream: a lane that takes another's data over carries it from the codeword
named, before the receiver's switch (10 R244). -/
def State.streamRole (s : State) (k j : Nat) : Nat :=
  match (s.link k).rxActs.find? fun a => cwDue (s.cwNow k false) a.cw && (match a.op with
    | .data _ f => f == j
    | _ => false) with
  | some a => a.op.gives.2
  | none => (s.lane k false j).role

/-- The data symbols of the logical lanes in one codeword time, with the number of codewords rebuilt from parity: where all but one
decode and the parity codeword does, the lost one is the XOR of the rest (10 R239). -/
def rebuild (n : Nat) (data : Nat → Option (List Nat)) (parity : Option (List Nat)) : List (Option (List Nat)) × Nat :=
  let l := (List.range n).map data
  let lost := (List.range n).filter fun i => (data i).isNone
  match lost, parity with
  | [i], some p => (l.set i (some ((l.filterMap id).foldl xorWord p)), 1)
  | _, _ => (l, 0)

/-- The words of one codeword time, as (lane, 544 symbols), are decoded, descrambled and gathered into the stream received on link k
(10 R234, R235, R239). A lane of which no word comes has lost it. -/
def State.codewordTime (s : State) (k : Nat) (ws : List (Nat × List Nat)) : State :=
  let s := s.settle k
  let n := s.lanesNow k false
  let role (j : Nat) : Nat := s.streamRole k j
  let r := ws.foldl (fun (acc : List (Nat × List Nat) × State) w =>
    let d := acc.2.laneWord k w.1 w.2
    (match d.1 with
      | some v => acc.1 ++ [(role w.1, v)]
      | none => acc.1, d.2)) ([], s)
  let got (i : Nat) : Option (List Nat) := (r.1.find? fun x => x.1 == i).map (·.2)
  let b := rebuild n got (got roleParity)
  let s := if b.2 = 0 then r.2 else (r.2.count Reg.LNK_FEC_RECON k b.2).raise Reg.LNK_EVT_RECON k
  let x := s.link k
  let plain (i : Nat) (v : List Nat) : List Bool × BitVec 58 :=
    scramble (tabGet 0 x.rxScram i) (v.flatMap fun y => (List.range 10).map fun m => bitAt y m)
  let lanes := (b.1.zipIdx).map fun vi => vi.1.map fun v => (pieces 8 640 (plain vi.2 v).1).map fun o => BitVec.ofNat 8 (bitsNum o)
  let scram := (List.range n).foldl (fun t i => tabPut 0 t i (plain i (List.replicate 512 0)).2) x.rxScram
  s.setLink k { x with rxStream := x.rxStream ++ gatherWords n lanes, rxScram := scram }

/-- Stripe a direction over lanes in logical order, with parity and held spares (10 R246, R247). -/
def State.applyChange (s : State) (k : Nat) (tx : Bool) (c : LaneChange) : State :=
  let s := (List.range 17).foldl (fun s j =>
    if (s.lane k tx j).role = roleFailed then s
    else
      match c.lanes.findIdx? (· == j) with
      | some i => s.setRole k tx j i
      | none => s.setRole k tx j (if j = c.parity then roleParity else roleSpare)) s
  s.showLanes k tx

/-- LANE_LINK_CHANGE_TICK (10 R246, R247): at the agreed tick, reached at datum t, the direction runs over its new
lanes. -/
def execLaneLinkChangeTick (l : LinkId) (tx : Bool) (t : Nat) (s : State) : Host.Outcome State Fault Refusal :=
  let s := (s.at t).settle l
  let x := s.link l
  let st0 := s.fld (if tx then Reg.LNK_TX_STATE else Reg.LNK_RX_STATE) l
  match (if tx then x.txChange else x.rxChange) with
  | none => done s
  | some c =>
    if s.tickNow < c.tick ∨ (lkCarries st0 = false ∧ st0 ≠ lkTraining) then done s
    else
      let s := s.setLink l (if tx then { x with txChange := none, txWait := false } else { x with rxChange := none })
      let s := (s.applyChange l tx c).restripe l tx
      let st := if c.lanes.length = 12 then lkUp12 else lkUp
      let s := if tx then s.setTx l st else s.setRx l st
      done (if st = lkUp then s.raise Reg.LNK_EVT_TRAINED l else s)

/-- A signed 8-bit setting moves by at most one step of 256, and stays in its range (10 R240). -/
def stepTap (v d : Nat) : Nat := if (d % 3 = 2 ∧ v = 127) ∨ (d % 3 = 0 ∧ v = 128) then v else (v + 255 + d % 3) % 256

/-- LANE_ADAPT_UPDATE (10 R240): once per 1,024 codewords the FFE and DFE taps of a working lane j move by at most 1/256 of their
range, and its clock recovery follows, by free amounts (DESIGN CHOICE, log entry 18), which stand for what the codewords that decoded
teach; a frozen equaliser stays (R254). -/
def execLaneAdaptUpdate (l : LinkId) (j : Fin 17) (t : Nat) (s : State) : Host.Outcome State Fault Refusal :=
  let s := (s.at t).settle l
  let x := s.lane l false j
  let due := match x.adaptAt with
    | some c => cwDue (s.cwNow l false) (c + 1024)
    | none => true
  if x.role == roleFailed || x.role == roleIdle || x.role == roleCal || !lkCarries (s.fld Reg.LNK_RX_STATE l) || !due then done s
  else
    let d0 := s.draw
    let d1 := d0.2.draw
    let d2 := d1.2.draw
    let ds := d2.2.freeBytes 32
    let y := { x with cdr := (x.cdr + 255 + d1.1 % 3) % 256, ppm := d2.1 % 65536, adaptAt := some (s.cwNow l false) }
    let y := if y.frozen then y
      else { y with
        dfe1 := stepTap y.dfe1 d0.1
        ffe := (List.range 32).map fun i => stepTap (y.ffe.getD i 0) ((ds.1.getD i 0).toNat) }
    done (ds.2.setLane l false j y)

/-! ### Link states (10 R252) -/

/-- The lanes of a direction that trains are idle: training tests them all (10 R255; DEDUCED, log entry 99). -/
def State.idleLanes (s : State) (k : Nat) (tx : Bool) : State :=
  ((List.range 17).foldl (fun s j => s.setRole k tx j roleIdle) s).showLanes k tx

/-- LNK_TRAIN (10 R252): in DOWN or FAILED, per direction; in other states a register access error. -/
def State.trainLink (s : State) (g : Agent) (k : Nat) : State :=
  let rx := s.fld Reg.LNK_RX_STATE k
  let tx := s.fld Reg.LNK_TX_STATE k
  let may (st : Nat) : Bool := st == lkDown || st == lkFailed
  if may rx || may tx then
    let x := s.link k
    let s := s.setLink k { x with
      tries := 0
      rxChange := if may rx then none else x.rxChange
      txChange := if may tx then none else x.txChange
      txWait := if may tx then false else x.txWait
      rxActs := if may rx then [] else x.rxActs
      txActs := if may tx then [] else x.txActs
      rxFresh := if may rx then rx == lkDown else x.rxFresh
      txFresh := if may tx then tx == lkDown else x.txFresh }
    let s := if may rx then (s.setRx k lkTraining).idleLanes k false else s
    if may tx then (s.setTx k lkTraining).idleLanes k true else s
  else s.regError g (fieldAddr Reg.LNK_TRAIN k)

/-- LNK_TRAIN (10 R252). -/
def execLnkTrain (l : LinkId) (s : State) : Host.Outcome State Fault Refusal := done (s.lit (s.trainLink .lantern l))

/-- The state that a number of working lanes trains to. -/
def trainedState (n : Nat) : Nat :=
  if n = 17 then lkUp else if n = 16 then lkNoSpare else if 12 ≤ n then lkUp12 else lkFailed

/-- The working lanes of a mask, ascending. -/
def maskLanes (mask : Nat) : List Nat := (List.range 17).filter fun j => bitAt mask j

/-- Lanes after training over the working lanes of a mask: the others have failed, and these run in ascending physical order. -/
def State.trainLanes (s : State) (k : Nat) (tx : Bool) (mask : Nat) : State :=
  let w := maskLanes mask
  let s := (List.range 17).foldl (fun s j => s.setRole k tx j (if bitAt mask j then roleSpare else roleFailed)) s
  s.applyChange k tx { lanes := w.take 16, parity := (w.drop 16).headD 31 }

/-- Training sets a lane up: transmitter taps, or the receiver's settings, but for what an override holds (log entry 18). -/
def State.trainSettings (s : State) (k : Nat) (tx : Bool) (j : Nat) : State :=
  if tx then
    let x := s.lane k true j
    let d := s.draw
    if x.ovrTx then s else d.2.setLane k true j { x with taps := d.1 % 2 ^ 48, calAt := some s.datum }
  else s.calibrate k j

/-- Training over 12 to 15 lanes: the receiver names the tick from which twelve lanes run (10 R246, R252); the sending end waits
for it. -/
def State.trainTwelve (s : State) (k : Nat) (tx : Bool) (mask : Nat) : State :=
  let w := maskLanes mask
  let s := (List.range 17).foldl (fun s j => s.setRole k tx j (if bitAt mask j then roleIdle else roleFailed)) s
  let s := s.showLanes k tx
  if tx then s.setLink k { s.link k with txWait := true }
  else
    let c : LaneChange := { tick := s.tickAhead k, lanes := w.take 12, parity := (w.drop 12).headD 31 }
    (s.setLink k { s.link k with rxChange := some c }).sendCtl k 0x15 (c.lanes ++ [c.parity, c.tick])

/-- Bits of LNK_PEER_VERSIONS: bit n for version n + 1. Versions 1 and 2 are this module's (11 R283). -/
def sharedVersion (peer : Nat) : Option Nat :=
  if bitAt peer 1 then some 2 else if bitAt peer 0 then some 1 else none

/-- One direction's training ends (10 R252): its lanes, and its state. -/
def State.trainDirection (s : State) (k : Nat) (tx : Bool) (mask : Nat) : State :=
  let n := (maskLanes mask).length
  let s := (maskLanes mask).foldl (fun s j => s.trainSettings k tx j) s
  if n < 16 then s.trainTwelve k tx mask
  else
    let s := s.trainLanes k tx mask
    if tx then s.setTx k (trainedState n) else s.setRx k (trainedState n)

/-- A direction is in a training attempt: TRAINING, and not waiting for the tick of a twelve-lane start. -/
def State.attempts (s : State) (k : Nat) (tx : Bool) : Bool :=
  if tx then s.fld Reg.LNK_TX_STATE k == lkTraining && !(s.link k).txWait
  else s.fld Reg.LNK_RX_STATE k == lkTraining && (s.link k).rxChange.isNone

/-- The working lanes that training reports, without those declared failed meanwhile (10 R243). -/
def State.soundLanes (s : State) (k : Nat) (tx : Bool) (mask : Nat) : Nat :=
  (List.range 17).foldl (fun m j => if bitAt mask j && (s.lane k tx j).role != roleFailed then m + 2 ^ j else m) 0

/-- Training of the direction received ends: credits and the coding start over, no step or re-test runs; sequence numbers start over
where it began in DOWN, and go on after a failure (DESIGN CHOICE, log entry 96). -/
def State.freshRx (s : State) (k : Nat) : State :=
  let x := s.link k
  let s := s.setFlds k [(Reg.LNK_ROLL_TARGET, 0x1F), (Reg.LNK_ROLL_PHASE, 0)]
  s.setLink k { x with
    rxTrained := s.datum
    freed := []
    roll := none
    retest := none
    rxActs := []
    rxNext := if x.rxFresh then 0 else x.rxNext
    rxGot := if x.rxFresh then [] else x.rxGot
    rxTop := if x.rxFresh then 0 else x.rxTop
    gaps := if x.rxFresh then [] else x.gaps
    rxStream := []
    rxScram := (List.range 16).foldl (fun t i => tabPut 0 t i (scramSeed i)) [] }

/-- Training of the direction sent ends. -/
def State.freshTx (s : State) (k : Nat) : State :=
  let x := s.link k
  s.setLink k { x with
    txTrained := s.datum
    spent := []
    txActs := []
    nextSeq := if x.txFresh then 0 else x.nextSeq
    replayBuf := if x.txFresh then [] else x.replayBuf
    replayQ := if x.txFresh then [] else x.replayQ
    fails := if x.txFresh then [] else x.fails
    txStream := []
    txWords := 0
    wire := []
    txScram := (List.range 16).foldl (fun t i => tabPut 0 t i (scramSeed i)) [] }

/-- TRAINING_COMPLETE (10 R252, 11 R283): an attempt ends with the working lanes of each direction, the versions
the neighbour supports and the measured delay. It fails with fewer than twelve lanes or no shared version; the
third failure leaves FAILED. -/
def execTrainingComplete (l : LinkId) (rxMask txMask peer flight : Nat) (s : State) :
    Host.Outcome State Fault Refusal :=
  let rx := s.attempts l false
  let tx := s.attempts l true
  if !rx && !tx then done s
  else
    let rxm := s.soundLanes l false rxMask
    let txm := s.soundLanes l true txMask
    let good := (!rx || decide (12 ≤ (maskLanes rxm).length)) && (!tx || decide (12 ≤ (maskLanes txm).length))
    match (if good then sharedVersion peer else none) with
    | none =>
      let n := (s.link l).tries + 1
      let s := s.setLink l { s.link l with tries := n }
      if n < 3 then done s
      else
        let s := if rx then s.setRx l lkFailed else s
        done (if tx then s.setTx l lkFailed else s)
    | some v =>
      let changed := s.fld Reg.LNK_VERSION l != v
      let x := s.link l
      let s := s.setLink l { x with tries := 0 }
      let s := if rx then s.freshRx l else s
      let s := if tx then s.freshTx l else s
      let s := s.setFlds l [(Reg.LNK_VERSION, v), (Reg.LNK_PEER_VERSIONS, peer % 256), (Reg.LNK_FLIGHT_NS, flight)]
      let s := if rx then s.trainDirection l false rxm else s
      let s := if tx then s.trainDirection l true txm else s
      let s := if changed then s.raise Reg.LNK_EVT_VERSION l else s
      done (s.raise Reg.LNK_EVT_TRAINED l)

/-- LNK_DOWN (15 R380): both directions to DOWN, where they carry traffic; failed lanes stay failed, and the cadastres stay. A direction
that trains goes on. -/
def State.downLink (s : State) (k : Nat) : State :=
  let rx := lkCarries (s.fld Reg.LNK_RX_STATE k)
  let tx := lkCarries (s.fld Reg.LNK_TX_STATE k)
  let idle (s : State) (tx : Bool) : State :=
    ((List.range 17).foldl (fun s j => if (s.lane k tx j).role = roleFailed then s else s.setRole k tx j roleIdle) s).showLanes k tx
  let s := if rx then
      let s := idle (s.setRx k lkDown) false
      (s.setLink k { s.link k with roll := none, retest := none, rxChange := none, rxActs := [] }).setFlds k
        [(Reg.LNK_ROLL_TARGET, 0x1F), (Reg.LNK_ROLL_PHASE, 0)]
    else s
  if tx then
    let s := idle (s.setTx k lkDown) true
    s.setLink k { s.link k with txChange := none, txWait := false, txActs := [] }
  else s

/-- LNK_DOWN (15 R380), expert. -/
def execLnkDown (l : LinkId) (s : State) : Host.Outcome State Fault Refusal :=
  if s.moduleDark then done s else
  if s.expertOpen Reg.LNK_DOWN then done (s.downLink l) else done s

/-- LNK_COUNT_CLR (10 R255): the counters at 0x020 to 0x038. -/
def State.lnkCountClr (s : State) (k : Nat) : State :=
  s.setFlds k [(Reg.LNK_ROLL_STEPS, 0), (Reg.LNK_ROLL_ABORTS, 0), (Reg.LNK_FEC_CORR, 0), (Reg.LNK_FEC_UNCORR, 0),
    (Reg.LNK_FEC_RECON, 0), (Reg.LNK_REPLAYS, 0), (Reg.LNK_RETRY_OVR, 0), (Reg.LNK_CRC_FAIL, 0)]

/-- LNK_COUNT_CLR (10 R255). -/
def execLnkCountClr (l : LinkId) (s : State) : Host.Outcome State Fault Refusal := done (s.lit (s.lnkCountClr l))

/-- A write of LNK_LANE_OVR (10 R254): on the lane and side selected, where it is free, a held spare among the free ones (R246),
calibrating or failed, or the direction DOWN or TRAINING. -/
def State.laneOvr (s : State) (g : Agent) (k v : Nat) : State :=
  let j := s.fld Reg.LNK_SEL_LANE k
  let tx := s.bit Reg.LNK_SEL_TX k
  let x := s.lane k tx j
  let st := s.fld (if tx then Reg.LNK_TX_STATE else Reg.LNK_RX_STATE) k
  if st = lkDown ∨ st = lkTraining ∨ [roleParity, roleSpare, roleCal, roleFailed].contains x.role = true then
    let taps := bitsOf v 0 48
    let en := bitAt v 48
    s.setLane k tx j { x with
      ovrTaps := taps
      ovrTx := en
      frozen := bitAt v 49
      taps := if en && tx then taps else x.taps }
  else s.regError g (fieldAddr Reg.LNK_OVR_TAPS k)

/-- LNK_LANE_OVR (10 R254), expert. -/
def execLnkLaneOvr (l : LinkId) (v : BitVec 64) (s : State) : Host.Outcome State Fault Refusal :=
  if s.moduleDark then done s else
  if s.expertOpen Reg.LNK_OVR_TX_EN then done (s.laneOvr .lantern l v.toNat) else done s

/-- LNK_INJ_CW (10 R255), expert: the next codeword received on the injection lane is uncorrectable. -/
def execLnkInjCw (l : LinkId) (s : State) : Host.Outcome State Fault Refusal :=
  if s.moduleDark then done s else
  if s.expertOpen Reg.LNK_INJ_CW then
    done (s.setLink l { s.link l with injCw := some (s.ctl Reg.LNK_INJ_LANE l) })
  else done s

/-- LNK_INJ_CRC (10 R255), expert: the next packet received fails its CRC. -/
def execLnkInjCrc (l : LinkId) (s : State) : Host.Outcome State Fault Refusal :=
  if s.moduleDark then done s else
  if s.expertOpen Reg.LNK_INJ_CRC then done (s.setLink l { s.link l with injCrc := true }) else done s

/-! ### Control units of the far receiver (10 R251): this end is the transmitter T -/

/-- A lane operation that the far receiver names for a codeword of the direction sent: at once where the codeword has come, otherwise
when it comes. -/
def State.txAct (s : State) (k cw : Nat) (op : LaneOp) : State :=
  (s.setLink k { s.link k with txActs := (s.link k).txActs ++ [⟨cw, op⟩] }).settle k

/-- COPY (10 R241): from codeword cw on, lane f sends a copy of logical lane i. -/
def State.ctlCopy (s : State) (k i f cw : Nat) : State := if i < 16 ∧ f < 17 then s.txAct k cw (.mirror i f) else s

/-- RELEASE (10 R241): from codeword cw on, lane j leaves its data to the mirror, and sends PRBS31. -/
def State.ctlRelease (s : State) (k j cw : Nat) : State := if j < 17 then s.txAct k cw (.calib j) else s

/-- PARITY (10 R241): from codeword cw on, lane j carries parity. -/
def State.ctlParity (s : State) (k j cw : Nat) : State := if j < 17 then s.txAct k cw (.parity j) else s

/-- TAP (10 R251): transmitter taps for lane j, unless an override holds them (R254). -/
def State.ctlTap (s : State) (k j taps : Nat) : State :=
  if j < 17 then
    let x := s.lane k true j
    if x.ovrTx then s else s.setLane k true j { x with taps := taps % 2 ^ 48 }
  else s

/-- FAILOVER (10 R244): from codeword cw on, logical lane i is sent on lane f; its old lane has failed. -/
def State.ctlFailover (s : State) (k i f cw : Nat) : State := if i < 16 ∧ f < 17 then s.txAct k cw (.data i f) else s

/-- DEGRADE (10 R246): twelve lanes and parity from a tick on. The receiver names its working lanes in ascending order, so that a data
lane below the parity lane that it does not name has failed; one above may be a held spare. -/
def State.ctlDegrade (s : State) (k : Nat) (lanes : List Nat) (parity tick : Nat) : State :=
  if lanes.length = 12 then
    let keep := lanes ++ [parity]
    let lose (s : State) (j : Nat) : State :=
      if (s.lane k true j).role < 16 ∧ keep.contains j = false ∧ j < parity then s.setRole k true j roleFailed else s
    let s := (List.range 17).foldl lose s
    (s.setLink k { s.link k with txChange := some { tick := tick, lanes := lanes, parity := parity } }).showLanes k true
  else s

/-- RESTORE (10 R247): sixteen lanes again from a tick on. -/
def State.ctlRestore (s : State) (k : Nat) (lanes : List Nat) (free tick : Nat) : State :=
  if lanes.length = 16 then
    let s := (lanes ++ [free]).foldl (fun s j =>
      if (s.lane k true j).role = roleFailed then s.setRole k true j roleSpare else s) s
    s.setLink k { s.link k with txChange := some { tick := tick, lanes := lanes, parity := free } }
  else s

/-- COPY (10 R251). -/
def execCopy (l : LinkId) (i f cw : Nat) (s : State) : Host.Outcome State Fault Refusal := done (s.ctlCopy l i f cw)

/-- RELEASE (10 R251). -/
def execLinkRelease (l : LinkId) (j cw : Nat) (s : State) : Host.Outcome State Fault Refusal := done (s.ctlRelease l j cw)

/-- PARITY (10 R251). -/
def execParity (l : LinkId) (j cw : Nat) (s : State) : Host.Outcome State Fault Refusal := done (s.ctlParity l j cw)

/-- TAP (10 R251). -/
def execTap (l : LinkId) (j taps : Nat) (s : State) : Host.Outcome State Fault Refusal := done (s.ctlTap l j taps)

/-- FAILOVER (10 R244, R251). -/
def execFailover (l : LinkId) (i f cw : Nat) (s : State) : Host.Outcome State Fault Refusal := done (s.ctlFailover l i f cw)

/-- DEGRADE (10 R246, R251). -/
def execDegrade (l : LinkId) (lanes : List Nat) (parity tick : Nat) (s : State) : Host.Outcome State Fault Refusal :=
  done (s.ctlDegrade l lanes parity tick)

/-- RESTORE (10 R247, R251). -/
def execRestore (l : LinkId) (lanes : List Nat) (free tick : Nat) (s : State) : Host.Outcome State Fault Refusal :=
  done (s.ctlRestore l lanes free tick)

/-- DARK_UNIT (10 R252): the neighbour is dark. -/
def execDarkUnit (l : LinkId) (s : State) : Host.Outcome State Fault Refusal :=
  done ((if s.bit Reg.LNK_EVT_NEIGHBOUR_DARK l then s else s.moduleLost l).raise Reg.LNK_EVT_NEIGHBOUR_DARK l)

end Sys2Proof.Machine
end

