-- ==== Sys2Proof/Machine/Record.lean ====
section
/-!
DEFINITION. The configuration record: its section, its tract entries and their checks (15 R368 to R372), and a tract entry
taking effect (15 R378, 01 R17, R19).
-/
namespace Sys2Proof.Machine

/-! ### The flash (15 R367) -/

/-- A byte of the configuration flash; an erased byte is 0xFF. -/
def State.flash8 (s : State) (a : Nat) : Byte := tabGet 0xFF s.flash a
/-- Bytes of the flash. -/
def State.flashBytes (s : State) (a n : Nat) : List Byte := (List.range n).map fun i => s.flash8 (a + i)
/-- Write bytes of the flash. -/
def putFlash (m : Tab Byte) (a : Nat) (bs : List Byte) : Tab Byte :=
  (bs.zipIdx).foldl (fun (m : Tab Byte) (b : Byte × Nat) => tabPut 0xFF m (a + b.2) b.1) m

/-- The configuration section with its signature. -/
def State.flashSection (s : State) : List Byte := s.flashBytes 0x30000 0x4A4
/-- The disabled-unit map with its signature. -/
def State.flashMap (s : State) : List Byte := s.flashBytes 0x20000 176

/-- A little-endian field of a list of bytes. -/
def byteField (b : List Byte) (off n : Nat) : Nat := leNat ((b.drop off).take n)

/-! ### Tract entries (15 R369) -/

/-- Tract t's entry of a section. -/
def entryOf (b : List Byte) (t : Nat) : List Byte := (b.drop (0x40 + 128 * t)).take 128
/-- The section with tract t's entry replaced. -/
def putEntry (b : List Byte) (t : Nat) (e : List Byte) : List Byte := b.take (0x40 + 128 * t) ++ e ++ b.drop (0x40 + 128 * (t + 1))

def entTowns (e : List Byte) : Nat := byteField e 0 4
def entMode (e : List Byte) : Nat := byteField e 4 1
def entOrder (e : List Byte) : Nat := byteField e 5 1
/-- First and last position of a share. -/
def entHbmPos (e : List Byte) : Nat × Nat := (byteField e 8 2, byteField e 10 2)
def entDdrPos (e : List Byte) : Nat × Nat := (byteField e 12 2, byteField e 14 2)
def entHbmFirst (e : List Byte) : Nat := byteField e 16 2
def entHbmCount (e : List Byte) : Nat := byteField e 18 2
def entStacks (e : List Byte) : Nat := byteField e 20 1
/-- The valid DDR5 regions: channel, first granule, granules. -/
def entDdr (e : List Byte) : List (Nat × Nat × Nat) :=
  (List.range 8).filterMap fun i =>
    let w := byteField e (24 + 4 * i) 4
    if bitAt w 3 ∧ bitsOf w 14 10 ≠ 0 then some (bitsOf w 0 3, bitsOf w 4 10, bitsOf w 14 10) else none
def entSessions (e : List Byte) : Nat := byteField e 56 4
/-- A basic value, where 0 stands for a default. -/
def orDefault (v d : Nat) : Nat := if v = 0 then d else v

/-- Two ranges with inclusive ends overlap. -/
def rangesMeet (a b : Nat × Nat) : Bool := decide (a.1 ≤ b.2 ∧ b.1 ≤ a.2)
/-- Two lists of granules overlap. -/
def ddrMeet (a b : List (Nat × Nat × Nat)) : Bool :=
  a.any fun x => b.any fun y => x.1 == y.1 && decide (x.2.1 < y.2.1 + y.2.2 ∧ y.2.1 < x.2.1 + x.2.2)
/-- The HBM regions of two entries overlap. -/
def hbmMeet (a b : List Byte) : Bool :=
  entHbmCount a != 0 && entHbmCount b != 0 &&
    decide (entHbmFirst a < entHbmFirst b + entHbmCount b ∧ entHbmFirst b < entHbmFirst a + entHbmCount a)
/-- Two configured entries share townships, positions or regions. -/
def entriesClash (a b : List Byte) : Bool :=
  entTowns a != 0 && entTowns b != 0 &&
    (entTowns a &&& entTowns b != 0 || rangesMeet (entHbmPos a) (entHbmPos b) || rangesMeet (entDdrPos a) (entDdrPos b) ||
      hbmMeet a b || ddrMeet (entDdr a) (entDdr b))

/-! ### The checks of a section (15 R371, R372) -/

/-- All bytes of a range are 0. -/
def zeros (b : List Byte) (off n : Nat) : Bool := byteField b off n == 0

/-- Fields of an entry lie in their ranges, and its reserved bytes are 0. -/
def entryRanges (e : List Byte) : Bool :=
  decide (entMode e ≤ 1) && decide (entOrder e ≤ 1) && zeros e 6 2 && decide ((entHbmPos e).1 ≤ 1279 ∧ (entHbmPos e).2 ≤ 1279) &&
  decide ((entDdrPos e).1 ≤ 1125 ∧ (entDdrPos e).2 ≤ 1125) && decide (entHbmFirst e ≤ 511) && decide (entHbmCount e ≤ 512) &&
  zeros e 21 3 && (List.range 8).all (fun i => bitsOf (byteField e (24 + 4 * i) 4) 24 8 == 0) && decide (entSessions e ≤ 65536) &&
  (byteField e 62 2 == 0 || decide (16 ≤ byteField e 62 2)) && zeros e 66 62

/-- The module-wide fields lie in their ranges. -/
def sectionRanges (b : List Byte) : Bool :=
  byteField b 0 4 == 0x47464343 && byteField b 4 2 == 1 && zeros b 6 2 && decide (byteField b 0x18 1 ≤ 1) &&
  decide (byteField b 0x19 1 ≤ 60) && decide (byteField b 0x1A 1 < 8) && zeros b 0x1B 1 && decide (byteField b 0x1C 4 < 2048) &&
  zeros b 0x2A 22 && zeros b 0x442 2 && (List.range 8).all fun t => entryRanges (entryOf b t)

/-- The configured entries of a section, with their tracts. -/
def configured (b : List Byte) : List (Nat × List Byte) :=
  ((List.range 8).map fun t => (t, entryOf b t)).filter fun x => entTowns x.2 != 0

/-- A relation fails between every two configured entries. -/
def apart (b : List Byte) (r : List Byte → List Byte → Bool) : Bool :=
  let l := configured b
  l.all fun x => l.all fun y => x.1 == y.1 || !r x.2 y.2

/-- Positions inside shares. -/
def sharedPositions (l : List (Nat × Nat)) : Nat := (l.map fun p => p.2 + 1 - p.1).foldl (· + ·) 0

/-- Township assignment: each in at most one tract, and some tract configured. -/
def townsOk (b : List Byte) : Bool := configured b != [] && apart b fun x y => entTowns x &&& entTowns y != 0

/-- Position shares: disjoint, with 4 positions on each pseudo-channel and 8 on each subchannel outside (07 R160). -/
def sharesOk (b : List Byte) : Bool :=
  let es := (configured b).map (·.2)
  es.all (fun e => decide ((entHbmPos e).1 ≤ (entHbmPos e).2 ∧ (entDdrPos e).1 ≤ (entDdrPos e).2)) &&
  apart b (fun x y => rangesMeet (entHbmPos x) (entHbmPos y) || rangesMeet (entDdrPos x) (entDdrPos y)) &&
  decide (sharedPositions (es.map entHbmPos) + 4 ≤ 1280 ∧ sharedPositions (es.map entDdrPos) + 8 ≤ 1126)

/-- An entry's own DDR5 regions do not overlap. -/
def ddrApart (l : List (Nat × Nat × Nat)) : Bool := (l.zipIdx).all fun x => (l.zipIdx).all fun y => x.2 == y.2 || !ddrMeet [x.1] [y.1]

/-- Under HBM map 1 a region lies within its stacks, of 64 granules each. -/
def stacksOk (b e : List Byte) : Bool :=
  byteField b 0x18 1 == 0 || (List.range (entHbmCount e)).all fun i => bitAt (entStacks e) ((entHbmFirst e + i) / 64)

/-- Regions: disjoint, in HBM, and within their stacks. -/
def regionsOk (b : List Byte) : Bool :=
  apart b (fun x y => hbmMeet x y || ddrMeet (entDdr x) (entDdr y)) &&
  ((configured b).map (·.2)).all fun e => decide (entHbmFirst e + entHbmCount e ≤ 512) && ddrApart (entDdr e) && stacksOk b e

/-- Session shares: at most 65,536 in all, and none in plan mode. -/
def sessionsOk (b : List Byte) : Bool :=
  let es := (configured b).map (·.2)
  decide ((es.map entSessions).foldl (· + ·) 0 ≤ 65536) && es.all fun e => entMode e == 1 || entSessions e == 0

/-- The role of an entry of the certificate chain (16 R401). -/
def State.certRole (s : State) (i : Nat) : Nat := (s.flash8 (0x10000 + 6 + 12 * i)).toNat
/-- Entries in the chain. -/
def State.certCount (s : State) : Nat := leNat (s.flashBytes 0x10004 2)

/-- The cfgSections signature verifies under the operator configuration certificate that CERT names. -/
def State.sectionSigned (s : State) (b : List Byte) : Bool :=
  let c := byteField b 0x440 2
  decide (c < s.certCount) && s.certRole c == 4 && Config.certVerifies s.flash c (b.take 0x444) ((b.drop 0x444).take 96)

/-- The module serial (16 R399), which the disabled-unit map carries too. -/
def moduleSerial : Nat := Config.identity Reg.IDN_MOD_SERIAL.idn

/-- The first of a list of checks that fails, by its reason code; 0 where all hold. -/
def firstReason : List (Bool × Nat) → Nat
  | [] => 0
  | (ok, code) :: rest => if ok then firstReason rest else code

/-- The reason code of a section; `adopt` adds SEQUENCE and the conflict with tracts not EMPTY, given as a check. -/
def State.sectionReason (s : State) (b : List Byte) (seqOk noClash : Bool) : Nat :=
  let serial := byteField b 8 8
  firstReason [(s.sectionSigned b, 0x05), (serial == 0 || serial == moduleSerial, 0x06), (seqOk, 0x07), (townsOk b, 0x08),
    (sharesOk b, 0x09), (regionsOk b, 0x0A), (sessionsOk b, 0x0B), (sectionRanges b, 0x0C), (noClash, 0x0D)]

/-! ### The disabled-unit map (15 R368) -/

/-- Parcels the map disables. -/
def mapParcels (m : List Byte) : List Nat :=
  let bits := byteField m 16 64
  (List.range 512).filter fun p => bitAt bits p

/-- The map's own checks; its signature is Config.mapSigned. -/
def mapWellFormed (m : List Byte) : Bool :=
  let d := mapParcels m
  let g := byteField m 4 1
  byteField m 0 4 == 0x4D554444 && byteField m 8 8 == moduleSerial && zeros m 5 3 &&
  ((g == 0 && d == []) || (g == 1 && d.length == 64 && (List.range 32).all fun w => decide (d.countP (fun p => p / 16 == w) ≤ 4)))

/-! ### A tract entry takes effect (15 R369, R378) -/

/-- The HBM and DDR5 regions of tract t as address ranges (07 R172); under HBM map 1 the granules are of the
stacks named (15 R369). -/
def State.tractRegions (s : State) (t : Nat) : List (Nat × Nat) :=
  let x : TractCfg := tabGet {} s.tractCfg t
  let g := 0x40000000
  let hbm := if x.hbmCount = 0 then [] else [(hbmBase + g * x.hbmFirst, hbmBase + g * (x.hbmFirst + x.hbmCount))]
  hbm ++ x.ddr.map fun r =>
    (ddrBase + r.1 * 0x4000000000 + g * r.2.1, ddrBase + r.1 * 0x4000000000 + g * (r.2.1 + r.2.2))

/-- A region of tract t lies in controller c's memory: under HBM map 0 every HBM region is on every stack (07 R155). -/
def State.tractUses (s : State) (t c : Nat) : Bool :=
  let own : Nat × Nat := if c < 8 then (hbmBase + c * 0x1000000000, hbmBase + (c + 1) * 0x1000000000)
    else (ddrBase + (c - 8) * 0x4000000000, ddrBase + (c - 7) * 0x4000000000)
  (s.tractRegions t).any fun r =>
    if decide (c < 8) && s.hbmMap == 0 then inHbm r.1 else decide (r.1 < own.2 ∧ own.1 < r.2)

/-- Some DDR5 region of an entry goes beyond the capacity of its channel. -/
def State.beyondCapacity (s : State) (e : List Byte) : Bool :=
  (entDdr e).any fun r => decide (s.fld Reg.XX_CAP_GIB (8 + r.1) < r.2.1 + r.2.2)

/-- Set bit t of a field. -/
def State.putBit (s : State) (f : Fld) (t : Nat) (b : Bool) : State := s.setFld f 0 (putBits (s.fld f 0) t 1 (b2n b))

/-- The tract is not configured. -/
def State.clearEntry (s : State) (t : Nat) : State :=
  ({ s with tractCfg := tabErase s.tractCfg t }.setFlds t [(Reg.TRC_TOWNSHIPS, 0), (Reg.TRC_CONFIGURED, 0)]).putBit Reg.SRV_SERVE t false

/-- A tract entry comes into force: registers and shares. One whose DDR5 regions go beyond the capacity installed leaves
the tract not configured (R371). -/
def State.setEntry (s : State) (t : Nat) (e : List Byte) : State :=
  if entTowns e = 0 then s.clearEntry t
  else if s.beyondCapacity e then (s.clearEntry t).raise Reg.CFG_EVT_REGION 0
  else
    let h := entHbmPos e
    let d := entDdrPos e
    let c : TractCfg := {
      hbmPosFirst := h.1
      hbmPosCount := h.2 + 1 - h.1
      ddrPosFirst := d.1
      ddrPosCount := d.2 + 1 - d.1
      hbmFirst := entHbmFirst e
      hbmCount := entHbmCount e
      hbmStacks := entStacks e
      ddr := entDdr e
      sessions := entSessions e }
    let s := { s with tractCfg := tabPut {} s.tractCfg t c }
    let s := ((s.setStart Reg.TRC_LAG_LIMIT t (orDefault (byteField e 60 2) 4)).setStart Reg.TRC_STALL_LIMIT t
      (orDefault (byteField e 62 2) 0x1000)).setStart Reg.TRC_FREEZE_LIMIT t (orDefault (byteField e 64 1) 1)
    (s.setFlds t [(Reg.TRC_TOWNSHIPS, entTowns e), (Reg.TRC_MODE, entMode e), (Reg.TRC_STRICT, entOrder e), (Reg.TRC_CONFIGURED, 1),
      (Reg.SRV_RATIO_HOLD, orDefault (byteField e 65 1) 8),
      (Reg.SRV_SESS_SHARE, entSessions e)]).putBit Reg.SRV_SERVE t (entMode e == 1)

/-- Township clocks run where a tract holds the township, and stand elsewhere, their crossings reset (01 R17, 09 R219, R226); a
dark township stays dark. -/
def State.fitClocks (s : State) : State :=
  (List.range 32).foldl (fun s w =>
    let st := s.fld Reg.TWN_CLK_STATE w
    match s.tractOf w with
    | some _ => if st = 0 then s.startClock w else s
    | none => if st = 0 ∨ st = 5 then s else (s.haltClock w 0).crossReset w) s

/-- A RETIRING controller whose memory holds no tract's region any more is OFF (07 R179). -/
def State.retireIdle (s : State) : State :=
  (List.range 16).foldl (fun s c =>
    if s.fld Reg.XX_STATE_CODE c = 4 ∧ (List.range 8).all (fun t => !s.tractUses t c) = true then
      (s.setFld Reg.XX_STATE_CODE c 0).raise Reg.XX_EVT_STATE c
    else s) s

/-- Parcels whose township no tract holds any more are OFF (02 R42): those of the townships that had one before. -/
def State.leaveTracts (s before : State) : State :=
  (List.range 512).foldl (fun s p =>
    if (before.ptract p).isSome && (s.ptract p).isNone && s.pstate p != stOff then s.setPstate p stOff else s) s

/-- At tract t's load an adopted entry takes effect (15 R378). An EMPTY tract whose entry in force overlaps it is not
configured until its own load. -/
def State.takeEntry (s : State) (t : Nat) : State :=
  if bitAt (s.fld Reg.CFG_ADOPT_PENDING 0) t then
    let before := s
    let e := entryOf s.boot.adopted t
    let s := (List.range 8).foldl (fun s u =>
      if u ≠ t ∧ s.fld Reg.TRC_STATE_CODE u = 0 ∧ entriesClash e (entryOf s.boot.cfgSection u) = true then s.clearEntry u else s) s
    let s := { s with boot := { s.boot with cfgSection := putEntry s.boot.cfgSection t e } }
    ((((s.setEntry t e).putBit Reg.CFG_ADOPT_PENDING t false).fitClocks).retireIdle).leaveTracts before
  else s

end Sys2Proof.Machine
end

