-- ==== Sys2Proof/Machine/Tract.lean ====
section
/-!
DEFINITION. Tract commands and states (08 R193, R196, R197, R211, R217).
-/
namespace Sys2Proof.Machine

/-! ### Tract reset (08 R211, R197, 02 R31) -/

/-- One orphaned waiter's parcel stops: its BWAIT fails with BEACON_ORPHANED on the beacon unit (08 R211, 02
R41). -/
def State.orphanWaiter (s : State) (w : Waiter) : State :=
  match (s.eng w.parcel 4).flight.find? fun f => f.entry.seq == w.seq with
  | some f => (s.markBeaconFlight w.parcel w.seq .done 0x20).parcelFault w.parcel 4 (wTag f.entry.w) f.entry.cmd 0x20
  | none => s

/-- Every beacon of tract t is orphaned: its waiters released with BEACON_ORPHANED, and it applies nothing until
the next load (08 R211). -/
def State.orphanTract (s : State) (t : Nat) : State :=
  let mine := (s.beacons.filter fun kv => decide (s.ptract (beaconHome kv.1) = some t)).map (·.1)
  let waiters := mine.flatMap fun b => (s.beacon b).waiters
  let s := mine.foldl (fun s b => s.setBeacon b { s.beacon b with waiters := [], assigned := false }) s
  let s := waiters.foldl State.orphanWaiter s
  if waiters = [] then s else s.trcEvent Reg.TRC_EVT_ORPHANED t

/-- Tract t goes dark (14 R348): its clocks stop, its parcels and the tract enter DARK, its beacons are orphaned. -/
def State.darkTract (s : State) (t : Nat) : State :=
  let s := s.orphanTract t
  let s := (s.tractTowns t).foldl (fun s w => s.haltClock w 5) s
  let s := (s.tractParcels t).foldl State.darkParcel s
  let was := some (s.datum, s.fld Reg.TRC_STATE_CODE t, (s.tract t).stage)
  let s := s.setTract t { s.tract t with armed := false, stage := 0, darkFrom := was }
  let dark := s.fld Reg.SFM_TRACT_DARK 0
  let s := s.setFlds t [(Reg.TRC_STATE_CODE, 7), (Reg.TRC_FAULT_STATUS, 0xFF)]
  let s := s.setFlds 0 [(Reg.SFM_TRACT_DARK, if bitAt dark t then dark else dark + 2 ^ t),
    (Reg.SFM_MODULE, if s.moduleDark then 2 else 1)]
  let s := s.report { kind := 6, status := 0xFF, tract := t, step := s.tickNow, rest := leBytes 1 (s.fld Reg.SFM_DARK_CAUSE 0) }
  (s.safeRec { kind := 8, status := 0xFF, flags := 4 * t }).sfmEvent Reg.SFM_EVT_TRACT_DARK Reg.SFM_EVT_TRACT_DARK_ALERT

/-- The states that a reset takes to STOPPED (08 R197). -/
def resetStops (st : Nat) : Bool := st == stIdle || st == stRun || st == stDraining || st == stHalted || st == stDark

/-- A reset stops a parcel: DISCARDED, unless R211 gave it BEACON_ORPHANED. -/
def State.resetParcel (s : State) (p : Nat) : State :=
  if resetStops (s.pstate p) then
    let s1 := s.enterStopped p
    if (s.par p).faulted && s.fld Reg.PCT_FAULT_STATUS p == 0x20 then s1 else s1.setFld Reg.PCT_FAULT_STATUS p 0x03
  else s

/-- Zero a parcel (02 R31); packets accepted for it and not yet written are withdrawn too. -/
def State.zeroParcel (s : State) (p : Nat) : State :=
  let s := (s.zeroRange (parcelBase p) (parcelBase (p + 1))).zeroRange (taperBase p) (taperBase (p + 1))
  let clr {α : Type} (t : Tab α) (n : Nat) : Tab α := tabClear t (p * n) (p * n + n)
  let s := { s with
    code := clr s.code 8192
    descs := clr s.descs 1024
    imem := clr s.imem 65536
    live := clr s.live 256
    shadow := clr s.shadow 256
    dirty := clr s.dirty 256
    wregs := clr s.wregs 131072
    preds := clr s.preds 4096
    widx := clr s.widx 4096
    engines := clr s.engines 8
    tallies := clr s.tallies 64
    beaconOps := s.beaconOps.filter fun o => o.parcel != p
    tierWrites := s.tierWrites.filter fun w => w.parcel != p
    tierReads := s.tierReads.filter fun r => r.parcel != p
    collRx := s.collRx.filter fun r => r.parcel != p
    colls := s.colls.filter fun c => c.parcel != p
    txq := s.txq.filter fun x => x.parcel != p
    arrivals := s.arrivals.filter fun a => a.parcel != p
    paramAt := clr s.paramAt 256
    drained := tabErase s.drained p }
  let s := s.setFlds p ((loopIdxFlds.map fun f => (f, 0)) ++ ((List.range 6).map fun e => (cntFld e, 0)) ++
    [(Reg.PCT_LOOP_ACTIVE, 0), (Reg.PCT_CMD, 0), (Reg.PCT_REPLAYS, 0), (Reg.PCT_COPYING, 0)])
  let x := s.par p
  let s := s.setPar p { platWheel := x.platWheel, taper := x.taper }
  s.taperZero p

/-- Zero a range but for what a list of ranges keeps. -/
def State.zeroBut (s : State) (lo hi : Nat) (keep : List (Nat × Nat)) : State :=
  let inKeep (a : Nat) : Bool := keep.any fun r => decide (r.1 ≤ a ∧ a < r.1 + r.2)
  let go (a b : Nat) : Bool := decide (lo ≤ a ∧ a < hi) && !inKeep b
  { s with
    mem := s.mem.filter fun kv => !go kv.1 kv.1
    uncorr := s.uncorr.filter fun kv => !go (8 * kv.1) (8 * kv.1)
    correc := s.correc.filter fun kv => !go (8 * kv.1) (8 * kv.1) }

/-- Zero the tract's regions, but for what its load left in place (07 R174, 08 R195). -/
def State.zeroRegions (s : State) (t : Nat) : State :=
  let kept := (s.tract t).kept
  (s.tractRegions t).foldl (fun s r => s.zeroBut r.1 r.2 kept) s

/-- What TRC registers show when no plat is loaded (08 R216); the tract's range of the module beacon map is free again. -/
def State.unloadTract (s : State) (t : Nat) : State :=
  let base := s.fld Reg.TRC_BMAP_BASE t
  ({ s with beaconMap := tabClear s.beaconMap base (base + (s.tract t).bmapN) }.setFlds t [(Reg.TRC_FM, 0), (Reg.TRC_S, 0), (Reg.TRC_NP, 0), (Reg.TRC_BEACONS_USED, 0)]).setTract t
    { won := (s.tract t).won }

/-- End a load with a refusal (08 R195): no image stays in place. -/
def State.refuse (s : State) (t code secType index fold : Nat) : State :=
  let wrote := decide (6 ≤ (s.tract t).stage)
  let s := (s.tractParcels t).foldl State.zeroParcel s
  let s := if wrote then s.zeroRegions t else s
  let s := s.setFlds t [(Reg.TRC_REFUSAL, code), (Reg.TRC_REF_SECTION, secType), (Reg.TRC_REF_INDEX, index), (Reg.TRC_REF_FOLD, fold)]
  ((s.unloadTract t).trcMove t 0).trcEvent Reg.TRC_EVT_REFUSED t

/-! ### Commands (08 R197, R217) -/

/-- A transition of this cycle has already won against a command that the state before it accepted (08 R193). -/
def State.lostTo (s : State) (t : Nat) (accepts : Nat → Bool) : Bool :=
  match (s.tract t).won with
  | some (d, prev) => d == s.datum && accepts prev && prev != s.fld Reg.TRC_STATE_CODE t
  | none => false

/-- Judge a tract command by the tract's state (08 R217): dropped with a register access error outside the
states that accept it; ALREADY_COMPLETE when a completion of the same cycle won; no command reaches a tract
while the module is dark. -/
def State.trcCommand (s : State) (g : Agent) (t : Nat) (accepts : Nat → Bool) (act : State → State) : State :=
  if s.moduleDark then s
  else if s.lostTo t accepts then s.setFld Reg.TRC_CMD_STATUS t 0x01
  else if accepts (s.fld Reg.TRC_STATE_CODE t) then act ((s.tractParcels t).foldl State.dropHalt s)
  else if (s.darkNow t).any fun was => accepts was.1 then s.beforeDark t ((s.darkNow t).getD (0, 0)) act
  else s.regError g (fieldAddr Reg.TRC_LOAD t)

/-- States that accept TRC_LOAD, TRC_START, TRC_STOP, TRC_STOP_NOW and TRC_RESET. -/
def acceptsLoad (st : Nat) : Bool := st == 0 || st == 5
/-- TRC_START. -/
def acceptsStart (st : Nat) : Bool := st == 2
/-- TRC_STOP. -/
def acceptsStop (st : Nat) : Bool := st == 3
/-- TRC_STOP_NOW. -/
def acceptsStopNow (st : Nat) : Bool := st == 3 || st == 4
/-- TRC_RESET. -/
def acceptsReset (st : Nat) : Bool := st != 0

/-- TRC_LOAD (08 R194 step 1): a reset takes effect (08 R211, 09 R226), and an adopted entry takes effect (15 R378).
During a firmware handover the load waits (15 R381). -/
def State.trcLoad (s : State) (g : Agent) (t : Nat) : State :=
  s.trcCommand g t acceptsLoad fun s =>
    if s.boot.handover ≠ 0 then s.setTract t { s.tract t with loadHeld := true } else
    let s := (s.tractTowns t).foldl State.crossReset (s.orphanTract t)
    let s := (((s.closeWindows t).takeEntry t).unloadTract t)
    let s := { s with
      cal := s.cal.filter fun kv => !s.inShare t (kv.1 / 131072) (kv.1 % 2048)
      calWrites := s.calWrites.filter fun w => !s.inShare t (w.key / 131072) (w.key % 2048) }
    let s := s.setFlds t [(Reg.TRC_CMD_STATUS, 0), (Reg.TRC_FAULT_STATUS, 0), (Reg.TRC_REFUSAL, 0), (Reg.TRC_REF_SECTION, 0),
      (Reg.TRC_REF_INDEX, 0), (Reg.TRC_REF_FOLD, 0), (Reg.TRC_LAG_MAX, 0), (Reg.TRC_STATE_CODE, 1)]
    s.setTract t { s.tract t with stage := 2 }

/-- Loads that waited for the end of a handover start (15 R381); what a start message has said of one stands. -/
def State.freeLoads (s : State) : State :=
  (List.range 8).foldl (fun s t =>
    let x := s.tract t
    if x.loadHeld then
      let s := (s.setTract t { x with loadHeld := false }).trcLoad .lantern t
      s.setTract t { s.tract t with
        bcast := x.bcast, restore := x.restore, restoreAddr := x.restoreAddr, stopStep := x.stopStep, job := x.job, epoch := x.epoch,
        chunks := x.chunks }
    else s) s

/-- TRC_START (08 R196): accepted at or after the start tick's datum time, the gate has passed. -/
def State.trcStart (s : State) (g : Agent) (t : Nat) : State :=
  s.trcCommand g t acceptsStart fun s =>
    let s := s.setFld Reg.TRC_CMD_STATUS t 0
    if s.datum < 2048 * s.fld Reg.TRC_START_TICK_NUM t then s.setTract t { s.tract t with armed := true }
    else s.trcEvent Reg.TRC_EVT_START_MISSED t

/-- TRC_STOP (08 R197): each parcel stops at its next REPLAY. -/
def State.trcStop (s : State) (g : Agent) (t : Nat) : State :=
  s.trcCommand g t acceptsStop fun s => s.setFlds t [(Reg.TRC_CMD_STATUS, 0), (Reg.TRC_STATE_CODE, 4)]

/-- TRC_STOP_NOW (08 R197): PCT_STOP_NOW on every placed parcel. -/
def State.trcStopNow (s : State) (g : Agent) (t : Nat) : State :=
  s.trcCommand g t acceptsStopNow fun s =>
    let s := s.setFlds t [(Reg.TRC_CMD_STATUS, 0x03), (Reg.TRC_STATE_CODE, 4)]
    (s.tract t).landing.foldl State.pctStopNow s

/-- Parcels that a reset takes to STOPPED: those of the tract, but a parcel in OFF or QUARANTINED keeps its
state. -/
def State.resetParcels (s : State) (t : Nat) : State := (s.tractParcels t).foldl State.resetParcel s

/-- TRC_RESET (08 R197, R211). -/
def State.trcReset (s : State) (g : Agent) (t : Nat) : State :=
  s.trcCommand g t acceptsReset fun s =>
    let st := s.fld Reg.TRC_STATE_CODE t
    let loading := st == 1
    let active (p : Nat) : Bool := [stRun, stDraining, stHalted].contains (s.pstate p)
    let hit := loading || (s.tractParcels t).any active
    let s := if st = 7 then s.restartClocks t else s
    let s := (s.jobFailure t 1 0 0).closeWindows t
    let s := ((s.tractTowns t).foldl State.crossReset ((s.orphanTract t).resetParcels t))
    let s := if loading then
        (s.setFlds t [(Reg.TRC_REFUSAL, 0x01), (Reg.TRC_REF_SECTION, 0), (Reg.TRC_REF_INDEX, 0), (Reg.TRC_REF_FOLD, 0xFFFF)]).trcEvent
          Reg.TRC_EVT_REFUSED t
      else s
    let s := s.setTract t { s.tract t with armed := false }
    s.setFlds t [(Reg.TRC_CMD_STATUS, if hit then 0x03 else 0), (Reg.TRC_STATE_CODE, 6)]

/-- TRC_LOAD (08 R194, R217). -/
def execTrcLoad (t : TractId) (s : State) : Host.Outcome State Fault Refusal := done (s.trcLoad .lantern t)

/-- TRC_START (08 R196, R217). -/
def execTrcStart (t : TractId) (s : State) : Host.Outcome State Fault Refusal := done (s.trcStart .lantern t)

/-- TRC_STOP (08 R197, R217). -/
def execTrcStop (t : TractId) (s : State) : Host.Outcome State Fault Refusal := done (s.trcStop .lantern t)

/-- TRC_STOP_NOW (08 R197, R217), expert. -/
def execTrcStopNow (t : TractId) (s : State) : Host.Outcome State Fault Refusal :=
  if s.expertOpen Reg.TRC_STOP_NOW then done (s.trcStopNow .lantern t) else done s

/-- TRC_RESET (08 R197, R211, R217). -/
def execTrcReset (t : TractId) (s : State) : Host.Outcome State Fault Refusal := done (s.trcReset .lantern t)

/-- TRACT_RESET_COMPLETE (08 R197, 14 R364): the parcels are zeroed and the tract is EMPTY; a township that went
dark on a clock fault and is listed as failing its test stops again, and the tract returns to DARK. -/
def execTractResetComplete (t : TractId) (failed : List TownshipId) (s : State) : Host.Outcome State Fault Refusal :=
  if s.fld Reg.TRC_STATE_CODE t = 6 then
    let bad := (failed.map (·.val)).filter fun w => s.tractOf w == some t.val && s.clockFaulted w
    if bad ≠ [] then done ((bad.foldl State.stopClock s).darkTract t)
    else
      let wrote := decide (6 < (s.tract t).stage)
      let s := (s.tractParcels t).foldl State.zeroParcel s
      let s := if wrote then s.zeroRegions t else s
      let s := (s.tractTowns t).foldl (fun s w => s.setTown w { s.town w with clockFault := false }) s
      done ((s.unloadTract t).trcMove t 0)
  else done s

/-- TRC_COUNT_CLR: lag, overrun and stretch counters go to zero. -/
def State.trcCountClr (s : State) (t : Nat) : State :=
  s.setFlds t [(Reg.TRC_LAG_MAX, 0), (Reg.TRC_OVR_DROOP, 0), (Reg.TRC_OVR_REFRESH, 0), (Reg.TRC_OVR_RETRY, 0),
    (Reg.TRC_OVR_TICKS, 0), (Reg.TRC_STR_DROOP_CYC, 0), (Reg.TRC_STR_REFRESH_CYC, 0), (Reg.TRC_STR_RETRY_CYC, 0)]

/-- TRC_COUNT_CLR (08 R216). -/
def execTrcCountClr (t : TractId) (s : State) : Host.Outcome State Fault Refusal := done (s.lit (s.trcCountClr t))

end Sys2Proof.Machine
end

