-- ==== Sys2Proof/Machine/Units.lean ====
section
/-!
DEFINITION. Units on a link: their bytes, CRC, slots and packet-times (10 R236, R238, 11 R257 to R259).
-/
namespace Sys2Proof.Machine

/-! ### CRC-32 (10 R238) -/

/-- One bit of the reflected CRC-32 with polynomial 0x04C11DB7. -/
def crcBit (c : BitVec 32) : BitVec 32 := if c.getLsbD 0 then (c >>> 1) ^^^ 0xEDB88320#32 else c >>> 1

/-- One byte of the CRC. -/
def crcByte (c : BitVec 32) (b : Byte) : BitVec 32 :=
  crcBit (crcBit (crcBit (crcBit (crcBit (crcBit (crcBit (crcBit (c ^^^ b.setWidth 32))))))))

/-- The CRC-32 of a list of bytes: from all ones, inverted at the end. -/
def crc32 (bs : List Byte) : BitVec 32 := ~~~ bs.foldl crcByte 0xFFFFFFFF#32

/-- A unit's length. -/
def unitLen : Nat := 1088

/-- A unit's CRC matches. -/
def crcOk (bs : List Byte) : Bool := leNat (bs.drop 1084) == (crc32 (bs.take 1084)).toNat

/-- A unit of 1,088 bytes from its first 1,084, padded with zeros. -/
def sealUnit (bs : List Byte) : List Byte :=
  let b := bs.take 1084 ++ List.replicate (1084 - bs.length) 0
  b ++ leBytes 4 (crc32 b).toNat

/-! ### Packets (11 R257) -/

/-- A packet's header and payload as bytes. -/
def Pkt.bytes (p : Pkt) : List Byte :=
  leBytes 1 p.kind ++ leBytes 1 p.version ++ leBytes 1 (p.vc % 16 + 16 * (p.cls % 4)) ++ leBytes 1 p.flags ++
  leBytes 4 p.job ++ leBytes 8 p.epoch ++ leBytes 4 p.seq ++ leBytes 3 p.dest ++ leBytes 1 p.hops ++
  leBytes 3 p.src ++ leBytes 1 0 ++ leBytes 2 (p.dparcel % 512 + 512 * (p.tally % 64)) ++ leBytes 2 (p.slot % 2048) ++
  leBytes 4 (p.offset % 0x400000 + 0x400000 * (p.len % 1024)) ++ leBytes 4 p.tick ++ leBytes 2 (p.dslot % 2048) ++
  leBytes 2 p.credit ++ leBytes 4 p.dseq ++ leBytes 12 p.sp ++
  p.payload.take 1024 ++ List.replicate (1024 - p.payload.length) 0

/-- A field of a unit's bytes. -/
def unitField (bs : List Byte) (off n : Nat) : Nat := leNat ((bs.drop off).take n)

/-- The packet that a unit's bytes carry; `len` is the payload's length minus one. -/
def parsePkt (bs : List Byte) : Pkt :=
  let len := bitsOf (unitField bs 32 4) 22 10
  { kind := unitField bs 0 1
    version := unitField bs 1 1
    vc := bitsOf (unitField bs 2 1) 0 4
    cls := bitsOf (unitField bs 2 1) 4 2
    flags := unitField bs 3 1
    job := unitField bs 4 4
    epoch := unitField bs 8 8
    seq := unitField bs 16 4
    dest := bitsOf (unitField bs 20 3) 0 18
    hops := unitField bs 23 1
    src := bitsOf (unitField bs 24 3) 0 18
    dparcel := bitsOf (unitField bs 28 2) 0 9
    tally := bitsOf (unitField bs 28 2) 9 6
    slot := bitsOf (unitField bs 30 2) 0 11
    offset := bitsOf (unitField bs 32 4) 0 22
    len := len
    tick := unitField bs 36 4
    dslot := bitsOf (unitField bs 40 2) 0 11
    credit := bitsOf (unitField bs 42 2) 0 12
    dseq := unitField bs 44 4
    sp := unitField bs 48 12
    payload := (bs.drop 60).take (len + 1) }

/-- FLAGS bits. -/
def Pkt.isLast (p : Pkt) : Bool := bitAt p.flags 0
def Pkt.isDet (p : Pkt) : Bool := bitAt p.flags 1
def Pkt.isSampled (p : Pkt) : Bool := bitAt p.flags 2
def Pkt.isLate (p : Pkt) : Bool := bitAt p.flags 3
/-- DLINK. -/
def Pkt.dlink (p : Pkt) : Nat := bitsOf p.flags 4 3
/-- The packet with a field of FLAGS set. -/
def Pkt.setFlag (p : Pkt) (lo w v : Nat) : Pkt := { p with flags := putBits p.flags lo w v }
/-- A kind-specific field: byte offset within 48 to 59, and bytes. -/
def Pkt.spec (p : Pkt) (off n : Nat) : Nat := bitsOf p.sp (8 * off) (8 * n)

/-- A control unit's bytes: kind, version, credits, fields from byte 8 (10 R251, 11 R275). -/
def ctlUnit (c : Ctl) (version credit : Nat) : List Byte :=
  if c.kind = 0 then
    leBytes 1 0 ++ leBytes 1 version ++ List.replicate 40 0 ++ leBytes 2 credit
  else leBytes 1 c.kind ++ leBytes 1 version ++ List.replicate 6 0 ++ (if c.args = [] then [] else Config.ctlBytes c.kind c.args)

/-! ### Slots and packet-times (10 R236, 11 R258, R259) -/

/-- A slot's key in the cadastre tables of a link's direction. -/
def cadKey (k : Nat) (tx : Bool) (slot : Nat) : Nat := (2 * k + b2n tx) * 2048 + slot % 2048

/-- The alternate slot of a slot. -/
def State.altOf (s : State) (k : Nat) (tx : Bool) (slot : Nat) : Option Nat :=
  let a := tabGet 0 s.altMap (cadKey k tx slot)
  if a = 0 then none else some (a - 1)

/-- A slot has a packet-time on the direction as it runs now. -/
def State.slotOpen (s : State) (k : Nat) (tx : Bool) (slot : Nat) : Bool :=
  decide (slot < 1280) && (!s.twelve k tx || (s.altOf k tx slot).isSome)

/-- The slot of arrival of a packet-time, in the 16-lane numbering; none for a slack unit. In 12-lane operation an
alternate slot to which no slot maps is a slack unit. -/
def State.slotAt (s : State) (k : Nat) (tx : Bool) (pt : Nat) : Option Nat :=
  if s.twelve k tx then
    match ptAlt pt with
    | some a => (List.range 1280).find? fun slot => s.altOf k tx slot == some a
    | none => none
  else ptSlot pt

/-- The nominal start of a packet-time in ns: 1.36 ns each from the tick boundary. -/
def ptNs (tick pt : Nat) : Nat := tick * 2048 + pt * 136 / 100

/-- The start of a slot in a tick. -/
def slotNs (tick slot : Nat) : Nat := ptNs tick (slotPt slot)

/-- The end of the last packet-time of a tick: 1,505 units of 1.36 ns. -/
def ptEnd (tick : Nat) : Nat := tick * 2048 + 2047

/-- The start of a slot of a direction in a tick, as it runs now: 1.36 ns packet-times with 16 lanes, 4/3 of that with
12. A slot without a packet-time is placed as with 16. -/
def State.slotStart (s : State) (k : Nat) (tx : Bool) (tick slot : Nat) : Nat :=
  match (if s.twelve k tx then s.altOf k tx slot else none) with
  | some a => tick * 2048 + altPt a * 544 / 300
  | none => slotNs tick slot

/-- The first occurrence of a slot at or after a time: its start. -/
def State.slotFrom (s : State) (k : Nat) (tx : Bool) (t slot : Nat) : Nat :=
  let a := s.slotStart k tx (t / 2048) slot
  if t ≤ a then a else s.slotStart k tx (t / 2048 + 1) slot

/-- The start of the latest occurrence of a slot received on link k whose unit could have come by now. -/
def State.slotBy (s : State) (k slot : Nat) : Nat :=
  let t := s.datum - s.fld Reg.LNK_FLIGHT_NS k
  let a := s.slotStart k false (t / 2048) slot
  if a ≤ t then a else s.slotStart k false (t / 2048 - 1) slot

/-- The number of a packet received on link k with a sequence number, among those of every link. -/
def pktNum (k seq : Nat) : Nat := 8 * seq + k

/-- A 32-bit sequence number unfolded to the one nearest a reference. -/
def unfoldSeq (ref x : Nat) : Nat :=
  let d := (x + 2 ^ 32 - ref % 2 ^ 32) % 2 ^ 32
  if d < 2 ^ 31 ∨ ref + d < 2 ^ 32 then ref + d else ref + d - 2 ^ 32

end Sys2Proof.Machine
end

