-- ==== Sys2Proof/Machine/Fabric.lean ====
section
/-!
DEFINITION. Owned slots: cadastre entries, owners, the checks of a packet, what links send in slots and slack units
(10 R248, R250, 11 R260 to R268, R275).
-/
namespace Sys2Proof.Machine

/-! ### Cadastre and owners (11 R260, R261, R270, R273) -/

/-- An entry's fields. -/
def cadKind (e : Nat) : Nat := bitsOf e 0 2
def cadOwnerIdx (e : Nat) : Nat := bitsOf e 2 4
def cadVc (e : Nat) : Nat := bitsOf e 6 4
def cadCls (e : Nat) : Nat := bitsOf e 10 2
def cadAction (e : Nat) : Nat := bitsOf e 12 3
def cadOnward (e : Nat) : Nat := bitsOf e 15 11

/-- An owner-table entry. -/
def State.owner (s : State) (k i : Nat) : Owner := tabGet {} s.owners (k * 16 + i % 16)

/-- The entry in force of a slot: what a load installs is in force from the next tick (08 R194). -/
def State.cadAt (s : State) (k : Nat) (tx : Bool) (slot : Nat) : Nat :=
  let h := tabGet 0 s.cadOwner (cadKey k tx slot)
  if h ≠ 0 ∧ s.tickNow < (s.owner k (h - 1)).inForce then 0 else (tabGet 0 s.cad (cadKey k tx slot)).toNat

/-- Replace an owner-table entry. -/
def State.setOwner (s : State) (k i : Nat) (x : Owner) : State := { s with owners := tabPut {} s.owners (k * 16 + i % 16) x }

/-- Owner-table states (11 R273). -/
def ownFree : Nat := 0
def ownPending : Nat := 1
def ownOwned : Nat := 2
def ownDraining : Nat := 3
def ownStoneSent : Nat := 4
def ownConfirmed : Nat := 5
def ownStuck : Nat := 6

/-- An easement grant. -/
def State.grantRec (s : State) (k g : Nat) : Grant := tabGet {} s.grants (k * 16 + g % 16)

/-- The owner-table index granted a group now; none without a grant. A write takes effect at its tick (R270). -/
def State.grantNow (s : State) (k g : Nat) : Option Nat :=
  let x := s.grantRec k g
  if x.tick ≤ s.tickNow then (if x.newValid then some x.newOwner else none) else (if x.valid then some x.owner else none)

/-- The owner of an entry: by index, or through its easement's grant. -/
def State.entryOwner (s : State) (k e : Nat) : Option Owner :=
  if cadKind e = 0 then none
  else if cadKind e = 2 then (s.grantNow k (cadOwnerIdx e)).map (s.owner k)
  else some (s.owner k (cadOwnerIdx e))

/-- The owner that waits for a slot (R274). -/
def State.waitingOwner (s : State) (k : Nat) (tx : Bool) (slot : Nat) : Option Owner :=
  let e := (tabGet 0 s.cadPend (cadKey k tx slot)).toNat
  if e = 0 then none else s.entryOwner k e

/-- The tract of this module that holds a job. -/
def State.tractOfJob (s : State) (job epoch : Nat) : Option Nat :=
  (List.range 8).find? fun t =>
    let x := s.tract t
    s.bit Reg.TRC_CONFIGURED t && x.landing != [] && x.job == job && x.epoch == epoch

/-- The parcel that a fold parcel of a job's tract lands on (08 R188). -/
def State.landed (s : State) (job epoch fold : Nat) : Option (Nat × Nat) :=
  match s.tractOfJob job epoch with
  | none => none
  | some t => ((s.tract t).landing[fold]?).map fun p => (t, p)

/-- The checks of R262 on a packet against a slot's entry on link k: the first that fails, and its status. `arr` is the
slot of arrival of a packet sent on time. The sender makes them against its copy, its DEST test against the far
module, without the test of DPARCEL. -/
def State.checkPkt (s : State) (k : Nat) (tx : Bool) (p : Pkt) (slot : Nat) (arr : Option Nat) : Option (Nat × Nat) :=
  let e := s.cadAt k tx slot
  let here := if tx then Config.neighbour s.coord k % 2 ^ 18 else s.coord
  if arr.isSome && arr != some p.slot then some (1, 0x30)
  else
    match s.entryOwner k e with
    | none => some (2, 0x30)
    | some o =>
      if p.job ≠ o.job then
        match s.waitingOwner k tx slot with
        | some w => if w.job = p.job ∧ w.epoch = p.epoch then some (3, 0x31) else some (4, 0x30)
        | none => some (4, 0x30)
      else if p.epoch ≠ o.epoch ∨ (s.fld Reg.LNK_VERSION k = 1 ∧ 2 ^ 32 ≤ p.epoch) then some (5, 0x31)
      else if (cadKind e ≠ 3 ∧ p.vc ≠ cadVc e) ∨ p.cls ≠ cadCls e then some (6, 0x30)
      else if cadAction e = 0 ∧ (p.dest ≠ here ∨ (tx = false ∧ s.landed p.job p.epoch p.dparcel = none)) then some (7, 0x30)
      else none

/-- Count and record a refused packet (R262, R286). -/
def State.violation (s : State) (k : Nat) (tx : Bool) (p : Pkt) (slot check status : Nat) : State :=
  let s := s.setFlds k [(Reg.LNK_VIOL_STATUS, status), (Reg.LNK_VIOL_SLOT, slot), (Reg.LNK_VIOL_CHECK, check),
    (Reg.LNK_VIOL_TX, b2n tx), (Reg.LNK_VIOL_LATE, b2n p.isLate), (Reg.LNK_VIOL_JOB, p.job),
    (Reg.LNK_VIOL_EPOCH, p.epoch), (Reg.LNK_VIOL_TICK, s.tickNow)]
  if status = 0x30 then (s.count Reg.LNK_VIOL_COUNT k 1).raise Reg.LNK_EVT_VIOL k
  else (s.count Reg.LNK_EPOCH_COUNT k 1).raise Reg.LNK_EVT_EPOCH k

/-! ### Late packets and detours (11 R265 to R268) -/

/-- The direction's detour queue shows in its register. -/
def State.setDetQ (s : State) (k : Nat) (q : List Pkt) : State :=
  (s.setLink k { s.link k with detQ := q }).setFld Reg.LNK_DET_QUEUE k q.length

/-- The link of the neighbour at the other end of link k: XP meets XN, and so on. -/
def farLink (k : Nat) : Nat := if k % 2 = 0 then k + 1 else k - 1

/-- A packet bound for a detouring direction enters its detour queue (R267). -/
def State.intoDetour (s : State) (k : Nat) (p : Pkt) (slot seq : Nat) : State :=
  let q := (s.link k).detQ
  if 2048 ≤ q.length then (s.count Reg.LNK_DET_DROP k 1).raise Reg.LNK_EVT_LATE_DROP k
  else
    let p := (p.setFlag 1 1 1).setFlag 4 3 (farLink k)
    s.setDetQ k (q ++ [{ p with dslot := slot, dseq := seq % 2 ^ 32 }])

/-- A packet that its direction would have sent in a slot enters the direction's detour queue, with the SEQ it would have used
(R267). -/
def State.divert (s : State) (k : Nat) (p : Pkt) (slot : Nat) : State :=
  let x := s.link k
  (s.setLink k { x with nextSeq := x.nextSeq + 1 }).intoDetour k p slot x.nextSeq

/-- The detour that a packet's owner names for a direction: first link and slots (R266). -/
def State.detourOf (s : State) (k : Nat) (p : Pkt) : Option (Nat × List Nat) :=
  match (List.range 16).find? fun i => (s.owner k i).state != ownFree && (s.owner k i).job == p.job && (s.owner k i).epoch == p.epoch with
  | some i => if (s.owner k i).detLink ≤ 5 then some ((s.owner k i).detLink, (s.owner k i).detSlots) else none
  | none => none

/-- Some owner of link k names a detour for the direction sent. -/
def State.hasDetour (s : State) (k : Nat) : Bool := (List.range 16).any fun i => decide ((s.owner k i).detLink ≤ 5)

/-- A packet bound for a failed direction around which its owner names no detour is discarded and counted (R277; DESIGN CHOICE, log
entry 95). -/
def State.dropLate (s : State) (k : Nat) : State := (s.count Reg.LNK_LATE_DROP k 1).raise Reg.LNK_EVT_LATE_DROP k

/-- A packet becomes late; a full pool discards it. One bound for a detouring direction enters its detour queue; one bound for a
failed direction that has no detour for it goes no further. -/
def State.makeLate (s : State) (h : Held) : State :=
  if s.bit Reg.LNK_DET_ACTIVE h.link && (s.detourOf h.link h.pkt).isSome then s.divert h.link h.pkt h.slot
  else if s.fld Reg.LNK_TX_STATE h.link = lkFailed ∧ (s.link h.link).detFrom = none then s.dropLate h.link
  else if 512 ≤ s.late.countP fun x => x.inLink == h.inLink then
    let k := if h.inLink < 6 then h.inLink else h.link
    (s.count Reg.LNK_LATE_DROP k 1).raise Reg.LNK_EVT_LATE_DROP k
  else { s with late := s.late ++ [{ h with pkt := h.pkt.setFlag 3 1 1 }] }

/-- Forwards that have missed their onward slot are late. -/
def State.missed (s : State) (k : Nat) : State :=
  let isMissed (h : Held) : Bool := h.link == k && decide (h.due + 2 < s.datum)
  let ms := s.held.filter isMissed
  if ms = [] then s
  else ms.foldl State.makeLate { s with held := s.held.filter fun h => !isMissed h }

/-! ### Sending (10 R248, 11 R257, R264, R275) -/

/-- The entries freed on the lantern channels and not yet returned, as a CREDIT field; they are returned now. -/
def State.takeCredit (s : State) (k : Nat) : Nat × State :=
  let x := s.link k
  let c (vc : Nat) : Nat := min 15 (tabGet 0 x.freed vc)
  let f := [6, 7, 8].foldl (fun f vc => tabPut 0 f vc (tabGet 0 f vc - c vc)) x.freed
  (c 6 + 16 * c 7 + 256 * c 8, s.setLink k { x with freed := f })

/-- A replay buffer that is full fails the direction (10 R248). -/
def State.bufFull (s : State) (k : Nat) : Bool := decide (8192 ≤ (s.link k).replayBuf.length)

/-- Put a packet's unit on link k. -/
def State.emit (s : State) (k : Nat) (p : Pkt) : State :=
  let c := s.takeCredit k
  let p := { p with version := s.fld Reg.LNK_VERSION k, credit := c.1 }
  c.2.putUnit k (sealUnit p.bytes)

/-- Put a control unit or an idle unit on link k. A control unit's fields leave no room for credits; an idle unit returns them
(11 R275). -/
def State.emitCtl (s : State) (k : Nat) (c : Ctl) : State :=
  let r := if c.kind = 0 then s.takeCredit k else (0, s)
  r.2.putUnit k (sealUnit (ctlUnit c (s.fld Reg.LNK_VERSION k) r.1))

/-- Send a packet on link k in a slot for the first time: SEQ, SLOT and HOPS rewritten, a copy kept for replay. The packet that fills
the replay buffer fails the direction. -/
def State.transmit (s : State) (k : Nat) (p : Pkt) (slot : Nat) : State :=
  let x := s.link k
  let p := { p with seq := x.nextSeq % 2 ^ 32, slot := slot, hops := min 255 (p.hops + 1) }
  let s := s.setLink k { x with nextSeq := x.nextSeq + 1, replayBuf := x.replayBuf ++ [(s.datum, { p with seq := x.nextSeq })] }
  let s := s.emit k p
  if s.bufFull k then s.setTx k lkFailed else s

/-- Send a packet on time or late after the sender's checks; a failing one is discarded, counted and recorded, and its unit is idle. -/
def State.sendChecked (s : State) (k : Nat) (p : Pkt) (slot : Nat) (late : Bool) : State :=
  let p := if s.fld Reg.LNK_VERSION k = 1 then p.setFlag 2 1 0 else p
  let p := (p.setFlag 3 1 (b2n late))
  match s.checkPkt k true p slot none with
  | some (c, st) => (s.violation k true p slot c st).emitCtl k {}
  | none => s.transmit k p slot

/-- The packet an exchange engine has for a slot of link k: the oldest whose route gives the slot, whose instruction
has no earlier one waiting, ready 103 cycles before (04 R100). -/
def State.sourced (s : State) (k slot tick start : Nat) : Option TxPkt :=
  let first (x : TxPkt) : Bool :=
    match s.txq.find? fun y => y.parcel == x.parcel && y.seq == x.seq with
    | some y => y == x
    | none => false
  s.txq.find? fun x =>
    x.link == k && x.slots.contains slot && (decide (x.tick < tick) || (x.tick == tick && decide (x.slot ≤ slot))) &&
      decide (x.ready + 103 ≤ start) && first x

/-- A queued packet may leave in a slot of link k: the slot is one of its owner's detour, or it has no owner there and the slot is of
any detour. -/
def State.detourFits (s : State) (j k slot : Nat) (p : Pkt) : Bool :=
  match s.detourOf j p with
  | some d => d.1 == k && d.2.contains slot
  | none => (List.range 16).any fun i => (s.owner j i).detLink == k && (s.owner j i).detSlots.contains slot

/-- The detouring direction of which a packet may leave in a slot of link k. -/
def State.detourOn (s : State) (k slot : Nat) : Option Nat :=
  (List.range 6).find? fun j => s.bit Reg.LNK_DET_ACTIVE j && (s.link j).detQ.any (s.detourFits j k slot)

/-- The oldest packet of a detour queue that may leaves in a detour slot; an emptied queue lets a recovered direction take over at
the next tick boundary (11 R267). -/
def State.sendDetour (s : State) (k slot j : Nat) : State :=
  match (s.link j).detQ.find? (s.detourFits j k slot) with
  | none => s
  | some p =>
    let rest := (s.link j).detQ.erase p
    let s := (s.setDetQ j rest).count Reg.LNK_DET_SENT j 1
    let s := if rest = [] ∧ (s.link j).detTo.isSome = true then
        s.setLink j { s.link j with detTo := some (s.tickNow + 1) } else s
    s.sendChecked k p slot false

/-- A slot of link k that belongs to a job whose tract here is dark (14 R348). -/
def State.slotSilent (s : State) (k slot : Nat) : Bool :=
  match s.entryOwner k (s.cadAt k true slot) with
  | some o => match s.tractOfJob o.job o.epoch with
    | some t => s.fld Reg.TRC_STATE_CODE t == 7
    | none => false
  | none => false

/-- The packet to send in a slot: from a forward, or from an exchange engine, with the rest of the state. The slots of a job whose
tract here is dark are silent (14 R348; DEDUCED, log entry 111: its packets stay, and a forward misses its slot). -/
def State.slotPkt (s : State) (k slot start : Nat) : Option (Pkt × State) :=
  if s.slotSilent k slot then none else
  match s.held.find? fun h => h.link == k && h.slot == slot && decide (h.due ≤ start + 2) with
  | some h => some (h.pkt, { s with held := s.held.erase h })
  | none =>
    match s.sourced k slot s.tickNow start with
    | some x => some ({ x.pkt with tick := s.tickNow % 2 ^ 32 }, { s with txq := s.txq.erase x })
    | none => none

/-- SLOT_SEND (11 R258, R264): link l's transmitter reaches slot `slot` at datum t. A forward whose slot it is goes
first; a detouring direction sends its queue in its detour slots, and its own traffic into the queue; a slot without
a packet-time in 12-lane operation makes its packet late (R259); a unit without a packet is idle (10 R236). -/
def execSlotSend (l : LinkId) (slot t : Nat) (s : State) : Host.Outcome State Fault Refusal :=
  let s := ((s.at t).settle l).missed l
  let start := s.slotStart l true s.tickNow slot
  if 1280 ≤ slot ∨ t < start ∨ start + 3 < t then done s
  else if s.bit Reg.LNK_DET_ACTIVE l then
    match s.slotPkt l slot start with
    | some (p, s) => done (if (s.detourOf l p).isSome then s.divert l p slot else s.dropLate l)
    | none => done s
  else if !lkCarries (s.fld Reg.LNK_TX_STATE l) then done s
  else if !s.slotOpen l true slot then
    match s.slotPkt l slot start with
    | some (p, s) => done (s.makeLate { pkt := p, link := l, slot := slot, due := t, origTick := s.tickNow })
    | none => done s
  else
    match s.detourOn l slot with
    | some j => done (s.sendDetour l slot j)
    | none =>
      match s.slotPkt l slot start with
      | some (p, s) => done (s.sendChecked l p slot false)
      | none => done (s.emitCtl l {})

/-! ### Slack units (10 R250) -/

/-- An ACK is due: waiting for another slack unit would take more than 512 packet-times since the last (10 R248). Before a packet has
come with all earlier ones there is no number to name (DEDUCED, log entry 103). -/
def State.ackDue (s : State) (k : Nat) : Bool :=
  lkCarries (s.fld Reg.LNK_RX_STATE k) && decide (0 < (s.link k).rxNext) && decide ((s.link k).ackAt + 686 ≤ s.datum)

/-- A fill unit of the direction sent, as it runs now, begins at datum t: the unit after a tick's last packet-time (10 R236). -/
def State.fillAt (s : State) (k t : Nat) : Bool :=
  lkCarries (s.fld Reg.LNK_TX_STATE k) && decide (t % 2048 = if s.twelve k true then 2047 else 2046)

/-- A fill unit on link k: the first word on each logical lane is its alignment marker, of its physical and logical lane and the low 16
bits of the codeword index; the rest is zero (10 R236; DESIGN CHOICE, log entry 102). -/
def State.emitFill (s : State) (k : Nat) : State :=
  let x := s.link k
  let n := s.lanesNow k true
  let mark (w : Nat) : List Byte :=
    let i := (x.txStream.length / 4 + w) % n
    let m := Config.markerWord ((s.laneWith k true i).getD 31) i (x.txWords % 2 ^ 16)
    leBytes 4 m.toNat
  s.putUnit k ((List.range n).flatMap mark ++ List.replicate (unitLen - 4 * n) 0)

/-- The oldest replay waiting: when its packet was first sent, and the packet. -/
def State.oldestReplay (s : State) (k : Nat) : Option (Nat × Pkt) :=
  let x := s.link k
  x.replayBuf.find? fun e => x.replayQ.contains e.2.seq

/-- Resend a packet in a slack unit; the attempt is counted against it. -/
def State.sendReplay (s : State) (k : Nat) (p : Pkt) : State :=
  let x := s.link k
  let n := match x.fails.find? fun e => e.1 == p.seq with
    | some e => e.2
    | none => 0
  let fails := (x.fails.filter fun e => e.1 != p.seq) ++ [(p.seq, n + 1)]
  let s := s.setLink k { x with replayQ := x.replayQ.filter (· != p.seq), fails := fails }
  (s.count Reg.LNK_REPLAYS k 1).emit k { p.setFlag 3 1 1 with seq := p.seq % 2 ^ 32 }

/-- Send a late packet, counted where the sender's checks let it go. -/
def State.sendLate (s : State) (k : Nat) (h : Held) : State :=
  let s := { s with late := s.late.erase h }
  let s := if (s.checkPkt k true h.pkt h.slot none).isNone then s.count Reg.LNK_LATE_FWD k 1 else s
  s.sendChecked k h.pkt h.slot true

/-- A datum unit takes its stamp as it leaves: t1 of a first unit, t3 of a reply (09 R228, 10 R251). -/
def stampDatum (c : Ctl) (stamp : Nat) : Ctl :=
  match c.args with
  | [0, b, d, e] => { c with args := [stamp, b, d, e] }
  | [a, b, 0, e] => if e = 0 then { c with args := [a, b, stamp, e] } else c
  | _ => c

/-- Management units that this tick still allows. -/
def State.mgmtLeft (s : State) (k : Nat) : Nat :=
  let x := s.link k
  let used := if x.mgmtTick = s.tickNow then x.mgmtUsed else 0
  s.ctl Reg.LNK_MGMT_UNITS k - used

/-- The first lantern-class packet whose channel has a credit (11 R275). -/
def State.mgmtNext (s : State) (k : Nat) : Option Pkt :=
  let x := s.link k
  if s.mgmtLeft k = 0 then none else x.mgmtQ.find? fun p => decide (tabGet 0 x.spent p.vc < 8)

/-- Send a lantern-class packet: it spends a credit and a management unit, is marked as sent in a slack unit, and leaves its source
now (R257). An epoch beyond 32 bits cannot cross a version-1 link: the packet is discarded, counted and recorded (R284). -/
def State.sendMgmtPkt (s : State) (k : Nat) (p : Pkt) : State :=
  let x := s.link k
  let sent := { p.setFlag 3 1 1 with tick := s.tickNow % 2 ^ 32 }
  if s.fld Reg.LNK_VERSION k = 1 ∧ 2 ^ 32 ≤ p.epoch then
    (s.setLink k { x with mgmtQ := x.mgmtQ.erase p }).violation k true sent 0 0 0x31
  else
  let used := if x.mgmtTick = s.tickNow then x.mgmtUsed else 0
  let s := s.setLink k { x with
    mgmtQ := x.mgmtQ.erase p
    mgmtTick := s.tickNow
    mgmtUsed := used + 1
    spent := tabPut 0 x.spent p.vc (tabGet 0 x.spent p.vc + 1) }
  s.transmit k sent 0

/-- SLACK_UNIT_SEND (10 R250): a slack unit of link l, a packet-time that holds no slot and begins at datum t (11 R258), goes to its
users in order: control units, of which an ACK that is due leads; replays and late packets, oldest first; datum exchanges; management
traffic; idle. The unit after a tick's last packet-time is a fill unit (R236). A dark direction sends DARK units only (R252), and
one that waits for its twelve-lane start control units only. -/
def execSlackUnitSend (l : LinkId) (t : Nat) (s : State) : Host.Outcome State Fault Refusal :=
  let s := ((s.at t).settle l).missed l
  let st := s.fld Reg.LNK_TX_STATE l
  if st = lkDark then done (s.emitCtl l { kind := 0x30 })
  else if s.fillAt l t then done (s.emitFill l)
  else if (!lkCarries st && !(s.link l).txWait) || !s.slackAt l true t then done s
  else
    let x := s.link l
    if lkCarries st && s.ackDue l then
      done ((s.setLink l { x with ackAt := s.datum }).emitCtl l { kind := 0x01, args := [(x.rxNext + 2 ^ 32 - 1) % 2 ^ 32] })
    else
    match x.ctlQ with
    | c :: rest => done ((s.setLink l { x with ctlQ := rest }).emitCtl l c)
    | [] =>
      if !lkCarries st then done s
      else
        let lateHead := s.late.find? fun h => h.link == l.val
        match s.oldestReplay l, lateHead with
        | some r, some h => done (if h.due < r.1 then s.sendLate l h else s.sendReplay l r.2)
        | some r, none => done (s.sendReplay l r.2)
        | none, some h => done (s.sendLate l h)
        | none, none =>
          match x.datumQ with
          | c :: rest => done ((s.setLink l { x with datumQ := rest }).emitCtl l (stampDatum c s.stampNow))
          | [] =>
            match s.mgmtNext l with
            | some p => done (s.sendMgmtPkt l p)
            | none => done (s.emitCtl l {})

/-! ### ACK and NAK (10 R248) -/

/-- A cumulative ACK: packets up to the number are freed from the replay buffer. A number not sent yet covers none. -/
def State.ackUpTo (s : State) (k seq : Nat) : State :=
  let x := s.link k
  let n := unfoldSeq x.nextSeq (seq % 2 ^ 32)
  if x.nextSeq ≤ n then s
  else s.setLink k { x with
    replayBuf := x.replayBuf.filter fun e => decide (n < e.2.seq)
    replayQ := x.replayQ.filter fun q => decide (n < q)
    fails := x.fails.filter fun e => decide (n < e.1) }

/-- ACK (10 R248): an ACK control unit received on link l. -/
def execAck (l : LinkId) (seq : Nat) (s : State) : Host.Outcome State Fault Refusal :=
  done (s.ackUpTo l seq)

/-- One number of a NAK: the packet waits for replay, or its fourth failed replay fails the direction. -/
def State.nakOne (s : State) (k seq : Nat) : State :=
  let x := s.link k
  let n := unfoldSeq x.nextSeq (seq % 2 ^ 32)
  if x.replayBuf.any fun e => e.2.seq == n then
    let tried := match x.fails.find? fun e => e.1 == n with
      | some e => e.2
      | none => 0
    if 4 ≤ tried then s.setTx k lkFailed
    else if x.replayQ.contains n then s
    else s.setLink k { x with replayQ := x.replayQ ++ [n] }
  else s

/-- NAK (10 R248): a NAK control unit received on link l names up to 64 packets. -/
def execNak (l : LinkId) (seqs : List Nat) (s : State) : Host.Outcome State Fault Refusal :=
  done ((seqs.take 64).foldl (fun s q => s.nakOne l q) s)

/-! ### Detour start and end (11 R267) -/

/-- DETOUR_START (11 R267): at a tick boundary after link l's direction failed its detour begins, with every packet
unacknowledged in the replay buffer and every late packet bound for it. Around a direction for which no plat names a detour nothing
goes: what is late for it is discarded. -/
def execDetourStart (l : LinkId) (t : Nat) (s : State) : Host.Outcome State Fault Refusal :=
  let s := s.at t
  let x := s.link l
  match x.detFrom with
  | none => done s
  | some n =>
    let st := s.fld Reg.LNK_TX_STATE l
    if s.tickNow < n ∨ (st ≠ lkFailed ∧ st ≠ lkTraining) then done s
    else
      let late := s.late.filter fun h => h.link == l.val
      let s := { s with late := s.late.filter fun h => h.link != l.val }
      if !s.hasDetour l then done (late.foldl (fun s _ => s.dropLate l) (s.setLink l { x with detFrom := none })) else
      let s := s.setLink l { x with detFrom := none, replayBuf := [], replayQ := [], fails := [] }
      let s := x.replayBuf.foldl (fun s e => s.intoDetour l e.2 e.2.slot e.2.seq) s
      let s := late.foldl (fun s h => if (s.detourOf l h.pkt).isSome then s.divert l h.pkt h.slot else s.dropLate l) s
      done ((s.setFld Reg.LNK_DET_ACTIVE l 1).raise Reg.LNK_EVT_DETOUR l)

/-- DETOUR_END (11 R267): the direction is up again and its queue empty: from a tick boundary on it is used
directly. -/
def execDetourEnd (l : LinkId) (t : Nat) (s : State) : Host.Outcome State Fault Refusal :=
  let s := s.at t
  let x := s.link l
  match x.detTo with
  | none => done s
  | some n =>
    if s.tickNow < n ∨ x.detQ ≠ [] ∨ lkCarries (s.fld Reg.LNK_TX_STATE l) = false then done s
    else
      let s := s.setLink l { x with detTo := none, detFrom := none }
      done (if s.bit Reg.LNK_DET_ACTIVE l then (s.setFld Reg.LNK_DET_ACTIVE l 0).raise Reg.LNK_EVT_DETOUR l else s)

end Sys2Proof.Machine
end

