-- ==== Sys2Proof/Machine/MemCtl.lean ====
section
/-!
DEFINITION. The tier controllers: calendar positions, deliveries, refresh, scrubbing, error records,
retirement, training and injection (07 R159 to R180, R428).
-/
namespace Sys2Proof.Machine

/-- Controller states (07 R179). -/
def xxOff : Nat := 0
def xxTraining : Nat := 1
def xxReady : Nat := 2
def xxSelfRefresh : Nat := 3
def xxRetiring : Nat := 4
def xxFailed : Nat := 5

/-- Move a controller to a state, with EVT_STATE when it changes. -/
def State.setXx (s : State) (c st : Nat) : State :=
  if s.fld Reg.XX_STATE_CODE c = st then s else (s.setFld Reg.XX_STATE_CODE c st).raise Reg.XX_EVT_STATE c

/-! ### Error records (07 R171, R179) -/

/-- The load signature: lines served in the preceding tick, halved for HBM, saturating. -/
def State.loadSignature (s : State) (c : Nat) : Nat :=
  let x := s.tctl c
  let n := if x.tick = s.tickNow then x.servedPrev else if x.tick + 1 = s.tickNow then x.served else 0
  min (if c < 8 then n / 2 else n) 65535

/-- Count one line served. -/
def State.countServed (s : State) (c : Nat) : State :=
  let x := s.tctl c
  let t := s.tickNow
  s.setTctl c (if x.tick = t then { x with served := x.served + 1 }
    else { x with tick := t, servedPrev := if x.tick + 1 = t then x.served else 0, served := 1 })

/-- The error record of a line: class 1 corrected, 2 uncorrectable (07 R171, R179). -/
def State.tierError (s : State) (c line entry : Nat) (uncor scrub : Bool) : State :=
  let s := s.setFlds c [(Reg.XX_ERR_LINE, line), (Reg.XX_ERR_VALID, 1), (Reg.XX_ERR_SCRUB, b2n scrub),
    (Reg.XX_ERR_LANE, s.laneOf line), (Reg.XX_ERR_BANK, s.tierBank line), (Reg.XX_ERR_ROW, s.tierRow line),
    (Reg.XX_ERR_CLASS, if uncor then 2 else 1), (Reg.XX_ERR_TEMP, s.fld Reg.XX_TEMP c),
    (Reg.XX_ERR_LOAD, s.loadSignature c), (Reg.XX_ERR_KIND, calKind entry), (Reg.XX_ERR_OWNER, calOwner entry),
    (Reg.XX_ERR_TICK_NUM, s.tickNow)]
  let s := if uncor then (s.count Reg.XX_UE_COUNT c 1).raise Reg.XX_EVT_UE c
    else (s.count Reg.XX_CE_COUNT c 1).raise Reg.XX_EVT_CE c
  s.noteMemError (0x200 + c) uncor line (s.fld Reg.XX_ERR_LOAD c) 0

/-- How a line reads (07 R170, R179, R428): whether it is uncorrectable, and the state after error records
and consumed injections. The uncorrectable injection goes first. -/
def State.readTierLine (s : State) (c line entry : Nat) (scrub : Bool) : Bool × State :=
  let x := s.tctl c
  let s := s.countServed c
  if s.fld Reg.XX_STATE_CODE c = xxFailed then (true, s.tierError c line entry true scrub)
  else if x.armUe then
    (true, (s.setTctl c { s.tctl c with armUe := false }).tierError c line entry true scrub)
  else if x.armCe then
    let s := s.setTctl c { s.tctl c with armCe := false }
    let bad := s.lineBad line 64
    (bad, s.tierError c line entry bad scrub)
  else if s.lineBad line 64 then (true, s.tierError c line entry true scrub)
  else if s.correc.any (fun kv => kv.1 / 8 == line / 64) then (false, s.tierError c line entry false scrub)
  else (false, s)

/-! ### Calendar positions (07 R159) -/

/-- The instruction in flight on the move engine with a number. -/
def State.moveIdx (s : State) (p seq : Nat) : Option Nat :=
  (s.eng p 2).flight.findIdx? fun f => f.entry.seq == seq

/-- Mark a move in flight as failing with UNCORRECTABLE_MEMORY. -/
def State.failMove (s : State) (p seq : Nat) : State :=
  match s.moveIdx p seq with
  | some i =>
    match (s.eng p 2).flight[i]? with
    | some f => s.setFlight p 2 i { f with status := tierBadStatus }
    | none => s
  | none => s

/-- The line a request is for lies on a lane of a controller. -/
def State.onLane (s : State) (c lane line : Nat) : Bool := s.ctrlOf line == c && s.laneOf line == lane

/-- Nominal cycles from a position to the owner's next position of the same entry on the lane with the
bank ready, over at most two ticks (07 R164). -/
def State.deferCycles (s : State) (c lane line pos entry : Nat) : Nat :=
  let n := positionsOf c
  let ok (i : Nat) : Bool := s.calEntry c lane (i % n) == entry && !s.refreshBusy c line (i % n)
  match ((List.range (2 * n)).map fun i => pos + 1 + i).find? ok with
  | some i => i / n * 2048 + positionCycle c (i % n) - positionCycle c pos
  | none => 0

/-- Count a deferral by an unplanned refresh window (07 R164). -/
def State.refreshOverrun (s : State) (c lane line pos entry : Nat) : State :=
  ((s.count Reg.XX_STR_LINES c 1).count Reg.XX_STR_CYCLES c (s.deferCycles c lane line pos entry)).raise Reg.XX_EVT_REFRESH_OVR c

/-- The reads pending on a lane. -/
def State.pendingReads (s : State) (c lane : Nat) : List TierRead :=
  s.tierReads.filter fun r => r.data == none && !r.bad && s.onLane c lane r.line

/-- The writes pending on a lane. -/
def State.pendingWrites (s : State) (c lane : Nat) : List TierWrite :=
  s.tierWrites.filter fun w => !w.accepted && s.onLane c lane w.line

/-- The oldest of a list of requests, by order. -/
def oldestReq : List (Nat × Nat) → Option (Nat × Nat)
  | [] => none
  | x :: t => match oldestReq t with
    | some y => if y.1 < x.1 then some y else some x
    | none => some x

/-- The row open in the bank of a line (07 R159, R165): that of the bank's oldest pending request. DESIGN CHOICE (log entry 88):
opening and closing take no time that the model shows, and a row stays open until the older requests are served. -/
def State.openRow (s : State) (c lane line : Nat) : Option Nat :=
  let l := (s.pendingReads c lane).map (fun r => (r.ord, r.line)) ++ (s.pendingWrites c lane).map fun w => (w.ord, w.line)
  (oldestReq (l.filter fun x => s.fullBank x.2 == s.fullBank line)).map fun x => s.tierRow x.2

/-- The bank of a line is ready but for refresh: its row is open. -/
def State.rowOpen (s : State) (c lane line : Nat) : Bool :=
  match s.openRow c lane line with
  | some r => r == s.tierRow line
  | none => true

/-- The bank of a line is ready at a position (07 R159): its row is open and no refresh window covers it. -/
def State.bankReady (s : State) (c lane line pos : Nat) : Bool := s.rowOpen c lane line && !s.refreshBusy c line pos

/-- The request that a position would serve but for an unplanned refresh window, where such a window defers it (07 R164). -/
def State.deferredReq (s : State) (c lane pos : Nat) (l : List (Nat × Nat)) : Option (Nat × Nat) :=
  match oldestReq (l.filter fun x => s.rowOpen c lane x.2 && (!s.refreshBusy c x.2 pos || s.refreshUnplanned c x.2 pos)) with
  | some x => if s.refreshUnplanned c x.2 pos then some x else none
  | none => none

/-- A parcel's request is deferred by an unplanned window: it is counted, once, and the parcel's township freezes until the line,
known by its order, is written or accepted (07 R164, 08 R201). -/
def State.deferReq (s : State) (c lane p pos entry : Nat) (x : Nat × Nat) : State :=
  if s.tierReads.any (fun r => r.ord == x.1 && r.deferred) || s.tierWrites.any (fun w => w.ord == x.1 && w.deferred) then s
  else
    let s := (s.refreshOverrun c lane x.2 pos entry).addFreeze (p / 16) 0 x.1
    { s with
      tierReads := s.tierReads.map fun r => if r.ord = x.1 then { r with deferred := true } else r
      tierWrites := s.tierWrites.map fun w => if w.ord = x.1 then { w with deferred := true } else w }

/-- Defer what an unplanned window keeps from a position, if any. -/
def State.deferFirst (s : State) (c lane p pos entry : Nat) (l : List (Nat × Nat)) : State :=
  match s.deferredReq c lane pos l with
  | some x => s.deferReq c lane p pos entry x
  | none => s

/-- A move's line is read in a position: its data, or that it is uncorrectable. -/
def State.serveLine (s : State) (c entry : Nat) (r : TierRead) : State :=
  let rd := s.readTierLine c r.line entry false
  let s := rd.2
  let upd (x : TierRead) : TierRead :=
    if x.ord = r.ord then { x with data := some (s.ownLine r.parcel r.line r.ord), bad := rd.1 } else x
  { s with tierReads := s.tierReads.map upd }

/-- The read half of a partial write (07 R165): a line that reads uncorrectable stays as it was, and the writing engine fails
(R170). -/
def State.serveOld (s : State) (c entry : Nat) (w : TierWrite) : State :=
  let rd := s.readTierLine c w.line entry false
  let s := rd.2
  if rd.1 then
    (({ s with tierWrites := s.tierWrites.filter fun x => x.ord != w.ord }).failMove w.parcel w.seq).endFreeze (w.parcel / 16) 0 w.ord
  else { s with tierWrites := s.tierWrites.map fun x => if x.ord = w.ord then { x with needRead := false } else x }

/-- Serve a read position of a parcel (07 R159): its oldest request whose bank is ready, a move's line read
or the read half of a partial write (R165). -/
def State.serveRead (s : State) (c lane p pos entry : Nat) : State :=
  let rs := (s.pendingReads c lane).filter fun r => r.parcel == p
  let ws := (s.pendingWrites c lane).filter fun w => w.parcel == p && w.needRead
  let l := rs.map (fun r => (r.ord, r.line)) ++ ws.map fun w => (w.ord, w.line)
  let pick := oldestReq (l.filter fun x => s.bankReady c lane x.2 pos)
  let s := s.deferFirst c lane p pos entry l
  match pick with
  | none => s
  | some x =>
    match rs.find? fun r => r.ord == x.1, ws.find? fun w => w.ord == x.1 with
    | some r, _ => s.serveLine c entry r
    | none, some w => s.serveOld c entry w
    | none, none => s

/-- Serve a write position of a parcel: its oldest write whose bank is ready is accepted (07 R162); under
strict ordering the accepted front is released (R177). -/
def State.serveWrite (s : State) (c lane p pos entry : Nat) : State :=
  let ws := (s.pendingWrites c lane).filter fun w => w.parcel == p && !w.needRead
  let first (w : TierWrite) : Bool :=
    !(s.tierWrites.any fun x => x.parcel == p && x.line == w.line && !x.accepted && decide (x.ord < w.ord))
  let l := (ws.filter first).map fun w => (w.ord, w.line)
  let pick := oldestReq (l.filter fun x => s.bankReady c lane x.2 pos)
  let s := s.deferFirst c lane p pos entry l
  match pick with
  | none => s
  | some x =>
    let upd (w : TierWrite) : TierWrite := if w.ord = x.1 then { w with accepted := true, accOrd := s.reqCtr } else w
    let s := { s with tierWrites := s.tierWrites.map upd, reqCtr := s.reqCtr + 1 }
    let s := ((s.countServed c).cancelRewrite x.2).endFreeze (p / 16) 0 x.1
    if s.strict p then s.releaseStrict p else s

/-- The module address of line index n of a controller's memory, along its own lines (the inverse of 07
R155 and R156). -/
def State.scrubAddr (s : State) (c n : Nat) : Nat :=
  if c < 8 then
    if s.hbmMap = 0 then 0x010000000000 + (n * 8 + c) * 64 else 0x010000000000 + c * 0x1000000000 + n * 64
  else 0x020000000000 + (c - 8) * 0x4000000000 + n * 64

/-- Lines in a controller's memory. -/
def State.scrubLines (s : State) (c : Nat) : Nat := s.fld Reg.XX_CAP_GIB c * 0x1000000

/-- The scrubber's index moves on by one line, a pass counted at its end. -/
def State.scrubNext (s : State) (c : Nat) : State :=
  let s := s.setTctl c { s.tctl c with scrubDeferred := false }
  let n := s.fld Reg.XX_SCRUB_LINE c
  if n + 1 < s.scrubLines c then s.setFld Reg.XX_SCRUB_LINE c (n + 1)
  else (s.setFld Reg.XX_SCRUB_LINE c 0).count Reg.XX_SCRUB_PASSES c 1

/-- A maintenance position (07 R169): a read position checks the next line, where it lies on this lane and its bank is ready; a line
with a corrected error waits for the next write position of its lane, which rewrites it. -/
def State.serveScrub (s : State) (c lane pos entry : Nat) : State :=
  if !s.bit Reg.XX_SCRUB_EN c then s
  else if calDir entry = 0 then
    let line := s.scrubAddr c (s.fld Reg.XX_SCRUB_LINE c)
    if !s.onLane c lane line || !s.rowOpen c lane line then s
    else if s.refreshBusy c line pos then
      if s.refreshUnplanned c line pos && !(s.tctl c).scrubDeferred then
        (s.setTctl c { s.tctl c with scrubDeferred := true }).refreshOverrun c lane line pos entry
      else s
    else
      let before := s.fld Reg.XX_CE_COUNT c
      let rd := s.readTierLine c line entry true
      let s := rd.2
      let corrected := !rd.1 && (s.fld Reg.XX_CE_COUNT c != before || s.correc.any (fun kv => kv.1 / 8 == line / 64))
      let s := if corrected && !(s.tctl c).rewrites.contains line then
          s.setTctl c { s.tctl c with rewrites := (s.tctl c).rewrites ++ [line] } else s
      s.scrubNext c
  else
    match (s.tctl c).rewrites.find? fun l => s.onLane c lane l && s.bankReady c lane l pos with
    | some line =>
      let s := s.wrBytes line (s.lineBytes line)
      s.setTctl c { s.tctl c with rewrites := (s.tctl c).rewrites.filter fun l => l != line }
    | none => s

/-- The controller serves (07 R179: READY and RETIRING serve; FAILED reads as uncorrectable). -/
def State.xxServes (s : State) (c : Nat) : Bool :=
  let st := s.fld Reg.XX_STATE_CODE c
  st == xxReady || st == xxRetiring || st == xxFailed

/-- TIER_READ_DELIVERY (07 R162): the oldest served line of parcel p on the move engine reaches its memory. A move whose index
tensor or bitmap has come goes on to request its sources. With the move's last line its data moves. An uncorrectable line is never passed on: the move fails (R170). -/
def execTierReadDelivery (p : ParcelId) (s : State) : Host.Outcome State Fault Refusal :=
  match s.tierReads.find? fun r => r.parcel == p.val && r.data != none with
  | none => done s
  | some r =>
    let s := ({ s with tierReads := s.tierReads.filter fun x => x.ord != r.ord }).endFreeze (p.val / 16) 0 r.ord
    match s.moveIdx p r.seq with
    | none => done s
    | some i =>
      match (s.eng p 2).flight[i]? with
      | none => done s
      | some f =>
        let f := { f with
          need := f.need.erase r.line
          got := if r.bad then f.got else f.got ++ [(r.line, r.data.getD [])]
          status := if r.bad then tierBadStatus else f.status }
        let left := if f.status = 0 then s.linesLeft p f.entry f.got else []
        if f.need ≠ [] then done (s.setFlight p 2 i f)
        else if left ≠ [] then done ((s.requestLines p r.seq left).setFlight p 2 i { f with need := left })
        else
          let d := s.moveData p f.entry f.got (decide (f.status ≠ 0))
          let s := d.1.setFlight p 2 i { f with status := if f.status ≠ 0 then f.status else d.2.1, got := [], old := d.2.2 }
          done (if s.strict p then s.releaseStrict p else s)

/-- REFRESH_WINDOW (07 R163): a window of bank index j begins at a cycle, where the modes in force have one. -/
def execRefreshWindow (c : CtrlId) (j cyc : Nat) (s : State) : Host.Outcome State Fault Refusal :=
  if s.moduleDark then done s else
  let hbm := decide (c.val < 8)
  let starts (mode : Nat) : Bool :=
    let step := if hbm then 56 else 256
    cyc == step * j || (decide (1 ≤ mode) && cyc == 1024 + step * j) ||
      (decide (2 ≤ mode) && (cyc == (512 + step * j) % 2048 || cyc == (1536 + step * j) % 2048))
  let live := s.xxServes c || s.fld Reg.XX_STATE_CODE c == xxTraining
  if live && decide (j < (if hbm then 16 else 4)) && (starts (s.plannedMode c) || starts (s.fld Reg.XX_REF_NEED c)) then
    done (s.setTctl c { s.tctl c with refresh := some (j, cyc) })
  else done s

/-- An error that a patrol read of parcel p finds in a 64-byte line. -/
def State.patrolError (s : State) (p line : Nat) (uncor : Bool) : State :=
  s.noteMemError p uncor line 0 5

/-- PATROL_SCRUB (07 R168): the next 2,048-byte block of every parcel memory is read; errors are recorded and
nothing is written. -/
def execPatrolScrub (s : State) : Host.Outcome State Fault Refusal :=
  if s.moduleDark then done s else
  let inBlock (w : Nat) : Bool := decide (w < 0x10000000) && (8 * w % 0x400000) / 2048 == s.patrolPos
  let bads := (s.uncorr.map (·.1)).filter inBlock
  let cors := (s.correc.map (·.1)).filter inBlock
  let s := (List.range 512).foldl (fun s p => if s.disabled p then s else s.pmemServe p 32) s
  let s1 := bads.foldl (fun s w => s.patrolError (8 * w / 0x400000) (w / 8 * 64) true) s
  let s2 := cors.foldl (fun s w => s.patrolError (8 * w / 0x400000) (w / 8 * 64) false) s1
  done { s2 with patrolPos := (s.patrolPos + 1) % 2048 }

/-- A controller is RETIRING and holds part of tract t's regions (01 R18). -/
def State.retiringUsed (s : State) (t : Nat) : Bool :=
  (List.range 16).any fun c => s.fld Reg.XX_STATE_CODE c == xxRetiring && s.tractUses t c

/-- xx_RETIRE (07 R179): a write of 1 moves a READY controller to RETIRING; it clears only by cold start. Serve-mode tracts
that use it stop at their next step boundary, one that is yet to run included (01 R18). -/
def State.xxRetire (s : State) (c : Nat) : State :=
  let s := s.setFld Reg.XX_RETIRE c 1
  if s.fld Reg.XX_STATE_CODE c = xxReady then
    (List.range 8).foldl (fun s t =>
      if s.bit Reg.TRC_MODE t && s.tractUses t c then
        if s.fld Reg.TRC_STATE_CODE t = 3 then s.trcStop .lantern t else s.setTract t { s.tract t with retiring := true }
      else s) (s.setXx c xxRetiring)
  else s

/-- xx_COUNT_CLR (07 R179): zero the error counts and the stretch counters. -/
def State.xxCountClr (s : State) (c : Nat) : State :=
  s.setFlds c [(Reg.XX_CE_COUNT, 0), (Reg.XX_UE_COUNT, 0), (Reg.XX_STR_LINES, 0), (Reg.XX_STR_CYCLES, 0)]

/-- xx_TRAIN_REQ (07 R179): full training in OFF or SELF_REFRESH; elsewhere a register access error. -/
def State.xxTrainReq (s : State) (g : Agent) (c : Nat) : State :=
  let st := s.fld Reg.XX_STATE_CODE c
  if st = xxOff ∨ st = xxSelfRefresh then s.setXx c xxTraining
  else s.regError g (fieldAddr Reg.XX_TRAIN_REQ c)

/-- XX_RETIRE (07 R179). -/
def execXxRetire (c : CtrlId) (s : State) : Host.Outcome State Fault Refusal := done (s.lit (s.xxRetire c))

/-- XX_INJECT_CE (07 R428), expert: armed for the next line read. -/
def execXxInjectCe (c : CtrlId) (s : State) : Host.Outcome State Fault Refusal :=
  if s.moduleDark then done s else
  if s.expertOpen Reg.XX_INJECT_CE then done (s.setTctl c { s.tctl c with armCe := true }) else done s

/-- XX_INJECT_UE (07 R428), expert: armed for the next line read. -/
def execXxInjectUe (c : CtrlId) (s : State) : Host.Outcome State Fault Refusal :=
  if s.moduleDark then done s else
  if s.expertOpen Reg.XX_INJECT_UE then done (s.setTctl c { s.tctl c with armUe := true }) else done s

/-- XX_COUNT_CLR (07 R179). -/
def execXxCountClr (c : CtrlId) (s : State) : Host.Outcome State Fault Refusal := done (s.lit (s.xxCountClr c))

/-- XX_TRAIN_REQ (07 R179), expert. -/
def execXxTrainReq (c : CtrlId) (s : State) : Host.Outcome State Fault Refusal :=
  if s.moduleDark then done s else
  if s.expertOpen Reg.XX_TRAIN_REQ then done (s.xxTrainReq .lantern c) else done s

/-- Lanes of a controller. -/
def lanesOf (c : Nat) : Nat := if c < 8 then 64 else 2

/-- The calendar selector moves on: the position, then the lane (07 R179). -/
def State.calStep (s : State) (c : Nat) : State :=
  if s.bit Reg.XX_CAL_AUTOINC c then
    let n := s.fld Reg.XX_CAL_POS c + 1
    if n < positionsOf c then s.setFld Reg.XX_CAL_POS c n
    else s.setFlds c [(Reg.XX_CAL_POS, 0), (Reg.XX_CAL_LANE, (s.fld Reg.XX_CAL_LANE c + 1) % lanesOf c)]
  else s

/-- A calendar entry may be written at the selected position (07 R180). -/
def State.calOpen (s : State) (c : Nat) : Bool :=
  match s.shareOf c (s.fld Reg.XX_CAL_POS c) with
  | none => true
  | some t => !((s.tractParcels t).any fun p => [stRun, stDraining, stHalted].contains (s.pstate p))

/-- The entry a write leaves: reserved bits ignored, and a reserved KIND keeps the old one with a register
access error (00 R8). -/
def calMerge (old v : Nat) : Nat × Bool :=
  if calKind v ≤ 4 then (v % 8192, false) else (putBits (v % 8192) 9 3 (calKind old), true)

/-- xx_CAL_DATA, read or written by an agent (07 R179, R180). -/
def State.calData (s : State) (g : Agent) (c : Nat) (wr : Option (BitVec 64)) : State :=
  let key := calKey c (s.fld Reg.XX_CAL_LANE c) (s.fld Reg.XX_CAL_POS c)
  match wr with
  | none => ({ s with lastRead := BitVec.ofNat 64 (s.calShown key) }).calStep c
  | some v =>
    if s.calOpen c then
      let e := calMerge (s.calShown key) v.toNat
      let s := if e.2 then s.regError g (fieldAddr Reg.XX_CAL_ENTRY c) else s
      (s.writeCal [(key, e.1)]).calStep c
    else (s.regError g (fieldAddr Reg.XX_CAL_ENTRY c)).calStep c

/-- XX_CAL_DATA_ACCESS (07 R180), by lantern firmware. -/
def execXxCalDataAccess (c : CtrlId) (wr : Option (BitVec 64)) (s : State) : Host.Outcome State Fault Refusal :=
  done (s.lit (s.calData .lantern c wr))

/-- MEMORY_TRAINING_COMPLETE (07 R165, R179): a pass makes the controller READY, or RETIRING again where XX_RETIRE still
stands; cached results that fail their verification lead to full training; a failure of that is FAILED. -/
def execMemoryTrainingComplete (c : CtrlId) (ok : Bool) (margin : Fin 256) (cached : Bool) (s : State) :
    Host.Outcome State Fault Refusal :=
  if s.moduleDark then done s else
  if s.fld Reg.XX_STATE_CODE c = xxTraining then
    done ((s.setFlds c [(Reg.XX_TRAIN_OK, b2n ok), (Reg.XX_TRAIN_MARGIN, margin), (Reg.XX_TRAIN_CACHED, b2n (cached && ok))]).setXx c
      (if !ok then (if cached then xxTraining else xxFailed) else if s.bit Reg.XX_RETIRE c then xxRetiring else xxReady))
  else done s

/-- MEMORY_CONTROLLER_FAILURE (07 R179): FAILED from now on; it delivers no data. The jobs whose tracts use it fail (13 R334). -/
def execMemoryControllerFailure (c : CtrlId) (s : State) : Host.Outcome State Fault Refusal :=
  if s.fld Reg.XX_STATE_CODE c = xxFailed then done s
  else done ((List.range 8).foldl (fun s t => if s.tractUses t c then s.jobFailure t 6 (0x200 + c) 0 else s) (s.setXx c xxFailed))

end Sys2Proof.Machine
end

