-- ==== Sys2Proof/Machine/Reach.lean ====
section
/-!
DEFINITION. Memory as the agents outside the parcels reach it: which addresses, uncorrectable data, writes of part of a line, copies
(07 R153, R154, R165, R167, R170, R176, R428).
-/
namespace Sys2Proof.Machine

/-- The 64-byte lines an access touches. -/
def accessLines (a n : Nat) : List Nat :=
  if n = 0 then [] else (List.range ((a + n - 1) / 64 - a / 64 + 1)).map fun i => (a / 64 + i) * 64

/-- Line `line`'s part of an access of n bytes at a: first byte and number of bytes. -/
def linePart (a n line : Nat) : Nat × Nat := (max a line, min (a + n) (line + 64) - max a line)

/-! ### Addresses (07 R153, R154) -/

/-- Recovery boot: the companion reaches lantern SRAM too (15 R383). -/
def State.recovery (s : State) : Bool := s.fld Reg.MCB_STATE_CODE 0 == 4

/-- Memory that agent g reaches at a line: what the map gives it, and no disabled parcel, no missing DIMM, no controller in
OFF. -/
def State.reaches (s : State) (g : Agent) (line : Nat) : Bool :=
  if inParcelMem line then !s.disabled (line / 0x400000)
  else if inTaperMem line then !s.disabled ((line - 0x80000000) / 0x40000)
  else if inSram line then g == .lantern || g == .debug || (g == .companion && s.recovery)
  else if inHbm line || s.inDdr line then s.fld Reg.XX_STATE_CODE (s.ctrlOf line) != xxOff
  else if inAperture line then g == .lantern || g == .serve
  else false

/-! ### Memory -/

/-- The calendar owner of an outside agent's position (07 R158): KIND 4, and KIND 2 for the serve block. -/
def agentEntry (g : Agent) : Nat := if g == .serve then 2 * 512 else 4 * 512

/-- A line of parcel memory is served to an outside agent (07 R171). -/
def State.servePm (s : State) (line : Nat) : State := if inParcelMem line then s.pmemServe (memParcel line) 1 else s

/-- How a line reads to agent g: whether it is uncorrectable, and the state after the error records. -/
def State.readLine (s : State) (g : Agent) (line : Nat) : Bool × State :=
  if s.inTier line then s.readTierLine (s.ctrlOf line) line (agentEntry g) false
  else if inParcelMem line || inTaperMem line then
    let s := s.servePm line
    if s.lineBad line 64 then (true, s.noteMemError (memParcel line) true line 0 5)
    else if s.lineCorr line 64 then (false, s.noteMemError (memParcel line) false line 0 5)
    else (false, s)
  else (s.lineBad line 64, s)

/-- A line of a township that takes nothing in. -/
def State.shutLine (s : State) (line : Nat) : Bool := (inParcelMem line || inTaperMem line) && s.shut (memParcel line / 16)

/-- Accesses of such lines are refused at its crossing, and counted (09 R219, R226). -/
def State.refuseLines (s : State) (l : List Nat) : State := l.foldl (fun s a => s.count Reg.TWN_FLUSHED (memParcel a / 16) 1) s

/-- Read n bytes of memory: an uncorrectable line fails the read, and nothing is passed on (07 R170). What a read brings that a
township's crossing refuses is free (DESIGN CHOICE, log entry 106). -/
def State.readMem (s : State) (g : Agent) (a n : Nat) : Nat × List Byte × State :=
  if (accessLines a n).any s.shutLine then
    let f := s.freeBytes n
    (0, f.1, f.2.refuseLines ((accessLines a n).filter s.shutLine))
  else
  let r := (accessLines a n).foldl (fun (acc : Bool × State) line =>
    let x := acc.2.readLine g line
    (acc.1 || x.1, x.2)) (false, s)
  if r.1 then (2, List.replicate n 0, r.2) else (0, s.rdBytes a n, r.2)

/-- A write of part of a line needs its old contents: part of a tier line, part of a 64-bit word elsewhere. -/
def State.needsOld (s : State) (a n : Nat) : Bool :=
  if s.inTier a then n != 64 else s.partialBad a n || s.corrParts [(a, n)] != []

/-- Write one line's part: not performed where it needs old contents that are uncorrectable (07 R170). -/
def State.writePart (s : State) (g : Agent) (a : Nat) (bs : List Byte) : Nat × State :=
  let line := a / 64 * 64
  let old : Bool × State := if s.needsOld a bs.length then s.readLine g line else (false, s)
  if old.1 then (2, old.2)
  else
    let s := if s.inTier line then ((old.2.countServed (s.ctrlOf line)).cancelRewrite line).outsideWrote a bs.length else old.2.servePm line
    (0, s.agentWrite a bs)

/-- Write bytes of memory, line by line; lines that can be written are, and those refused at a crossing are not. -/
def State.writeMem (s : State) (g : Agent) (a : Nat) (bs : List Byte) : Nat × State :=
  (accessLines a bs.length).foldl (fun (acc : Nat × State) line =>
    let p := linePart a bs.length line
    let x := if acc.2.shutLine line then (0, acc.2.refuseLines [line]) else acc.2.writePart g p.1 ((bs.drop (p.1 - a)).take p.2)
    (max acc.1 x.1, x.2)) (0, s)

/-! ### What the loader and the serve block read and write (07 R154, R170, R428) -/

/-- Agent g reads n bytes: 0 OK, 2 uncorrectable, 3 where it does not reach them all, recorded; then all of them are zero. -/
def State.fetch (s : State) (g : Agent) (a n : Nat) : Nat × List Byte × State :=
  if (accessLines a n).all (s.reaches g) then s.readMem g a n else (3, List.replicate n 0, s.addrError g a)

/-- Agent g writes bytes: nothing, and an address error, where it does not reach them all. -/
def State.put (s : State) (g : Agent) (a : Nat) (bs : List Byte) : State :=
  if (accessLines a bs.length).all (s.reaches g) then (s.writeMem g a bs).2 else s.addrError g a

/-- Agent g reads every line of some spans (address, bytes): the worst status, and the state after the records. -/
def State.scan (s : State) (g : Agent) (l : List (Nat × Nat)) : Nat × State :=
  l.foldl (fun (acc : Nat × State) e =>
    let r := acc.2.fetch g e.1 e.2
    (max acc.1 r.1, r.2.2)) (0, s)

/-- Agent g copies n bytes, line by line of the source: no byte of a line that reads uncorrectable is written. The answer says
whether one was met. -/
def State.copyMem (s : State) (g : Agent) (src dst n : Nat) : Bool × State :=
  (accessLines src n).foldl (fun (acc : Bool × State) line =>
    let p := linePart src n line
    let r := acc.2.fetch g p.1 p.2
    if r.1 = 2 then (true, r.2.2) else (acc.1, r.2.2.put g (dst + (p.1 - src)) r.2.1)) (false, s)

/-! ### Sample records (11 R282) and calendar positions (07 R159) -/

/-- Where a link's next sample record goes. -/
def State.sampleAddr (s : State) (k : Nat) : Nat :=
  s.fld Reg.LNK_SAMPLE_BASE k + 32 * (s.fld Reg.LNK_SAMPLE_IDX k % 2 ^ s.fld Reg.LNK_RING_LOG k)

/-- A write position of outside agents writes the oldest sample record whose place lies on its lane and whose bank is ready; one of
which the line's other half cannot be read is dropped. -/
def State.serveSample (s : State) (c lane pos entry : Nat) : State :=
  let first (x : Sample) : Bool := (s.samples.find? fun y => y.link == x.link) == some x
  let line (x : Sample) : Nat := s.sampleAddr x.link / 64 * 64
  match s.samples.find? fun x => first x && inHbm (s.sampleAddr x.link) && s.onLane c lane (line x) with
  | none => s
  | some x =>
    if !s.rowOpen c lane (line x) then s
    else if s.refreshBusy c (line x) pos then
      if s.refreshUnplanned c (line x) pos && !x.deferred then
        { s with samples := s.samples.map fun y => if y == x then { y with deferred := true } else y }.refreshOverrun c lane (line x) pos entry
      else s
    else
      let a := s.sampleAddr x.link
      let r := { s with samples := s.samples.erase x }.writeMem .lantern a x.bytes
      if r.1 = 0 then r.2.setFld Reg.LNK_SAMPLE_IDX x.link (s.fld Reg.LNK_SAMPLE_IDX x.link + 1)
      else r.2.count Reg.LNK_SAMPLE_DROP x.link 1

/-- CALENDAR_POSITION (07 R159): controller c reaches a position of a lane. `shown` lists lines whose accepted
writes other agents see from here on, though no fence has covered them yet (R177: before the fence a
reader may see the old data or the new; DESIGN CHOICE, log entry 11). -/
def execCalendarPosition (c : CtrlId) (lane pos : Nat) (shown : List Nat) (s : State) :
    Host.Outcome State Fault Refusal :=
  let s := s.publish fun w => shown.contains w.line && !s.strict w.parcel
  if !s.xxServes c || positionsOf c ≤ pos then done s
  else
    let e := s.calEntry c lane pos
    match calKind e with
    | 1 =>
      if calDir e = 0 then done (s.serveRead c lane (calOwner e) pos e)
      else if s.fld Reg.XX_STATE_CODE c = xxFailed then done s
      else done (s.serveWrite c lane (calOwner e) pos e)
    | 3 => done (s.serveScrub c lane pos e)
    | 4 => done (if calDir e = 1 then s.serveSample c lane pos e else s)
    | _ => done s

end Sys2Proof.Machine
end

