-- ==== Sys2Proof/Machine/Receive.lean ====
section
/-!
DEFINITION. Receiving a unit: codewords, CRC, kind dispatch, sequence numbers, the checks, delivery, forwarding,
rejoining, sampling (10 R238, R239, R248, 11 R256, R262, R264, R265, R268, R276, R282).
-/
namespace Sys2Proof.Machine

/-! ### Sequence numbers (10 R248) -/

/-- Link k has received this sequence number intact. -/
def State.rxHas (s : State) (k seq : Nat) : Bool :=
  let x := s.link k
  decide (seq < x.rxNext) || x.rxGot.contains seq

/-- Numbers received beyond the next one expected fold into it. -/
def foldGot : Nat → Nat → List Nat → Nat × List Nat
  | 0, n, got => (n, got)
  | fuel + 1, n, got => if got.contains n then foldGot fuel (n + 1) (got.filter (· != n)) else (n, got)

/-- Mark a sequence number received. -/
def State.markRx (s : State) (k seq : Nat) : State :=
  let x := s.link k
  let got := sortDedup (seq :: x.rxGot)
  let r := foldGot got.length x.rxNext got
  s.setLink k { x with rxNext := r.1, rxGot := r.2, rxTop := max x.rxTop (seq + 1) }

/-- Name packets in NAKs of up to 64 numbers. -/
def State.nakList (s : State) (k : Nat) : Nat → List Nat → State
  | 0, _ => s
  | _, [] => s
  | fuel + 1, l => (s.sendCtl k 0x02 ((l.take 64).map (· % 2 ^ 32))).nakList k fuel (l.drop 64)

/-- The numbers below the largest seen that have not come. -/
def State.rxMissing (s : State) (k : Nat) : List Nat :=
  let x := s.link k
  ((List.range (x.rxTop - x.rxNext)).map (x.rxNext + ·)).filter fun q => !x.rxGot.contains q

/-- The numbers from rxTop up to seq have been skipped: their slots lie between the tick of the packet before them and this one
(10 R249); those written meanwhile need no record any more. -/
def State.noteGaps (s : State) (k seq : Nat) : State :=
  let x := s.link k
  let open' := x.gaps.filter fun g =>
    g.1 == seq || !s.rxHas k g.1 || s.arrivals.any fun a => a.num == pktNum k g.1
  let fresh := (List.range (seq - x.rxTop)).map fun i => (x.rxTop + i, x.rxTick, s.tickNow)
  s.setLink k { x with gaps := open' ++ fresh, rxTick := s.tickNow }

/-- A packet came intact: the numbers its own skips failed, and are named for replay. -/
def State.acceptSeq (s : State) (k seq : Nat) : State :=
  let top := (s.link k).rxTop
  let s := (s.noteGaps k seq).markRx k seq
  if top < seq then s.nakList k (seq - top) ((List.range (seq - top)).map (top + ·)) else s

/-- A unit failed (10 R238): counted; one that came in a slack unit was a replay, if any number is missing, and what
is missing is named again (R248). -/
def State.unitFailed (s : State) (k pt : Nat) : State :=
  let s := s.count Reg.LNK_CRC_FAIL k 1
  if (s.slotAt k false pt).isNone then s.nakList k 128 (s.rxMissing k) else s

/-! ### Sampling (11 R282) -/

/-- The bytes of a sample record. -/
def State.sampleBytes (s : State) (k pt : Nat) (p : Pkt) (slot outcome late : Nat) : List Byte :=
  leBytes 8 s.tickNow ++ leBytes 2 pt ++ leBytes 1 k ++ leBytes 1 p.kind ++ leBytes 4 p.job ++ leBytes 4 p.epoch ++
  leBytes 2 slot ++ leBytes 1 (p.vc % 16 + 16 * (p.cls % 4)) ++ leBytes 1 p.flags ++ leBytes 1 p.hops ++
  leBytes 1 outcome ++ leBytes 2 (min 65535 late) ++ leBytes 4 p.seq

/-- Whether the packet now received is sampled; the count of packets moves on. -/
def State.sampled (s : State) (k : Nat) (p : Pkt) : Bool × State :=
  if s.bit Reg.LNK_SAMPLE_EN k then
    let n := (s.link k).samples + 1
    (p.isSampled || n % 2 ^ s.fld Reg.LNK_SAMPLE_LOG k == 0, s.setLink k { s.link k with samples := n })
  else (false, s)

/-- A sample record waits for a KIND 4 position. -/
def State.sample (s : State) (k pt : Nat) (p : Pkt) (slot outcome late : Nat) : State :=
  { s with samples := s.samples ++ [{ link := k, bytes := s.sampleBytes k pt p slot outcome late, tick := s.tickNow }] }

/-! ### Delivery and forwarding (11 R264, R265, R268) -/

/-- A packet accepted for a parcel of this module waits for the parcel's exchange phase. -/
def State.accept (s : State) (p : Pkt) (num : Nat) : State :=
  match s.landed p.job p.epoch p.dparcel with
  | some tp => { s with arrivals := s.arrivals ++ [{ pkt := p, tract := tp.1, parcel := tp.2, num := num }] }
  | none => if p.kind = 0x81 then s.count Reg.MCB_ORPHAN_SIGNALS 0 1 else s

/-- The start of the packet-time in which a packet received on link k in a slot would have come: of a packet whose number was skipped,
in the ticks between which it was; of another, the latest that could be (R265; DESIGN CHOICE, log entry 97). -/
def State.origSlot (s : State) (k slot seq : Nat) : Nat :=
  match (s.link k).gaps.find? fun g => g.1 == seq with
  | some g => min (s.slotBy k slot) (s.slotStart k false g.2.2 slot)
  | none => s.slotBy k slot

/-- Forward a packet that came on link k in a slot: held for its onward slot, or late. The answer is the sample's
outcome. -/
def State.forward (s : State) (k slot : Nat) (p : Pkt) (entry seq : Nat) (late : Bool) : Nat × State :=
  let m := cadAction entry - 1
  let onward := cadOnward entry
  let flight := (s.owner k (tabGet 0 s.cadOwner (cadKey k false slot) - 1)).flight
  let due := s.slotFrom m true (s.origSlot k slot seq + flight + 120) onward
  let h : Held := { pkt := p, inLink := k, link := m, slot := onward, due := due, origTick := due / 2048 }
  if late || decide (due + 2 < s.datum) then
    let s1 := s.makeLate h
    (if s1.late.length = s.late.length ∧ (s1.link m).detQ.length = (s.link m).detQ.length then 7 else 2, s1)
  else (1, { s with held := s.held ++ [h] })

/-- What an entry does with a packet that passed its checks: deliver or forward. -/
def State.actOn (s : State) (k slot : Nat) (p : Pkt) (entry num : Nat) (late : Bool) : Nat × State :=
  if cadAction entry = 0 then (0, s.accept p num) else s.forward k slot p entry (num / 8) late

/-- A received packet fails a check of R262: counted and recorded by the link, and a beacon signal bound for this module whose job
no tract here holds counts for the module too (08 R212; DEDUCED, log entry 92). -/
def State.refusePkt (s : State) (k : Nat) (p : Pkt) (slot check status : Nat) : State :=
  let s := s.violation k false p slot check status
  if check = 7 ∧ p.kind = 0x81 ∧ p.dest = s.coord ∧ s.tractOfJob p.job p.epoch = none then s.count Reg.MCB_ORPHAN_SIGNALS 0 1 else s

/-- A detoured packet rejoins: handled as though it had come on DLINK in DSLOT (11 R268). -/
def State.rejoin (s : State) (k : Nat) (p : Pkt) : Nat × State :=
  let d := p.dlink
  if 6 ≤ d then (4, s.violation k false p p.dslot 2 0x30)
  else
    let seq := unfoldSeq (s.link d).rxTop p.dseq
    if s.rxHas d seq then (6, s.count Reg.LNK_DUP_DROP k 1)
    else
      let s := s.markRx d seq
      match s.checkPkt d false p p.dslot none with
      | some (c, st) => (if st = 0x30 then 4 else 5, s.refusePkt d p p.dslot c st)
      | none => (3, (s.actOn d p.dslot p (s.cadAt d false p.dslot) (pktNum d seq) true).2)

/-- A slot-carried packet received on link k in a packet-time (11 R262). -/
def State.slotPacket (s : State) (k pt : Nat) (p : Pkt) (seq : Nat) : Nat × State :=
  let arr := s.slotAt k false pt
  let slot := arr.getD p.slot
  match s.checkPkt k false p slot arr with
  | some (c, st) => (if st = 0x30 then 4 else 5, s.refusePkt k p slot c st)
  | none =>
    let e := s.cadAt k false slot
    if cadAction e = 7 then (if cadKind e = 3 then s.rejoin k p else (4, s))
    else s.actOn k slot p e (pktNum k seq) false

/-! ### Lantern-class packets (11 R275, R276) -/

/-- An entry of a buffer is free again: its credit is to be returned. -/
def State.freeCredit (s : State) (k vc : Nat) : State :=
  let x := s.link k
  s.setLink k { x with freed := tabPut 0 x.freed vc (tabGet 0 x.freed vc + 1) }

/-- The reply to a request, with a status. -/
def replyTo (p : Pkt) (status : Nat) : Pkt :=
  { kind := 0x84, vc := 7, cls := 3, job := 0, dest := p.src, sp := lanternSp (p.spec 0 4) (p.spec 4 2) status }

/-- The ownership check of a lantern-class packet (R276): JOB 0, or the link's owner table holds the owner in OWNED. A
boundary stone names an owner that is being passed, so that any live entry holds it (DEDUCED, log entry 22). An epoch beyond 32 bits
cannot have crossed a version-1 link (R284). -/
def State.lanternOk (s : State) (k : Nat) (p : Pkt) : Bool :=
  !(s.fld Reg.LNK_VERSION k == 1 && decide (2 ^ 32 ≤ p.epoch)) && (p.job == 0 || (List.range 16).any fun i =>
    let o := s.owner k i
    o.job == p.job && o.epoch == p.epoch && (o.state == ownOwned || (p.kind == 0x86 && o.state != ownFree)))

/-- A lantern-class packet received on link k: buffered for the lantern, or refused. -/
def State.lanternPacket (s : State) (k : Nat) (p : Pkt) : Nat × State :=
  if s.lanternOk k p then (0, { s with lanternIn := s.lanternIn ++ [(k, p)] })
  else
    let s := (s.violation k false p p.slot 0 0x31).freeCredit k p.vc
    (5, if p.kind = 0x83 then s.sendLantern k (replyTo p 0x31) else s)

/-- The lantern consumes the oldest packet buffered from link k that it is ready for; its buffer entry is free. -/
def State.takeLantern (s : State) (k : Nat) (want : Pkt → Bool) : Option (Pkt × State) :=
  match s.lanternIn.find? fun e => e.1 == k && want e.2 with
  | some e => some (e.2, ({ s with lanternIn := s.lanternIn.erase e }).freeCredit k e.2.vc)
  | none => none

/-! ### The unit (10 R234 to R239, 11 R256) -/

/-- Credits returned by a unit (11 R275). -/
def State.takeBack (s : State) (k credit : Nat) : State :=
  let x := s.link k
  let sp := [6, 7, 8].foldl (fun t vc => tabPut 0 t vc (tabGet 0 t vc - bitsOf credit (4 * (vc - 6)) 4)) x.spent
  s.setLink k { x with spent := sp }

/-- A control unit by its kind; false where the kind is reserved (10 R251). -/
def State.control (s : State) (k kind : Nat) (a : List Nat) : Bool × State :=
  let f (i : Nat) : Nat := a.getD i 0
  match kind with
  | 0x01 => (true, s.ackUpTo k (f 0))
  | 0x02 => (true, (a.take 64).foldl (fun s q => s.nakOne k q) s)
  | 0x10 => (true, s.ctlCopy k (f 0) (f 1) (f 2))
  | 0x11 => (true, s.ctlRelease k (f 0) (f 1))
  | 0x12 => (true, s.ctlParity k (f 0) (f 1))
  | 0x13 => (true, s.ctlTap k (f 0) (f 1))
  | 0x14 => (true, s.ctlFailover k (f 0) (f 1) (f 2))
  | 0x15 => (true, s.ctlDegrade k (a.take 12) (f 12) (f 13))
  | 0x16 => (true, s.ctlRestore k (a.take 16) (f 16) (f 17))
  | 0x20 => (true, s.datumUnit k (f 0) (f 1) (f 2) (f 3) s.stampNow)
  | 0x30 => (true, s.raise Reg.LNK_EVT_NEIGHBOUR_DARK k)
  | _ => (false, s)

/-- A packet that came intact: a number already received is a duplicate; otherwise the packet is checked, acted on
and sampled. -/
def State.packet (s : State) (k pt : Nat) (p : Pkt) : State :=
  let s := s.takeBack k p.credit
  let seq := unfoldSeq (s.link k).rxTop p.seq
  let sm := s.sampled k p
  let s := sm.2
  let behind (s : State) : Nat := (s.datum - s.fld Reg.LNK_FLIGHT_NS k - s.origSlot k p.slot seq) * 100 / 136
  if s.rxHas k seq then (if sm.1 then s.sample k pt p p.slot 6 (behind s) else s)
  else
    let s := s.acceptSeq k seq
    let late := behind s
    let rejoins := cadAction (s.cadAt k false ((s.slotAt k false pt).getD p.slot)) == 7
    let slot := if p.isDet && rejoins then p.dslot else p.slot
    let q := if sm.1 && s.bit Reg.LNK_SAMPLE_FOLLOW k then p.setFlag 2 1 1 else p
    let r := if 0x83 ≤ p.kind then s.lanternPacket k q else s.slotPacket k pt q seq
    if sm.1 then r.2.sample k pt p slot r.1 late else r.2

/-- The next whole unit of the stream received on link k leaves it (10 R236): its bytes, and whether every codeword that carries them
was good. -/
def State.nextUnit (s : State) (k : Nat) : Option ((List Byte × Bool) × State) :=
  let x := s.link k
  let u := x.rxStream.take unitLen
  if u.length < unitLen then none
  else some ((u.map (·.1), u.all (·.2)), s.setLink k { x with rxStream := x.rxStream.drop unitLen })

/-- The checks of a received unit (10 R238): whether it fails, by a codeword, by its checksum, or by an injected error (R255), which is
spent. -/
def State.unitChecked (s : State) (l : Nat) (bs : List Byte) (good : Bool) : Bool × State :=
  let kind := unitField bs 0 1
  let x := s.link l
  let injHit := x.injCrc && decide (0x80 ≤ kind)
  (!good || injHit || (kind != 0 && !crcOk bs), if injHit then s.setLink l { x with injCrc := false } else s)

/-- What a unit that passed its checks does (10 R238, R239): its version first, then by its KIND. -/
def State.unitTaken (s : State) (l pt : Nat) (bs : List (BitVec 8)) : State :=
  let kind := unitField bs 0 1
  if unitField bs 1 1 ≠ s.fld Reg.LNK_VERSION l then s.count Reg.LNK_CRC_FAIL l 1
  else if kind = 0 then s.takeBack l (unitField bs 42 2)
  else if 0x80 ≤ kind ∧ kind ≤ 0x86 then s.packet l pt (parsePkt bs)
  else
    let r := s.control l kind (Config.ctlFields kind (bs.drop 8))
    if r.1 then r.2 else s.count Reg.LNK_CRC_FAIL l 1

/-- A packet-time of a direction received that is a fill unit's (10 R236). -/
def State.fillPt (s : State) (k pt : Nat) : Bool := decide ((if s.twelve k false then 1129 else 1505) ≤ pt)

/-- The codeword times that a receiver takes in: n of them, on each of the lanes listed the symbols of its codeword. -/
def codewordTimes (n : Nat) (lanes : List (Fin 17)) (syms : List (List (List (Fin 1024)))) : List (List (Nat × List Nat)) :=
  (syms.take n).map fun row => (lanes.map (·.val)).zip (row.map fun w => w.map (·.val))

/-- UNIT_RECEIVE (10 R234 to R239): by datum t n codeword times have come on link l, with on each of the physical lanes listed the 544
symbols of its codeword, and with them the stream's next unit, of packet-time pt (that of a fill unit lies beyond a tick's packet-times), is whole. It is
checked and dispatched by its kind; a fill unit's alignment markers are taken. -/
def execUnitReceive (l : LinkId) (t pt n : Nat) (lanes : List (Fin 17)) (syms : List (List (List (Fin 1024)))) (s : State) :
    Host.Outcome State Fault Refusal :=
  let s := (s.at t).settle l
  if !lkCarries (s.fld Reg.LNK_RX_STATE l) then done s
  else
    let s := (codewordTimes n lanes syms).foldl (fun s ws => s.codewordTime l ws) s
    match s.nextUnit l with
    | none => done s
    | some (u, s) =>
      if !lkCarries (s.fld Reg.LNK_RX_STATE l) then done s
      else if s.fillPt l pt then done (if u.2 then s.setLink l { s.link l with marker := u.1 } else s)
      else
        let r := s.unitChecked l u.1 u.2
        done (if r.1 then r.2.unitFailed l pt else r.2.unitTaken l pt u.1)

end Sys2Proof.Machine
end

