-- ==== Sys2Proof/Machine/Owners.lean ====
section
/-!
DEFINITION. Changes of owner: passing, draining, boundary stones, the switch, easement grants, the cadastre window
(11 R270 to R274, R286).
-/
namespace Sys2Proof.Machine

/-- A packet belongs to an owner. -/
def Owner.has (o : Owner) (p : Pkt) : Bool := p.job == o.job && p.epoch == o.epoch

/-- LNK_PASS (11 R271): the selected entry, in OWNED or PENDING, starts to drain toward LNK_NEXT_JOB and
LNK_NEXT_EPOCH; in another state a register access error. -/
def State.passOwner (s : State) (g : Agent) (k : Nat) : State :=
  let i := s.fld Reg.LNK_OWN_IDX k
  let o := s.owner k i
  if o.state = ownOwned ∨ o.state = ownPending then
    s.setOwner k i { o with
      state := ownDraining
      nextJob := s.fld Reg.LNK_NEXT_JOB k
      nextEpoch := s.fld Reg.LNK_NEXT_EPOCH k
      myTick := none
      farTick := none }
  else s.regError g (fieldAddr Reg.LNK_PASS k)

/-- LNK_PASS (11 R271). -/
def execLnkPass (l : LinkId) (s : State) : Host.Outcome State Fault Refusal := done (s.lit (s.passOwner .lantern l))

/-- This end's drain is complete (11 R271). -/
def State.drained' (s : State) (k i : Nat) : Bool :=
  let o := s.owner k i
  let x := s.link k
  !(s.txq.any fun q => q.link == k && o.has q.pkt) &&
  !(s.held.any fun h => h.link == k && o.has h.pkt) &&
  !(s.late.any fun h => h.link == k && o.has h.pkt) &&
  !(x.detQ.any fun p => o.has p) &&
  !(x.replayBuf.any fun e => o.has e.2) &&
  !((List.range 8).any fun t =>
      let tr := s.tract t
      let st := s.fld Reg.TRC_STATE_CODE t
      tr.job == o.job && tr.epoch == o.epoch && (st == 2 || st == 3 || st == 4)) &&
  !((List.range 16).any fun g => s.grantNow k g == some i)

/-- A boundary stone about an entry (11 R257): NEXT_JOB, STAGE, and in the payload NEXT_EPOCH and the switch tick. -/
def stone (o : Owner) (stage tick : Nat) : Pkt :=
  { kind := 0x86, vc := 8, cls := 3, job := o.job, epoch := o.epoch,
    sp := o.nextJob % 2 ^ 32 + stage * 2 ^ 32, len := 15, payload := leBytes 8 o.nextEpoch ++ leBytes 8 tick }

/-- The fields of a stone: next job, stage, next epoch, tick. -/
def Pkt.stoneJob (p : Pkt) : Nat := p.spec 0 4
def Pkt.stoneStage (p : Pkt) : Nat := p.spec 4 1
def Pkt.stoneEpoch (p : Pkt) : Nat := leNat (p.payload.take 8)
def Pkt.stoneTick (p : Pkt) : Nat := leNat ((p.payload.drop 8).take 8)

/-- Both ends have drained: CONFIRM with a switch tick, or EPOCH_MISMATCH where the far end names another next owner, and
the entry stays in STONE_SENT (11 R272). -/
def State.confirm (s : State) (k i : Nat) : State :=
  let o := s.owner k i
  if o.state = ownStoneSent ∧ o.farDrained = true then
    if o.farJob = o.nextJob ∧ o.farEpoch = o.nextEpoch then
      let t := s.tickAhead k
      (s.setOwner k i { o with state := ownConfirmed, myTick := some t, since := s.datum }).sendLantern k (stone o 2 t)
    else
      (s.violation k false (({ job := o.job, epoch := o.epoch } : Pkt).setFlag 3 1 1) 0 0 0x31).setOwner k i { o with farDrained := false }
  else s

/-- OWNER_DRAIN_COMPLETE (11 R272 step 2): this end sends its DRAINED stone. -/
def execOwnerDrainComplete (l : LinkId) (i : Fin 16) (s : State) : Host.Outcome State Fault Refusal :=
  let o := s.owner l i
  if o.state = ownDraining ∧ s.drained' l i = true then
    done (((s.setOwner l i { o with state := ownStoneSent, since := s.datum }).sendLantern l (stone o 1 0)).confirm l i)
  else done s

/-- The entry that a stone names. -/
def State.stoneEntry (s : State) (k : Nat) (p : Pkt) : Option Nat :=
  (List.range 16).find? fun i => (s.owner k i).state != ownFree && (s.owner k i).has p

/-- BOUNDARY_STONE_DRAINED (11 R272 step 3): the far end's DRAINED stone is consumed; this end's having been sent,
CONFIRM follows. -/
def execBoundaryStoneDrained (l : LinkId) (s : State) : Host.Outcome State Fault Refusal :=
  match s.takeLantern l fun p => p.kind == 0x86 && p.stoneStage == 1 with
  | none => done s
  | some (p, s) =>
    match s.stoneEntry l p with
    | none => done s
    | some i =>
      let o := s.owner l i
      done ((s.setOwner l i { o with farDrained := true, farJob := p.stoneJob, farEpoch := p.stoneEpoch }).confirm l i)

/-- BOUNDARY_STONE_CONFIRM (11 R272 step 4): the far end's switch tick. -/
def execBoundaryStoneConfirm (l : LinkId) (s : State) : Host.Outcome State Fault Refusal :=
  match s.takeLantern l fun p => p.kind == 0x86 && p.stoneStage == 2 with
  | none => done s
  | some (p, s) =>
    match s.stoneEntry l p with
    | none => done s
    | some i =>
      let o := s.owner l i
      if p.stoneJob = o.nextJob ∧ p.stoneEpoch = o.nextEpoch then
        done (s.setOwner l i { o with farTick := some p.stoneTick })
      else done (s.violation l false p 0 0 0x31)

/-- The slots of one table of a link. -/
def allSlots : List (Bool × Nat) := (List.range 1280).map (fun i => (false, i)) ++ (List.range 1280).map fun i => (true, i)

/-- Owner i of link k gives up its slots: its entries are cleared, and entries waiting for those slots take effect
(11 R272 step 5, R273). -/
def State.clearSlots (s : State) (k i : Nat) : State :=
  allSlots.foldl (fun s ds =>
    let key := cadKey k ds.1 ds.2
    if tabGet 0 s.cadOwner key = i + 1 then
      let e := tabGet 0 s.cadPend key
      { s with
        cad := tabPut 0 s.cad key e
        cadPend := tabErase s.cadPend key
        cadOwner := tabPut 0 s.cadOwner key (tabGet 0 s.cadPendOwner key)
        cadPendOwner := tabErase s.cadPendOwner key
        altMap := tabPut 0 s.altMap key (tabGet 0 s.altPend key)
        altPend := tabErase s.altPend key }
    else s) s

/-- PENDING owners of which no entry waits any more are OWNED (11 R272, R273). -/
def State.promoteOwners (s : State) (k : Nat) : State :=
  (List.range 16).foldl (fun s i =>
    let o := s.owner k i
    let waits := allSlots.any fun ds => tabGet 0 s.cadPendOwner (cadKey k ds.1 ds.2) == i + 1
    if o.state = ownPending ∧ waits = false then s.setOwner k i { o with state := ownOwned } else s) s

/-- An owner's entry is freed at this end. -/
def State.freeOwner (s : State) (k i : Nat) : State := ((s.clearSlots k i).setOwner k i {}).promoteOwners k

/-- OWNER_SWITCH_TICK (11 R272 step 5): at the boundary of the later of both ends' ticks, reached at datum t. -/
def execOwnerSwitchTick (l : LinkId) (i : Fin 16) (t : Nat) (s : State) : Host.Outcome State Fault Refusal :=
  let s := s.at t
  let o := s.owner l i
  match o.myTick, o.farTick with
  | some a, some b =>
    if o.state = ownConfirmed ∧ max a b ≤ s.tickNow then
      done ((s.freeOwner l i).raise Reg.LNK_EVT_PASSED l)
    else done s
  | _, _ => done s

/-- STONE_TIMEOUT (11 R273): an entry longer than LNK_STONE_MS in STONE_SENT or CONFIRMED, at datum t, is STUCK. -/
def execStoneTimeout (l : LinkId) (i : Fin 16) (t : Nat) (s : State) : Host.Outcome State Fault Refusal :=
  let s := s.at t
  let o := s.owner l i
  if (o.state = ownStoneSent ∨ o.state = ownConfirmed) ∧ o.since + 1000000 * s.ctl Reg.LNK_STONE_MS l < s.datum then
    done ((s.setOwner l i { o with state := ownStuck }).raise Reg.LNK_EVT_STUCK l)
  else done s

/-- LNK_RELEASE_STUCK (11 R273): the selected stuck entry is freed at this end. -/
def State.releaseStuck (s : State) (k : Nat) : State :=
  let i := s.fld Reg.LNK_OWN_IDX k
  if (s.owner k i).state = ownStuck then s.freeOwner k i else s

/-- LNK_RELEASE_STUCK (11 R273), expert. -/
def execLnkReleaseStuck (l : LinkId) (s : State) : Host.Outcome State Fault Refusal :=
  if s.moduleDark then done s else
  if s.expertOpen Reg.LNK_RELEASE_STUCK then done (s.releaseStuck l) else done s

/-- A write of the easement grant register (11 R270, R286): a grant names an owner in OWNED, on a link of version 2
(R284); it or a revocation takes effect from the next tick. -/
def State.easeWrite (s : State) (g : Agent) (k v : Nat) : State :=
  let grp := bitsOf v 0 4
  let own := bitsOf v 4 4
  let val := bitAt v 8
  if val && ((s.owner k own).state != ownOwned || s.fld Reg.LNK_VERSION k == 1) then
    s.regError g (fieldAddr Reg.LNK_EASE_GRP k)
  else
    let now := s.grantNow k grp
    let x : Grant := { owner := now.getD 0, valid := now.isSome, newOwner := own, newValid := val, tick := s.tickNow + 1 }
    ({ s with grants := tabPut {} s.grants (k * 16 + grp) x }).setFld Reg.LNK_EASE_GRP k grp

/-- LNK_EASE_WRITE (11 R270), by lantern firmware. -/
def execLnkEaseWrite (l : LinkId) (v : BitVec 64) (s : State) : Host.Outcome State Fault Refusal :=
  done (s.lit (s.easeWrite .lantern l v.toNat))

/-- What LNK_CAD_DATA shows: the entry of the table selected, and whether a pending entry is held (11 R286). -/
def State.cadWord (s : State) (k : Nat) : Nat :=
  let slot := s.fld Reg.LNK_CAD_SLOT k
  let key := cadKey k (s.bit Reg.LNK_CAD_DIR k) slot
  let pend := (tabGet 0 s.cadPend key).toNat
  let v := match s.fld Reg.LNK_CAD_TAB k with
    | 0 => s.cadAt k (s.bit Reg.LNK_CAD_DIR k) slot
    | 1 => pend
    | 2 => if tabGet 0 s.altMap key = 0 then 0x7FF else tabGet 0 s.altMap key - 1
    | _ => 0
  v + (if pend = 0 then 0 else 2 ^ 32)

/-- A read of LNK_CAD_DATA: with auto-increment the slot moves on, wrapping after 1,279. -/
def State.cadRead (s : State) (k : Nat) : State :=
  let s := { s with lastRead := BitVec.ofNat 64 (s.cadWord k) }
  if s.bit Reg.LNK_CAD_AUTOINC k then
    s.setFld Reg.LNK_CAD_SLOT k (if 1279 ≤ s.fld Reg.LNK_CAD_SLOT k then 0 else s.fld Reg.LNK_CAD_SLOT k + 1)
  else s

/-- LNK_CAD_DATA_READ (11 R286). -/
def execLnkCadDataRead (l : LinkId) (s : State) : Host.Outcome State Fault Refusal := done (s.lit (s.cadRead l))

end Sys2Proof.Machine
end

