-- ==== Sys2Proof/Machine/Plat.lean ====
section
/-!
DEFINITION. The plat: header, directory, variants, mapping record, landing, relocation and patching, and the checks of
code and descriptors (08 R181 to R192, 03 R63, R65, R71, R77, 04 R86, R106 to R109).
-/
namespace Sys2Proof.Machine

/-- Why a load is refused (08 R195): reason, section type, index within the section, fold parcel. -/
structure Refuse where
  code : Nat
  secType : Nat := 0
  index : Nat := 0
  fold : Nat := 0xFFFF
deriving DecidableEq, Repr

/-- The first refusal of a list of checks. -/
def firstRefusal : List (Option Refuse) → Option Refuse
  | [] => none
  | some r :: _ => some r
  | none :: t => firstRefusal t

/-- A check: refuse with a reason unless it holds. -/
def need (ok : Bool) (code : Nat) (secType index fold : Nat) : Option Refuse :=
  if ok then none else some { code := code, secType := secType, index := index, fold := fold }

/-! ### The image (08 R181, R182) -/

/-- n bytes of the image at an offset: from the address of TRC_LOAD_SRC, or as the start broadcast brought them. -/
def State.img (s : State) (t off n : Nat) : List Byte :=
  let x := s.tract t
  if x.bcast then ((x.chunks.drop off).take n) ++ List.replicate (n - ((x.chunks.drop off).take n).length) 0
  else s.rdBytes (s.fld Reg.TRC_PLAT_ADDR t + off) n

/-- A number in the image. -/
def State.imgNat (s : State) (t off n : Nat) : Nat := leNat (s.img t off n)

/-- A directory entry. -/
structure DirEntry where
  typ : Nat
  var : Nat
  fold : Nat
  off : Nat
  len : Nat
deriving DecidableEq, Repr

/-- The directory. -/
def State.dir (s : State) (t : Nat) : List DirEntry :=
  let o := s.imgNat t 0x18 8
  (List.range (s.imgNat t 0x0C 4)).map fun i =>
    { typ := s.imgNat t (o + 32 * i) 2
      var := s.imgNat t (o + 32 * i + 2) 1
      fold := s.imgNat t (o + 32 * i + 4) 2
      off := s.imgNat t (o + 32 * i + 8) 8
      len := s.imgNat t (o + 32 * i + 16) 8 }

/-- A section of a variant (0xFF: common) and fold parcel (0xFFFF: of the whole variant). -/
def State.sect (s : State) (t typ var fold : Nat) : Option DirEntry :=
  (s.dir t).find? fun d => d.typ == typ && d.var == var && d.fold == fold

/-- A secTypes bytes; none are there where the section is absent. -/
def State.sectBytes (s : State) (t typ var fold : Nat) : List Byte :=
  match s.sect t typ var fold with
  | some d => s.img t d.off d.len
  | none => []

/-- Variants in the image. -/
def State.variants (s : State) (t : Nat) : Nat := s.imgNat t 0x0A 2

/-- A variant header's bytes (08 R183), and its fields. -/
def State.varHdr (s : State) (t v : Nat) : List Byte := s.sectBytes t 0x01 v 0xFFFF
def hdrFm (h : List Byte) : Nat := leNat (h.take 1)
def hdrS (h : List Byte) : Nat := leNat ((h.drop 1).take 1)
def hdrW (h : List Byte) : Nat := leNat ((h.drop 2).take 1)
def hdrBeacons (h : List Byte) : Nat := leNat ((h.drop 4).take 2)
def hdrTowns (h : List Byte) : List Nat := ((h.drop 8).take (hdrW h)).map (·.toNat)
/-- NP = W × S fold parcels. -/
def hdrNp (h : List Byte) : Nat := hdrW h * hdrS h

/-- A variant header lies in its ranges (08 R183). -/
def hdrOk (h : List Byte) : Bool :=
  [1, 2, 4, 8].contains (hdrFm h) && decide (1 ≤ hdrS h ∧ hdrS h ≤ 16) && decide (1 ≤ hdrW h ∧ hdrW h ≤ 32) &&
  decide (hdrBeacons h ≤ 32768) && decide (8 + hdrW h ≤ h.length) && (hdrTowns h).all (fun x => decide (x < 32)) &&
  sortDedup (hdrTowns h) == hdrTowns h && leNat ((h.drop 3).take 1) == 0 && leNat ((h.drop 6).take 2) == 0

/-- Section types that every variant has once, and that every fold parcel has (08 R182). -/
def variantAlways : List Nat := [0x01, 0x0F, 0x10, 0x14]
def foldAlways : List Nat := [0x02, 0x03, 0x04, 0x08]
/-- Types per fold parcel, and per variant. -/
def foldTypes : List Nat := [0x02, 0x03, 0x04, 0x05, 0x06, 0x07, 0x08, 0x09, 0x0A]
def variantTypes : List Nat := [0x01, 0x0B, 0x0C, 0x0D, 0x0E, 0x0F, 0x10, 0x11, 0x12, 0x13, 0x14]

/-- The plat's header and the place of its directory are as R181 says. -/
def State.headerOk (s : State) (t : Nat) : Bool :=
  s.imgNat t 0 4 == 0x54414C50 && s.imgNat t 4 2 == 1 && decide (s.imgNat t 0x08 1 ≤ 1) &&
  decide (s.imgNat t 0x09 1 ≤ 2) && decide (1 ≤ s.variants t ∧ s.variants t ≤ 16) &&
  [0x10, 0x12, 0x14].all (fun o => decide (1 ≤ s.imgNat t o 2 ∧ s.imgNat t o 2 ≤ 64)) &&
  decide (1 ≤ s.imgNat t 0x16 2 ∧ s.imgNat t 0x16 2 ≤ 512) && s.imgNat t 0x28 216 == 0 &&
  decide (s.imgNat t 0x18 8 + 32 * s.imgNat t 0x0C 4 ≤ s.imgNat t 0x20 8)

/-- A section may stand under its type, variant and fold parcel, once, and lies in the image (08 R182). -/
def State.entryOk (s : State) (t : Nat) (ds : List DirEntry) (d : DirEntry) : Bool :=
  decide (d.off + d.len ≤ s.imgNat t 0x20 8) &&
  (ds.countP fun e => (e.typ, e.var, e.fold) == (d.typ, d.var, d.fold)) == 1 &&
  ((d.typ == 0x20 && d.var == 0xFF && d.fold == 0xFFFF) ||
    (decide (d.var < s.variants t) && ((variantTypes.contains d.typ && d.fold == 0xFFFF) ||
      (foldTypes.contains d.typ && decide (d.fold < hdrNp (s.varHdr t d.var))))))

/-- The layout checks of one variant: its header, the sections that are always there, step templates in serve mode alone, and an
FM and S of its own (08 R182, R183). -/
def State.variantChecks (s : State) (t v : Nat) : List (Option Refuse) :=
  let h := s.varHdr t v
  need (hdrOk h) 0x02 0x01 0 0xFFFF ::
  need ((List.range v).all fun u => (hdrFm (s.varHdr t u), hdrS (s.varHdr t u)) != (hdrFm h, hdrS h)) 0x02 0x01 0 0xFFFF ::
  variantAlways.map (fun ty => need (s.sect t ty v 0xFFFF).isSome 0x02 ty 0 0xFFFF) ++
  [need ((s.sect t 0x13 v 0xFFFF).isSome == (s.imgNat t 0x08 1 == 1)) 0x02 0x13 0 0xFFFF] ++
  (List.range (hdrNp h)).flatMap fun f => foldAlways.map fun ty => need (s.sect t ty v f).isSome 0x02 ty 0 f

/-- The header, directory and sections are laid out as R181 and R182 say; a refusal names the section, where one is concerned. -/
def State.layoutRefusal (s : State) (t : Nat) : Option Refuse :=
  let ds := s.dir t
  if !s.headerOk t then some { code := 0x02 }
  else firstRefusal (ds.map (fun d => need (s.entryOk t ds d) 0x02 (d.typ % 256) 0 d.fold) ++
    [need (s.sect t 0x20 0xFF 0xFFFF).isSome 0x02 0x20 0 0xFFFF] ++ (List.range (s.variants t)).flatMap (s.variantChecks t))

/-- FM divides the virtual extents (08 R184): the pair (ax, ay, az). -/
def fmAxes (fm : Nat) : Nat × Nat × Nat :=
  (if 2 ≤ fm then 2 else 1, if 4 ≤ fm then 2 else 1, if 8 ≤ fm then 2 else 1)

/-! ### The mapping record (08 R185) -/

/-- A number of the mapping record. -/
def State.mapNat (s : State) (t off n : Nat) : Nat := s.rdNat (s.fld Reg.TRC_MAP t + off) n

/-- FX, FY, FZ. -/
def State.mapGrid (s : State) (t : Nat) : List Nat := [s.mapNat t 0x52 2, s.mapNat t 0x54 2, s.mapNat t 0x56 2]

/-- Entries of the record. -/
def State.mapCount (s : State) (t : Nat) : Nat := s.mapNat t 0x52 2 * s.mapNat t 0x54 2 * s.mapNat t 0x56 2

/-- A fold module's hall coordinate. -/
def State.mapCoord (s : State) (t i : Nat) : Nat := s.mapNat t (0x60 + 4 * i) 4 % 2 ^ 18

/-- This module's own fold module. -/
def State.ownFold (s : State) (t : Nat) : Option Nat := (List.range (s.mapCount t)).find? fun i => s.mapCoord t i == s.coord

/-- The variant that the record names, by FM and S. -/
def State.namedVariant (s : State) (t : Nat) : Option Nat :=
  (List.range (s.variants t)).find? fun v =>
    hdrFm (s.varHdr t v) == s.mapNat t 0x50 1 && hdrS (s.varHdr t v) == s.mapNat t 0x51 1

/-! ### Placement (08 R186) -/

/-- The usable parcels of a township: neither disabled nor quarantined, in ascending order. -/
def State.usable (s : State) (w : Nat) : List Nat :=
  (townParcels w).filter fun p => !s.disabled p && s.pstate p != stQuarantined

/-- The translation of the listed townships onto the tract's set; none where there is none. -/
def State.translated (s : State) (t : Nat) (ts : List Nat) : Option (List Nat) :=
  let set := s.tractTowns t
  let xs := ts.map (· % 8)
  let ys := ts.map (· / 8)
  let mn (l : List Nat) : Nat := l.foldl min 99
  let x0 := mn (set.map (· % 8))
  let y0 := mn (set.map (· / 8))
  let mv := ts.map fun w => (w % 8 + x0 - mn xs) + 8 * (w / 8 + y0 - mn ys)
  let inMesh := ts.all fun w => decide (mn xs ≤ w % 8 + x0 ∧ w % 8 + x0 - mn xs < 8)
  if inMesh && mv == set then some mv else none

/-- The landing map of a variant on a tract: the physical parcel of each fold parcel; none where it does not fit. -/
def State.landingMap (s : State) (t : Nat) (h : List Byte) : Option (List Nat) :=
  match s.translated t (hdrTowns h) with
  | none => none
  | some ws =>
    if ws.all fun w => decide (hdrS h ≤ (s.usable w).length) then some (ws.flatMap fun w => (s.usable w).take (hdrS h))
    else none

/-! ### Beacon map (08 R207) -/

/-- A variant's virtual beacons: (home fold parcel, initial count). -/
def State.vbeacons (s : State) (t v : Nat) : List (Nat × Nat) :=
  let b := s.sectBytes t 0x0B v 0xFFFF
  (List.range (hdrBeacons (s.varHdr t v))).map fun i =>
    let e := leNat ((b.drop (4 * i)).take 4)
    (bitsOf e 0 9, bitsOf e 16 16)

/-- Physical beacons in ascending virtual number: each the lowest free local number of its home parcel. -/
def assignBeacons (landing : List Nat) : List (Nat × Nat) → List Nat → List (Option Nat)
  | [], _ => []
  | (home, _) :: t, used =>
    let n := used.countP (· == home)
    match landing[home]? with
    | some p => (if n < 64 then some (64 * p + n) else none) :: assignBeacons landing t (home :: used)
    | none => none :: assignBeacons landing t used

/-! ### The images of a fold parcel, relocation and patching (08 R189 to R192) -/

/-- What the loader writes into one parcel. -/
structure Image where
  code : List Nat := []
  descs : List Nat := []
  params : List Nat := []
  tcode : List Byte := []
  tdata : List Byte := []
  mem : List (Nat × List Byte) := []
  wheel : Nat := 0
deriving DecidableEq, Repr

/-- A list of little-endian words of n bytes, k of them. -/
def leWords (n k : Nat) (bs : List Byte) : List Nat := (List.range k).map fun i => leNat ((bs.drop (n * i)).take n)

/-- The pairs of a parcel memory image, with fuel; none where it is malformed. -/
def memPairs : Nat → List Byte → Option (List (Nat × List Byte))
  | _, [] => some []
  | 0, _ => none
  | fuel + 1, bs =>
    let off := leNat (bs.take 4)
    let len := leNat ((bs.drop 4).take 4)
    if bs.length < 8 + len ∨ 0x400000 < off + len then none
    else (memPairs fuel (bs.drop (8 + len))).map fun l => (off, (bs.drop 8).take len) :: l

/-- A fold parcel's image before relocation, or the type of its first malformed section. -/
def State.rawImage (s : State) (t v f : Nat) : Image ⊕ Nat :=
  let code := s.sectBytes t 0x02 v f
  let descs := s.sectBytes t 0x03 v f
  let params := s.sectBytes t 0x04 v f
  let tc := s.sectBytes t 0x05 v f
  let td := s.sectBytes t 0x06 v f
  let mb := s.sectBytes t 0x07 v f
  let wheel := s.sectBytes t 0x08 v f
  if code.length % 16 ≠ 0 then .inr 0x02
  else if descs.length ≠ 32768 then .inr 0x03
  else if params.length ≠ 2048 then .inr 0x04
  else if 65536 < tc.length then .inr 0x05
  else if 262144 < td.length then .inr 0x06
  else if wheel.length ≠ 8 then .inr 0x08
  else match memPairs mb.length mb with
    | none => .inr 0x07
    | some mem => .inl {
      code := leWords 16 (code.length / 16) code
      descs := leWords 32 1024 descs
      params := leWords 8 256 params
      tcode := tc
      tdata := td
      mem := mem
      wheel := leNat wheel % 2 ^ 48 }

/-- What relocation and patching know: tract, parcel, fold parcel, landing, segments, physical beacons, quantities. -/
structure RelocCtx where
  parcel : Nat
  landing : List Nat
  segs : List (Nat × Nat)
  beacons : List Nat
  quantities : List Nat

/-- The value a relocation record turns v into (08 R190); none where v lies outside its space. -/
def relocValue (c : RelocCtx) (space arg v : Nat) : Option Nat :=
  match space with
  | 0 => if v < 0x400000 ∧ arg = 0 then some (c.parcel * 0x400000 + v) else none
  | 1 => if v < 0x400000 then (c.landing[arg]?).map fun p => p * 0x400000 + v else none
  | 2 => if v < 0x40000 ∧ arg = 0 then some (0x80000000 + c.parcel * 0x40000 + v) else none
  | 3 => match c.segs[arg]? with
    | some g => if v < g.2 then some (g.1 + v) else none
    | none => none
  | 4 => if arg = 0 then c.beacons[v]? else none
  | _ => none

/-- A word of taper data, and its replacement. -/
def tdWord (d : List Byte) (i : Nat) : Nat := leNat ((d.drop (8 * i)).take 8)
/-- Replace a word of taper data; the image grows to hold it. -/
def setTdWord (d : List Byte) (i v : Nat) : List Byte :=
  let d := d ++ List.replicate (8 * i + 8 - d.length) 0
  d.take (8 * i) ++ leBytes 8 v ++ d.drop (8 * i + 8)

/-- Apply one relocation record (08 R190, R192). -/
def Image.reloc (m : Image) (c : RelocCtx) (r : Nat) : Option Image :=
  let i := bitsOf r 2 15
  let space := bitsOf r 17 3
  let arg := bitsOf r 20 12
  if bitsOf r 32 32 ≠ 0 then none
  else
    match bitsOf r 0 2 with
    | 0 =>
      if 1024 ≤ i then none
      else
        let d := m.descs.getD i 0
        (relocValue c space arg (bitsOf d 0 48)).map fun v => { m with descs := m.descs.set i (putBits d 0 48 v) }
    | 1 => if 256 ≤ i then none
      else (relocValue c space arg (m.params.getD i 0)).map fun v => { m with params := m.params.set i v }
    | 2 => (relocValue c space arg (tdWord m.tdata i)).map fun v => { m with tdata := setTdWord m.tdata i v }
    | _ =>
      if 8192 ≤ i ∨ m.code.length ≤ i ∨ space ≠ 4 then none
      else
        let w := m.code.getD i 0
        if !([0xC0, 0xC1, 0xC2, 0xC3].contains (wOpcode w)) then none
        else (relocValue c space arg (wBeacon w)).map fun v => { m with code := m.code.set i (putBits w 16 15 v) }

/-- Apply one patch record (08 R191, R192). -/
def Image.patch (m : Image) (c : RelocCtx) (r : Nat) : Option Image :=
  let i := bitsOf r 2 15
  let add := sextOf 32 (bitsOf r 32 32)
  if bitsOf r 28 4 ≠ 0 then none
  else
    match c.quantities[bitsOf r 17 5]? with
    | none => none
    | some q =>
      let v := wrapTo 64 (((q : Int) + add) * ((2 ^ bitsOf r 22 6 : Nat) : Int))
      match bitsOf r 0 2 with
      | 1 => if 256 ≤ i then none else some { m with params := m.params.set i v }
      | 2 => some { m with tdata := setTdWord m.tdata i v }
      | _ => none

/-- Apply records in order; none at the first invalid one, whose index is the answer. -/
def applyRecords (f : Image → Nat → Option Image) : List Nat → Nat → Image → Image ⊕ Nat
  | [], _, m => .inl m
  | r :: rs, i, m => match f m r with
    | some m => applyRecords f rs (i + 1) m
    | none => .inr i

/-! ### Checks of code and descriptors -/

/-- The KIND-1 slots of a word: position and descriptor number. -/
def descSlots (w : Nat) : List (Nat × Nat) :=
  ((slotsOf w).zipIdx).filterMap fun x => if slotKind x.1 = 1 then some (x.2, slotValue x.1) else none

/-- The operands of a word as the descriptors of an image resolve them, bases unresolved. -/
def imageOps (m : Image) (w : Nat) : List Opnd :=
  (slotsOf w).map fun x => if slotKind x = 1 then
      let d := m.descs.getD (slotValue x) 0
      .desc (BitVec.ofNat 48 (dBase d)) (BitVec.ofNat 256 d)
    else if slotKind x = 3 then .imm (slotImm x) else if slotKind x = 0 then .none else .reg 0

/-- A descriptor keeps the rules that hold wherever it is used (03 R63, R64, 05 R113, 06 R135): BASE_MODE, the reserved bits, its
shape, and the grid word's place where its base is the plat's own. -/
def descOk (d : Nat) : Bool :=
  decide (dBaseMode d ≤ 2) && bitsOf d 60 4 == 0 && !bitAt d 231 && bitsOf d 254 2 == 0 && descShape d &&
  (dBaseMode d != 0 || gridAligned (dBase d) d)

/-- A compressed tile stands only as OPC of TMUL or as both operands of MCOPY (06 R135). -/
def formPlace (w : Nat) (i d : Nat) : Bool :=
  dForm d != 1 || (wOpcode w == 0x10 && i == 2) || (wOpcode w == 0x80 && decide (i ≤ 1))

/-- The instruction's descriptors do not agree as its table requires (03 R71, R72, 04 R87, R100, 05 R122). -/
def wordBroken (m : Image) (w : Nat) : Bool :=
  let q : QEntry := { word := BitVec.ofNat 128 w, ops := imageOps m w }
  let o (i : Nat) : Nat := (q.op i).bits
  match wOpcode w with
  | 0x10 => State.tmulBroken (q.op 0) (q.op 1) (q.op 2) q
  | 0x11 => !([o 0, o 1, o 2].all fun d => dFmt d == 14 && dForm d == 0) || !sameExtents (o 0) (o 1) || !sameExtents (o 0) (o 2)
  | 0x12 => !([0, 1, 2, 3].contains (dFmt (o 0))) || dFmt (o 1) != 14 || dForm (o 0) != 0 || dForm (o 1) != 0 || !sameExtents (o 0) (o 1)
  | 0x13 => dFmt (o 0) != 14 || dForm (o 0) != 0
  | 0xA0 => dForm (o 0) != 0
  | 0xA8 =>
    let k := bitsOf (wMod w) 0 3
    dForm (o 0) != 0 || dForm (o 1) != 0 || (!(k == 2 || k == 3) && dFmt (o 0) != dFmt (o 1)) ||
      (decide (k ≤ 1) && !([0, 7, 14].contains (dFmt (o 1)))) || (k == 4 && dFmt (o 1) != 7)
  | op => decide (0x80 ≤ op ∧ op ≤ 0x83) && moveDisagrees q

/-- A descriptor with BASE_MODE 0 names memory its instruction may use (03 R65, 04 R86, R100, 07 R175): compute and index
operands and XSEND's source the parcel's own memory; move operands parcel memory of the tract, or the tract's regions. XSEND's
OPD is an offset at the receiver. DESIGN CHOICE (log entry 85): XCOLL's tensors lie in the parcel's own memory too. -/
def State.windowOk (s : State) (t p w i d : Nat) : Bool :=
  let b := dBase d
  let own := decide (b / 0x400000 = p)
  let op := wOpcode w
  if dBaseMode d ≠ 0 then true
  else if 0x80 ≤ op ∧ op ≤ 0x83 then
    if 2 ≤ i then own
    else if inParcelMem b then decide (s.ptract (b / 0x400000) = some t)
    else !(s.inTier b) || (s.tractRegions t).any fun r => decide (r.1 ≤ b ∧ b < r.2)
  else (op == 0xA0 && i == 3) || own

/-- A stochastic conversion or VRAND (12 R291). -/
def isRandom (w : Nat) : Bool := (rngSlot w).isSome

/-- The service segments of a code image (DESIGN CHOICE, log entry 86), as (first word, last word): in a serve-mode plat the whole
code; in a plan-mode plat the words from each REPLAY's TARGET to that REPLAY, or to the end of the code where the TARGET lies
behind it. -/
def serviceSpans (serve : Bool) (code : List Nat) : List (Nat × Nat) :=
  if serve then [(0, code.length)]
  else ((code.zipIdx).filter fun wi => wOpcode wi.1 == 0x01).map fun wi =>
    (wTarget wi.1, if wTarget wi.1 ≤ wi.2 then wi.2 else code.length)

/-- The checks of one code word of fold parcel f on parcel p; `spans` are the service segments. -/
def State.checkWord (s : State) (t p f : Nat) (serve : Bool) (m : Image) (spans : List (Nat × Nat)) (wi : Nat × Nat) :
    Option Refuse :=
  let w := wi.1
  let i := wi.2
  let op := wOpcode w
  let service := spans.any fun r => decide (r.1 ≤ i ∧ i ≤ r.2)
  let ds := (descSlots w).map fun x => (x.1, x.2, m.descs.getD x.2 0)
  firstRefusal ([
    need (op != 0x05 || decide (bitsOf w 16 8 ≤ 222)) 0x09 2 i f,
    need (!service || (op != 0x05 && op != 0x06)) 0x09 2 i f,
    need (wordOk w) 0x0A 2 i f,
    need (!service || !((slotsOf w).any fun x => slotKind x == 5)) 0x0A 2 i f] ++
   ds.map (fun x => need (formPlace w x.1 x.2.2) 0x0A 3 x.2.1 f) ++
   [need (!wordBroken m w) 0x0A 2 i f] ++
   ds.map (fun x => need (s.windowOk t p w x.1 x.2.2) 0x0B 3 x.2.1 f) ++
   [need (!([0xC0, 0xC1, 0xC2, 0xC3].contains op) ||
      (decide (s.ptract (beaconHome (wBeacon w)) = some t) && !s.disabled (beaconHome (wBeacon w)))) 0x0C 2 i f,
    need (!(serve && (op == 0x10 || op == 0x11) && slotKind (wSlot w 4) == 0)) 0x13 2 i f,
    need (!(serve && isRandom w)) 0x15 2 i f])

/-- A LOOP: no other within its body, and no body past word 8,191 (04 R109); the body's length stands in the parameter
values. -/
def loopOk (m : Image) (wi : Nat × Nat) : Bool :=
  let len := bitsOf (m.params.getD (bitsOf wi.1 16 8 + 1) 0) 32 8 + 1
  wOpcode wi.1 != 0x05 || (decide (wi.2 + len ≤ 8191) && ((m.code.drop (wi.2 + 1)).take len).all fun w => wOpcode w != 0x05)

/-- No image byte lies in the flag line but in word 0 (03 R68). -/
def flagLineClear (m : Image) : Bool :=
  m.mem.all fun ob => decide (ob.1 + ob.2.length ≤ 0x3FFFC8 ∨ ob.2 = [])

/-- Every check of a fold parcel's image after relocation. -/
def State.checkImage (s : State) (t p f : Nat) (serve : Bool) (m : Image) : Option Refuse :=
  firstRefusal ([need (decide (m.code.length ≤ 8192)) 0x09 2 8192 f] ++
    (m.code.zipIdx).map (fun wi => need (loopOk m wi) 0x09 2 wi.2 f) ++ [need (flagLineClear m) 0x12 7 0 f] ++
    (m.descs.zipIdx).map (fun d => need (descOk d.1) 0x0A 3 d.2 f) ++
    (m.code.zipIdx).map (s.checkWord t p f serve m (serviceSpans serve m.code)))

end Sys2Proof.Machine
end

