-- ==== Sys2Proof/Machine/FabricLoad.lean ====
section
/-!
DEFINITION. The fabric part of a load: routes, collective entries, cadastre, alternate maps, detours, easements, and
their checks (11 R259 to R261, R264, R266, R269, R274, R278 to R280, R285).
-/
namespace Sys2Proof.Machine

/-- A VC below 6 and its class (11 R263). -/
def vcPaired (vc cls : Nat) : Bool := decide (vc ≤ 5) && vc / 2 == cls

/-! ### Route table (11 R278) -/

/-- COUNT of a route table section. -/
def routeCount (b : List Byte) : Nat := leNat (b.take 4)

/-- Route entry n of a section: its fields and its slots, the destination a fold module. -/
def routeRaw (b : List Byte) (n : Nat) : Route :=
  let e := (b.drop (16 + 16 * n)).take 16
  let cnt := bitsOf (leNat ((e.drop 10).take 2)) 0 11
  let off := leNat ((e.drop 12).take 4)
  { srcFold := bitsOf (leNat (e.take 2)) 0 9
    link := bitsOf (leNat ((e.drop 2).take 1)) 0 3
    vc := bitsOf (leNat ((e.drop 3).take 1)) 0 4
    cls := bitsOf (leNat ((e.drop 3).take 1)) 4 2
    dest := bitsOf (leNat ((e.drop 4).take 3)) 0 18
    destFold := bitsOf (leNat ((e.drop 8).take 2)) 0 9
    slots := leWords 2 cnt ((b.drop off).take (2 * cnt)) }

/-- A list rises strictly. -/
def rising : List Nat → Bool
  | a :: b :: t => decide (a < b) && rising (b :: t)
  | _ => true

/-- Reserved bits of a route entry are zero, its slot list lies in the section after the entries, and it lies in its
ranges (11 R278, R285). -/
def routeOk (b : List Byte) (grid : List Nat) (n : Nat) : Bool :=
  let e := (b.drop (16 + 16 * n)).take 16
  let r := routeRaw b n
  let cnt := bitsOf (leNat ((e.drop 10).take 2)) 0 11
  let off := leNat ((e.drop 12).take 4)
  decide (r.link ≤ 5) && vcPaired r.vc r.cls && decide (1 ≤ cnt ∧ cnt ≤ 1280) && off % 2 == 0 &&
  decide (16 + 16 * routeCount b ≤ off ∧ off + 2 * cnt ≤ b.length) && rising r.slots && r.slots.all (fun x => decide (x < 1280)) &&
  decide (r.dest % 64 < grid.getD 0 0 ∧ r.dest / 64 % 64 < grid.getD 1 0 ∧ r.dest / 4096 < grid.getD 2 0) &&
  bitsOf (leNat (e.take 2)) 9 7 == 0 && bitsOf (leNat ((e.drop 2).take 1)) 3 5 == 0 &&
  bitsOf (leNat ((e.drop 3).take 1)) 6 2 == 0 && leNat ((e.drop 7).take 1) == 0

/-- The route table's header keeps R278. -/
def routesHdrOk (b : List Byte) : Bool :=
  b == [] || (decide (1 ≤ routeCount b ∧ routeCount b ≤ 4096) && leNat ((b.drop 4).take 12) == 0 &&
    decide (16 + 16 * routeCount b ≤ b.length))

/-- The routes of a section. -/
def routesOf (b : List Byte) : List Route := if b = [] then [] else (List.range (routeCount b)).map (routeRaw b)

/-! ### Collective entries (11 R279) -/

/-- A collective entry. -/
def collOf (b : List Byte) (n : Nat) : CollEntry :=
  let e := (b.drop (32 * n)).take 32
  let f (o k : Nat) : Nat := leNat ((e.drop o).take k)
  { parts := f 0 4, pos := f 4 4, ring := f 8 1 == 1, tallyBase := f 9 1, tallyN := f 10 1, deadline := f 12 2,
    routeFirst := f 16 2, routeN := f 18 2, ticks := f 20 4 }

/-- A collective entry lies in its ranges, and names tallies and routes of the tract. -/
def collOk (b : List Byte) (routes n : Nat) : Bool :=
  let c := collOf b n
  let e := (b.drop (32 * n)).take 32
  decide (1 ≤ c.parts ∧ c.parts ≤ 2 ^ 24 ∧ c.pos < c.parts) && decide (leNat ((e.drop 8).take 1) ≤ 1) &&
  decide (1 ≤ c.tallyN ∧ c.tallyN ≤ 16 ∧ c.tallyBase + c.tallyN ≤ 64) && decide (1 ≤ c.deadline ∧ c.deadline ≤ 4095) &&
  decide (c.routeFirst + c.routeN ≤ routes) &&
  leNat ((e.drop 11).take 1) == 0 && leNat ((e.drop 14).take 2) == 0 && leNat ((e.drop 24).take 8) == 0

/-- The entries of a section. -/
def collsOf (b : List Byte) : List CollEntry := (List.range (b.length / 32)).map (collOf b)

/-- ALG 1 is not for sums on FMT 0 or 14 (11 R280): judged on the XCOLLs that name an entry by an immediate. -/
def ringOk (colls : List CollEntry) (m : Image) : Bool :=
  m.code.all fun w =>
    let q : QEntry := { word := BitVec.ofNat 128 w, ops := imageOps m w }
    wOpcode w != 0xA8 || slotKind (wSlot w 2) != 3 ||
      (match colls[(q.op 2).num 16]? with
        | some c => !(c.ring && decide (bitsOf (wMod w) 0 3 ≤ 1) && [0, 14].contains (dFmt (q.op 1).bits))
        | none => true)

/-- An immediate route entry of an XSEND, or of an XSIG, is one that the fold parcel may send on (11 R278). -/
def routesOwn (routes : List Route) (f : Nat) (m : Image) : Bool :=
  m.code.all fun w =>
    let ok (n : Nat) : Bool := match routes[n]? with
      | some r => r.srcFold == f
      | none => false
    if wOpcode w = 0xA0 ∧ slotKind (wSlot w 1) = 3 then ok (wrapTo 12 (slotImm (wSlot w 1)))
    else if wOpcode w = 0xA2 then ok (wRoute w)
    else true

/-! ### Cadastre (11 R260, R261, R264, R266, R269) -/

/-- An entry of the plat's cadastre: link, direction sent, slot, value. -/
structure CadRow where
  link : Nat
  tx : Bool
  slot : Nat
  e : Nat
deriving DecidableEq, Repr

/-- The rows of a section. -/
def cadRows (b : List Byte) : List CadRow := (Config.platEntries b).map fun r => ⟨r.1, r.2.1, r.2.2.1, r.2.2.2⟩

/-- The entry of a slot in the plat's cadastre, 0 where there is none. -/
def rowAt (rows : List CadRow) (k : Nat) (tx : Bool) (slot : Nat) : Nat :=
  match rows.find? fun r => r.link == k && r.tx == tx && r.slot == slot with
  | some r => r.e
  | none => 0

/-- One entry by itself (11 R260, R261, R266, R269): ranges, reserved bits, VC and class, OWNER 0, easements forward, a detour carries
onward or rejoins. -/
def cadRowOk (r : CadRow) : Bool :=
  let k := cadKind r.e
  let a := cadAction r.e
  decide (r.link ≤ 5 ∧ r.slot < 1280) && bitsOf r.e 26 6 == 0 && decide (cadCls r.e ≤ 2) &&
  (k == 0 || vcPaired (cadVc r.e) (cadCls r.e)) && (k != 3 || a != 0) && (k == 0 || k == 2 || cadOwnerIdx r.e == 0) &&
  (a != 7 || k == 3) && decide (cadOnward r.e < 1280) && ((decide (1 ≤ a) && decide (a ≤ 6)) || cadOnward r.e == 0) &&
  (k != 2 || (cadCls r.e == 2 && decide (1 ≤ a ∧ a ≤ 6)))

/-- The flight time that a cadastre section assumes for a link. -/
def flightOf (flights : List (Nat × Nat)) (k : Nat) : Nat :=
  match flights.find? fun f => f.1 == k with
  | some f => f.2
  | none => 0

/-- When a slot's packet comes and when its onward slot is, in ns of a tick from a received row (11 R264): it comes the flight time
after its slot began. -/
def holdSpan (fl : Nat) (r : CadRow) : Nat × Nat :=
  let t0 := slotNs 0 r.slot + fl
  let due := slotNs 0 (cadOnward r.e)
  let b := t0 + 120
  (t0, if b ≤ due then due else due + 2048 * ceilDiv (b - due) 2048)

/-- A forwarding row: its onward slot is an entry of the same owner or group on the onward link (11 R264, R285). -/
def forwardOk (rows : List CadRow) (r : CadRow) : Bool :=
  let a := cadAction r.e
  let o := rowAt rows (a - 1) true (cadOnward r.e)
  r.tx || a == 0 || a == 7 || (cadKind o == cadKind r.e && cadOwnerIdx o == cadOwnerIdx r.e)

/-- How often a span that recurs every tick covers a time of a tick. -/
def spanCovers (sp : Nat × Nat) (t : Nat) : Nat :=
  (List.range 36).countP fun n => decide (sp.1 ≤ t % 2048 + 2048 * n ∧ t % 2048 + 2048 * n < sp.2)

/-- A VC never holds more of its compiled packets at once than its 64 entries (11 R264): at every arrival of a row of `mine`, the
forwards of the same direction and channel whose spans cover it. Each row comes with the flight time assumed for its link. -/
def buffersOk (mine rows : List (Nat × CadRow)) : Bool :=
  let fwd (x : Nat × CadRow) : Bool := !x.2.tx && decide (1 ≤ cadAction x.2.e ∧ cadAction x.2.e ≤ 6)
  let cls (r : CadRow) : Nat := if cadKind r.e = 3 then 99 else cadVc r.e
  (mine.filter fwd).all fun r =>
    let t := (holdSpan r.1 r.2).1
    let near := (rows.filter fwd).filter fun x => x.2.link == r.2.link && cls x.2 == cls r.2
    let n : Nat := (near.map fun x => spanCovers (holdSpan x.1 x.2) t).foldl (· + ·) 0
    decide (n ≤ 64)

/-- The entries of the tables, in force or waiting, with the flight time their owners assume: those in force, or with `next` those
that will be once the waiting ones are. -/
def State.heldRows (s : State) (next : Bool) : List (Nat × CadRow) :=
  let row (owners : Tab Nat) (kv : Nat × BitVec 32) : Nat × CadRow :=
    let k := kv.1 / 4096
    ((s.owner k (tabGet 0 owners kv.1 - 1)).flight, { link := k, tx := kv.1 / 2048 % 2 == 1, slot := kv.1 % 2048, e := kv.2.toNat })
  let live := s.cad.filter fun kv => tabGet 0 s.cadOwner kv.1 != 0 && !(next && tabGet 0 s.cadPend kv.1 != 0)
  live.map (row s.cadOwner) ++ (if next then s.cadPend.map (row s.cadPendOwner) else [])

/-- The buffers hold the plat's forwards beside those of the other tracts, now and once every waiting entry is in force (11 R264,
R277). -/
def State.buffersFit (s : State) (flights : List (Nat × Nat)) (rows : List CadRow) : Bool :=
  let mine := rows.map fun r => (flightOf flights r.link, r)
  let others (next : Bool) : List (Nat × CadRow) :=
    (s.heldRows next).filter fun x => !(rows.any fun r => r.link == x.2.link && r.tx == x.2.tx && r.slot == x.2.slot)
  buffersOk mine (mine ++ others false) && buffersOk mine (mine ++ others true)

/-- A route's slots are KIND 1 entries of owner 0 with its VC and class on its link, claimed by no forward and no other
route (11 R285). -/
def routeSlotsOk (rows : List CadRow) (routes : List Route) (n : Nat) : Bool :=
  match routes[n]? with
  | none => true
  | some r =>
    r.slots.all fun x =>
      let e := rowAt rows r.link true x
      cadKind e == 1 && cadVc e == r.vc && cadCls e == r.cls &&
      !(rows.any fun f => !f.tx && decide (1 ≤ cadAction f.e ∧ cadAction f.e ≤ 6) && cadAction f.e - 1 == r.link && cadOnward f.e == x) &&
      !((routes.zipIdx).any fun o => o.2 != n && o.1.link == r.link && o.1.slots.contains x)

/-- A detour keeps R266: its first hop's slots are detour entries, on another link than its own. -/
def detourOk (rows : List CadRow) (d : Nat × Nat × List Nat) : Bool :=
  decide (d.1 ≤ 5 ∧ d.2.1 ≤ 5) && decide (1 ≤ d.2.2.length ∧ d.2.2.length ≤ 256) &&
  d.2.2.all fun x => cadKind (rowAt rows d.2.1 true x) == 3

/-- No hop of a detour uses a link of version 1 (11 R284, R285). -/
def State.detourLinkOk (s : State) (r : CadRow) : Bool := cadKind r.e != 3 || s.fld Reg.LNK_VERSION r.link != 1

/-- An alternate map sends no two slots of a direction to one alternate slot (11 R259): neither two of the plat's own, nor one of
them and one that another owner's entry, in force or waiting, has. -/
def State.altsOk (s : State) (rows : List CadRow) (l : List (Nat × Bool × Nat × Nat)) : Bool :=
  let keys := l.map fun a => (a.1, a.2.1, a.2.2.2)
  let taken (a : Nat × Bool × Nat × Nat) (kv : Nat × Nat) : Bool :=
    let r : CadRow := ⟨kv.1 / 4096, kv.1 / 2048 % 2 == 1, kv.1 % 2048, 0⟩
    r.link == a.1 && r.tx == a.2.1 && kv.2 == a.2.2.2 + 1 && !(rows.any fun x => x.link == r.link && x.tx == r.tx && x.slot == r.slot)
  keys.eraseDups.length == keys.length && (l.all fun a => decide (a.1 ≤ 5 ∧ a.2.2.1 < 1280 ∧ a.2.2.2 < 960)) &&
  !(l.any fun a => s.altMap.any (taken a) || s.altPend.any (taken a))

/-- The link's owner-table entry that a slot's holder has, live; none for an unowned slot. -/
def State.slotHolder (s : State) (k : Nat) (tx : Bool) (slot : Nat) : Option Nat :=
  let x := tabGet 0 s.cadOwner (cadKey k tx slot)
  if x = 0 then none else if (s.owner k (x - 1)).state = ownFree then none else some (x - 1)

/-- A row for a slot that a live owner holds is pending; the loader refuses it where another tract of this module holds
the slot and is not DRAINING (11 R274). -/
def State.pendingOk (s : State) (t : Nat) (r : CadRow) : Bool :=
  match s.slotHolder r.link r.tx r.slot with
  | none => true
  | some i =>
    match (s.owner r.link i).tract with
    | some u => u == t || decide (ownDraining ≤ (s.owner r.link i).state)
    | none => true

/-- An easement group is not already used by another tract's plat on the link, in entries in force or waiting (11 R269). -/
def State.groupFree (s : State) (t : Nat) (r : CadRow) : Bool :=
  let other (tab owners : Tab Nat) (kv : Nat × Nat) : Bool :=
    kv.1 / 4096 == r.link && cadKind kv.2 == 2 && cadOwnerIdx kv.2 == cadOwnerIdx r.e && tabGet 0 tab kv.1 == kv.2 &&
    (let o := s.owner r.link (tabGet 0 owners kv.1 - 1)
     tabGet 0 owners kv.1 != 0 && o.state != ownFree && o.tract != some t)
  let nats (x : Tab (BitVec 32)) : Tab Nat := x.map fun kv => (kv.1, kv.2.toNat)
  cadKind r.e != 2 ||
    !((nats s.cad).any (other (nats s.cad) s.cadOwner) || (nats s.cadPend).any (other (nats s.cadPend) s.cadPendOwner))

/-- The links a cadastre uses. -/
def rowLinks (rows : List CadRow) : List Nat := sortDedup (rows.map (·.link))

/-- The links on which a plat installs anything: those of its entries, and those for which it names a detour. -/
def platLinks (rows : List CadRow) (detours : List (Nat × Nat × List Nat)) : List Nat :=
  sortDedup (rows.map (·.link) ++ (detours.map (·.1)).filter fun k => decide (k ≤ 5))

/-- A free owner-table index of a link. -/
def State.freeOwnerIdx (s : State) (k : Nat) : Option Nat := (List.range 16).find? fun i => (s.owner k i).state == ownFree

/-- Every fabric check of a load (11 R285). -/
def State.fabricCheck (s : State) (t : Nat) (grid : List Nat) (rb cb kb : List Byte) (imgs : List (Nat × Image)) : Option Refuse :=
  let rows := cadRows kb
  let routes := routesOf rb
  let colls := collsOf cb
  let fl := Config.platFlights kb
  firstRefusal (
    [need (routesHdrOk rb) 0x14 0x0C 0 0xFFFF] ++
    (List.range routes.length).map (fun n => need (routeOk rb grid n && routeSlotsOk rows routes n) 0x14 0x0C n 0xFFFF) ++
    (List.range colls.length).map (fun n => need (collOk cb routes.length n) 0x14 0x0D n 0xFFFF) ++
    imgs.map (fun fi => need (ringOk colls fi.2 && routesOwn routes fi.1 fi.2) 0x14 0x0D 0 fi.1) ++
    (rows.zipIdx).map (fun ri => need (cadRowOk ri.1 && forwardOk rows ri.1 && s.pendingOk t ri.1 && s.groupFree t ri.1 && s.detourLinkOk ri.1) 0x14 0x0E ri.2 0xFFFF) ++
    [need (s.buffersFit fl rows) 0x14 0x0E 0 0xFFFF, need (s.altsOk rows (Config.platAlts kb)) 0x14 0x0E 0 0xFFFF,
     need ((Config.platDetours kb).all (detourOk rows)) 0x14 0x0E 0 0xFFFF,
     need (fl.all fun f => decide (s.fld Reg.LNK_FLIGHT_NS f.1 ≤ f.2)) 0x14 0x0E 0 0xFFFF,
     need ((platLinks rows (Config.platDetours kb)).all fun k => (s.freeOwnerIdx k).isSome) 0x14 0x0E 0 0xFFFF])

/-! ### Installation (11 R261, R274) -/

/-- The alternate slot, plus one, that a plat's alternate map gives a slot; 0 for none (11 R259). -/
def altFor (alts : List (Nat × Bool × Nat × Nat)) (r : CadRow) : Nat :=
  match alts.find? fun a => a.1 == r.link && a.2.1 == r.tx && a.2.2.1 == r.slot with
  | some a => a.2.2.2 + 1
  | none => 0

/-- Install one entry for an owner index, with its alternate slot: in force, or pending where a live owner holds the slot. -/
def State.installRow (s : State) (idx alt : Nat) (r : CadRow) : State :=
  let k := cadKind r.e
  let e := BitVec.ofNat 32 (if k = 1 ∨ k = 3 then putBits r.e 2 4 idx else r.e)
  let key := cadKey r.link r.tx r.slot
  match s.slotHolder r.link r.tx r.slot with
  | some _ =>
    { s with
      cadPend := tabPut 0 s.cadPend key e
      cadPendOwner := tabPut 0 s.cadPendOwner key (idx + 1)
      altPend := tabPut 0 s.altPend key alt }
  | none =>
    { s with
      cad := tabPut 0 s.cad key e
      cadOwner := tabPut 0 s.cadOwner key (idx + 1)
      altMap := tabPut 0 s.altMap key alt }

/-- Install a link's entries for a job, with the alternate map, the flight time and the detour of its section; they are in force from
the next tick (08 R194). -/
def State.installLink (s : State) (t job epoch : Nat) (kb : List Byte) (k : Nat) : State :=
  let rows := cadRows kb
  match s.freeOwnerIdx k with
  | none => s
  | some i =>
    let mine := rows.filter fun r => r.link == k
    let pend := mine.any fun r => (s.slotHolder k r.tx r.slot).isSome
    let s := mine.foldl (fun s r => s.installRow i (altFor (Config.platAlts kb) r) r) s
    let det := ((Config.platDetours kb).find? fun d => d.1 == k).getD (k, 7, [])
    s.setOwner k i { job := job, epoch := epoch, state := if pend then ownPending else ownOwned, tract := some t,
                     inForce := s.tickNow + 1, flight := flightOf (Config.platFlights kb) k, detLink := det.2.1, detSlots := det.2.2 }

/-- Install the fabric sections of tract t's plat. -/
def State.installFabric (s : State) (t job epoch : Nat) (rb cb kb : List Byte) : State :=
  let rows := cadRows kb
  let s := (platLinks rows (Config.platDetours kb)).foldl (fun s k => s.installLink t job epoch kb k) s
  let coord (d : Nat) : Nat :=
    let x := s.tract t
    x.members.getD (d % 64 + x.foldGrid.getD 0 1 * (d / 64 % 64 + x.foldGrid.getD 1 1 * (d / 4096))) 0
  s.setTract t { s.tract t with
    routes := (routesOf rb).map fun r => { r with dest := coord r.dest }
    colls := collsOf cb }

end Sys2Proof.Machine
end

