-- ==== Sys2Proof/Machine/Loader.lean ====
section
/-!
DEFINITION. The load sequence of a tract, stage by stage (08 R194, R195; 13 R328, R336).
-/
namespace Sys2Proof.Machine

/-- A stage either goes on with a state, or refuses. -/
abbrev StageOut := State ⊕ Refuse

/-- The tract's regions of one tier, as (start, end). -/
def State.tierRegions (s : State) (t : Nat) (hbm : Bool) : List (Nat × Nat) :=
  (s.tractRegions t).filter fun r => inHbm r.1 == hbm

/-- A range lies wholly in one of a list of regions. -/
def inRegions (rs : List (Nat × Nat)) (a n : Nat) : Bool := rs.any fun r => decide (r.1 ≤ a ∧ a + n ≤ r.2)

/-! ### Benchmark layout (13 R328, R329) -/

/-- The layout section of a variant. -/
def State.benchBytes (s : State) (t v : Nat) : List Byte := s.sectBytes t 0x14 v 0xFFFF
/-- A field of a section. -/
def fieldOf (b : List Byte) (off n : Nat) : Nat := leNat ((b.drop off).take n)
/-- PIECES. -/
def benchPieces (b : List Byte) : Nat := fieldOf b 6 2
/-- LENGTH of piece i. -/
def pieceLen (b : List Byte) (i : Nat) : Nat := fieldOf b (64 + 32 * i) 8
/-- VM_BYTES: the pieces padded to 64 bytes. -/
def vmBytes (b : List Byte) : Nat := ((List.range (benchPieces b)).map fun i => ceilDiv (pieceLen b i) 64 * 64).foldl (· + ·) 0
/-- What the variants must share. -/
def benchShared (b : List Byte) : List Nat :=
  [fieldOf b 0 4, fieldOf b 4 1, fieldOf b 5 1, fieldOf b 8 8, fieldOf b 16 8, benchPieces b] ++ (List.range (benchPieces b)).map (pieceLen b)

/-- Where the benchmark area starts: BM_OFF from the tract's first region of BM_TIER. -/
def State.benchBase (s : State) (t : Nat) (b : List Byte) : Nat :=
  ((s.tierRegions t (fieldOf b 4 1 == 0)).headD (0, 0)).1 + fieldOf b 8 8
/-- The length of the benchmark area: two slots, and two mirror slots. -/
def benchLen (b : List Byte) : Nat := fieldOf b 16 8 * (if fieldOf b 5 1 = 0 then 2 else 4)

/-- The address of piece i of virtual module j: parcel memory, taper data memory or a tier segment (R328); none where it
lies outside. -/
def State.pieceAddr (s : State) (t : Nat) (landing : List Nat) (segs : List (Nat × Nat)) (b : List Byte) (i j : Nat) : Option Nat :=
  let _ := s
  let _ := t
  let o := 64 + 32 * i
  let len := pieceLen b i
  let fold := fieldOf b (o + 10) 2 + j * fieldOf b (o + 12) 2
  let off := fieldOf b (o + 16) 8 + j * fieldOf b (o + 24) 8
  match fieldOf b (o + 8) 1 with
  | 0 => if off + len ≤ 0x400000 then (landing[fold]?).map fun p => parcelBase p + off else none
  | 1 => if off + len ≤ 0x40000 then (landing[fold]?).map fun p => taperBase p + off else none
  | 2 => match segs[fieldOf b (o + 10) 2]? with
    | some g => if off + len ≤ g.2 then some (g.1 + off) else none
    | none => none
  | _ => none

/-- The checks of R328 on the variant in force and across variants. -/
def State.benchCheck (s : State) (t v fm : Nat) (landing : List Nat) (segs : List (Nat × Nat)) : Option Refuse :=
  let b := s.benchBytes t v
  let n := benchPieces b
  let all := (List.range (s.variants t)).map (s.benchBytes t)
  let rangeOk := decide (64 + 32 * n ≤ b.length) && decide (1 ≤ fieldOf b 0 4) && decide (fieldOf b 4 1 ≤ 1) && decide (fieldOf b 5 1 ≤ 1) &&
    decide (n ≤ 4096) && fieldOf b 8 8 % 64 == 0 && fieldOf b 16 8 % 64 == 0 && fieldOf b 28 36 == 0 &&
    (List.range n).all fun i => decide (1 ≤ pieceLen b i ∧ pieceLen b i ≤ 2 ^ 40) && decide (fieldOf b (64 + 32 * i + 8) 1 ≤ 2)
  let fits := (List.range (s.variants t)).all fun u =>
    decide (512 + hdrFm (s.varHdr t u) * vmBytes (s.benchBytes t u) ≤ fieldOf (s.benchBytes t u) 16 8)
  firstRefusal ([need rangeOk 0x02 0x14 0 0xFFFF, need (all.all fun x => benchShared x == benchShared b) 0x02 0x14 0 0xFFFF] ++
    (if n = 0 then [] else
      [need fits 0x02 0x14 0 0xFFFF,
       need (inRegions (s.tierRegions t (fieldOf b 4 1 == 0)) (s.benchBase t b) (benchLen b)) 0x02 0x14 0 0xFFFF]) ++
    (List.range n).flatMap fun i => (List.range fm).map fun j =>
      need (s.pieceAddr t landing segs b i j).isSome 0x0E 0x14 i 0xFFFF)

/-! ### Stages 3 and 4: record, header, variant, digest -/

/-- Reading a range meets an uncorrectable line, or one of a FAILED controller (07 R179). -/
def State.rangeBad (s : State) (a n : Nat) : Bool :=
  (!s.uncorr.isEmpty && s.lineBad a n) ||
    ((List.range 16).any (fun c => s.fld Reg.XX_STATE_CODE c == xxFailed) &&
      (accessLines a n).any fun l => s.inTier l && s.fld Reg.XX_STATE_CODE (s.ctrlOf l) == xxFailed)

/-- What stage 3 reads: the mapping record, and the plat unless a broadcast brings it, as spans. -/
def State.platSpans (s : State) (t : Nat) : List (Nat × Nat) × List (Nat × Nat) :=
  ([(s.fld Reg.TRC_MAP t, 0x60 + 4 * s.mapCount t)],
   if (s.tract t).bcast then [] else [(s.fld Reg.TRC_PLAT_ADDR t, max 0x100 (if s.headerOk t then s.imgNat t 0x20 8 else 0))])

/-- Stage 3 (08 R194): the mapping record, the header and directory, profile, mode, ordering, the variant's fit. `mapBad` and `bad`
say that the record and the plat read uncorrectable. -/
def State.stage3 (s : State) (t : Nat) (mapBad bad : Bool) : StageOut :=
  let vext := [s.imgNat t 0x10 2, s.imgNat t 0x12 2, s.imgNat t 0x14 2]
  let v := (s.namedVariant t).getD 0
  let h := s.varHdr t v
  let ax := fmAxes (hdrFm h)
  let axs := [ax.1, ax.2.1, ax.2.2]
  let divides := (vext.zip axs).all fun x => x.1 % x.2 == 0
  let grid := s.mapGrid t
  let ord := s.imgNat t 0x09 1
  let strict := s.bit Reg.TRC_STRICT t
  let checks := [
    need (!mapBad && s.mapNat t 0 4 == 0x50414D4A && grid.all (fun x => decide (1 ≤ x)) && (s.ownFold t).isSome) 0x08 0 0 0xFFFF,
    need (!bad) 0x16 0 0 0xFFFF,
    s.layoutRefusal t,
    need (s.imgNat t 0x06 2 == 1) 0x05 0 0 0xFFFF,
    need (s.imgNat t 0x08 1 == b2n (s.bit Reg.TRC_MODE t) && !(ord == 1 && !strict) && !(ord == 2 && strict)) 0x04 0 0 0xFFFF,
    need ((s.namedVariant t).isSome && divides) 0x06 1 v 0xFFFF,
    need (grid == (vext.zip axs).map fun x => x.1 / x.2) 0x08 0 0 0xFFFF,
    need (s.landingMap t h).isSome 0x07 1 v 0xFFFF]
  match firstRefusal checks with
  | some r => .inr r
  | none =>
    let i := (s.ownFold t).getD 0
    let fx := grid.getD 0 1
    let fy := grid.getD 1 1
    .inl (s.setTract t { s.tract t with
      job := s.mapNat t 4 4
      epoch := s.mapNat t 8 8
      startTick := s.mapNat t 0x10 8
      stepStart := s.mapNat t 0x18 8
      variant := v
      foldModule := i
      foldCoord := [i % fx, i / fx % fy, i / (fx * fy)]
      foldGrid := grid
      members := (List.range (s.mapCount t)).map (s.mapCoord t) })

/-- Stage 4: the image's digest must be the record's. -/
def State.stage4 (s : State) (t : Nat) : StageOut :=
  if sha384 (s.img t 0 (s.imgNat t 0x20 8)) = s.rdBytes (s.fld Reg.TRC_MAP t + 0x20) 48 then .inl s else .inr { code := 0x03 }

/-! ### Stage 5: images -/

/-- The tier segments of the tract's plat. -/
def State.segments (s : State) (t : Nat) : List (Nat × Nat) :=
  Config.platSegments (s.sectBytes t 0x10 (s.tract t).variant 0xFFFF) (s.tractRegions t)

/-- The patch quantities (08 R191). -/
def State.quantities (s : State) (t p f : Nat) (h : List Byte) (beacons : List (Nat × Nat)) (phys : List Nat) : List Nat :=
  let x := s.tract t
  let c := x.foldCoord
  let g (i : Nat) : Nat := c.getD i 0
  let ax := fmAxes (hdrFm h)
  let first := ((beacons.zip phys).find? fun b => b.1.1 == f).map (·.2)
  [p, t, s.coord, g 0 + 64 * g 1 + 4096 * g 2, f, x.startTick, x.job, x.epoch, hdrFm h, hdrS h,
   ((s.tractTowns t).map fun w => (s.usable w).length).foldl (· + ·) 0, first.getD 0,
   g 0 * ax.1 + s.imgNat t 0x10 2 * (g 1 * ax.2.1 + s.imgNat t 0x12 2 * (g 2 * ax.2.2))]

/-- A fold parcel's image, relocated and patched, or why not. -/
def State.finalImage (s : State) (t f p : Nat) (landing : List Nat) (segs : List (Nat × Nat)) (beacons : List (Nat × Nat))
    (phys : List Nat) : Image ⊕ Refuse :=
  let v := (s.tract t).variant
  let h := s.varHdr t v
  match s.rawImage t v f with
  | .inr ty => .inr { code := 0x02, secType := ty, fold := f }
  | .inl m =>
    let c : RelocCtx := { parcel := p, landing := landing, segs := segs, beacons := phys,
                          quantities := s.quantities t p f h beacons phys }
    let rb := s.sectBytes t 0x09 v f
    let pb := s.sectBytes t 0x0A v f
    match applyRecords (fun m r => m.reloc c r) (leWords 8 (rb.length / 8) rb) 0 m with
    | .inr i => .inr { code := 0x0D, secType := 0x09, index := i, fold := f }
    | .inl m =>
      match applyRecords (fun m r => m.patch c r) (leWords 8 (pb.length / 8) pb) 0 m with
      | .inr i => .inr { code := 0x0D, secType := 0x0A, index := i, fold := f }
      | .inl m =>
        match s.checkImage t p f (s.bit Reg.TRC_MODE t) m with
        | some r => .inr r
        | none => .inl m

/-- Every fold parcel's image. -/
def State.finalImages (s : State) (t : Nat) (landing : List Nat) (segs : List (Nat × Nat)) (beacons : List (Nat × Nat))
    (phys : List Nat) : List Nat → List (Nat × Image) → List (Nat × Image) ⊕ Refuse
  | [], acc => .inl acc.reverse
  | f :: fs, acc =>
    match s.finalImage t f (landing.getD f 0) landing segs beacons phys with
    | .inr r => .inr r
    | .inl m => s.finalImages t landing segs beacons phys fs ((f, m) :: acc)

/-- Put a list of words into a table from a key on. -/
def putWords {w : Nat} (tab : Tab (BitVec w)) (key : Nat) (l : List Nat) : Tab (BitVec w) :=
  (l.zipIdx).foldl (fun tb x => tabPut 0 tb (key + x.2) (BitVec.ofNat w x.1)) tab

/-- Write one parcel's image. -/
def State.writeImage (s : State) (p : Nat) (m : Image) : State :=
  let s := { s with
    code := putWords s.code (p * 8192) m.code
    descs := putWords s.descs (p * 1024) m.descs
    live := putWords s.live (p * 256) m.params
    shadow := putWords s.shadow (p * 256) m.params
    imem := putBytes s.imem (p * 65536) m.tcode }
  let s := s.wrBytes (taperBase p) m.tdata
  let s := m.mem.foldl (fun s ob => s.wrBytes (parcelBase p + ob.1) ob.2) s
  s.setPar p { s.par p with platWheel := BitVec.ofNat 48 m.wheel }

/-- The variant's landing, beacons and their physical numbers. -/
def State.landingOf (s : State) (t : Nat) : List Nat := (s.landingMap t (s.varHdr t (s.tract t).variant)).getD []

/-- Where a range of n entries of the module beacon map may begin: it overlaps no other tract's, and ends within the map (08
R207). -/
def State.bmapRoom (s : State) (t n : Nat) : List Nat :=
  let taken := ((List.range 8).filter fun u => u != t && (s.tract u).bmapN != 0).map fun u => (s.fld Reg.TRC_BMAP_BASE u, (s.tract u).bmapN)
  (List.range (32769 - n)).filter fun b => taken.all fun r => decide (b + n ≤ r.1 ∨ r.1 + r.2 ≤ b)

/-- The other tracts' ranges moved together at the map's start, in tract order: what makes room for a range that fits between none of
them. -/
def State.packBmap (s : State) (t : Nat) : State :=
  ((List.range 8).foldl (fun (acc : State × Nat) u =>
    let n := (s.tract u).bmapN
    if u = t ∨ n = 0 then acc
    else
      let old := s.fld Reg.TRC_BMAP_BASE u
      let m := (List.range n).foldl (fun m v => tabPut 0 m (acc.2 + v) (tabGet 0 s.beaconMap (old + v))) acc.1.beaconMap
      ({ acc.1 with beaconMap := m }.setFld Reg.TRC_BMAP_BASE u acc.2, acc.2 + n)) ({ s with beaconMap := [] }, 0)).1

/-- The tract's contiguous range of the module beacon map is written (08 R207); which of the places it may begin at is a free
value (DESIGN CHOICE, log entry 91). -/
def State.writeBmap (s : State) (t : Nat) (phys : List Nat) : State :=
  let n := phys.length
  let s := if s.bmapRoom t n = [] then s.packBmap t else s
  let d := s.draw
  let room := s.bmapRoom t n
  let base := room.getD (d.1 % room.length) 0
  let m := (phys.zipIdx).foldl (fun m pv => tabPut 0 m (base + pv.2) (pv.1 + 1)) s.beaconMap
  ({ d.2 with beaconMap := m }.setFld Reg.TRC_BMAP_BASE t base).setTract t { s.tract t with bmapN := n }

/-- Stage 5: placement, beacons and images checked; images, landing map, beacon map and counts written. -/
def State.stage5 (s : State) (t : Nat) : StageOut :=
  let v := (s.tract t).variant
  let h := s.varHdr t v
  let landing := s.landingOf t
  let segs := s.segments t
  let vb := s.vbeacons t v
  let asg := assignBeacons landing vb []
  let phys := asg.map fun x => x.getD 0
  let pre := firstRefusal [
    need (segs.all fun g => inRegions (s.tractRegions t) g.1 g.2) 0x0E 0x10 0 0xFFFF,
    need (hdrBeacons h = 0 || decide (4 * hdrBeacons h ≤ (s.sectBytes t 0x0B v 0xFFFF).length)) 0x02 0x0B 0 0xFFFF,
    need (decide (hdrBeacons h ≤ 64 * hdrNp h) && asg.all (·.isSome)) 0x0C 0x0B 0 0xFFFF]
  match pre with
  | some r => .inr r
  | none =>
    match s.finalImages t landing segs vb phys (List.range landing.length) [] with
    | .inr r => .inr r
    | .inl imgs =>
      let s := imgs.foldl (fun s fi => s.writeImage (landing.getD fi.1 0) fi.2) s
      let s := (vb.zip phys).foldl (fun s b => s.setBeacon b.2 { count := b.1.2, assigned := true }) s
      let s := s.writeBmap t phys
      .inl (s.setTract t { s.tract t with landing := landing, segs := segs })

/-! ### Stage 6: regions and sheets -/

/-- A sheet is in place: TRC_KEEP_SHEETS, and its digest matches the bytes there (08 R194). -/
def State.sheetKept (s : State) (t : Nat) (segs : List (Nat × Nat)) (sh : Nat × Nat × Nat × List Byte) : Bool :=
  s.bit Reg.TRC_KEEP_SHEETS t && (match segs[sh.1]? with
    | some g => sha384 (s.rdBytes g.1 sh.2.1) == sh.2.2.2 && !s.rangeBad g.1 sh.2.1
    | none => false)

/-- One sheet: fits its segment, reads without error (`si.1.2`: it does not), and has its digest. -/
def State.sheetCheck (s : State) (t : Nat) (segs : List (Nat × Nat)) (si : ((Nat × Nat × Nat × List Byte) × Bool) × Nat) : Option Refuse :=
  let sh := si.1.1
  firstRefusal [
    need (match segs[sh.1]? with
      | some g => decide (sh.2.1 ≤ g.2)
      | none => false) 0x0E 0x20 si.2 0xFFFF,
    need (s.sheetKept t segs sh || !si.1.2) 0x16 0x20 si.2 0xFFFF,
    need (s.sheetKept t segs sh || sha384 (s.rdBytes sh.2.2.1 sh.2.1) == sh.2.2.2) 0x03 0x20 si.2 0xFFFF]

/-- The bytes of the tract's regions that a list of sheets covers. -/
def State.sheetRanges (s : State) (t : Nat) (l : List (Nat × Nat × Nat × List Byte)) : List (Nat × Nat) :=
  l.map fun sh => (((s.tract t).segs.getD sh.1 (0, 0)).1, sh.2.1)

/-- A tile-count record agrees with the sheet's bitmap (06 R140), at the base that the descriptor resolves to from the loaded
parameter values. DESIGN CHOICE (log entry 87): a bitmap that lies in no sheet is not judged. -/
def State.tilesOk (s : State) (t : Nat) (sheets : List (Nat × Nat)) (r : Nat × Nat × Nat × Nat) : Bool :=
  let p := (s.tract t).landing.getD r.1 0
  let d := s.descWord p r.2.1
  let a := addrAdd (s.dResolve p d) ((dMetaOff d + 32 * r.2.2.1 : Nat) : Int)
  !(sheets.any fun g => decide (g.1 ≤ a ∧ a + 32 ≤ g.1 + g.2)) ||
    ((List.range (dExt d 0 / 16)).countP fun i => bitAt (s.rdNat a 32) i) == r.2.2.2

/-- The block-sparse descriptors of a tract's parcels: (fold parcel, number, descriptor). -/
def State.blockDescs (s : State) (t : Nat) : List (Nat × Nat × Nat) :=
  s.descs.filterMap fun kd =>
    let d := kd.2.toNat
    if dForm d = 1 ∧ dSparsity d = 2 then
      ((s.tract t).landing.findIdx? (· == kd.1 / 1024)).map fun f => (f, kd.1 % 1024, d)
    else none

/-- Every block-sparse descriptor has a record for each of its column groups (06 R140; DESIGN CHOICE, log entry 87: a plat
without it is refused as one whose counts differ). -/
def State.tilesRecorded (s : State) (t : Nat) (tiles : List (Nat × Nat × Nat × Nat)) : List (Option Refuse) :=
  (s.blockDescs t).flatMap fun x => (List.range (dExt x.2.2 1 / 16)).map fun c =>
    need (tiles.any fun r => r.1 == x.1 && r.2.1 == x.2.1 && r.2.2.1 == c) 0x11 0x03 x.2.1 x.1

/-- Restore one virtual module's block from the restore map (13 R336). -/
def State.restoreOne (s : State) (t j v : Nat) : StageOut :=
  let x := s.tract t
  let b := s.benchBytes t x.variant
  let m := x.restoreAddr + 0x20 + 16 * v
  let src := s.rdNat (m + 3) 1
  let hdr := if src = 2 then s.rdNat (m + 8) 8
    else s.benchBase t b + (s.rdNat (m + 4) 1 + (if src = 1 then 2 else 0)) * fieldOf b 16 8
  let jj := s.rdNat (m + 5) 1
  let body := if src = 2 then hdr + 512 else hdr + 512 + jj * vmBytes b
  let block := s.rdBytes body (vmBytes b)
  if 2 < src ∨ (src < 2 ∧ s.rdNat m 3 % 2 ^ 18 ≠ s.coord) then .inr { code := 0x08 }
  else if s.rangeBad hdr 512 || s.rangeBad body (vmBytes b) then .inr { code := 0x16 }
  else if s.rdNat (hdr + 25) 1 ≠ 2 ∨ s.rdNat (hdr + 4) 4 ≠ x.job ∨ some (s.rdNat (hdr + 16) 8) ≠ x.restore ∨
      s.rdNat (hdr + 32) 8 ≠ vmBytes b ∨ sha384 block ≠ s.rdBytes (hdr + 128 + 48 * jj) 48 then .inr { code := 0x03 }
  else
    let put (acc : State × List Byte) (i : Nat) : State × List Byte :=
      let n := pieceLen b i
      let s1 := match acc.1.pieceAddr t x.landing x.segs b i j with
        | some a => acc.1.put .lantern a (acc.2.take n)
        | none => acc.1
      (s1, acc.2.drop (ceilDiv n 64 * 64))
    .inl ((List.range (benchPieces b)).foldl put (s, block)).1

/-- The virtual modules of this module's fold module, with their index j in it (08 R184, 13 R328). -/
def State.virtuals (s : State) (t : Nat) : List (Nat × Nat) :=
  let x := s.tract t
  let ax := fmAxes (hdrFm (s.varHdr t x.variant))
  let g (i : Nat) : Nat := x.foldCoord.getD i 0
  let vx := s.imgNat t 0x10 2
  let vy := s.imgNat t 0x12 2
  (List.range (ax.1 * ax.2.1 * ax.2.2)).map fun j =>
    let dx := j % ax.1
    let dy := j / ax.1 % ax.2.1
    let dz := j / (ax.1 * ax.2.1)
    (j, (g 0 * ax.1 + dx) + vx * ((g 1 * ax.2.1 + dy) + vy * (g 2 * ax.2.2 + dz)))

/-- Restore every block of a recovery load. -/
def State.restoreAll (s : State) (t : Nat) : List (Nat × Nat) → StageOut
  | [] => .inl s
  | jv :: rest =>
    match s.restoreOne t jv.1 jv.2 with
    | .inr r => .inr r
    | .inl s => s.restoreAll t rest

/-- The sheets of the tract's plat. -/
def State.sheets (s : State) (t : Nat) : List (Nat × Nat × Nat × List Byte) := Config.platSheets (s.sectBytes t 0x20 0xFF 0xFFFF)

/-- What step 6 leaves in place: the sheets that are kept, and in a recovery load the benchmark area. -/
def State.keepRanges (s : State) (t : Nat) : List (Nat × Nat) :=
  let x := s.tract t
  let b := s.benchBytes t x.variant
  s.sheetRanges t ((s.sheets t).filter (s.sheetKept t x.segs)) ++ (if x.restore.isSome then [(s.benchBase t b, benchLen b)] else [])

/-- Step 6 ends in a refusal: the sheets after the one refused have not been written (08 R195). -/
def State.refuseSheet (s : State) (t : Nat) (r : Refuse) : State :=
  let later := if r.secType = 0x20 then s.sheetRanges t ((s.sheets t).drop (r.index + 1)) else []
  (s.setTract t { s.tract t with kept := (s.tract t).kept ++ later }).refuse t r.code r.secType r.index r.fold

/-- The lines of every sheet to be copied are read (07 R170, R428): whether each sheet met an uncorrectable one. -/
def State.scanSheets (s : State) (t : Nat) : List Bool × State :=
  (s.sheets t).foldl (fun (acc : List Bool × State) sh =>
    if s.sheetKept t (s.tract t).segs sh then (acc.1 ++ [false], acc.2)
    else
      let r := acc.2.scan .lantern [(sh.2.2.1, sh.2.1)]
      (acc.1 ++ [r.1 == 2], r.2)) ([], s)

/-- Stage 6: what no image covers is zeroed; sheets are copied and digested; a recovery load restores its pieces. `bads` are the
sheets that read uncorrectable. -/
def State.stage6 (s : State) (t : Nat) (bads : List Bool) : StageOut :=
  let x := s.tract t
  let sheets := s.sheets t
  match firstRefusal (((sheets.zip bads).zipIdx).map (s.sheetCheck t x.segs)) with
  | some r => .inr r
  | none =>
    let data := sheets.map fun sh => ((x.segs.getD sh.1 (0, 0)).1, s.rdBytes sh.2.2.1 sh.2.1, s.sheetKept t x.segs sh)
    let s := s.zeroRegions t
    let s := data.foldl (fun s d => if d.2.2 then s else s.put .lantern d.1 d.2.1) s
    let tiles := Config.platTiles (s.sectBytes t 0x12 x.variant 0xFFFF)
    match firstRefusal ((tiles.zipIdx).map (fun ri => need (s.tilesOk t (s.sheetRanges t sheets) ri.1) 0x11 0x12 ri.2 ri.1.1) ++
        s.tilesRecorded t tiles) with
    | some r => .inr r
    | none =>
      match x.restore with
      | none => .inl s
      | some st =>
        let a := x.restoreAddr
        if s.rdNat a 4 ≠ 0x54534552 ∨ s.rdNat (a + 4) 4 ≠ x.job ∨ s.rdNat (a + 8) 8 ≠ x.epoch ∨ s.rdNat (a + 16) 8 ≠ st then
          .inr { code := 0x08 }
        else s.restoreAll t (s.virtuals t)

/-! ### Stage 7: calendar, fabric, records -/

/-- One calendar entry (07 R158, R160): in the tract's share, reserved bits zero, a fold parcel. -/
def State.calRowOk (s : State) (t np : Nat) (r : Nat × Nat × Nat × Nat) : Bool :=
  let e := r.2.2.2
  decide (r.1 < 16 ∧ r.2.1 < lanesOf r.1 ∧ r.2.2.1 < positionsOf r.1) && s.inShare t r.1 r.2.2.1 &&
  bitsOf e 13 3 == 0 && decide (calKind e ≤ 4) && (if calKind e = 1 then decide (calOwner e < np) else calOwner e == 0)

/-- The entry at a position of a lane as the plat's calendar, given in rows, leaves it: the plat's own, in its share otherwise idle; in
other shares and outside them what has been installed there. -/
def State.calAround (s : State) (t : Nat) (rows : List (Nat × Nat × Nat × Nat)) (c lane pos : Nat) : Nat :=
  match rows.find? fun r => r.1 == c && r.2.1 == lane && r.2.2.1 == pos with
  | some r => r.2.2.2
  | none =>
    if s.inShare t c pos then 0
    else
      let e := tabGet calNone s.cal (calKey c lane pos)
      calLatest s.calWrites (calKey c lane pos) (s.tickNow + 1) (if e = calNone then 0 else e.toNat)

/-- The first entry that is not idle among those of a list. -/
def firstBusy (l : List Nat) : Option Nat := l.find? fun e => calKind e != 0

/-- Directions change only over idle positions, one on HBM and two on DDR5 (07 R160): the last of the positions before this one that
is not idle has its direction. Positions wrap at the tick. -/
def State.turnOk (s : State) (t : Nat) (rows : List (Nat × Nat × Nat × Nat)) (r : Nat × Nat × Nat × Nat) : Bool :=
  let n := positionsOf r.1
  let gap := if r.1 < 8 then 1 else 2
  calKind r.2.2.2 == 0 ||
    match firstBusy ((List.range gap).map fun i => s.calAround t rows r.1 r.2.1 ((r.2.2.1 + n - 1 - i) % n)) with
    | some e => calDir e == calDir r.2.2.2
    | none => true

/-- The checks of the calendar. -/
def State.calCheck (s : State) (t np : Nat) (rows : List (Nat × Nat × Nat × Nat)) : Option Refuse :=
  firstRefusal ((rows.zipIdx).map (fun ri => need (s.calRowOk t np ri.1) 0x0F 0x0F ri.2 0xFFFF) ++
    (rows.zipIdx).map fun ri => need (s.turnOk t rows ri.1) 0x0F 0x0F ri.2 0xFFFF)

/-- Install the calendar: in force from the next tick, OWNER a physical parcel (08 R189). -/
def State.installCal (s : State) (landing : List Nat) (rows : List (Nat × Nat × Nat × Nat)) : State :=
  s.writeCal (rows.map fun r =>
    let e := r.2.2.2
    (calKey r.1 r.2.1 r.2.2.1, if calKind e = 1 then putBits e 0 9 (landing.getD (calOwner e) 0) else e))

/-- A routing record lies in its ranges (06 R144). -/
def routingOk (serve : Bool) (r : List Nat) : Bool :=
  match r with
  | [site, e, k, m, tf, cap, fmt, bands, pol] =>
    decide (site ≤ 255) && decide (1 ≤ e ∧ e ≤ 65534) && decide (1 ≤ k ∧ k ≤ 8) && decide (k ≤ m ∧ m ≤ 8) &&
    decide (1 ≤ tf ∧ tf ≤ 16777215) && decide (1 ≤ cap ∧ cap ≤ tf) && (fmt == 15 || fmt == 16) &&
    [1, 2, 4].contains bands && decide (pol ≤ 1) && (pol != 1 || cap == tf) &&
    decide (e * cap < (if fmt = 15 then 65535 else 4294967295)) && decide (tf < (if fmt = 15 then 65535 else 4294967295)) &&
    !(serve && pol == 0)
  | _ => false

/-- The step-template header's checks (12 R290, R291). `kv` is the HBM KV segment's length. -/
def templateOk (b : List Byte) (np kv : Nat) : Bool :=
  let f := fieldOf b
  let ratios := f 0 1
  let targets := f 6 2
  let rows := f 8 4
  let ctx := f 0x0C 4
  let pb := f 0x10 4
  let dp := (List.range ratios).map fun r => f (0x40 + 16 * r) 4 + f (0x44 + 16 * r) 4
  let tl := leWords 2 targets (b.drop (0x40 + 16 * ratios))
  let pages := ceilDiv (ctx + 15) 64
  let w := targets * (36 * rows + f 0x30 4) + 8192
  let spans := [(f 0x20 4, f 0x1C 4), (f 0x24 4, 32 * rows), (f 0x28 4, 4 * rows), (f 0x2C 4, f 0x30 4), (f 0x34 4, 72 * rows)]
  let clash := (spans.zipIdx).any fun a => (spans.zipIdx).any fun c =>
    decide (a.2 < c.2 ∧ a.1.1 < c.1.1 + c.1.2 ∧ c.1.1 < a.1.1 + a.1.2)
  decide (1 ≤ ratios ∧ ratios ≤ 8) && f 1 1 != f 2 1 && decide (4 ≤ f 3 1) && decide (1 ≤ targets ∧ targets ≤ 512) &&
  decide (1 ≤ rows ∧ rows ≤ 65535) && ctx % 64 == 0 && decide (0 < ctx) && pb % 64 == 0 && decide (0 < pb) &&
  decide (f 0x18 4 ≤ 1048576) && f 0x38 8 == 0 && rising tl && tl.all (fun x => decide (x < np)) &&
  dp.all (fun x => decide (x ≤ rows)) && dp.any (· == rows) && decide (pages ≤ kv / max 1 pb) &&
  decide (64 + 36 * rows + 64 ≤ f 0x1C 4) && decide (4 * pages ≤ f 0x30 4) && !clash &&
  spans.all (fun x => decide (x.1 + x.2 ≤ 0x3FFFC0)) && decide (2 + ceilDiv w 65536 ≤ f 4 2)

/-- Images of the loaded parcels, re-read for the checks of stage 7. -/
def State.imagesAgain (s : State) (t : Nat) : List (Nat × Image) :=
  let x := s.tract t
  let vb := s.vbeacons t x.variant
  match s.finalImages t x.landing x.segs vb ((List.range x.bmapN).map fun v => (s.vBeacon t v).getD 0) (List.range x.landing.length) [] with
  | .inl l => l
  | .inr _ => []

/-- Stage 7: the remaining checks; calendar, refresh modes, routes, collectives and cadastre installed. -/
def State.stage7 (s : State) (t : Nat) : StageOut :=
  let x := s.tract t
  let v := x.variant
  let h := s.varHdr t v
  let serve := s.bit Reg.TRC_MODE t
  let cb := s.sectBytes t 0x0F v 0xFFFF
  let cal := Config.platCalendar cb
  let rb := s.sectBytes t 0x0C v 0xFFFF
  let lb := s.sectBytes t 0x0D v 0xFFFF
  let kb := s.sectBytes t 0x0E v 0xFFFF
  let tb := s.sectBytes t 0x13 v 0xFFFF
  let kvSeg := (Config.platServeSegs (s.sectBytes t 0x10 v 0xFFFF)).getD 1 0
  let routing := Config.platRouting (s.sectBytes t 0x11 v 0xFFFF)
  let checks := [s.calCheck t (hdrNp h) cal, s.fabricCheck t x.foldGrid rb lb kb (s.imagesAgain t)] ++
    (routing.zipIdx).map (fun ri => need (routingOk serve ri.1) 0x10 0x11 ri.2 0xFFFF) ++
    [if serve then need (templateOk tb (hdrNp h) ((x.segs.getD kvSeg (0, 0)).2)) 0x15 0x13 0 0xFFFF else none,
     s.benchCheck t v (hdrFm h) x.landing x.segs]
  match firstRefusal checks with
  | some r => .inr r
  | none =>
    let s := s.installCal x.landing cal
    let md := Config.platRefresh cb
    let s := (List.range 16).foldl (fun s c =>
      if cal.any fun r => r.1 == c then
        s.nextMode c fun s => s.setFld Reg.XX_REF_PLAN c (1 + (if c < 8 then md.1 else md.2) % 2)
      else s) s
    let s := s.installFabric t x.job x.epoch rb lb kb
    .inl (s.setTract t { s.tract t with templates := tb, benchLayout := s.benchBytes t v })

/-! ### Stages 2 and 8, and the command -/

/-- PCT_FAULT and PCT_FAULT_CMD, which only a tract load clears (02 R57). -/
def parcelFaultFlds : List Fld :=
  [Reg.PCT_FAULT_STATUS, Reg.PCT_FAULT_ENGINE, Reg.PCT_FAULT_TAG, Reg.PCT_FAULT_DISCARDS, Reg.PCT_FAULT_MORE, Reg.PCT_FAULT_CMD_VAL]

/-- Stage 2: every parcel of the tract is zeroed (02 R31), its fault record cleared (R57). -/
def State.stage2 (s : State) (t : Nat) : StageOut :=
  .inl ((s.tractParcels t).foldl (fun s p => (s.zeroParcel p).setFlds p (parcelFaultFlds.map fun f => (f, 0))) s)

/-- A session as a recovery load leaves it: its history, where it has one, is to be rebuilt, staged from an offset on; a move
in progress is over; a prompt not wholly placed is staged again. `ctx` is CTX_MAX. -/
def Sess.recovered (x : Sess) (off ctx : Nat) : Sess :=
  let st := if x.state = 5 then 6 else if x.state = 7 then (if x.req.isSome then 1 else 4) else x.state
  let need (q : SrvReq) : Nat := ceilDiv (min ctx (q.base + q.promptTokens + q.maxNew) + q.draftK) 64
  { x with
    state := st
    opDue := 0
    reported := 0
    releaseDue := false
    rebuild := decide (x.state ≠ 0 ∧ x.tokens ≠ [])
    rebuilt := 0
    rebuildOff := off
    reserved := if x.admitted then (x.req.map need).getD 0 else 0
    req := x.req.map fun q => { q with staged := q.staged && x.state == 3, placed := min q.promptTokens (x.tokens.length - q.base) } }

/-- Every session of tract t as a recovery load leaves it (13 R340). -/
def recoverSessions (t ctx : Nat) : Nat → Tab Sess → Tab Sess
  | _, [] => []
  | off, (i, x) :: rest =>
    if x.tract = t then (i, x.recovered off ctx) :: recoverSessions t ctx (off + 4 * x.tokens.length) rest
    else (i, x) :: recoverSessions t ctx off rest

/-- What the load of a serve-mode tract leaves of its serving instance (12 R287, R290): its segments, whether this is its front
module; rings, accounts and sessions go, but for a recovery load, which keeps them (13 R340). -/
def State.serveLoaded (s : State) (t : Nat) : State :=
  let x := s.tract t
  let serve := s.bit Reg.TRC_MODE t
  let s := s.putBit Reg.SRV_FRONT t (serve && x.foldModule == 0)
  let segs := (Config.platServeSegs (s.sectBytes t 0x10 x.variant 0xFFFF)).map fun n => x.segs.getD n (0, 0)
  let old := s.srvOf t
  if serve && x.restore.isSome then
    let s := { s with sessions := recoverSessions t (fieldOf x.templates 0x0C 4) 0 s.sessions }
    s.setSrv t { old with
      segs := segs
      rowsNow := []
      rowsNext := []
      composed := none
      applied := none
      ps := {}
      ops := []
      moves := []
      faulted := false
      hold := 0
      outbox := old.outbox.map fun d => { d with left := 0 } }
  else
    let mine (a : Nat) : Bool := (tabGet ({} : Acct) s.accts a).isOpen && (tabGet ({} : Acct) s.accts a).tract == t
    let drop (kv : Nat × Sess) : Nat × Sess :=
      if kv.2.tract = t then (kv.1, { gen := if kv.2.state = 0 then kv.2.gen else (kv.2.gen + 1) % 65536 }) else kv
    let s := { s with
      rings := s.rings.filter fun kv => !mine kv.2.acct
      sessions := (s.sessions.map drop).filter fun kv => decide (kv.2 ≠ ({} : Sess)) }
    let s := { s with accts := s.accts.filter fun kv => !mine kv.1 }
    let gone := match s.srvCmd with
      | some (2, r) => !(tabGet ({} : Ring) s.rings r).isOpen
      | some (_, a) => !(tabGet ({} : Acct) s.accts a).isOpen
      | none => false
    let s := if gone then ({ s with srvCmd := none }.setFlds 0 [(Reg.SRV_CMD_BUSY, 0), (Reg.SRV_CMD_RESULT, 0)]).raise Reg.SRV_EVT_CMD 0 else s
    s.setSrv t (if serve then { segs := segs } else {})

/-- Stage 8: the tract is LOADED; placed parcels are IDLE, others OFF (08 R194). -/
def State.stage8 (s : State) (t : Nat) : State :=
  let x := s.tract t
  let h := s.varHdr t x.variant
  let s := (s.tractParcels t).foldl (fun s p =>
    if s.pstate p = stQuarantined then s
    else s.setPstate p (if x.landing.contains p then stIdle else stOff)) s
  let s := s.setFlds t [(Reg.TRC_FM, hdrFm h), (Reg.TRC_S, hdrS h), (Reg.TRC_NP, hdrNp h),
    (Reg.TRC_BEACONS_USED, x.bmapN), (Reg.TRC_START_TICK_NUM, x.startTick), (Reg.TRC_STEP_NUM, x.stepStart)]
  let s := s.setTract t { x with
    stage := 0, kept := [], retiring := s.bit Reg.TRC_MODE t && s.retiringUsed t, trackLost := s.fld Reg.SFM_LWDT_LOST 0 }
  let s := s.serveLoaded t
  let lay := s.benchBytes t x.variant
  let s := { s with bench := tabPut {} s.bench t (if benchPieces lay = 0 then {} else
    { job := x.job, epoch := x.epoch, fm := hdrFm h, every := fieldOf lay 0 4, base := s.benchBase t lay, layout := lay }) }
  let s := (s.trcMove t 2).trcEvent Reg.TRC_EVT_LOADED t
  match s.tractJob t with
  | some j => s.tryReady j
  | none => s

/-- A plat sent in lantern requests has come whole (13 R344). -/
def State.planHere (s : State) (t : Nat) : Bool :=
  !(s.tract t).bcast || decide (0x28 ≤ (s.tract t).chunks.length ∧ s.imgNat t 0x20 8 ≤ (s.tract t).chunks.length)

/-- Stage 6 runs to its end: to stage 7, or to a refusal. -/
def State.loadSheets (s : State) (t : Nat) : State :=
  let r := s.scanSheets t
  let s := r.2
  match s.stage6 t r.1 with
  | .inl s => s.setTract t { s.tract t with stage := 7 }
  | .inr r => s.refuseSheet t r

/-- Stage 3 with its reading. -/
def State.readPlat (s : State) (t : Nat) : State × StageOut :=
  let l := s.platSpans t
  let m := s.scan .lantern l.1
  let r := m.2.scan .lantern l.2
  (r.2, r.2.stage3 t (m.1 == 2) (r.1 == 2))

/-- LOAD_STAGE_COMPLETE (08 R194): the stage in progress of tract t's load ends, and the next begins; a failed check
ends the load (R195). -/
def State.loadStage (s : State) (t : Nat) : State :=
  let go (s : State) (o : StageOut) : State := match o with
    | .inl s => s.setTract t { s.tract t with stage := (s.tract t).stage + 1 }
    | .inr r => s.refuse t r.code r.secType r.index r.fold
  if s.fld Reg.TRC_STATE_CODE t ≠ 1 then s
  else
    match (s.tract t).stage with
    | 2 => go s (s.stage2 t)
    | 3 => if s.planHere t then go (s.readPlat t).1 (s.readPlat t).2 else s
    | 4 => go s (s.stage4 t)
    | 5 => go s (s.stage5 t)
    | 6 => (s.setTract t { s.tract t with kept := s.keepRanges t }).loadSheets t
    | 7 => go s (s.stage7 t)
    | 8 => s.stage8 t
    | _ => s

/-- LOAD_STAGE_COMPLETE (08 R194); one that ends in the cycle in which the tract goes dark comes before DARK (R193). -/
def execLoadStageComplete (t : TractId) (s : State) : Host.Outcome State Fault Refusal :=
  if s.moduleDark then done s else
  match s.darkNow t with
  | some was => done (s.beforeDark t was fun s => s.loadStage t)
  | none => done (s.loadStage t)

end Sys2Proof.Machine
end

