-- ==== Sys2Proof/Machine/Jobs.lean ====
section
/-!
DEFINITION. Starting, ending and aborting a job across the hall (13 R344 to R347), and the lantern messages of other
chapters (11 R275, 13 R339).
-/
namespace Sys2Proof.Machine

/-! ### The start message (13 R344) -/

/-- A field of a start message. -/
def msgField (m : List Byte) (off n : Nat) : Nat := leNat ((m.drop off).take n)
def msgJob (m : List Byte) : Nat := msgField m 0 4
def msgEpoch (m : List Byte) : Nat := msgField m 4 8
def msgTract (m : List Byte) : Nat := msgField m 12 1
def msgMap (m : List Byte) : Nat := msgField m 64 8
def msgPlat (m : List Byte) : Nat := msgField m 72 8
/-- A step field; all ones is none. -/
def msgStep (m : List Byte) (off : Nat) : Option Nat :=
  if msgField m off 8 = 2 ^ 64 - 1 then none else some (msgField m off 8)

/-- The fold module at a position of a tract's mapping record. -/
def State.foldAt (s : State) (t x y z : Nat) : Nat :=
  let g := s.mapGrid t
  s.mapCoord t (x + g.getD 0 1 * (y + g.getD 1 1 * z))

/-- The children of fold module (x, y, z) in the start tree: the next in z, and from z = 0 in y, and from y = 0 in x. -/
def State.treeChildren (s : State) (t x y z : Nat) : List Nat :=
  let g := s.mapGrid t
  (if z + 1 < g.getD 2 1 then [s.foldAt t x y (z + 1)] else []) ++
  (if z = 0 ∧ y + 1 < g.getD 1 1 then [s.foldAt t x (y + 1) 0] else []) ++
  (if z = 0 ∧ y = 0 ∧ x + 1 < g.getD 0 1 then [s.foldAt t (x + 1) 0 0] else [])

/-- The parent of fold module (x, y, z). -/
def State.treeParent (s : State) (t x y z : Nat) : Nat :=
  if 0 < z then s.foldAt t x y (z - 1) else if 0 < y then s.foldAt t x (y - 1) 0 else s.foldAt t (x - 1) 0 0

/-- The link toward a child is OWNED by the job's epoch (11 R276, 13 R345). -/
def State.linkOwned (s : State) (dest job epoch : Nat) : Bool :=
  let k : Nat := Config.nextLink s.coord dest
  (List.range 16).any fun i =>
    let o := s.owner k i
    o.job == job && o.epoch == epoch && o.state == ownOwned

/-- The parts of a plat, of at most one packet each. -/
def platParts (b : List Byte) : List (List Byte) := (List.range ((b.length + 1023) / 1024)).map fun i => (b.drop (1024 * i)).take 1024

/-- Send the start message to every child whose link is OWNED, and behind it what has come of a plat that follows it; the others
wait, held from now on. -/
def State.forwardStart (s : State) (j : Nat) : State :=
  let x := s.job j
  let s := x.children.foldl (fun s c =>
    if c.sentAt.isNone && s.linkOwned c.coord j x.epoch then
      let s1 := s.setChild j c.coord fun d => { d with sentAt := some s.datum, trans := s.transCtr }
      (platParts (if (s.tract x.tract).bcast then (s.tract x.tract).chunks else [])).foldl (fun s b => s.request c.coord 0x0002 j x.epoch b)
        (s1.request c.coord 0x0001 j x.epoch x.msg)
    else s) s
  let y := s.job j
  let waits := y.children.any fun c => c.sentAt.isNone
  s.setJob j { y with heldSince := if waits then (match y.heldSince with
    | some b => some b
    | none => some s.datum) else none }

/-- Every held start message whose link has become OWNED goes on. -/
def State.forwardHeld (s : State) : State :=
  (s.jobs.map (·.1)).foldl (fun s j => if (s.job j).heldSince.isSome then s.forwardStart j else s) s

/-- The checks of a start message: its tract is configured and takes a load, and PLAT_DIGEST is the mapping record's. -/
def State.startOk (s : State) (m : List Byte) : Bool :=
  decide (msgTract m < 8) && s.bit Reg.TRC_CONFIGURED (msgTract m) && acceptsLoad (s.fld Reg.TRC_STATE_CODE (msgTract m)) &&
    (m.drop 16).take 48 == s.rdBytes (msgMap m + 0x20) 48

/-- Accept a start message: the tract's load begins, and the tree around this module is laid out. -/
def State.acceptStart (s : State) (m : List Byte) (root : Bool) : State :=
  let t := msgTract m
  let j := msgJob m
  let s := s.setFlds t [(Reg.TRC_MAP, msgMap m), (Reg.TRC_PLAT_ADDR, msgPlat m)]
  let s := s.trcLoad .lantern t
  let s := s.setTract t { s.tract t with
    bcast := decide (msgPlat m = 0)
    chunks := []
    restore := msgStep m 80
    restoreAddr := msgField m 88 8
    stopStep := msgStep m 96
    job := j
    epoch := msgEpoch m }
  let i := (s.ownFold t).getD 0
  let g := s.mapGrid t
  let c (n : Nat) : Nat := i / n
  let x := i % g.getD 0 1
  let y := c (g.getD 0 1) % g.getD 1 1
  let z := c (g.getD 0 1 * g.getD 1 1)
  let r : JobRec := {
    epoch := msgEpoch m
    tract := t
    root := root
    parent := if root then s.coord else s.treeParent t x y z
    msg := m
    word := (s.job j).word
    children := (s.treeChildren t x y z).map fun d => { coord := d } }
  (s.setJob j r).forwardStart j

/-- Reset a tract that is loading (13 R345). -/
def State.resetLoading (s : State) (t : Nat) : State :=
  if s.fld Reg.TRC_STATE_CODE t = 1 then s.trcReset .lantern t else s

/-- The reply to a request: back on the link it came on. -/
def State.reply (s : State) (k : Nat) (p : Pkt) (status : Nat) : State := s.sendLantern k (replyTo p status)

/-- A message for a farther module is sent on; one for this module is handled. -/
def State.orRelay (s : State) (p : Pkt) (here : State → State) : State :=
  if p.dest = s.coord then here s else s.relayLantern p

/-- The oldest request of an operation that link l has brought. -/
def wantReq (op : Nat) (p : Pkt) : Bool := p.kind == 0x83 && p.spec 4 2 == op

/-- START_MESSAGE (13 R344 to R346): the start message waiting from link l, at datum t. A lower EPOCH is refused; the same
epoch is acknowledged again; a higher one resets a tract that loads the old, and the message waits until the reset is
over; otherwise it is accepted, acknowledged and relayed. Start messages held for a link are tried again. -/
def State.startMessage (s : State) (l : Nat) : State :=
  match s.takeLantern l (wantReq 0x0001) with
  | none => s
  | some (p, s1) =>
    s1.orRelay p fun s1 =>
      let m := p.payload
      let x := s1.job (msgJob m)
      if x.known && decide (msgEpoch m < x.epoch) then s1.reply l p 0x31
      else if x.known && msgEpoch m == x.epoch then s1.reply l p 0x00
      else if x.known && s.fld Reg.TRC_STATE_CODE x.tract == 1 then s.resetLoading x.tract
      else if s.fld Reg.TRC_STATE_CODE (msgTract m) = 6 then s
      else if s1.startOk m then (s1.acceptStart m false).reply l p 0x00
      else s1

/-- START_MESSAGE (13 R344). -/
def execStartMessage (l : LinkId) (t : Nat) (s : State) : Host.Outcome State Fault Refusal :=
  if s.moduleDark then done s else
  done ((s.at t).startMessage l).forwardHeld

/-- PLAT_CHUNK (13 R344): a part of the plat arrives from link l, is kept for the load, and goes on to the children
that have been sent the start message. -/
def execPlatChunk (l : LinkId) (s : State) : Host.Outcome State Fault Refusal :=
  if s.moduleDark then done s else
  match s.takeLantern l (wantReq 0x0002) with
  | none => done s
  | some (p, s1) =>
    done (s1.orRelay p fun s =>
      let x := s.job p.job
      let t := x.tract
      if x.known && x.epoch == p.epoch && (s.tract t).bcast then
        let s := s.setTract t { s.tract t with chunks := (s.tract t).chunks ++ p.payload }
        let s := x.children.foldl (fun s c => if c.sentAt.isSome then s.request c.coord 0x0002 p.job p.epoch p.payload else s) s
        s.reply l p 0x00
      else s)

/-! ### Abandoning (13 R345) -/

/-- This module gives up a start: ABANDON goes to the parent and to every child but one, the tract is reset if it loads
that epoch, and at the root the word becomes ABANDONED. No acknowledgement is waited for any longer. -/
def State.abandon (s : State) (j except' : Nat) (toParent : Bool) : State :=
  let x := s.job j
  let s := if x.root || !toParent then s else s.request x.parent 0x0003 j x.epoch []
  let s := x.children.foldl (fun s c => if c.coord = except' then s else s.request c.coord 0x0003 j x.epoch []) s
  let s := if s.tractJob x.tract = some j then s.resetLoading x.tract else s
  let y := s.job j
  let s := s.setJob j { y with heldSince := none, children := y.children.map fun c => if c.acked then c else { c with sentAt := none } }
  if x.root && (x.word == jobStarting || x.word == jobGo) then s.setWord j jobAbandoned else s

/-- ABANDON (13 R345), from link l: it goes on to the parent and to every other child. -/
def execAbandon (l : LinkId) (s : State) : Host.Outcome State Fault Refusal :=
  if s.moduleDark then done s else
  match s.takeLantern l (wantReq 0x0003) with
  | none => done s
  | some (p, s1) =>
    done (s1.orRelay p fun s =>
      let x := s.job p.job
      if x.known && x.epoch == p.epoch then (s.abandon p.job p.src (p.src != x.parent)).reply l p 0x00 else s.reply l p 0x00)

/-- Record START_ABANDONED: the failed start's report, and the tree is told. -/
def State.startAbandoned (s : State) (j except' : Nat) : State :=
  let x := s.job j
  (s.report { kind := 2, status := 0x32, tract := x.tract, job := j, epoch := x.epoch, step := s.tickNow }).abandon j except' true

/-- START_ACK_TIMEOUT (13 R345): at datum t a child of job j has not acknowledged within 50 ms of sending. -/
def execStartAckTimeout (j t : Nat) (s : State) : Host.Outcome State Fault Refusal :=
  if s.moduleDark then done s else
  let s := s.at t
  match (s.job j).children.find? fun c => !c.acked && (match c.sentAt with
    | some b => decide (b + 50000000 ≤ s.datum)
    | none => false) with
  | some c => done (s.startAbandoned j c.coord)
  | none => done s

/-- START_HOLD in nanoseconds (15 R369): 1 to 60 s, 0 meaning 5. -/
def State.startHoldNs (s : State) : Nat :=
  let v := leNat ((s.boot.cfgSection.drop 0x19).take 1)
  (if v = 0 then 5 else v) * 1000000000

/-- START_HOLD_EXPIRY (13 R345): at datum t the hold of job j's start message has run out. -/
def execStartHoldExpiry (j t : Nat) (s : State) : Host.Outcome State Fault Refusal :=
  if s.moduleDark then done s else
  let s := s.at t
  match (s.job j).heldSince with
  | some b =>
    if b + s.startHoldNs ≤ s.datum then
      let c := ((s.job j).children.find? fun c => c.sentAt.isNone).map (·.coord)
      done (s.startAbandoned j (c.getD (2 ^ 18)))
    else done s
  | none => done s

/-! ### READY, GO, DONE, ABORT (13 R346, R347) -/

/-- READY (13 R346), from link l. -/
def execReady (l : LinkId) (s : State) : Host.Outcome State Fault Refusal :=
  if s.moduleDark then done s else
  match s.takeLantern l (wantReq opReady) with
  | none => done s
  | some (p, s1) =>
    done (s1.orRelay p fun s =>
      if (s.job p.job).known && (s.job p.job).epoch == p.epoch then
        ((s.setChild p.job p.src fun c => { c with ready := true }).tryReady p.job).reply l p 0x00
      else s.reply l p 0x00)

/-- A module learns of GO: its tick enters TRC_START_TICK and TRC_START is written; a tick that has passed abandons the
start. -/
def State.takeGo (s : State) (j tick : Nat) : State :=
  let t := (s.job j).tract
  let s := s.setFld Reg.TRC_START_TICK_NUM t tick
  let late := decide (2048 * tick ≤ s.datum)
  let s := s.trcStart .lantern t
  if late then s.abandon j (2 ^ 18) true else s

/-- GO (13 R346): from link l it is taken and sent on; at the root, whose own GO has gone out, it is taken. At datum t. -/
def execGo (l : LinkId) (t : Nat) (s : State) : Host.Outcome State Fault Refusal :=
  if s.moduleDark then done s else
  let s := s.at t
  let own (s : State) : State :=
    match s.jobs.find? fun jx => jx.2.root && jx.2.word == jobGo && jx.2.go.isSome && !(s.tract jx.2.tract).armed &&
        s.fld Reg.TRC_STATE_CODE jx.2.tract == 2 with
    | some jx => s.takeGo jx.1 (jx.2.go.getD 0)
    | none => s
  match s.takeLantern l (wantReq opGo) with
  | none => done (own s)
  | some (p, s1) =>
    done (s1.orRelay p fun s =>
      let x := s.job p.job
      if x.known && x.epoch == p.epoch then
        let tick := leNat (p.payload.take 8)
        ((s.sendGo p.job tick).takeGo p.job tick).reply l p 0x00
      else s.reply l p 0x00)

/-- DONE (13 R347), from link l. -/
def execDone (l : LinkId) (s : State) : Host.Outcome State Fault Refusal :=
  if s.moduleDark then done s else
  match s.takeLantern l (wantReq opDone) with
  | none => done s
  | some (p, s1) =>
    done (s1.orRelay p fun s =>
      if (s.job p.job).known && (s.job p.job).epoch == p.epoch then
        ((s.setChild p.job p.src fun c => { c with finished := true }).tryDone p.job).reply l p 0x00
      else s.reply l p 0x00)

/-- A module learns of an abort: the job's tract is reset unless it is STOPPED, and the message goes down the tree. -/
def State.takeAbort (s : State) (j : Nat) : State :=
  let x := s.job j
  let s := x.children.foldl (fun s c => s.request c.coord opAbort j x.epoch []) s
  let st := s.fld Reg.TRC_STATE_CODE x.tract
  if s.tractJob x.tract = some j ∧ st ≠ 5 ∧ st ≠ 0 ∧ st ≠ 6 then s.trcReset .lantern x.tract else s

/-- ABORT (13 R347), from link l. -/
def execAbort (l : LinkId) (s : State) : Host.Outcome State Fault Refusal :=
  if s.moduleDark then done s else
  match s.takeLantern l (wantReq opAbort) with
  | none => done s
  | some (p, s1) =>
    done (s1.orRelay p fun s =>
      if (s.job p.job).known && (s.job p.job).epoch == p.epoch then (s.takeAbort p.job).reply l p 0x00 else s.reply l p 0x00)

/-- An ABORT request at the root (13 R347): a completion recorded before it, or any transition of its cycle, wins:
ABORTED stands last in every row of the table. The answer is its status. -/
def State.abortAtRoot (s : State) (j : Nat) : Nat × State :=
  let x := s.job j
  if !x.known || !x.root then (0x11, s)
  else if x.word = jobComplete then (0x01, s)
  else if x.wordAt = s.datum then (0x11, s)
  else if [jobStarting, jobGo, jobRunning, jobRecovering].contains x.word then (0x00, (s.setWord j jobAborted).takeAbort j)
  else (0x00, s)

/-- This module becomes the root of a start (13 R344, 16 R392): the word becomes STARTING. The answer is the status. -/
def State.startAtRoot (s : State) (m : List Byte) : Nat × State :=
  let j := msgJob m
  let x := s.job j
  if x.known && decide (msgEpoch m < x.epoch) then (0x31, s)
  else if x.known && msgEpoch m == x.epoch then (0x00, s)
  else if x.known && s.fld Reg.TRC_STATE_CODE x.tract == 1 then (0x11, s.resetLoading x.tract)
  else if s.startOk m then
    let free := !x.known || [0, jobComplete, jobAborted, jobAbandoned, jobRecovering].contains x.word
    if free then
      let s := s.acceptStart m true
      (0x00, s.setWord j jobStarting)
    else (0x11, s)
  else (0x11, s)

/-! ### Replies, notices, the journal (11 R275, 13 R339) -/

/-- LANTERN_REPLY (11 R275): the oldest reply from link l is consumed. A reply with status OK to a start message
acknowledges it; the neighbour's reply to a journal entry frees the commit's deliveries (13 R339). -/
def State.lanternReply (s : State) (l : Nat) (freeJournal : Nat → State → State) : State :=
  match s.takeLantern l fun p => p.kind == 0x84 with
  | none => s
  | some (p, s1) =>
    s1.orRelay p fun s =>
      let s := s.reserve p
      let ok := p.spec 6 1 == 0
      if p.spec 4 2 = 0x0001 then
        (s.jobs.map (·.1)).foldl (fun s j =>
          let x := s.job j
          s.setJob j { x with children := x.children.map fun c =>
            if c.coord = p.src ∧ c.trans % 2 ^ 32 = p.spec 0 4 ∧ c.sentAt.isSome = true ∧ ok = true then { c with acked := true } else c }) s
      else if p.spec 4 2 = opJournal ∧ ok = true then freeJournal p.job s
      else s

/-- Append a journal entry to the tract's serve segment, wrapping at its end: its own entry or the neighbour's (13 R339). -/
def State.journalPut (s : State) (t : Nat) (b : List Byte) : State :=
  let x := s.srvOf t
  let g := x.segs.getD 0 (0, 0)
  let n := b.length
  let off := if x.journalOff + n ≤ g.2 then x.journalOff else 0
  let s := if n ≤ g.2 then s.put .lantern (g.1 + off) b else s
  s.setSrv t { x with journalOff := off + n }

/-- JOURNAL_ENTRY (13 R339): an entry of the front module's journal is stored in this module's serve segment. -/
def execJournalEntry (l : LinkId) (s : State) : Host.Outcome State Fault Refusal :=
  if s.moduleDark then done s else
  match s.takeLantern l (wantReq opJournal) with
  | none => done s
  | some (p, s1) =>
    done (s1.orRelay p fun s =>
      match (List.range 8).find? fun t => (s.tract t).job == p.job && (s.tract t).epoch == p.epoch && (s.tract t).landing != [] with
      | some t => (s.journalPut t p.payload).reply l p 0x00
      | none => s.reply l p 0x31)

end Sys2Proof.Machine
end

