-- ==== Sys2Proof/Machine/SafetyMon.lean ====
section
/-!
DEFINITION. The safety monitor: known-answer tests, clock monitors, watchdogs, sensors, the dark (14 R348 to R366), and
the power stage's trips (17 R412, R413).
-/
namespace Sys2Proof.Machine

/-! ### Quarantine (14 R359, 15 R378, R379) -/

/-- A marked parcel of no running tract enters QUARANTINED, from OFF, IDLE or STOPPED (02 R42). -/
def State.quarantine (s : State) (p : Nat) : State :=
  let st := s.pstate p
  let running := match s.ptract p with
    | some t => s.fld Reg.TRC_STATE_CODE t == 3 || s.fld Reg.TRC_STATE_CODE t == 4
    | none => false
  if tabGet false s.safety.marked p && !running && !s.disabled p && (st == stOff || st == stIdle || st == stStopped) then
    s.setPstate p stQuarantined
  else s

/-- Mark a parcel, by hand or on a hard failure. -/
def State.markQuarantine (s : State) (p : Nat) : State := (s.markParcel p).quarantine p

/-- Every marked parcel of a tract that may be quarantined is. -/
def State.quarantineTract (s : State) (t : Nat) : State := (s.tractParcels t).foldl State.quarantine s

/-! ### Known-answer tests (14 R351 to R354) -/

/-- The end of a re-test (15 R379): passed clears the parcel's count and marking, the one kept in flash too, and it is OFF. -/
def State.retestEnd (s : State) (p : Nat) (pass : Bool) : State :=
  let s := s.setFlds 0 [(Reg.MCB_RETEST_STATUS, if pass then 0 else 0x41), (Reg.MCB_RETEST_PARCEL, p),
    (Reg.MCB_RETEST_PASSED, s.boot.retestPassed)]
  let s := { s with boot := { s.boot with retest := none, retestPassed := 0 } }
  let x := s.safety
  let s := if pass then
      let s : State := { s with safety := { x with counted := tabErase x.counted p, marked := tabErase x.marked p, hard := tabErase x.hard p } }
      s.keepMarks.setPstate p stOff
    else s
  s.raise Reg.MCB_EVT_RETEST 0

/-- A safety slot of a parcel under re-test: four passes in four consecutive ticks pass it; `follows`: the slot before this one was
the preceding tick's. -/
def State.retestSlot (s : State) (p : Nat) (follows pass : Bool) : State :=
  if pass then
    let s := (s.count Reg.SFM_KAT_PASS 0 1)
    let n := if follows then s.boot.retestPassed + 1 else 1
    let s := { s with boot := { s.boot with retestPassed := n } }
    if 4 ≤ n then s.retestEnd p true else s
  else
    ((s.count Reg.SFM_KAT_FAILS 0 1).safeRec { kind := 2, unit := p, temp := s.tempOf (p / 16), flags := s.tractFlag (p / 16) }).retestEnd p false

/-- The parcel's tract is reset, where it takes a reset. -/
def State.resetTractOf (s : State) (p : Nat) : State :=
  match s.ptract p with
  | some t => if acceptsReset (s.fld Reg.TRC_STATE_CODE t) && s.fld Reg.TRC_STATE_CODE t != 6 then s.trcReset .lantern t else s
  | none => s

/-- A missed test (14 R353): two periods in a row drive the tract dark. -/
def State.katMissed (s : State) (p period : Nat) : State :=
  let prev := tabGet 0 s.safety.missed p
  let s := (s.count Reg.SFM_KAT_MISSED 0 1)
  let s := { s with safety := { s.safety with missed := tabPut 0 s.safety.missed p (period + 1) } }
  match s.ptract p with
  | some t => if 0 < period ∧ prev = period ∧ s.fld Reg.TRC_STATE_CODE t ≠ 7 then s.darkTract t else s
  | none => s

/-- KAT_SLOT (14 R351 to R354): parcel p's safety slot at datum t, in plan cycles 1,753 to 1,944 of its tick; `pass` is the
test's result, the forced residue mismatch (R350) reported included. A tick's slot holds one test of a parcel. -/
def execKatSlot (p : ParcelId) (t : Nat) (pass : Bool) (s : State) : Host.Outcome State Fault Refusal :=
  let s := s.at t
  let w := p.val / 16
  let n := (s.town w).tick.getD 0
  let inSlot := s.planRuns w && decide (1753 ≤ s.cycleNow w ∧ s.cycleNow w ≤ 1944)
  let last := tabGet 0 s.safety.tested p
  let marked : State := { s with safety := { s.safety with tested := tabPut 0 s.safety.tested p (n + 1) } }
  if !inSlot ∨ last = n + 1 then done s
  else if s.boot.retest = some p.val then done (marked.retestSlot p (last == n) pass)
  else
    match s.katDue p n with
    | none => done s
    | some period =>
      let s := marked
      let busy := [0, 1].any fun e => (s.eng p e).flight.any fun f => f.stage == .run
      if busy then done (s.katMissed p period)
      else if pass then done (s.count Reg.SFM_KAT_PASS 0 1)
      else
        let s := (s.count Reg.SFM_KAT_FAILS 0 1).parcelError p 2 0 0 0 0 (s.parcelLoad p)
        let x := s.safety
        let s := { s with safety := { x with reruns := tabPut 0 x.reruns p 4, rerunTick := tabPut 0 x.rerunTick p (s.tickNow + 1) } }
        done ((s.sfmEvent Reg.SFM_EVT_KAT_FAIL Reg.SFM_EVT_KAT_FAIL_ALERT).resetTractOf p)

/-- KAT_RERUN (14 R354): one of the four reruns after a failed test, each in the next tick, at datum t. A failure is hard:
the parcel is marked at once. -/
def execKatRerun (p : ParcelId) (t : Nat) (pass : Bool) (s : State) : Host.Outcome State Fault Refusal :=
  let s := s.at t
  let x := s.safety
  let left := tabGet 0 x.reruns p
  if left = 0 ∨ s.tickNow < tabGet 0 x.rerunTick p then done s
  else
    let s := { s with safety := { x with reruns := tabPut 0 x.reruns p (left - 1), rerunTick := tabPut 0 x.rerunTick p (s.tickNow + 1) } }
    if pass then done ((s.count Reg.SFM_KAT_PASS 0 1).quarantine p)
    else
      let s := (s.count Reg.SFM_KAT_FAILS 0 1).parcelError p 3 0 0 0 0 (s.parcelLoad p)
      let s := { s with safety := { s.safety with hard := tabPut false s.safety.hard p true } }
      done (s.markQuarantine p)

/-! ### Clock monitors and the monitor itself (14 R355, R356) -/

/-- Nominal cycles of a monitored clock in 10.24 µs: 0 to 31 townships, 32 the spine, 33 to 36 the lanterns at 1.5 GHz, 37
the monitor's own oscillator at 200 MHz. -/
def clockNominal (i : Nat) : Nat := if i < 33 then 10240 else if i < 37 then 15360 else 2048

/-- The limit, in percent of the nominal period: 99, and 97 while the reference is lost. -/
def State.clockLimit (s : State) : Nat := if s.fld Reg.CLK_REF_STATE 0 = 3 then 97 else 99

/-- A monitored clock runs too fast: its average period is below the limit. -/
def State.clockFast (s : State) (i cycles : Nat) : Bool := decide (clockNominal i * 100 < cycles * s.clockLimit)

/-- A faulty township clock: recorded, and its tract goes dark. -/
def State.townClockFault (s : State) (w : Nat) : State :=
  let d := s.draw
  let s := d.2.safeRec { kind := 6, unit := d.1 % 65536, temp := s.tempOf w, flags := s.tractFlag w }
  let s := s.setTown w { s.town w with clockFault := true }
  match s.tractOf w with
  | some t => if s.fld Reg.TRC_STATE_CODE t = 7 then s else s.darkTract t
  | none => s.stopClock w

/-- CLOCK_MONITOR_WINDOW (14 R355, R356): at datum t a window of 10.24 µs ends in which clock i made a number of cycles. -/
def execClockMonitorWindow (i : Fin 38) (cycles t : Nat) (s : State) : Host.Outcome State Fault Refusal :=
  let s := s.at t
  if s.moduleDark then done s
  else if i.val = 37 then
    let off := absDiff (cycles * 100) 204800
    if s.fld Reg.CLK_REF_STATE 0 ≠ 3 ∧ 3 * 2048 < off then done (s.goDark 9) else done s
  else if s.clockFast i cycles then
    if i.val < 32 then done (s.townClockFault i)
    else
      let d := s.draw
      done ((d.2.safeRec { kind := 6, unit := d.1 % 65536, temp := s.tempOf 32 }).goDark 9)
  else done s

/-- LOCKSTEP_MISMATCH (14 R356): the monitor's cores disagree, or its SRAM holds an uncorrectable word, at datum t. -/
def execLockstepMismatch (t : Nat) (s : State) : Host.Outcome State Fault Refusal := done ((s.at t).goDark 10)

/-- HEARTBEAT_SEND (14 R356) at datum t. -/
def execHeartbeatSend (t : Nat) (s : State) : Host.Outcome State Fault Refusal :=
  let s := s.at t
  done { s with safety := { s.safety with heartbeat := s.datum } }

/-- HEARTBEAT_TIMEOUT (14 R356): the supervisor has received no heartbeat for 1 ms at datum t. -/
def execHeartbeatTimeout (t : Nat) (s : State) : Host.Outcome State Fault Refusal :=
  let s := s.at t
  if s.safety.heartbeat + 1000000 ≤ s.datum then done (s.goDark 11) else done s

/-! ### Lantern watchdogs (14 R357, 15 R381, R382) -/

/-- A kick: bit c of the mask is core c's; one from a lost core is ignored. -/
def State.lwdtKick (s : State) (mask : Nat) : State :=
  (List.range 4).foldl (fun s c =>
    if bitAt mask c && !bitAt (s.fld Reg.SFM_LWDT_LOST 0) c then
      { s with safety := { s.safety with kicks := tabPut 0 s.safety.kicks c (s.datum + 1) } }
    else s) s

/-- SFM_LWDT_KICK (14 R357) at datum t. -/
def execSfmLwdtKick (mask : Fin 16) (t : Nat) (s : State) : Host.Outcome State Fault Refusal := done (s.lit ((s.at t).lwdtKick mask))

/-- A handover is abandoned (15 R382): the old image keeps every duty and the flash is not written. -/
def State.abandonHandover (s : State) : State :=
  if s.boot.handover = 0 then s
  else
    ((({ s with boot := { s.boot with handover := 0 } }).setFlds 0 [(Reg.MCB_HANDOVER, 0), (Reg.MCB_FW_RESULT, 0x03)]).raise
      Reg.MCB_EVT_FW 0).freeLoads

/-- Firmware runs on the lanterns: the module is READY, or its start is past that step (15 R373, R375). -/
def State.firmwareRuns (s : State) : Bool :=
  s.fld Reg.MCB_STATE_CODE 0 == 2 || (s.boot.kind == 1 && decide (6 ≤ s.boot.step)) || (s.boot.kind == 2 && decide (4 ≤ s.boot.step))

/-- A core's duty to kick runs: firmware runs, and the core is neither lost nor halted by its debugger. -/
def State.coreWatched (s : State) (c : Nat) : Bool :=
  s.firmwareRuns &&
  !bitAt (s.fld Reg.SFM_LWDT_LOST 0) c && !(tabGet {} s.dm.harts c : Hart).halted

/-- LANTERN_WATCHDOG_EXPIRY (14 R357): core c has missed its deadline at datum t, and is lost; with the last one the module
goes dark. -/
def execLanternWatchdogExpiry (c : Fin 4) (t : Nat) (s : State) : Host.Outcome State Fault Refusal :=
  let s := s.at t
  let due := tabGet 0 s.safety.kicks c + 1000000 * s.ctl Reg.SFM_LWDT_MS 0 < s.datum + 1
  if s.coreWatched c && !s.moduleDark && decide due then
    let lost := s.fld Reg.SFM_LWDT_LOST 0 + 2 ^ c.val
    let s := s.setFld Reg.SFM_LWDT_LOST 0 lost
    let s := ((s.safeRec { kind := 7, unit := 0x400 + c }).sfmEvent Reg.SFM_EVT_LANTERN Reg.SFM_EVT_LANTERN_ALERT).abandonHandover
    if lost = 15 then done (s.goDark 12) else done s
  else done s

/-! ### Sensors (14 R349, 17 R419) -/

/-- The mesh neighbours of township w (00 R5). -/
def meshNeighbours (w : Nat) : List Nat :=
  (if w % 8 = 0 then [] else [w - 1]) ++ (if w % 8 = 7 then [] else [w + 1]) ++ (if w < 8 then [] else [w - 8]) ++
  (if 24 ≤ w then [] else [w + 8])

/-- A township's sensor is faulty: out of range, or more than 15 °C from the mean of its mesh neighbours. -/
def sensorFaulty (temps : List (Option Nat)) (w : Nat) : Bool :=
  match temps.getD w none with
  | none => true
  | some v =>
    let ns := (meshNeighbours w).filterMap fun n => temps.getD n none
    !ns.isEmpty && decide (15 * ns.length < absDiff (v * ns.length) (ns.foldl (· + ·) 0))

/-- DIE_SENSOR_READ (14 R349, 17 R419): the sensors of townships 0 to 31 and of the spine are read at datum t; none is a
reading out of range. -/
def execDieSensorRead (temps : List (Option Nat)) (t : Nat) (s : State) : Host.Outcome State Fault Refusal :=
  let s := s.at t
  let l := (List.range 33).map fun w => temps.getD w none
  let vals := l.filterMap id
  let top := min 255 (vals.foldl max 0)
  let s := { s with safety := { s.safety with temps := (l.zipIdx).foldl (fun (m : Tab Nat) (v : Option Nat × Nat) => tabPut 0 m v.2 (min 255 (v.1.getD 0))) s.safety.temps } }
  let warned := s.fld Reg.PWR_T_DIE_MAX 0
  let warn := s.fld Reg.PWR_T_DIE_WARN 0
  let s := s.setFld Reg.PWR_T_DIE_MAX 0 top
  let s := if warned ≤ warn ∧ warn < top then s.raise Reg.PWR_EVT_T_WARN 0 else s
  let s := if s.ctl Reg.SFM_T_DIE 0 ≤ top then s.goDark 6 else s
  if l.getD 32 none = none ∨ (List.range 32).any (sensorFaulty l) = true then done (s.goDark 8) else done s

/-- COOLANT_INLET_READ (17 R418, R419): the thermistors of inlet and outlet. The power stage's temperature, which no command
reports, is a free value (DESIGN CHOICE, log entry 84). -/
def execCoolantInletRead (tin tout : Fin 256) (s : State) : Host.Outcome State Fault Refusal :=
  let warn := s.fld Reg.PWR_T_COOL_WARN 0
  let passed := decide (s.fld Reg.PWR_T_IN 0 ≤ warn ∧ warn < tin.val)
  let d := s.draw
  let s := d.2.setFlds 0 [(Reg.PWR_T_IN, tin.val), (Reg.PWR_T_OUT, tout.val), (Reg.PWR_T_STAGE, d.1 % 256)]
  done (if passed then s.raise Reg.PWR_EVT_COOL 0 else s)

/-! ### The power stage's trips (14 R349, 17 R411 to R413) -/

/-- INPUT_OVERVOLTAGE (14 R349 E1): input above 58 V at datum t. -/
def execInputOvervoltage (mv t : Nat) (s : State) : Host.Outcome State Fault Refusal :=
  let s := s.at t
  if 58000 < mv then done (s.goDark 1) else done s

/-- INPUT_OVERCURRENT (14 R349 E2): input current above 72 A, in units of 10 mA, at datum t. -/
def execInputOvercurrent (ca t : Nat) (s : State) : Host.Outcome State Fault Refusal :=
  let s := s.at t
  if 7200 < ca then done (s.goDark 2) else done s

/-- RAIL_OVERVOLTAGE (14 R349 E3, 17 R413): a rail at a share of its nominal, in tenths of a percent, at datum t. -/
def execRailOvervoltage (rail : Fin 6) (permille t : Nat) (s : State) : Host.Outcome State Fault Refusal :=
  let _ := rail
  let s := s.at t
  if 1100 < permille then done (s.goDark 3) else done s

/-- Two channels disagree by more than 4 % (DEDUCED, log entry 28: of the first). -/
def disagree (ab : Nat × Nat) : Bool := decide (4 * ab.1 < 100 * absDiff ab.1 ab.2)

/-- SENSING_COMPARE (14 R349 E4, 17 R423): every 10 µs the supervisor compares both channels' voltage (mV), current (10 mA)
and rails, and the input registers take the first channel's. -/
def execSensingCompare (mv ca : Nat × Nat) (rails : List (Nat × Nat)) (t : Nat) (s : State) : Host.Outcome State Fault Refusal :=
  let s := s.at t
  let s := s.setFlds 0 [(Reg.PWR_IN_MV, min 65535 mv.1), (Reg.PWR_IN_CA, min 65535 ca.1), (Reg.PWR_IN_W, min 65535 (mv.1 * ca.1 / 100000))]
  if disagree mv || disagree ca || rails.any disagree then done (s.goDark 4) else done s

/-- INPUT_DIP (17 R412): the input was below 42 V for a number of ns at datum t: under 20 µs it is ridden through, longer
trips the under-voltage class. -/
def execInputDip (ns t : Nat) (s : State) : Host.Outcome State Fault Refusal :=
  let s := s.at t
  if ns < 20000 then done ((s.count Reg.PWR_DIPS 0 1).raise Reg.PWR_EVT_DIP 0) else done (s.goDark 5)

/-- INPUT_LOW (17 R412): input between 42 V and 45 V. -/
def execInputLow (mv : Nat) (s : State) : Host.Outcome State Fault Refusal :=
  if 42000 ≤ mv ∧ mv < 45000 then done (s.raise Reg.PWR_EVT_INPUT_LOW 0) else done s

/-! ### Register commands (14 R366) -/

/-- SFM_TRACT_DARK_NOW: each tract named goes dark. -/
def State.tractsDarkNow (s : State) (mask : Nat) : State :=
  (List.range 8).foldl (fun s t =>
    if bitAt mask t && s.bit Reg.TRC_CONFIGURED t && s.fld Reg.TRC_STATE_CODE t != 7 && !s.moduleDark then s.darkTract t else s) s

/-- SFM_DARK_NOW (14 R366). -/
def execSfmDarkNow (s : State) : Host.Outcome State Fault Refusal := done (s.lit (s.goDark 13))

/-- SFM_TRACT_DARK_NOW (14 R366). -/
def execSfmTractDarkNow (mask : Fin 256) (s : State) : Host.Outcome State Fault Refusal := done (s.lit (s.tractsDarkNow mask))

/-- A safety record's 32 bytes (14 R358). -/
def SafeRec.bytes (r : SafeRec) : List Byte :=
  leBytes 8 r.tick ++ leBytes 1 r.kind ++ leBytes 1 r.status ++ leBytes 2 r.unit ++ leBytes 1 r.temp ++ leBytes 1 r.flags ++
  leBytes 2 r.load ++
  (if r.line = 0 then leBytes 2 r.tag ++ leBytes 6 r.cmd ++ leBytes 8 0 else leBytes 8 r.line ++ leBytes 8 0)

/-- A read of SFM_LOG_DATA: the selected part; with auto-increment the part moves on, then the record. -/
def State.logRead (s : State) : State :=
  let r := s.fld Reg.SFM_LOG_REC 0
  let part := s.fld Reg.SFM_LOG_PART 0
  let v := leNat ((((tabGet {} s.safety.log r : SafeRec).bytes).drop (8 * part)).take 8)
  let s := { s with lastRead := BitVec.ofNat 64 v }
  if s.bit Reg.SFM_LOG_AUTOINC 0 then
    let n := (4 * r + part + 1) % 16384
    s.setFlds 0 [(Reg.SFM_LOG_REC, n / 4), (Reg.SFM_LOG_PART, n % 4)]
  else s

/-- SFM_LOG_DATA_READ (14 R366). -/
def execSfmLogDataRead (s : State) : Host.Outcome State Fault Refusal := done (s.lit s.logRead)

end Sys2Proof.Machine
end

