-- ==== Sys2Proof/Machine/Bench.lean ====
section
/-!
DEFINITION. Benchmarks as firmware validates them, and fault drills (13 R329 to R331, R341 to R343, 16 R392).
-/
namespace Sys2Proof.Machine

/-- The benchmark context of a tract. -/
def State.benchCtx (s : State) (t : Nat) : BenchCtx := tabGet {} s.bench t

/-- The address of a slot's header: slots 0 and 1, then the mirror slots (13 R329). -/
def BenchCtx.slot (c : BenchCtx) (slot : Nat) (mirror : Bool) : Nat := c.base + (slot + (if mirror then 2 else 0)) * fieldOf c.layout 16 8

/-- The STATE, STEP and digests of a slot. -/
def State.slotState (s : State) (a : Nat) : Nat := s.rdNat (a + 25) 1
def State.slotStep (s : State) (a : Nat) : Nat := s.rdNat (a + 16) 8
def State.slotDigests (s : State) (a fm : Nat) : List Byte := s.rdBytes (a + 128) (48 * fm)

/-- The slots of a tract, own before mirror. -/
def BenchCtx.slots (c : BenchCtx) : List (Nat × Bool) :=
  [(0, false), (1, false)] ++ (if fieldOf c.layout 5 1 = 0 then [] else [(0, true), (1, true)])

/-- The slot is the next that firmware digests: own slots before mirror slots, in ascending STEP (13 R331). -/
def State.nextDigest (s : State) (c : BenchCtx) (slot : Nat) (mirror : Bool) : Bool :=
  let a := c.slot slot mirror
  s.slotState a == 1 && c.slots.all fun o =>
    let b := c.slot o.1 o.2
    s.slotState b != 1 || o == (slot, mirror) || (o.2 && !mirror) || (o.2 == mirror && decide (s.slotStep a ≤ s.slotStep b))

/-- The header agrees with the job. -/
def State.slotAgrees (s : State) (c : BenchCtx) (a : Nat) : Bool :=
  s.rdNat a 4 == 0x4B524D42 && s.rdNat (a + 4) 4 == c.job && s.rdNat (a + 8) 8 == c.epoch && s.rdNat (a + 24) 1 == c.fm &&
    s.rdNat (a + 32) 8 == vmBytes c.layout

/-- Write the digests of a slot's blocks. -/
def State.writeDigests (s : State) (c : BenchCtx) (a : Nat) : State :=
  (List.range c.fm).foldl (fun s j =>
    s.put .lantern (a + 128 + 48 * j) (sha384 (s.rdBytes (a + 512 + j * vmBytes c.layout) (vmBytes c.layout)))) s

/-- The report of a change of STATE (16 R393). -/
def State.benchReport (s : State) (t : Nat) (c : BenchCtx) (slot : Nat) (mirror : Bool) (st : Nat) : State :=
  s.report { kind := 1, tract := t, job := c.job, epoch := c.epoch, step := s.slotStep (c.slot slot mirror),
             rest := leBytes 1 slot ++ leBytes 1 (b2n mirror) ++ leBytes 1 st ++ leBytes 1 c.fm }

/-- A determinism failure (13 R342, 14 R361): recorded, and the module is suspect. -/
def State.determinismFailure (s : State) (t : Nat) : State :=
  ((s.safeRec { kind := 9, flags := 4 * t }).sfmEvent Reg.SFM_EVT_DETERMINISM Reg.SFM_EVT_DETERMINISM_ALERT).setFld Reg.SFM_SUSPECT 0 1

/-- The drills of a tract are over: its errors no longer carry their mark. -/
def State.endDrillMarks (s : State) (t : Nat) : State :=
  { s with safety := { s.safety with drilled := s.safety.drilled.filter fun kv => decide (512 ≤ kv.1 ∨ s.ptract kv.1 ≠ some t) } }

/-- A drill of kind 1 or 5 passes when the digests of its benchmark, sealed again, are those kept (13 R342). -/
def State.drillCheck (s : State) (t a fm : Nat) : State :=
  match s.drills.find? fun d => d.tract == t && d.step == s.slotStep a && (d.kind == 1 || d.kind == 5) with
  | some d =>
    let s1 := ({ s with drills := s.drills.erase d }).endDrillMarks t
    if s.slotDigests a fm = d.digests then s1 else s1.determinismFailure t
  | none => s

/-- What firmware does when a benchmark of tract t has become valid: a tract with a marked parcel, or that uses a retiring
controller, fails its job and stops at its next step (01 R18, 13 R334, 14 R359); marked parcels that run nothing are quarantined. -/
def State.atBenchmark (s : State) (t : Nat) : State :=
  let fails (row unit : Nat) : State := (s.jobFailure t row unit 0).trcStop .lantern t
  let s := if s.fld Reg.TRC_STATE_CODE t = 3 then
      match (s.tract t).landing.find? fun p => tabGet false s.safety.marked p with
      | some p => fails 2 p
      | none =>
        match (List.range 16).find? fun c => s.fld Reg.XX_STATE_CODE c == xxRetiring && s.tractUses t c with
        | some c => fails 6 (0x200 + c)
        | none => s
    else s
  s.quarantineTract t

/-- BENCHMARK_DIGEST_DONE (13 R331): firmware has digested a sealed slot; it is valid, or bad. -/
def execBenchmarkDigestDone (t : TractId) (slot : Fin 2) (mirror : Bool) (s : State) : Host.Outcome State Fault Refusal :=
  if s.moduleDark then done s else
  let c := s.benchCtx t
  let a := c.slot slot mirror
  if c.layout = [] ∨ (mirror && fieldOf c.layout 5 1 == 0) = true ∨ s.nextDigest c slot mirror = false then done s
  else
    let r := s.scan .lantern [(a, 512 + c.fm * vmBytes c.layout)]
    let s := r.2
    if r.1 ≠ 0 ∨ s.slotAgrees c a = false then done ((s.put .lantern (a + 25) [3]).benchReport t c slot mirror 3) else
    let s := ((s.writeDigests c a).put .lantern (a + 25) [2]).benchReport t c slot mirror 2
    done (if mirror then s else (s.drillCheck t a c.fm).atBenchmark t)

/-! ### Drills (13 R341 to R343) -/

/-- A drill kind's interval in ns, from the configuration section in force (15 R369). -/
def State.drillInterval (s : State) (k : Nat) : Nat := leNat ((s.boot.cfgSection.drop (0x20 + 2 * (k - 1))).take 2) * 60000000000

/-- The drill window of a tract is open (16 R392). -/
def State.windowOpenAt (s : State) (t : Nat) : Bool := decide (s.tickNow < tabGet 0 s.drillWindows t)

/-- The newest own benchmark that is valid while the one before it still is: its slot's header and STEP. -/
def State.drillBench (s : State) (c : BenchCtx) : Option (Nat × Nat) :=
  let a (i : Nat) : Nat := c.slot i false
  let ok (i : Nat) : Bool := s.slotState (a i) == 2 && s.slotState (a (1 - i)) == 2 &&
    s.slotStep (a (1 - i)) + c.every == s.slotStep (a i)
  if c.layout = [] then none else ([0, 1].find? ok).map fun i => (a i, s.slotStep (a i))

/-- DRILL_START (13 R341): firmware injects the fault of a drill kind 1 to 5 at datum t: on controller c for kinds 1 and 2, on
lane j of link l for kinds 3 and 4, on tract r, whose job the controller of kind 1 serves. Kinds 1 and 5 run only in a drill window and beside a benchmark to compare. -/
def State.drillStart (s : State) (k : Nat) (r c l j : Nat) : State :=
  let ran := tabGet 0 s.boot.drillAt k
  let due := ran = 0 ∨ ran - 1 + s.drillInterval k ≤ s.datum
  if !bitAt (s.fld Reg.CFG_DRILL_NOW 0) (k - 1) || decide (¬ due) then s
  else
    let mark (s : State) : State := { s with boot := { s.boot with drillAt := tabPut 0 s.boot.drillAt k (s.datum + 1) } }
    let unitMark (s : State) (u : Nat) : State := { s with safety := { s.safety with drilled := tabPut false s.safety.drilled u true } }
    let withBench (act : State → State) : State :=
      match s.drillBench (s.benchCtx r) with
      | some b =>
        if s.windowOpenAt r && s.fld Reg.TRC_STATE_CODE r == 3 then
          act (mark { s with drills := s.drills ++
            [{ kind := k, tract := r, step := b.2, digests := s.slotDigests b.1 (s.benchCtx r).fm }] })
        else s
      | none => s
    match k with
    | 1 => if s.expertOpen Reg.XX_INJECT_UE && s.tractUses r c then
        withBench fun s => (unitMark s (0x200 + c)).setTctl c { s.tctl c with armUe := true }
      else s
    | 2 => if s.expertOpen Reg.XX_INJECT_CE then (unitMark (mark s) (0x200 + c)).setTctl c { s.tctl c with armCe := true } else s
    | 3 => if s.expertOpen Reg.LNK_INJ_CRC then (mark s).setLink l { s.link l with injCrc := true } else s
    | 4 => if s.expertOpen Reg.LNK_FORCE_FAIL then ((mark s).forceFail .lantern l j).retestLane .lantern l j else s
    | _ => withBench fun s => s.trcReset .lantern r

/-- DRILL_START (13 R341). -/
def execDrillStart (k : Fin 5) (r : TractId) (c : CtrlId) (l : LinkId) (j : Fin 17) (t : Nat) (s : State) :
    Host.Outcome State Fault Refusal :=
  done ((s.at t).drillStart (k.val + 1) r c l j)

/-- MCB_DRILL_STOP_NOW (13 R343): every drill ends at once and is reported DISCARDED. -/
def State.drillStopNow (s : State) : State :=
  let s1 := s.drills.foldl (fun s d =>
    (s.report { kind := 5, status := 0x03, tract := d.tract, job := (s.tract d.tract).job, epoch := (s.tract d.tract).epoch, step := d.step }).endDrillMarks
      d.tract) s
  { s1 with drills := [] }

/-- MCB_DRILL_STOP_NOW (13 R343), expert. -/
def execMcbDrillStopNow (s : State) : Host.Outcome State Fault Refusal :=
  if s.moduleDark then done s else
  if s.expertOpen Reg.MCB_DRILL_STOP_NOW then done s.drillStopNow else done s

/-- Copy a slot's header and block j to companion memory (16 R392, 13 R335). The answer is the status. -/
def State.exportBlock (s : State) (t slot : Nat) (mirror : Bool) (j addr : Nat) : Nat × State :=
  let c := s.benchCtx t
  let a := c.slot slot mirror
  let body := a + 512 + j * vmBytes c.layout
  if c.layout = [] ∨ 2 ≤ slot ∨ (mirror && fieldOf c.layout 5 1 == 0) = true ∨ c.fm ≤ j ∨ inAperture addr = false then (0x11, s)
  else
    let r := s.scan .lantern [(a, 512), (body, vmBytes c.layout)]
    if r.1 ≠ 0 then (0x40, r.2)
    else (0x00, (r.2.put .lantern addr (s.rdBytes a 512)).put .lantern (addr + 512) (s.rdBytes body (vmBytes c.layout)))

end Sys2Proof.Machine
end

