-- ==== Sys2Proof/Machine/AttachIn.lean ====
section
/-!
DEFINITION. Birvox attach: its lanes and training, its windows, the doorbells and the commands of its command queue (16 R387,
R391 to R395).
-/
namespace Sys2Proof.Machine

/-! ### Lanes and training (R387, R395) -/

/-- The lanes of a mask of eight, in ascending order. -/
def lanesIn (mask : Nat) : List Nat := (List.range 8).filter (bitAt mask)

/-- ATT_TRAIN: in DOWN or FAILED training begins; each after the first is counted. -/
def State.attTrain (s : State) : State :=
  let st := s.fld Reg.ATT_LINK 0
  if st = 0 ∨ st = 4 then
    let s := if s.att.trained then s.count Reg.ATT_RETRAINS 0 1 else s
    ({ s with att := { s.att with trained := true } }).attLink 1
  else s

/-- ATT_TRAIN (16 R395). -/
def execAttTrain (s : State) : Host.Outcome State Fault Refusal := done (s.lit s.attTrain)

/-- ATTACH_TRAINING_COMPLETE (16 R387): training ends with the lanes of a mask working: UP on all eight, UP4 on the four
lowest-numbered working ones, FAILED with fewer. -/
def execAttachTrainingComplete (mask : Fin 256) (s : State) : Host.Outcome State Fault Refusal :=
  if s.moduleDark then done s else
  if s.fld Reg.ATT_LINK 0 = 1 then
    let ok := lanesIn mask
    let s := { s with att := { s.att with badLanes := (List.range 8).filter fun j => !ok.contains j } }
    done ((s.setFld Reg.ATT_LANES_OK 0 mask).attLink (if ok.length = 8 then 2 else if 4 ≤ ok.length then 3 else 4))
  else done s

/-- The lanes that carry the link. -/
def State.attLanes (s : State) : List Nat :=
  let ok := lanesIn (s.fld Reg.ATT_LANES_OK 0)
  if s.fld Reg.ATT_LINK 0 = 3 then ok.take 4 else ok

/-- ATTACH_LANE_FAIL (16 R387): the link enters FAILED where the lane carried it, and firmware retrains it. -/
def execAttachLaneFail (j : Fin 8) (s : State) : Host.Outcome State Fault Refusal :=
  let carried := s.attUp && s.attLanes.contains j.val
  let s := s.setFld Reg.ATT_LANES_OK 0 (putBits (s.fld Reg.ATT_LANES_OK 0) j 1 0)
  let s := { s with att := { s.att with badLanes := sortDedup (j.val :: s.att.badLanes) } }
  done (if carried then (s.attLink 4).attTrain else s)

/-- ATT_COUNT_CLR: the counters of ATT_COUNT go to zero. -/
def State.attCountClr (s : State) : State := s.setFlds 0 [(Reg.ATT_BINV_SENT, 0), (Reg.ATT_RPT_DROP, 0), (Reg.ATT_RETRAINS, 0)]

/-- ATT_COUNT_CLR (16 R395). -/
def execAttCountClr (s : State) : Host.Outcome State Fault Refusal := done (s.lit s.attCountClr)

/-! ### Windows (R391) -/

/-- A write of ATT_WIN_BASE of window w by agent g: bits 11:0 must be zero. -/
def State.winBase (s : State) (g : Agent) (w v : Nat) : State :=
  if v % 4096 = 0 then s.setFld Reg.ATT_WIN_BASE w v else s.regError g (fieldAddr Reg.ATT_WIN_BASE 0)

/-- A write of ATT_WIN_ATTR of window w by agent g: a size or scope out of range keeps its old value; clearing VALID or SHARED
of a shared window invalidates the whole of it first. -/
def State.winAttr (s : State) (g : Agent) (w v : Nat) : State :=
  let log := bitsOf v 0 6
  let scope := bitsOf v 10 4
  let logOk := decide (12 ≤ log ∧ log ≤ 48)
  let scopeOk := decide (scope ≤ 8)
  let s := if bitAt v 6 && bitAt v 9 then s else s.binvWindow w
  let s := s.setFlds w [(Reg.ATT_WIN_VALID, bitsOf v 6 1), (Reg.ATT_WIN_READ, bitsOf v 7 1), (Reg.ATT_WIN_WRITE, bitsOf v 8 1),
    (Reg.ATT_WIN_SHARED, bitsOf v 9 1)]
  let s := if logOk then s.setFld Reg.ATT_WIN_LOG w log else s
  let s := if scopeOk then s.setFld Reg.ATT_WIN_SCOPE w scope else s
  if logOk && scopeOk then s else s.regError g (fieldAddr Reg.ATT_WIN_LOG 0)

/-- ATT_WIN_WRITE (16 R391), by lantern firmware: window w is selected, and its base and attributes are written. -/
def execAttWinWrite (w : Fin 16) (base : BitVec 48) (attr : BitVec 14) (s : State) : Host.Outcome State Fault Refusal :=
  done (s.lit (((s.setFld Reg.ATT_WIN_SEL 0 w).winBase .lantern w base.toNat).winAttr .lantern w attr.toNat))

/-! ### Doorbells (R392, R393) -/

/-- A doorbell beyond its queue is dropped. -/
def State.attBellError (s : State) : State := s.raise Reg.ATT_EVT_CMD_ERR 0

/-- A new command tail. -/
def State.cmdTail (s : State) (v : Nat) : State :=
  let n := 2 ^ s.fld Reg.ATT_CMDQ_LOG 0
  let x := s.att
  if n ≤ v then s.attBellError else { s with att := { x with cmdTail := x.cmdHead + (v + n - x.cmdHead % n) % n } }

/-- The report head the companion has consumed up to: reports that wait are written where there is room now. -/
def State.rptHead (s : State) (v : Nat) : State :=
  let n := 2 ^ s.fld Reg.ATT_RPTQ_LOG 0
  let x := s.att
  if n ≤ v then s.attBellError
  else ({ s with att := { x with rptHead := min x.rptTail (x.rptHead + (v + n - x.rptHead % n) % n) } }).rptFlush

/-- COMMAND_TAIL_DOORBELL (16 R392). -/
def execCommandTailDoorbell (v : Fin 65536) (s : State) : Host.Outcome State Fault Refusal := done (s.lit (s.cmdTail v))

/-- REPORT_HEAD_DOORBELL (16 R393). -/
def execReportHeadDoorbell (v : Fin 65536) (s : State) : Host.Outcome State Fault Refusal := done (s.lit (s.rptHead v))

/-! ### Commands (R392) -/

/-- The command queue's oldest entry: its bytes, whether they read uncorrectable, and the state after the reading. -/
def State.cmdEntry (s : State) : Option (List Byte × Bool × State) :=
  let x := s.att
  if x.cmdHead < x.cmdTail then
    let r := s.fetch .lantern (s.fld Reg.ATT_CMDQ_BASE 0 + 64 * (x.cmdHead % 2 ^ s.fld Reg.ATT_CMDQ_LOG 0)) 64
    some (r.2.1, r.1 == 2, r.2.2)
  else none

/-- A command ends: its RESULT report carries its TAG and status. -/
def State.cmdResult (s : State) (tag status : Nat) : State := s.report { kind := 5, status := status, rest := leBytes 4 tag }

/-- The entry is consumed. -/
def State.cmdPop (s : State) : State := { s with att := { s.att with cmdHead := s.att.cmdHead + 1 } }

/-- Entries at the front with a reserved OP, or that read uncorrectable, end so, with fuel. -/
def State.cmdRefuse : Nat → State → State
  | 0, s => s
  | fuel + 1, s =>
    match s.cmdEntry with
    | none => s
    | some (b, bad, r) =>
      if bad then State.cmdRefuse fuel (r.cmdPop.cmdResult 0 0x40)
      else if fieldOf b 0 1 = 0 ∨ 6 < fieldOf b 0 1 then State.cmdRefuse fuel (r.cmdPop.cmdResult (fieldOf b 4 4) 0x11)
      else s

/-- Firmware takes the oldest command, where it has the OP given: it acts, with a status. -/
def State.attCommand (s : State) (op : Nat) (act : List Byte → State → Nat × State) : State :=
  let s := s.cmdRefuse (s.att.cmdTail - s.att.cmdHead)
  match s.cmdEntry with
  | none => s
  | some (b, _, r) =>
    if fieldOf b 0 1 = op then
      let r := act b r.cmdPop
      r.2.cmdResult (fieldOf b 4 4) r.1
    else s

/-- START_JOB (16 R392, 13 R344): this module acts as root. -/
def execStartJob (t : Nat) (s : State) : Host.Outcome State Fault Refusal :=
  if s.moduleDark then done s else
  done ((s.at t).attCommand 1 fun b s =>
    let a := fieldOf b 8 8
    let r := s.fetch .lantern a 1020
    if r.1 = 2 then (0x40, r.2.2) else r.2.2.startAtRoot r.2.1)

/-- ABORT_JOB (16 R392, 13 R347). -/
def execAbortJob (t : Nat) (s : State) : Host.Outcome State Fault Refusal :=
  done (s.lit ((s.at t).attCommand 2 fun b s => s.abortAtRoot (fieldOf b 8 4)))

/-- DRILL_WINDOW (16 R392): the tract's window opens until a tick, or closes. -/
def execDrillWindow (s : State) : Host.Outcome State Fault Refusal :=
  if s.moduleDark then done s else
  done (s.attCommand 3 fun b s =>
    let t := fieldOf b 9 1
    if 8 ≤ t ∨ 2 ≤ fieldOf b 8 1 then (0x11, s)
    else (0x00, { s with drillWindows := tabPut 0 s.drillWindows t (if fieldOf b 8 1 = 1 then fieldOf b 10 8 else 0) }))

/-- EXPORT_BLOCK (16 R392, 13 R335). -/
def execExportBlock (s : State) : Host.Outcome State Fault Refusal :=
  if s.moduleDark then done s else
  done (s.attCommand 4 fun b s =>
    if 8 ≤ fieldOf b 8 1 ∨ 2 ≤ fieldOf b 10 1 then (0x11, s)
    else s.exportBlock (fieldOf b 8 1) (fieldOf b 9 1) (fieldOf b 10 1 == 1) (fieldOf b 11 1) (fieldOf b 12 8))

/-- LINK_PASS (16 R392): the pass of 11 R271, written by firmware. -/
def execLinkPass (s : State) : Host.Outcome State Fault Refusal :=
  if s.moduleDark then done s else
  done (s.attCommand 5 fun b s =>
    let k := fieldOf b 8 1
    let i := fieldOf b 21 1
    if 6 ≤ k ∨ 16 ≤ i then (0x11, s)
    else
      let o := s.owner k i
      let s := s.setFlds k [(Reg.LNK_OWN_IDX, i), (Reg.LNK_NEXT_JOB, fieldOf b 9 4), (Reg.LNK_NEXT_EPOCH, fieldOf b 13 8)]
      (if o.state = ownOwned ∨ o.state = ownPending then 0x00 else 0x11, s.passOwner .lantern k))

/-- EASEMENT (16 R392): the grant of 11 R270, written by firmware. -/
def execEasement (s : State) : Host.Outcome State Fault Refusal :=
  if s.moduleDark then done s else
  done (s.attCommand 6 fun b s =>
    let k := fieldOf b 8 1
    let g := fieldOf b 9 1
    let i := fieldOf b 10 1
    let v := fieldOf b 11 1
    if 6 ≤ k ∨ 16 ≤ g ∨ 16 ≤ i ∨ 2 ≤ v then (0x11, s)
    else
      let refused := v == 1 && ((s.owner k i).state != ownOwned || s.fld Reg.LNK_VERSION k == 1)
      (if refused then 0x11 else 0x00, s.easeWrite .lantern k (g + 16 * i + 256 * v)))

end Sys2Proof.Machine
end

