-- ==== Sys2Proof/Machine/Start.lean ====
section
/-!
DEFINITION. Module reset, cold and warm start, recovery boot (15 R373 to R377, R383).
-/
namespace Sys2Proof.Machine

/-! ### Module reset (15 R377) -/

/-- Registers that a module reset leaves: the safety monitor's, the datum keeper's with root and parent, the management cap,
the coordinate, the key's hash; of the power stage what it measures and the energy since the input was applied (17 R423). -/
def keptFields : List Fld :=
  fields_sfm ++ fields_clk ++ [Reg.PWR_CAP_SMB_W, Reg.PWR_ENERGY_MJ, Reg.PWR_IN_MV, Reg.PWR_IN_CA, Reg.PWR_IN_W, Reg.PWR_IN_AVG_W,
    Reg.PWR_T_DIE_MAX, Reg.PWR_T_MEM_MAX, Reg.PWR_T_STAGE, Reg.PWR_T_IN, Reg.PWR_T_OUT, Reg.IDN_COORD, Reg.IDN_COORD_VALID,
    Reg.IDN_KEY_HASH0, Reg.IDN_KEY_HASH1, Reg.IDN_KEY_HASH2, Reg.IDN_KEY_HASH3, Reg.IDN_KEY_HASH4, Reg.IDN_KEY_HASH5]

/-- Registers that only a cold start clears: the map in force and what the sockets hold (07 R155, R166), counts since the last
cold start, a retirement (07 R179), a debug token (16 R406). -/
def coldFields : List Fld :=
  [Reg.HBC_MAP, Reg.DDC_PRESENT, Reg.XX_CAP_GIB, Reg.DDC_RANKS, Reg.XX_RETIRE, Reg.XX_SCRUB_PASSES, Reg.TWN_DROOP_EVENTS,
    Reg.DBG_TOKEN, Reg.DBG_SCOPE, Reg.DBG_NOT_AFTER]

/-- Keep the entries of a list of fields. -/
def keepRegs (m : Tab Nat) (l : List Fld) : Tab Nat := m.filter fun kv => (l.map (·.idn)).contains (kv.1 / 1024)

/-- Companion memory, which the model holds at its aperture addresses, is not the module's. -/
def keepAperture (m : Tab Byte) : Tab Byte := m.filter fun kv => inAperture kv.1

/-- A module reset at the head of a start of a kind (1 cold, 2 warm). Every field of the state but those named is as after
power is applied; memories in self-refresh stay there. A cold start clears the quarantine counts and SFM_SUSPECT (14 R359,
R361). -/
def State.moduleReset (s : State) (kind : Nat) : State :=
  let x := s.safety
  let held (c : Nat) : Bool := s.fld Reg.XX_STATE_CODE c == 3
  let r : State := { State.reset with
    pending := s.pending
    freeCtr := s.freeCtr
    datum := s.datum
    datumFrac := s.datumFrac
    regs := keepRegs s.regs (keptFields ++ (if kind = 2 then coldFields else []))
    mem := s.mem
    uncorr := s.uncorr
    correc := s.correc
    lastRead := s.lastRead
    clk := s.clk
    coord := s.coord
    flash := s.flash
    mgmt := { s.mgmt with attReqs := s.mgmt.attReqs.filter fun q => !q.viaReg }
    tap := { s.tap with pins := none }
    disabledMap := s.disabledMap
    boot := { s.boot with kind := kind, step := 1, handover := 0, retest := none, retestPassed := 0, recoveryRuns := false, coordOk := false,
                          torn := s.boot.torn || s.boot.handover == 6 }
    beacons := (s.beacons.map fun kv => (kv.1, { kv.2 with waiters := [], assigned := false })).filter fun kv => decide (kv.2 ≠ {})
    transCtr := s.transCtr
    safety := if kind = 2 then { x with darkAt := none } else
      { x with darkAt := none, counted := [], marked := [], hard := [], lastTick := [], reruns := [], rerunTick := [], missed := [], tested := [],
               drilled := [] } }
  let r := (List.range 16).foldl (fun r c => if held c then r.setFld Reg.XX_STATE_CODE c 3 else r) r
  let r := (List.range 32).foldl (fun r w =>
    let c := s.crossEntries w
    ((r.count Reg.TWN_FLUSHED w c.1).flushedSignals w c.2).setFld Reg.TWN_XRST w 1) r
  let r := r.setFlds 0 [(Reg.SFM_MODULE, 0), (Reg.SFM_TRACT_DARK, 0), (Reg.PWR_STAGE, 2), (Reg.PWR_CAP_EFF, s.fld Reg.PWR_CAP_EFF 0)]
  if kind = 2 then r else r.setFlds 0 [(Reg.SFM_SUSPECT, 0), (Reg.SFM_LOG_WRITTEN, 0)]

/-- The effective cap is the lowest of 3,000 W and the two sources that are not 0 (17 R415). -/
def State.showCap (s : State) : State :=
  let src (v : Nat) : Nat := if v = 0 then 3000 else v
  s.setFld Reg.PWR_CAP_EFF 0 (min 3000 (min (src (s.fld Reg.PWR_CAP_W 0)) (src (s.fld Reg.PWR_CAP_SMB_W 0))))

/-- A start goes to its first step after a module reset. PWR_CAP_W has been reset. -/
def State.beginStart (s : State) (kind : Nat) : State := (s.moduleReset kind).showCap

/-! ### Steps -/

/-- Go on to a step. -/
def State.bootStep (s : State) (n : Nat) : State := { s with boot := { s.boot with step := n } }

/-- Main rails up and every generator locked (15 R373 step 2). -/
def State.railsUp (s : State) : State :=
  let s := s.setFld Reg.PWR_STAGE 0 3
  let s := if s.fld Reg.CLK_REF_STATE 0 ≤ 1 then s.setFld Reg.CLK_REF_STATE 0 2 else s
  (List.range 32).foldl State.startClock s

/-- A new challenge of 32 bytes for debug tokens: free bytes (16 R406). -/
def State.newChallenge (s : State) : State :=
  let d := s.freeBytes 32
  { d.2 with tap := { d.2.tap with challenge := d.1 } }

/-- The boot ROM derives the device key and zeroes lantern SRAM (15 R373 step 3, 16 R400). -/
def State.deriveKey (s : State) : State :=
  let hash : List (Fld × Nat) := [Reg.IDN_KEY_HASH0, Reg.IDN_KEY_HASH1, Reg.IDN_KEY_HASH2, Reg.IDN_KEY_HASH3, Reg.IDN_KEY_HASH4,
    Reg.IDN_KEY_HASH5].map fun f => (f, Config.identity f.idn)
  ((s.setFlds 0 hash).zeroRange 0xA0000000 0xA0800000).newChallenge

/-- The reason for which the flash does not start the module, 0 for none (15 R371, R372, R374). -/
def State.flashReason (s : State) : Nat :=
  let m := s.flashMap
  firstReason [(Config.flashHeaderOk s.flash, 0x01), (Config.chainValid s.flash, 0x02),
    (Config.mapSigned s.flash && mapWellFormed m, 0x03), (!s.boot.torn && Config.flashFirmwareOk s.flash, 0x04),
    (s.sectionReason s.flashSection true true == 0, s.sectionReason s.flashSection true true)]

/-- Recovery boot (15 R374, R383): only the attach link and the debug port come up. -/
def State.recoveryBoot (s : State) (reason : Nat) : State :=
  let s := (List.range 32).foldl (fun s w => if (s.town w).clocked then s.haltClock w 0 else s) s
  let s := { s with boot := { s.boot with kind := 0, step := 0 } }
  (((s.setFlds 0 [(Reg.MCB_STATE_CODE, 4), (Reg.MCB_BOOT_REASON, reason), (Reg.DBG_RECOVERY, 1), (Reg.DBG_SCOPE, 0x3FF)]).raise
    Reg.MCB_EVT_RECOVERY 0).attLink 1)

/-- The record is applied to the start fields (15 R373 step 5, R385); firmware runs on all four cores; the
trained-parameter MAC is checked. -/
def State.applyRecord (s : State) : State :=
  let b := s.flashSection
  let m := s.flashMap
  let flags := byteField b 0x1A 1
  let h := sha384 b
  let drill := (List.range 5).foldl (fun a k => if byteField b (0x20 + 2 * k) 2 = 0 then a else a + 2 ^ k) 0
  let trained := Config.trainedOk s.flash
  let digest : List (Fld × Nat) := ([Reg.CFG_DIGEST0, Reg.CFG_DIGEST1, Reg.CFG_DIGEST2, Reg.CFG_DIGEST3, Reg.CFG_DIGEST4,
    Reg.CFG_DIGEST5].zipIdx).map fun f => (f.1, byteField h (8 * f.2) 8)
  let s := s.setFlds 0 (digest ++ [(Reg.CFG_VERSION, byteField b 4 2), (Reg.CFG_HBM_MAP_REC, byteField b 0x18 1), (Reg.CFG_DEBUG_OPEN, bitsOf flags 0 1),
    (Reg.CFG_TRAINED_OK, b2n trained), (Reg.CFG_GRADE, byteField m 4 1), (Reg.CFG_DISABLED, (mapParcels m).length),
    (Reg.CFG_SEQ_NOW, byteField b 0x10 8), (Reg.CFG_EXPERT_NOW, byteField b 0x1C 4), (Reg.CFG_DRILL_NOW, drill),
    (Reg.CLK_PULSE_EN, bitsOf flags 2 1), (Reg.IDN_MOD_SERIAL, moduleSerial),
    (Reg.MCB_FW_VERSION, Config.flashFirmwareVersion s.flash), (Reg.DBG_OPEN, bitsOf flags 0 1),
    (Reg.SFM_LWDT_LOST, if s.boot.kind = 2 ∧ s.fld Reg.SFM_LWDT_LOST 0 ≠ 15 then s.fld Reg.SFM_LWDT_LOST 0 else 0)])
  let s := if bitAt flags 0 then s.setFld Reg.DBG_SCOPE 0 0x3FF else s
  let s := if trained then s else s.raise Reg.CFG_EVT_TRAINED_BAD 0
  let s := (List.range 6).foldl (fun s k => s.setFld Reg.LNK_ROLL_EN k (bitsOf flags 1 1)) s
  let s := (List.range 8).foldl (fun s t => s.setEntry t (entryOf b t)) s
  let kicks := (List.range 4).foldl (fun m c => tabPut 0 m c (s.datum + 1)) s.safety.kicks
  { s with
    disabledMap := mapParcels m
    boot := { s.boot with cfgSection := b, adopted := [], fwDigest := Config.flashFirmwareDigest s.flash }
    safety := { s.safety with kicks := kicks, marked := if trained then
      (Config.trainedMarks s.flash).foldl (fun m p => tabPut false m p true) s.safety.marked else s.safety.marked } }

/-- What the sockets and stacks hold, read at a cold start, and training begun (15 R373 step 6, 07 R165, R166): `dimms` gives
capacity in GiB and ranks of each channel's DIMM, capacity 0 where none meets R166. Tier memory starts as memory that nothing
has written. -/
def State.trainCold (s : State) (dimms : List (Nat × Nat)) : State :=
  let map := byteField s.flashSection 0x18 1
  let s := (s.zeroRange hbmBase 0x018000000000).zeroRange ddrBase apertureBase
  (List.range 16).foldl (fun s c =>
    if c < 8 then (s.setFlds c [(Reg.HBC_MAP, map), (Reg.XX_CAP_GIB, 0x40)]).setXx c xxTraining
    else
      let d := dimms.getD (c - 8) (0, 0)
      let ok := decide (16 ≤ d.1 ∧ d.1 ≤ 256) && [1, 2, 4].contains d.2
      if ok then (s.setFlds c [(Reg.DDC_PRESENT, 1), (Reg.XX_CAP_GIB, d.1), (Reg.DDC_RANKS, d.2)]).setXx c xxTraining
      else s.setFlds c [(Reg.DDC_PRESENT, 0), (Reg.XX_CAP_GIB, 0), (Reg.DDC_RANKS, 0)]) s

/-- Memories leave self-refresh (15 R375 step 4). -/
def State.trainWarm (s : State) : State :=
  (List.range 16).foldl (fun s c => if s.fld Reg.XX_STATE_CODE c = 3 then s.setXx c xxTraining else s) s

/-- No controller trains. -/
def State.memTrained (s : State) : Bool := (List.range 16).all fun c => s.fld Reg.XX_STATE_CODE c != xxTraining

/-- A parcel that fails a start test is recorded, marked hard and quarantined (15 R373 step 7, 14 R354): how many of its four
tests fail is a free value from 1 to 4. -/
def State.startFail (s : State) (p : Nat) : State :=
  let d := s.draw
  let n := d.1 % 4 + 1
  let s := (d.2.count Reg.SFM_KAT_FAILS 0 n).count Reg.SFM_KAT_PASS 0 (4 - n)
  let s := (List.range n).foldl (fun s _ => s.parcelError p 2 0 0 0 0 (s.parcelLoad p)) s
  ({ s with safety := { s.safety with hard := tabPut false s.safety.hard p true } }).markQuarantine p

/-- Parcels zeroed and tested (15 R373 step 7): `failed` are the usable parcels that fail. Marked parcels start QUARANTINED. -/
def State.startTests (s : State) (failed : List Nat) : State :=
  let s := (s.zeroRange 0 0x80000000).zeroRange 0x80000000 0x88000000
  let s := { s with
    code := [], descs := [], imem := [], live := [], shadow := [], dirty := [], wregs := [], preds := [], widx := [] }
  let usable := (List.range 512).filter fun p => !s.disabled p && !tabGet false s.safety.marked p
  let bad := failed.filter usable.contains
  let s := s.count Reg.SFM_KAT_PASS 0 (4 * (usable.length - bad.length))
  let s := bad.foldl State.startFail s
  (s.safety.marked.map (·.1)).foldl (fun s p => if s.disabled p then s else s.quarantine p) s

/-- Every link trains (15 R373 step 9). -/
def State.trainLinks (s : State) : State := (List.range 6).foldl (fun s k => s.trainLink .lantern k) s

/-- No link direction trains. -/
def State.linksTrained (s : State) : Bool :=
  (List.range 6).all fun k => s.fld Reg.LNK_RX_STATE k != lkTraining && s.fld Reg.LNK_TX_STATE k != lkTraining

/-- The end of a start: READY, every tract EMPTY, the clocks of townships in no tract stopped; firmware reports the dark that
the module leaves (16 R393). -/
def State.startEnd (s : State) : State :=
  let warm := b2n (s.boot.kind == 2)
  let s := { s with boot := { s.boot with kind := 0, step := 0 } }
  let s := (((s.setFlds 0 [(Reg.MCB_STATE_CODE, 2), (Reg.MCB_LAST_WARM, warm), (Reg.MCB_BOOT_REASON, 0)]).raise Reg.MCB_EVT_READY 0).fitClocks)
  let cause := s.fld Reg.SFM_DARK_CAUSE 0
  if cause = 0 then s else s.report { kind := 6, status := 0xFF, step := s.tickNow, rest := leBytes 1 cause }

/-- One step of a cold start ends. -/
def State.coldStep (s : State) (dimms : List (Nat × Nat)) (failed : List Nat) : State :=
  match s.boot.step with
  | 1 =>
    let h := s.safety.hazard
    let s := if h = 0 then s else
      ({ s with safety := { s.safety with hazard := 0 } }).setFlds 0 [(Reg.SFM_DARK_CAUSE, h), (Reg.SFM_DARK_PRIOR, 1)]
    (s.beginStart 1).bootStep 2
  | 2 => s.railsUp.bootStep 3
  | 3 => s.deriveKey.bootStep 4
  | 4 => if s.flashReason = 0 then s.bootStep 5 else s.recoveryBoot s.flashReason
  | 5 => ((s.trainCold dimms).applyRecord).bootStep 6
  | 6 =>
    if s.memTrained then s.keepMarks.bootStep 7 else s
  | 7 => (s.startTests failed).bootStep 8
  | 8 => if s.boot.coordOk && s.clk.setAt.isNone then s.trainLinks.bootStep 9 else s
  | 9 => if s.linksTrained then s.startEnd else s
  | _ => s

/-- One step of a warm start ends. The boot ROM zeroes lantern SRAM as at a cold start (15 R376). -/
def State.warmStep (s : State) (failed : List Nat) : State :=
  match s.boot.step with
  | 1 => (s.railsUp.zeroRange 0xA0000000 0xA0800000).bootStep 2
  | 2 => if s.flashReason = 0 then s.bootStep 3 else s.recoveryBoot s.flashReason
  | 3 => s.applyRecord.trainWarm.bootStep 4
  | 4 => if s.memTrained then s.bootStep 5 else s
  | 5 => s.startTests failed |>.trainLinks |>.bootStep 6
  | 6 => if s.linksTrained then s.startEnd else s
  | _ => s

/-- START_SEQUENCE_STEP_DONE (15 R373 to R376) at datum t: the step under way of the start in progress ends. `dimms` is used
where the sockets are read, `failed` where parcels are tested. -/
def execStartSequenceStepDone (t : Nat) (dimms : List (Nat × Nat)) (failed : List ParcelId) (s : State) :
    Host.Outcome State Fault Refusal :=
  let s := s.at t
  done (if s.boot.kind = 1 then s.coldStep dimms (failed.map (·.val)) else if s.boot.kind = 2 then s.warmStep (failed.map (·.val)) else s)

/-! ### Causes of a start (15 R373, R375) -/

/-- COLD_START_POWER_ON (15 R373): the 50 V input is applied at mv millivolts after an absence in ns. Nothing outlives the
absence but the flash, the identity stores and the hazard latch; after an electrical hazard the switch closes only after
one second (14 R364). -/
def execColdStartPowerOn (mv away : Nat) (s : State) : Host.Outcome State Fault Refusal :=
  if mv < 45000 ∨ 56000 < mv ∨ (s.safety.hazard ≠ 0 ∧ away < 1000000000) then done s
  else
    done { State.reset with
      pending := s.pending
      freeCtr := s.freeCtr
      flash := s.flash
      mem := keepAperture s.mem
      safety := { hazard := s.safety.hazard }
      boot := { kind := 1, step := 1, torn := s.boot.torn || s.boot.handover == 6 } }

/-- A cold start from step 2. With the input switch open no rail is up, and only power begins one (14 R364). -/
def State.coldStart (s : State) : State := if s.safety.hazard = 0 then (s.beginStart 1).bootStep 2 else s

/-- MCB_COLD (15 R373, R377). -/
def execMcbCold (s : State) : Host.Outcome State Fault Refusal := done (s.lit s.coldStart)

/-- A warm start may begin (15 R375): DARK with cause 5 to 13, or STANDBY, and the module is not suspect. -/
def State.mayWarm (s : State) : Bool :=
  let st := s.fld Reg.MCB_STATE_CODE 0
  let c := s.fld Reg.SFM_DARK_CAUSE 0
  !s.bit Reg.SFM_SUSPECT 0 && (st == 3 || (st == 5 && decide (5 ≤ c ∧ c ≤ 13)))

/-- A warm start, by agent g; elsewhere the command is dropped with a register access error. -/
def State.warmStart (s : State) (g : Agent) : State :=
  if s.mayWarm then s.beginStart 2 else s.regError g (fieldAddr Reg.MCB_WARM 0)

/-- MCB_WARM (15 R375). -/
def execMcbWarm (s : State) : Host.Outcome State Fault Refusal := done (s.lit (s.warmStart .lantern))

end Sys2Proof.Machine
end

