-- ==== Sys2Proof/Machine/DebugCtl.lean ====
section
/-!
DEFINITION. The debug port's control of parcels and beacons, its scope and its tokens (16 R404 to R408, R410).
-/
namespace Sys2Proof.Machine

/-! ### Scope and errors (R406, R410) -/

/-- Record a debug error. -/
def State.dbgError (s : State) (reason addr : Nat) : State :=
  ((s.setFlds 0 [(Reg.DBG_ERR_REASON, reason), (Reg.DBG_ERR_ADDR, addr)]).count Reg.DBG_ERR_COUNT 0 1).raise Reg.DBG_EVT_ERR 0

/-- The port is locked: neither DEBUG_OPEN, nor a token, nor recovery boot opens it. -/
def State.dbgLocked (s : State) : Bool := !s.bit Reg.DBG_OPEN 0 && !s.bit Reg.DBG_TOKEN 0 && !s.bit Reg.DBG_RECOVERY 0

/-- Scope bit i is in force. -/
def State.inScope (s : State) (i : Nat) : Bool := !s.dbgLocked && bitAt (s.fld Reg.DBG_SCOPE 0) i

/-- The scope bit of a parcel: its tract's, or that of everything else. -/
def State.parcelScope (s : State) (p : Nat) : Nat :=
  match s.ptract p with
  | some t => 1 + t
  | none => 9

/-! ### Halt, resume, step (R407) -/

/-- The register through which parcels are halted. -/
def dbgCtlAddr : Nat := fieldAddr Reg.DBG_HALT 0

/-- The parcels a debug command reaches: the target, or with DBG_WIDE every parcel of its tract. -/
def State.dbgTargets (s : State) : List Nat :=
  let p := s.fld Reg.DBG_PARCEL 0
  match s.bit Reg.DBG_WIDE 0, s.ptract p with
  | true, some t => s.tractParcels t
  | _, _ => [p]

/-- The command acts on every target in a state; with none in it, it is dropped, as outside the scope. -/
def State.dbgAct (s : State) (state : Nat → Bool) (act : State → Nat → State) : State :=
  let l := s.dbgTargets.filter state
  if !s.inScope (s.parcelScope (s.fld Reg.DBG_PARCEL 0)) then s.dbgError 3 dbgCtlAddr
  else if l = [] then s.dbgError 4 dbgCtlAddr
  else l.foldl act s

/-- Hold the issue stage of a parcel in RUN at once; within a replay boundary, before the first instruction of the new
replay. A parcel that a fault stops is not in question (02 R41). -/
def State.haltParcel (s : State) (p : Nat) : State :=
  let x := s.par p
  if x.replayTo.isSome then s.setPar p { x with haltReq := true } else s.haltNow p 1

/-- DBG_HALT. -/
def State.dbgHalt (s : State) : State :=
  s.dbgAct (fun p => s.pstate p == stRun && !(s.par p).faulted && !(s.par p).stopNow) State.haltParcel

/-- A halted parcel is in RUN again; no breakpoint matches the instruction it resumes at. -/
def State.resumeParcel (s : State) (step : Bool) (p : Nat) : State :=
  (((s.setPar p { s.par p with resumed := true, stepping := step, stepEng := none, haltedAt := none }).setPstate p stRun).setFlds p
    [(Reg.PCT_STALLED, 0), (Reg.PCT_STALL_CAUSE, 0)]).active p

/-- DBG_RESUME. -/
def State.dbgResume (s : State) : State := s.dbgAct (fun p => s.pstate p == stHalted) fun s p => s.resumeParcel false p

/-- DBG_STEP: one instruction issues. -/
def State.dbgStep (s : State) : State := s.dbgAct (fun p => s.pstate p == stHalted) fun s p => s.resumeParcel true p

/-- DBG_HALT (16 R407). -/
def execDbgHalt (s : State) : Host.Outcome State Fault Refusal :=
  if s.moduleDark then done s else
  done s.dbgHalt
/-- DBG_RESUME (16 R407). -/
def execDbgResume (s : State) : Host.Outcome State Fault Refusal :=
  if s.moduleDark then done s else
  done s.dbgResume
/-- DBG_STEP (16 R407). -/
def execDbgStep (s : State) : Host.Outcome State Fault Refusal := done (s.lit s.dbgStep)

/-! ### Tokens (R406) -/

/-- The token in force ends. -/
def State.endToken (s : State) : State :=
  if s.bit Reg.DBG_TOKEN 0 then
    let full := s.bit Reg.DBG_OPEN 0 || s.bit Reg.DBG_RECOVERY 0
    (s.setFlds 0 [(Reg.DBG_TOKEN, 0), (Reg.DBG_SCOPE, if full then 0x3FF else 0), (Reg.DBG_NOT_AFTER, 0)]).raise Reg.DBG_EVT_TOKEN 0
  else s

/-- DBG_LOCK (16 R410): the token is revoked. -/
def execDbgLock (s : State) : Host.Outcome State Fault Refusal := done (s.lit s.endToken)

/-- TOKEN_EXPIRY (16 R406): at datum t the token's NOT_AFTER has passed. -/
def execTokenExpiry (t : Nat) (s : State) : Host.Outcome State Fault Refusal :=
  let s := s.at t
  done (if s.fld Reg.DBG_NOT_AFTER 0 < s.datum / 1000000000 then s.endToken else s)

/-- A token is well formed, for this module and its present challenge, has not run out, and verifies under a certificate of
role 2 or 5. -/
def State.tokenOk (s : State) (b : List Byte) : Bool :=
  let f := fieldOf b
  let c := f 56 2
  b.length == 160 && f 0 4 == 0x4E4B5444 && f 4 2 == 1 && decide (f 6 2 < 1024) && f 8 8 == moduleSerial &&
  decide (s.datum / 1000000000 ≤ f 16 8) && (b.drop 24).take 32 == s.tap.challenge && f 58 6 == 0 && decide (c < s.certCount) &&
  (s.certRole c == 2 || s.certRole c == 5) && Config.certVerifies s.flash c (b.take 64) (b.drop 64)

/-- A token is offered: accepted, its scope is in force, and a new challenge is drawn. -/
def State.offerToken (s : State) (b : List Byte) : State :=
  if s.tokenOk b then
    let full := s.bit Reg.DBG_OPEN 0 || s.bit Reg.DBG_RECOVERY 0
    ((s.setFlds 0 [(Reg.DBG_TOKEN, 1), (Reg.DBG_SCOPE, if full then 0x3FF else fieldOf b 6 2), (Reg.DBG_NOT_AFTER, fieldOf b 16 8)]).raise
      Reg.DBG_EVT_TOKEN 0).newChallenge
  else s

/-! ### Beacons (R408, 08 R213) -/

/-- A beacon's count is written by the debug port: the beacon is assigned, and its tract is in scope and LOADED, RUNNING or
STOPPING; the beacon then runs the release procedure. -/
def State.dbgBeacon (s : State) (b n : Nat) : State :=
  let t := s.ptract (beaconHome b)
  let ok := (s.beacon b).assigned && s.inScope (s.parcelScope (beaconHome b)) && (match t with
    | some t => [2, 3, 4].contains (s.fld Reg.TRC_STATE_CODE t)
    | none => false)
  if ok then (s.setBeacon b { s.beacon b with count := n % 65536 }).runRelease b
  else s.dbgError 4 (fieldAddr Reg.DBG_BEACON_SET 0)

/-- DBG_BEACON_SET (16 R408): the beacon is selected, and its count written. -/
def execDbgBeaconSet (b : Fin 32768) (n : Fin 65536) (s : State) : Host.Outcome State Fault Refusal :=
  done (s.lit ((s.setFld Reg.DBG_BEACON_NUM 0 b).dbgBeacon b n))

end Sys2Proof.Machine
end

