-- ==== Sys2Proof/Machine/Firmware.lean ====
section
/-!
DEFINITION. In-service change: adopting a section, live firmware handover, re-test, the recovery image (15 R378 to R383).
-/
namespace Sys2Proof.Machine

/-! ### Adoption (15 R378) -/

/-- A tract's new entry conflicts with the entry in force of another tract that is not EMPTY: townships, shares, regions, or
more sessions than there are. -/
def State.adoptClash (s : State) (b : List Byte) : Bool :=
  let busy := (List.range 8).filter fun u => s.fld Reg.TRC_STATE_CODE u != 0
  let inForce (u : Nat) : List Byte := entryOf s.boot.cfgSection u
  (List.range 8).any fun t =>
    let e := entryOf b t
    let others := busy.filter (· != t)
    (others.any fun u => entriesClash e (inForce u)) ||
      (entTowns e != 0 && decide (65536 < entSessions e + ((others.map fun u => entSessions (inForce u)).foldl (· + ·) 0)))

/-- Tracts whose entry an adopted section changes. -/
def State.changedTracts (s : State) (b : List Byte) : Nat :=
  (List.range 8).foldl (fun m t => if entryOf b t = entryOf s.boot.cfgSection t then m else m + 2 ^ t) 0

/-- Module-wide fields that wait for a start: HBM_MAP, START_HOLD, FLAGS, EXPERT, DRILL. -/
def wideFields (b : List Byte) : List Byte := (b.drop 0x18).take 18

/-- MCB_ADOPT (15 R378): firmware verifies the section in flash and adopts it. -/
def State.adopt (s : State) : State :=
  if s.fld Reg.MCB_STATE_CODE 0 ≠ 2 then s
  else
    let b := s.flashSection
    let reason := s.sectionReason b (decide (s.fld Reg.CFG_SEQ_NOW 0 < byteField b 0x10 8)) (!s.adoptClash b)
    let s := (s.setFld Reg.CFG_ADOPT_REASON 0 reason).raise Reg.CFG_EVT_ADOPT 0
    if reason ≠ 0 then s
    else
      let h := sha384 b
      let digest : List (Fld × Nat) := ([Reg.CFG_DIGEST0, Reg.CFG_DIGEST1, Reg.CFG_DIGEST2, Reg.CFG_DIGEST3, Reg.CFG_DIGEST4,
        Reg.CFG_DIGEST5].zipIdx).map fun f => (f.1, byteField h (8 * f.2) 8)
      let s1 := s.setFlds 0 (digest ++ [(Reg.CFG_VERSION, byteField b 4 2), (Reg.CFG_SEQ_NOW, byteField b 0x10 8),
        (Reg.CFG_HBM_MAP_REC, byteField b 0x18 1), (Reg.CFG_ADOPT_PENDING, s.changedTracts b),
        (Reg.CFG_ADOPT_NEXT, b2n (wideFields b != wideFields s.boot.cfgSection))])
      { s1 with boot := { s1.boot with adopted := b } }

/-- MCB_ADOPT (15 R378): `sect` is what the operator has written over the start of the flash's configuration section. -/
def execMcbAdopt (sect : List Byte) (s : State) : Host.Outcome State Fault Refusal :=
  if s.moduleDark then done s else
  done ({ s with flash := putFlash s.flash 0x30000 (sect.take 0x4A4) }).adopt

/-! ### Firmware handover (15 R381, R382) -/

/-- Lantern cores available. -/
def State.coresUp (s : State) : Nat := (List.range 4).countP fun c => !bitAt (s.fld Reg.SFM_LWDT_LOST 0) c

/-- The address of a half of lantern SRAM. -/
def sramHalf (h : Nat) : Nat := 0xA0000000 + h % 2 * 0x400000

/-- MCB_FW_STAGE by agent g. A second one during a handover is dropped too. -/
def State.fwStage (s : State) (g : Agent) : State :=
  if decide (3 ≤ s.coresUp) && s.boot.handover == 0 && s.firmwareRuns && (List.range 8).all fun t => s.fld Reg.TRC_STATE_CODE t != 1 then
    ({ s with boot := { s.boot with handover := 1 } }).setFld Reg.MCB_HANDOVER 0 1
  else s.regError g (fieldAddr Reg.MCB_FW_STAGE 0)

/-- MCB_FW_STAGE (15 R381). -/
def execMcbFwStage (s : State) : Host.Outcome State Fault Refusal := done (s.lit (s.fwStage .lantern))

/-- The staged image: its header's length of bytes at MCB_FW_ADDR, at most 3 MiB. -/
def State.stagedImage (s : State) : List Byte :=
  let a := s.fld Reg.MCB_FW_ADDR 0
  s.rdBytes a (min 0x300000 (Config.firmwareLength (s.rdBytes a 4096)))

/-- The staged image is at most 3 MiB, readable, and signed. -/
def State.stagedOk (s : State) : Bool :=
  let a := s.fld Reg.MCB_FW_ADDR 0
  decide (Config.firmwareLength (s.rdBytes a 4096) ≤ 0x300000) && !s.rangeBad a s.stagedImage.length && Config.firmwareOk s.flash s.stagedImage

/-- A restarting core's watchdog deadline is suspended for 200 ms. -/
def State.suspendKick (s : State) (c : Nat) : State :=
  { s with safety := { s.safety with kicks := tabPut 0 s.safety.kicks c (s.datum + 200000001) } }

/-- A stage of a handover has been done. -/
def State.handoverStep (s : State) (n : Nat) : State := { s with boot := { s.boot with handover := n } }

/-- One stage ends; `ok` is the new image's self-check and its kicks. -/
def State.handoverStage (s : State) (ok : Bool) : State :=
  let spare := sramHalf (s.boot.half + 1)
  match s.boot.handover with
  | 0 => s
  | 1 => if s.stagedOk then ((s.zeroRange spare (spare + 0x400000)).wrBytes spare s.stagedImage).handoverStep 2 else s.abandonHandover
  | 2 => (s.suspendKick 3).handoverStep 3
  | 3 => if ok then s.handoverStep 4 else s.abandonHandover
  | 4 => if ok then (([0, 1, 2].foldl State.suspendKick s)).handoverStep 5 else s.abandonHandover
  | 5 => ({ s with boot := { s.boot with half := (s.boot.half + 1) % 2 } }).handoverStep 6
  | _ =>
    let run := sramHalf s.boot.half
    let img := s.rdBytes run (min 0x300000 (Config.firmwareLength (s.rdBytes run 4096)))
    let erased := s.flash.filter fun kv => decide (kv.1 < 0x200000 ∨ 0xA00000 ≤ kv.1)
    let s := { s with flash := putFlash erased 0x200000 img, boot := { s.boot with handover := 0, fwDigest := sha384 img, torn := false } }
    ((s.setFlds 0 [(Reg.MCB_HANDOVER, 0), (Reg.MCB_FW_RESULT, 0), (Reg.MCB_FW_VERSION, Config.firmwareVersion img)]).raise
      Reg.MCB_EVT_FW 0).freeLoads

/-- FW_HANDOVER_STAGE_DONE (15 R381, R382) at datum t. -/
def execFwHandoverStageDone (t : Nat) (ok : Bool) (s : State) : Host.Outcome State Fault Refusal := done (s.lit ((s.at t).handoverStage ok))

/-! ### Recovery image (15 R383) -/

/-- What a recovery image may write: the firmware region, the configuration section, the certificate chain; the disabled-unit
map only so that it is signed for this module. -/
def State.recoveryWrite (s : State) (w : Nat × List Byte) : State :=
  let lo := w.1
  let hi := w.1 + w.2.length
  let m := putFlash s.flash w.1 w.2
  let inside (a n : Nat) : Bool := decide (a ≤ lo ∧ hi ≤ a + n)
  let signedMap := inside 0x20000 0x10000 && Config.mapSigned m && byteField ((List.range 176).map fun i => tabGet 0xFF m (0x20000 + i)) 8 8 == moduleSerial
  if inside 0x200000 0x800000 || inside 0x30000 0x100000 || inside 0x10000 0x10000 || signedMap then
    { s with flash := m, boot := { s.boot with torn := s.boot.torn && !inside 0x200000 0x800000 } }
  else s

/-- MCB_RECOVERY_GO (15 R383): in RECOVERY the image taken into lantern SRAM, at its start, is verified and run; `writes` is
what the image does with the flash. An image that fails is discarded. -/
def State.recoveryGo (s : State) (writes : List (Nat × List Byte)) : State :=
  if s.fld Reg.MCB_STATE_CODE 0 ≠ 4 then s
  else
    let n := Config.firmwareLength (s.rdBytes 0xA0000000 4096)
    let img := s.rdBytes 0xA0000000 (min 0x300000 n)
    if n ≤ 0x300000 ∧ s.rangeBad 0xA0000000 img.length = false ∧ Config.firmwareOk s.flash img = true then
      writes.foldl State.recoveryWrite { s with boot := { s.boot with recoveryRuns := true } }
    else s.zeroRange 0xA0000000 (0xA0000000 + img.length / 8 * 8)

/-- MCB_RECOVERY_GO (15 R383). -/
def execMcbRecoveryGo (writes : List (Nat × List Byte)) (s : State) : Host.Outcome State Fault Refusal := done (s.lit (s.recoveryGo writes))

/-! ### Parcels (14 R359, 15 R379) -/

/-- MCB_RETEST by agent g, of the parcel MCB_PARCEL names: it must be QUARANTINED; one re-test runs at a time. -/
def State.retest (s : State) (g : Agent) : State :=
  let p := s.fld Reg.MCB_PARCEL 0
  if s.pstate p = stQuarantined ∧ s.boot.retest = none then { s with boot := { s.boot with retest := some p, retestPassed := 0 } }
  else s.regError g (fieldAddr Reg.MCB_RETEST 0)

/-- MCB_RETEST (15 R379). -/
def execMcbRetest (s : State) : Host.Outcome State Fault Refusal := done (s.lit (s.retest .lantern))

/-- MCB_Q_MARK (14 R359): a marking by hand, of the parcel MCB_PARCEL names, is kept like any other. -/
def execMcbQMark (s : State) : Host.Outcome State Fault Refusal := done (s.lit (s.markQuarantine (s.fld Reg.MCB_PARCEL 0)))

end Sys2Proof.Machine
end

