-- ==== Sys2Proof/Machine/Mgmt.lean ====
section
/-!
DEFINITION. The management bus, identity and attestation (16 R396 to R403), and the power cap (17 R414 to R417).
-/
namespace Sys2Proof.Machine

/-! ### Results (16 R396, R397) -/

/-- What a read command returns to the management controller. -/
def State.mgmtBlock (s : State) (b : List Byte) : State := { s with mgmt := { s.mgmt with lastBlock := b } }
/-- The status of the last write command. -/
def State.mgmtResult (s : State) (v : Nat) : State := { s with mgmt := { s.mgmt with lastResult := v } }
/-- The main rails are down. -/
def State.railsDown (s : State) : Bool := s.fld Reg.MCB_STATE_CODE 0 == 3 || s.fld Reg.MCB_STATE_CODE 0 == 5
/-- Every tract is EMPTY. -/
def State.allEmpty (s : State) : Bool := (List.range 8).all fun t => s.fld Reg.TRC_STATE_CODE t == 0

/-- A write command: with a wrong PEC it is discarded, and so recorded; refused where it may not act, with DARK where it lacks
the main rails; otherwise it acts. -/
def State.mgmtWrite (s : State) (pec ok rails : Bool) (act : State → State) : State :=
  if !pec then s.mgmtResult 0x11
  else if rails && s.railsDown then s.mgmtResult 0xFF
  else if !ok then s.mgmtResult 0x11
  else (act s).mgmtResult 0x00

/-! ### Identity and attestation (16 R399 to R403) -/

/-- One die's identity in a report. -/
def dieBytes (lot wafer x y : Fld) : List Byte :=
  leBytes 8 (Config.identity lot.idn) ++ leBytes 1 (Config.identity wafer.idn) ++ leBytes 1 (Config.identity x.idn) ++
    leBytes 1 (Config.identity y.idn) ++ leBytes 1 0

/-- A list of bytes cut or padded with zeros to n. -/
def fitBytes (n : Nat) (b : List Byte) : List Byte := b.take n ++ List.replicate (n - b.length) 0

/-- The identity bytes, 0x28 to 0x67 of a report. -/
def State.identityBytes (s : State) : List Byte :=
  dieBytes Reg.IDN_CD_LOT Reg.IDN_CD_WAFER Reg.IDN_CD_X Reg.IDN_CD_Y ++ dieBytes Reg.IDN_L0_LOT Reg.IDN_L0_WAFER Reg.IDN_L0_X Reg.IDN_L0_Y ++
  dieBytes Reg.IDN_L1_LOT Reg.IDN_L1_WAFER Reg.IDN_L1_X Reg.IDN_L1_Y ++ leBytes 4 0 ++ leBytes 8 (Config.identity Reg.IDN_PKG_SERIAL.idn) ++
  leBytes 8 (s.fld Reg.IDN_MOD_SERIAL 0) ++ leBytes 4 (s.fld Reg.MCB_FW_VERSION 0) ++ leBytes 1 (s.fld Reg.CFG_GRADE 0) ++ leBytes 3 0

/-- The bytes of CFG_DIGEST. -/
def State.cfgDigest (s : State) : List Byte :=
  [Reg.CFG_DIGEST0, Reg.CFG_DIGEST1, Reg.CFG_DIGEST2, Reg.CFG_DIGEST3, Reg.CFG_DIGEST4, Reg.CFG_DIGEST5].flatMap fun f => leBytes 8 (s.fld f 0)

/-- The bytes of a report that its signature covers. -/
def State.attBody (s : State) (nonce : List Byte) : List Byte :=
  leBytes 4 0x54545441 ++ leBytes 2 1 ++ leBytes 2 0 ++ fitBytes 32 nonce ++ s.identityBytes ++ leBytes 8 s.datum ++ s.cfgDigest ++
    fitBytes 48 (sha384 s.flashMap) ++ fitBytes 48 s.boot.fwDigest

/-- A signed report of 352 bytes (R402). -/
def State.attReport (s : State) (nonce : List Byte) : List Byte :=
  let b := s.attBody nonce
  b ++ fitBytes 96 (Config.attSign b)

/-- A request joins the queue. -/
def State.attRequest (s : State) (q : AttReq) : State := { s with mgmt := { s.mgmt with attReqs := s.mgmt.attReqs ++ [q] } }

/-- ATTESTATION_SIGNED (16 R402, R403) at datum t: the oldest request's report is ready. In the dark the management interface stays
powered (14 R362) and its requests are served (R397); those of the register path wait. -/
def execAttestationSigned (t : Nat) (s : State) : Host.Outcome State Fault Refusal :=
  let s := s.at t
  let waits (q : AttReq) : Bool := s.moduleDark && q.viaReg
  match s.mgmt.attReqs.filter fun q => !waits q with
  | [] => done s
  | q :: rest =>
    let s := { s with mgmt := { s.mgmt with attReqs := s.mgmt.attReqs.filter waits ++ rest } }
    if q.viaReg then
      let a := s.fld Reg.IDN_ATT_NONCE 0
      let s := s.setFld Reg.IDN_ATT_BUSY 0 0
      if s.rangeBad a 32 then done (s.setFld Reg.IDN_ATT_STATUS 0 0x40)
      else done ((s.put .lantern (s.fld Reg.IDN_ATT_OUT 0) (s.attReport (s.rdBytes a 32))).setFld Reg.IDN_ATT_STATUS 0 0)
    else done { s with mgmt := { s.mgmt with attReport := s.attReport q.nonce } }

/-- IDN_ATT_REQ by agent g: dropped while a report of this path is pending. -/
def State.idnAttReq (s : State) (g : Agent) : State :=
  if s.bit Reg.IDN_ATT_BUSY 0 then s.regError g (fieldAddr Reg.IDN_ATT_REQ 0)
  else (s.setFld Reg.IDN_ATT_BUSY 0 1).attRequest { viaReg := true }

/-- IDN_ATT_REQ (16 R403). -/
def execIdnAttReq (s : State) : Host.Outcome State Fault Refusal := done (s.lit (s.idnAttReq .lantern))

/-! ### Commands of the bus (16 R397) -/

/-- IDENTITY. -/
def execIdentity (s : State) : Host.Outcome State Fault Refusal := done (s.mgmtBlock s.identityBytes)

/-- STATUS: a byte for each item but SFM_STATE and the power, of two. -/
def execStatus (s : State) : Host.Outcome State Fault Refusal :=
  let sfm := s.fld Reg.SFM_MODULE 0 + s.fld Reg.SFM_DARK_CAUSE 0 * 4 + s.fld Reg.SFM_DARK_MORE 0 * 64 + s.fld Reg.SFM_DARK_PRIOR 0 * 128 +
    s.fld Reg.SFM_TRACT_DARK 0 * 256
  done (s.mgmtBlock (leBytes 1 (s.fld Reg.MCB_STATE_CODE 0) ++ leBytes 2 sfm ++ leBytes 1 (s.fld Reg.SFM_DARK_CAUSE 0) ++
    leBytes 1 (s.fld Reg.PWR_T_DIE_MAX 0) ++ leBytes 2 (s.fld Reg.PWR_IN_W 0) ++ leBytes 9 0))

/-- LAST_RESULT. -/
def execLastResult (s : State) : Host.Outcome State Fault Refusal := done (s.mgmtBlock (leBytes 1 s.mgmt.lastResult))

/-- SET_COORD's own conditions (16 R398): S = ⌊N × 2^20 / 10^9⌋, a PARENT other than 6, ROOT exactly with PARENT 7. -/
def coordOk (b : List Byte) : Bool :=
  let n := byteField b 4 4
  let root := bitsOf (byteField b 3 1) 0 1
  let parent := bitsOf (byteField b 3 1) 1 3
  byteField b 8 8 == n * 1048576 / 1000000000 && parent != 6 && (root == 1) == (parent == 7)

/-- The states that take SET_COORD: cold-start step 8, or READY with every tract EMPTY. -/
def State.coordState (s : State) : Bool :=
  (s.boot.kind == 1 && s.boot.step == 8) || (s.fld Reg.MCB_STATE_CODE 0 == 2 && s.allEmpty)

/-- SET_COORD accepted. -/
def State.setCoord (s : State) (b : List Byte) : State :=
  let c := byteField b 0 3 % 2 ^ 18
  let s := s.setFlds 0 [(Reg.IDN_COORD, c), (Reg.IDN_COORD_VALID, 1), (Reg.CLK_ROOT, bitsOf (byteField b 3 1) 0 1),
    (Reg.CLK_PARENT, bitsOf (byteField b 3 1) 1 3)]
  { s with
    coord := c
    clk := { s.clk with parentLost := false, setAt := some (byteField b 4 4 * 1048576) }
    boot := { s.boot with coordOk := true }
    mgmt := { s.mgmt with coordBytes := fitBytes 16 b } }

/-- SET_COORD (16 R398). -/
def execSetCoord (b : List Byte) (pec : Bool) (s : State) : Host.Outcome State Fault Refusal :=
  done (s.mgmtWrite pec (s.coordState && coordOk b) true fun s => s.setCoord b)

/-- GET_COORD (16 R397). -/
def execGetCoord (s : State) : Host.Outcome State Fault Refusal := done (s.mgmtBlock (fitBytes 16 s.mgmt.coordBytes))

/-- A cap that a source accepts (17 R415). -/
def capOk (w : Nat) : Bool := w == 0 || decide (1500 ≤ w ∧ w ≤ 3000)

/-- POWER_CAP (16 R397, 17 R415): in every state but RECOVERY. -/
def execPowerCap (w : BitVec 16) (pec : Bool) (s : State) : Host.Outcome State Fault Refusal :=
  done (s.mgmtWrite pec (s.fld Reg.MCB_STATE_CODE 0 != 4 && capOk w.toNat) false fun s => (s.setFld Reg.PWR_CAP_SMB_W 0 w.toNat).showCap)

/-- POWER_READ (16 R397): mV and mA. -/
def execPowerRead (s : State) : Host.Outcome State Fault Refusal :=
  done (s.mgmtBlock (leBytes 4 (s.fld Reg.PWR_IN_MV 0) ++ leBytes 4 (10 * s.fld Reg.PWR_IN_CA 0)))

/-- ATTEST_NONCE (16 R402): in every state but RECOVERY; a report is requested. -/
def execAttestNonce (nonce : List Byte) (pec : Bool) (s : State) : Host.Outcome State Fault Refusal :=
  done (s.mgmtWrite pec (s.fld Reg.MCB_STATE_CODE 0 != 4) false fun s => s.attRequest { nonce := fitBytes 32 nonce })

/-- ATTEST_READ (16 R397): min(240, 352 − offset) bytes of the report finished last. -/
def execAttestRead (off : BitVec 16) (s : State) : Host.Outcome State Fault Refusal :=
  done (s.mgmtBlock ((s.mgmt.attReport.drop off.toNat).take 240))

/-- WARM_START (15 R375). -/
def execWarmStart (pec : Bool) (s : State) : Host.Outcome State Fault Refusal :=
  if pec then
    let ok := s.mayWarm
    done ((s.warmStart .management).mgmtResult (if ok then 0x00 else 0x11))
  else done (s.mgmtResult 0x11)

/-- COLD_START (16 R397): in every state. -/
def execColdStart (pec : Bool) (s : State) : Host.Outcome State Fault Refusal := done (s.mgmtWrite pec true false State.coldStart)

/-- The standby power state (17 R414): memories in self-refresh, the main rails down. -/
def State.enterStandby (s : State) : State :=
  let s := (List.range 32).foldl (fun s w => if (s.town w).clocked then s.haltClock w 0 else s) s
  let s := ((List.range 6).foldl (fun s k => s.setFlds k [(Reg.LNK_RX_STATE, 0), (Reg.LNK_TX_STATE, 0)]) s).selfRefreshAll
  (s.attLink 0).setFlds 0 [(Reg.MCB_STATE_CODE, 3), (Reg.PWR_STAGE, 1), (Reg.PWR_STRETCH_NOW, 0)]

/-- STANDBY (16 R397, 17 R414): in READY with every tract EMPTY. -/
def execStandby (pec : Bool) (s : State) : Host.Outcome State Fault Refusal :=
  done (s.mgmtWrite pec (s.fld Reg.MCB_STATE_CODE 0 == 2 && s.allEmpty) true State.enterStandby)

/-- SAFETY_LOG (16 R397): one safety record. -/
def execSafetyLog (i : BitVec 16) (s : State) : Host.Outcome State Fault Refusal :=
  done (s.mgmtBlock (if i.toNat < 4096 then (tabGet {} s.safety.log i.toNat : SafeRec).bytes else []))

/-- ALERT_N asserts (14 R366): an event whose alert enable is set, or the module dark. -/
def State.alertN (s : State) : Bool :=
  s.moduleDark || [(Reg.SFM_EVT_KAT_FAIL, Reg.SFM_EVT_KAT_FAIL_ALERT), (Reg.SFM_EVT_QUARANTINE, Reg.SFM_EVT_QUARANTINE_ALERT),
    (Reg.SFM_EVT_LANTERN, Reg.SFM_EVT_LANTERN_ALERT), (Reg.SFM_EVT_TRACT_DARK, Reg.SFM_EVT_TRACT_DARK_ALERT),
    (Reg.SFM_EVT_DETERMINISM, Reg.SFM_EVT_DETERMINISM_ALERT), (Reg.SFM_EVT_RESIDUE, Reg.SFM_EVT_RESIDUE_ALERT)].any fun e =>
      s.bit e.1 0 && s.bit e.2 0

/-- ALERT_RESPONSE (16 R396): while ALERT_N asserts, the module answers with its 7-bit address 0x40 plus the slot that the
SLOT_ID pins give, in the upper bits of the byte. -/
def execAlertResponse (slot : Fin 8) (s : State) : Host.Outcome State Fault Refusal :=
  if s.alertN then done (s.mgmtBlock (leBytes 1 (2 * (0x40 + slot.val)))) else done s

/-! ### Power cap (17 R415 to R417) -/

/-- PWR_CAP_W by agent g: a value outside the set keeps the old one, with a register access error (00 R8). -/
def State.pwrCapW (s : State) (g : Agent) (v : Nat) : State :=
  if capOk v then (s.setFld Reg.PWR_CAP_W 0 v).showCap else s.regError g (fieldAddr Reg.PWR_CAP_W 0)

/-- PWR_CAP_W (17 R415). -/
def execPwrCapW (v : BitVec 16) (s : State) : Host.Outcome State Fault Refusal := done (s.lit (s.pwrCapW .lantern v.toNat))

/-- The stretch after a millisecond of an average: one step up above the cap, one down below 98 % of it (R416). -/
def nextStretch (avg cap now max' : Nat) : Nat :=
  if cap < avg ∧ now < max' then now + 1
  else if 100 * avg < 98 * cap ∧ 0 < now then now - 1
  else min now max'

/-- A new stretch: resting townships take it, the others at the end of their windows, the spine at once. -/
def State.setStretch (s : State) (n : Nat) : State :=
  let was := s.fld Reg.PWR_STRETCH_NOW 0
  if was = n then s
  else
    let s := s.setFld Reg.PWR_STRETCH_NOW 0 n
    let s := if was = 0 ∨ n = 0 then s.raise Reg.PWR_EVT_CAP 0 else s
    let s := if s.clk.spineDroop then s else { s with clk := { s.clk with spinePeriod := s.capPeriod } }
    (List.range 32).foldl (fun s w => if tabGet false s.windowOpen w then s else s.takeStretch w) s

/-- POWER_AVERAGE_UPDATE (17 R416, R417): a millisecond ends at datum t with an average input power in W. -/
def execPowerAverageUpdate (avg t : Nat) (s : State) : Host.Outcome State Fault Refusal :=
  let s := s.at t
  let s := s.setFlds 0 [(Reg.PWR_IN_AVG_W, min 65535 avg), (Reg.PWR_ENERGY_MJ, s.fld Reg.PWR_ENERGY_MJ 0 + avg)]
  if s.fld Reg.PWR_STAGE 0 ≠ 3 then done s
  else
    let cap := s.fld Reg.PWR_CAP_EFF 0
    let now := s.fld Reg.PWR_STRETCH_NOW 0
    let top := s.ctl Reg.PWR_STRETCH_MAX 0
    let s := if cap < avg ∧ top ≤ now then (s.count Reg.PWR_CAP_UNMET_MS 0 1).raise Reg.PWR_EVT_CAP_UNMET 0 else s
    done (s.setStretch (nextStretch avg cap now top))

end Sys2Proof.Machine
end

