-- ==== Sys2Proof/Machine/Exchange.lean ====
section
/-!
DEFINITION. The exchange engine's transfers: XSEND, XSIG, XRECV, delivery, deadlines, retry overruns (04 R100 to
R105, 10 R249, 11 R265, R278).
-/
namespace Sys2Proof.Machine

/-! ### Sending -/

/-- The route entry of a parcel's tract, with the tract, where the entry exists and this parcel may send on it (11
R278). -/
def State.routeFor (s : State) (p n : Nat) : Option (Nat × Route) :=
  match s.ptract p with
  | none => none
  | some t =>
    match ((s.tract t).routes)[n]? with
    | none => none
    | some r => if (s.tract t).landing[r.srcFold]? = some p then some (t, r) else none

/-- A packet on a route, but for its kind and contents. -/
def State.routePkt (s : State) (t : Nat) (r : Route) : Pkt :=
  { vc := r.vc, cls := r.cls, job := (s.tract t).job, epoch := (s.tract t).epoch, dest := r.dest, src := s.coord,
    dparcel := r.destFold }

/-- The pieces of 1,024 bytes of a source, with fuel. -/
def cutBytes : Nat → List Byte → List (List Byte)
  | 0, _ => []
  | _, [] => []
  | fuel + 1, l => l.take 1024 :: cutBytes fuel (l.drop 1024)

/-- The source of an XSEND: (offset, bytes) of its rows, in element order. -/
def sendRows (base d : Nat) : List (Nat × Nat) :=
  (dRows d).map fun o => (addrAdd base o, packBytes (dFmt d) (dExt d 0))

/-- The tick and slot from which the first packet may go: FIRST of this tick, or the next tick's first slot once it has passed,
as a value from 1,280 up counts as having done (04 R100, R105). -/
def State.firstSlot (s : State) (first : Nat) : Nat × Nat :=
  let n := s.tickNow
  if first < 1280 ∧ s.datum ≤ slotNs n first then (n, first) else (n + 1, 0)

/-- When packet i is ready, in cycles from the start: the end of the phase that reads its last line, up to 32 lines per
exchange phase and one per bank; none where the wheel gives the engine no phase. -/
def State.sendReady (s : State) (p : Nat) (lines : List Nat) : Option Nat := s.memTerm p 3 128 lines

/-- XSEND's packets (04 R100): those before the first that would hold data that cannot be corrected, and whether there
is such a one. -/
def State.sendPackets (s : State) (p : Nat) (q : QEntry) (t : Nat) (r : Route) : List TxPkt × Bool :=
  let d := (q.op 0).bits
  let rows := sendRows (q.op 0).base d
  let offs := rows.flatMap fun ob => (List.range ob.2).map fun i => ob.1 + i
  let data := offs.map fun o => s.rd8 (pmAddr p o)
  let pieces := cutBytes 4096 data
  let lines (n : Nat) : List Nat := (((offs.take n).map fun o => o % 0x400000 / 64).foldl
    (fun (l : List Nat) x => if l.head? == some x then l else x :: l) []).reverse
  let okPiece (i : Nat) : Bool := !(((offs.drop (1024 * i)).take 1024).any fun o => s.lineBad (pmAddr p o) 1)
  let good := if s.uncorr.isEmpty then pieces.length else ((List.range pieces.length).takeWhile okPiece).length
  let fs := s.firstSlot ((q.op 4).num 11)
  let base := s.routePkt t r
  let mk (i : Nat) (bs : List Byte) : TxPkt :=
    let isFinal := i + 1 == pieces.length
    { parcel := p, seq := q.seq, link := r.link, slots := r.slots,
      tick := if i = 0 then fs.1 else 0, slot := if i = 0 then fs.2 else 0,
      ready := s.datum + (s.sendReady p (lines (1024 * (i + 1)))).getD 0, final := isFinal,
      pkt := { base with
        kind := 0x80, tally := (q.op 2).num 6, offset := ((q.op 3).num 22 + 1024 * i) % 0x400000, len := bs.length - 1,
        flags := b2n (isFinal && bitAt (wMod q.w) 0), payload := bs } }
  (((pieces.take good).zipIdx).map fun bi => mk bi.2 bi.1, good < pieces.length)

/-- XSEND (04 R100, R105): cuts its source into packets; on an entry that is not the parcel's it sends nothing and
completes at once. It occupies the engine until its last packet is ready and leaves the parcel (R104). -/
def execXsend (p : ParcelId) (s : State) : Host.Outcome State Fault Refusal :=
  match s.readyHead p 3 0xA0 with
  | none => done s
  | some q =>
    match s.routeFor p ((q.op 1).num 12) with
    | none => done (s.launch p 3 { entry := q })
    | some (t, r) =>
      let d := (q.op 0).bits
      match s.sendReady p (denseLines (q.op 0).base d) with
      | none => done (s.launch p 3 { entry := q, stage := .held })
      | some occ =>
        let l := s.sendPackets p q t r
        done ({ s with txq := s.txq ++ l.1 }.launch p 3
          { entry := q, status := if l.2 then 0x40 else 0, occ := occ, lat := occ,
            met := s.pmCorr p (denseLines (q.op 0).base d) })

/-- XSIG (04 R102): a release that sends one signal packet in its entry's next slot. -/
def execXsig (p : ParcelId) (s : State) : Host.Outcome State Fault Refusal :=
  match s.readyHead p 3 0xA2 with
  | none => done s
  | some q =>
    let s := s.drainTier p q.cover
    match s.routeFor p (wRoute q.w) with
    | none => done (s.launch p 3 { entry := q })
    | some (t, r) =>
      let x : TxPkt := { parcel := p, seq := q.seq, link := r.link, slots := r.slots, tick := s.tickNow, slot := 0,
                         ready := s.datum, final := true,
                         pkt := { s.routePkt t r with kind := 0x81, sp := wBeacon q.w + wAmount q.w * 2 ^ 16 } }
      done ({ s with txq := s.txq ++ [x] }.launch p 3 { entry := q })

/-! ### Receiving -/

/-- The tick of the township's coming or running window. -/
def State.planTick (s : State) (w : Nat) : Nat := (s.town w).tick.getD s.tickNow

/-- An earlier XRECV on the same tally has not completed. -/
def State.tallyBusy (s : State) (p : Nat) (q : QEntry) : Bool :=
  (s.eng p 3).flight.any fun f => wOpcode f.entry.w == 0xA1 && f.stage == .held && xrecvTally f.entry == xrecvTally q

/-- XRECV (04 R101, R105): waits on its tally until its deadline. -/
def execXrecv (p : ParcelId) (s : State) : Host.Outcome State Fault Refusal :=
  match s.readyHead p 3 0xA1 with
  | none => done s
  | some q =>
    if s.tallyBusy p q then done s
    else
      let dl := (q.op 2).num 12
      let tick := s.planTick (p / 16) + (if dl = 0 then 4096 else dl)
      done (s.launch p 3 { entry := q, stage := .held, occ := 1, deadline := tick })

/-- The transfer of instruction i in flight is judged at its deadline tick (04 R101): a met tally completes, a short
one fails with TALLY_SHORT, as does an XCOLL that has not its result (04 R103). -/
def State.judge (s : State) (p i : Nat) : State :=
  match (s.eng p 3).flight[i]? with
  | none => s
  | some f =>
    let op := wOpcode f.entry.w
    if (op = 0xA1 ∨ op = 0xA8) ∧ f.stage = .held ∧ 0 < f.deadline ∧ f.deadline ≤ s.planTick (p / 16) then
      if op = 0xA1 ∧ s.tallyMet p f.entry = true then (s.consumeTally p f.entry).finishFlight p 3 i
      else
        let s := { s with colls := s.colls.filter fun c => !(c.parcel == p && c.seq == f.entry.seq && op == 0xA8) }
        (s.setFlight p 3 i { f with status := 0x33 }).finishFlight p 3 i
    else s

/-- Every transfer of a parcel whose deadline tick has begun is judged: before a packet written in that tick counts
(04 R101). -/
def State.judgeAll (s : State) (p : Nat) : State :=
  (List.range (s.eng p 3).flight.length).foldl (fun s i => s.judge p i) s

/-- TRANSFER_DEADLINE (04 R101, R103): instruction i in flight on parcel p's exchange engine reaches its deadline. -/
def execTransferDeadline (p : ParcelId) (i : Nat) (s : State) : Host.Outcome State Fault Refusal := done (s.judge p i)

/-! ### Delivery (04 R101, R102, 08 R212) -/

/-- The runs of bytes left when those at some positions are taken out, each with the position it begins at. -/
def runsBut (out : Nat → Bool) : List Byte → Nat → List (Nat × List Byte)
  | [], _ => []
  | b :: bs, i =>
    let rest := runsBut out bs (i + 1)
    if out i then rest
    else
      match rest with
      | (j, l) :: more => if j = i + 1 then (i, b :: l) :: more else (i, [b]) :: rest
      | [] => [(i, [b])]

/-- Write a payload at an offset: a word covered in part whose old contents are uncorrectable stays as it was (04 R101);
false where there is one. -/
def State.deliverBytes (s : State) (p off : Nat) (bs : List Byte) : Bool × State :=
  let skip (i : Nat) : Bool :=
    let w := pmAddr p (off + i) / 8
    tabGet false s.uncorr w && !((List.range 8).all fun b =>
      let o := (8 * w + b + 0x400000 - off % 0x400000) % 0x400000
      decide (o < bs.length))
  let s := s.noteLines 3 (s.corrParts [(pmAddr p off, bs.length)])
  if s.uncorr.isEmpty then (true, s.pmWrite p off bs)
  else
    let bad := (List.range bs.length).filter skip
    if bad = [] then (true, s.pmWrite p off bs)
    else
      let s1 := (runsBut bad.contains bs 0).foldl (fun s r => s.pmWrite p (off + r.1) r.2) s
      (false, s1.noteMemError p true (pmAddr p (off + bad.headD 0) / 64 * 64) 0 3)

/-- A beacon signal by packet (08 R212): applied at the tract's virtual beacon, or discarded and counted where the tract is
not loaded yet or the beacon is orphaned or unassigned; an overflow fails the home parcel at its command count (04 R97,
R110). -/
def State.deliverSignal (s : State) (a : Arrival) : State :=
  match (if s.fld Reg.TRC_STATE_CODE a.tract ≤ 1 then none else s.vBeacon a.tract (a.pkt.spec 0 2)) with
  | none => s.count Reg.TRC_ORPHAN_SIGNALS a.tract 1
  | some b =>
    if s.beaconLive b then
      let r := s.signal b (a.pkt.spec 2 2)
      if r.2 then r.1.parcelFault (beaconHome b) 3 0 (s.fld Reg.PCT_CMD (beaconHome b)) 0x22 else r.1
    else s.count Reg.TRC_ORPHAN_SIGNALS a.tract 1

/-- The packet is written: the freeze that waits for it ends (08 R201). -/
def State.endRetryFreeze (s : State) (num : Nat) : State :=
  (List.range 32).foldl (fun s w => s.endFreeze w 1 num) s

/-- One more packet of a tally. -/
def State.countTally (s : State) (p : Nat) (k : Pkt) : State :=
  let t := s.tally p k.tally
  s.setTally p k.tally { count := t.count + 1, last := t.last || k.isLast }

/-! ### Retry overruns (10 R249, 11 R265) -/

/-- The packet with sequence number seq of link k is one that link k has named for replay, or that came late, its original slot
lay in a tick, and it has not been written here; a township that it is bound for may be known (10 R249, 11 R265). -/
def State.overrun (s : State) (k seq tick w : Nat) : Bool :=
  let gap := (s.link k).gaps.find? fun g => g.1 == seq
  let due : Bool := match gap with
    | some g => decide (g.2.1 ≤ tick ∧ tick ≤ g.2.2)
    | none => false
  match s.arrivals.find? fun a => a.num == pktNum k seq with
  | some a => decide (a.parcel / 16 = w) && (due || (gap.isNone && a.pkt.isLate && decide (a.pkt.tick ≤ tick % 2 ^ 32)))
  | none => !s.rxHas k seq && due

/-- RETRY_OVERRUN (10 R249, 11 R265): at datum t, the end of a tick's packet-times, link l declares to township w that
the packet with number seq on link k, whose original slot lay in that tick, has not been written; the township freezes until it
is. A declaration in force is not made again. -/
def execRetryOverrun (l k : LinkId) (seq : Nat) (w : TownshipId) (t : Nat) (s : State) :
    Host.Outcome State Fault Refusal :=
  let s := s.at t
  let known := (s.town w).freezes.any fun f => f.cause == 1 && f.key == pktNum k seq
  if s.overrun k seq s.tickNow w && decide (2046 ≤ t % 2048) && !known then
    done (((s.addFreeze w 1 (pktNum k seq)).count Reg.LNK_RETRY_OVR l 1).raise Reg.LNK_EVT_RETRY_OVR l)
  else done s

end Sys2Proof.Machine
end

