-- ==== Sys2Proof/Machine/Collective.lean ====
section
/-!
DEFINITION. Collectives: XCOLL and the packets of its tree (04 R103, 05 R127, R128, 11 R279 to R281), and the delivery of
packets to parcels (04 R101).
-/
namespace Sys2Proof.Machine

/-! ### Words (11 R281) -/

/-- The forms of a collective's words: 0 LS160, 1 FP32, 2 INT64 partial sums, 3 INT32, 4 bytes. Bytes of a word. -/
def wordBytes : Nat → Nat
  | 0 => 20
  | 1 => 4
  | 2 => 8
  | 3 => 4
  | _ => 1

/-- Words in one packet. -/
def wordsPer : Nat → Nat
  | 0 => 51
  | 1 => 256
  | 2 => 128
  | 3 => 256
  | _ => 1024

/-- A word's bytes. -/
def encodeWord (form : Nat) (v : Int) : List Byte := leBytes (wordBytes form) (wrapTo (8 * wordBytes form) v)

/-- A word from its bytes; FP32 codes and bytes are unsigned. -/
def decodeWord (form : Nat) (bs : List Byte) : Int :=
  if form = 1 ∨ form = 4 then (leNat bs : Int) else sextOf (8 * wordBytes form) (leNat bs)

/-- The word form of a collective's contributions and of its result, by kind and format (04 R103, 11 R281). -/
def upForm (kind fmt : Nat) : Nat :=
  if kind = 2 ∨ kind = 3 then 4 else if kind = 4 then 3 else if fmt = 14 then 0 else if fmt = 0 then 1 else 2

/-- The form of the result. -/
def downForm (kind fmt : Nat) : Nat := if upForm kind fmt = 2 then 3 else upForm kind fmt

/-- Cut words into packets, with fuel. -/
def cutWords {α : Type} : Nat → Nat → List α → List (List α)
  | 0, _, _ => []
  | _, _, [] => []
  | fuel + 1, n, l => l.take n :: cutWords fuel n (l.drop n)

/-! ### The tree and the ring (05 R128, 11 R280) -/

/-- The levels ℓ, from 0, of the positions v + 2^ℓ that v combines: as long as v is a multiple of 2^(ℓ+1). -/
def treeLevels : Nat → Nat → Nat → Nat → List Nat
  | 0, _, _, _ => []
  | fuel + 1, l, v, parts =>
    if 2 ^ l < parts ∧ v % 2 ^ (l + 1) = 0 then
      (if v + 2 ^ l < parts then [l] else []) ++ treeLevels fuel (l + 1) v parts
    else []

/-- The level at which position v > 0 hands its sum on. -/
def upLevel : Nat → Nat → Nat
  | 0, _ => 0
  | fuel + 1, v => if v % 2 = 1 then 0 else upLevel fuel (v / 2) + 1

/-- The positions whose values v combines, in order, with how many positions each stands for. -/
def CollEntry.children (c : CollEntry) (kind : Nat) : List (Nat × Nat) :=
  if kind = 3 then []
  else if c.ring then (if c.pos = 0 then [] else [(c.pos - 1, c.pos)])
  else (treeLevels 25 0 c.pos c.parts).map fun l => (c.pos + 2 ^ l, min (2 ^ l) (c.parts - c.pos - 2 ^ l))

/-- The position that holds the result, and the one that v hands its value to. -/
def CollEntry.root (c : CollEntry) (kind : Nat) : Nat := if c.ring && kind != 3 then c.parts - 1 else 0

/-- Where v's value goes up. -/
def CollEntry.parent (c : CollEntry) : Nat := if c.ring then c.pos + 1 else c.pos - 2 ^ upLevel 25 c.pos

/-- Where the result comes from, for a position that is not the root. -/
def CollEntry.source (c : CollEntry) : Nat :=
  if c.ring then (if c.pos = 0 then c.parts - 1 else c.pos - 1) else c.pos - 2 ^ upLevel 25 c.pos

/-- The positions the result is copied to from v. -/
def CollEntry.copies (c : CollEntry) (kind : Nat) : List Nat :=
  if c.ring then
    let next := if c.pos + 1 = c.parts then 0 else c.pos + 1
    if c.parts = 1 ∨ next = c.root kind then [] else [next]
  else (treeLevels 25 0 c.pos c.parts).map fun l => c.pos + 2 ^ l

/-- The collective entry of a parcel's tract. -/
def State.collEntry (s : State) (p n : Nat) : Option (Nat × CollEntry) :=
  match s.ptract p with
  | none => none
  | some t => (((s.tract t).colls)[n]?).map fun c => (t, c)

/-- One addition of two contributions: exact and clamped for LS160, rounded for FP32, exact for INT64 partial sums,
signed maximum, concatenation (05 R127, R128); with the flags it raises. -/
def combineWords (kind form : Nat) (a b : List Int) : List Int × Nat :=
  if form = 4 then (a ++ b, 0)
  else
    let one (x y : Int) : Int × Nat :=
      if kind = 4 then (max x y, 0)
      else if form = 0 then (lsClamp (x + y), flagIf (decide (lsClamp (x + y) ≠ x + y)) flagLsSat)
      else if form = 1 then
        let r := fp32Add (fp32 x.toNat) (fp32 y.toNat)
        ((r.val : Int), r.flags)
      else (x + y, 0)
    let rs := a.zipWith one b
    (rs.map (·.1), unionFlags (rs.map (·.2)))

/-- Clamp an INT64 partial sum to INT32 at the root (05 R127), with OVERFLOW (04 R103). -/
def clampInt32 (x : Int) : Int × Nat :=
  if x < -2147483648 then (-2147483648, flagOverflow)
  else if 2147483647 < x then (2147483647, flagOverflow)
  else (x, 0)

/-! ### Sending -/

/-- Queue a message to a virtual position: its words in packets, on the route to it (11 R281; DESIGN CHOICE, log entry 21). -/
def State.sendWords (s : State) (p : Nat) (c : Coll) (t : Nat) (e : CollEntry) (peer level form : Nat) (ws : List Int) : State :=
  let n := e.routeFirst + Config.collRoute c.entry peer % max 1 e.routeN
  match s.routeFor p n with
  | none => s
  | some (_, r) =>
    let base := s.routePkt t r
    let gridBits := wrapTo 16 c.grid
    let pieces := cutWords ws.length (wordsPer form) ws
    let mk (i : Nat) (w : List Int) : TxPkt :=
      let payload := w.flatMap (encodeWord form)
      { parcel := p, seq := c.seq, link := r.link, slots := r.slots, tick := s.tickNow, slot := 0, ready := s.datum,
        final := i + 1 == pieces.length,
        pkt := { base with
          kind := 0x82
          tally := (e.tallyBase + level % 128 % max 1 e.tallyN) % 64
          len := payload.length - 1
          payload := payload
          sp := c.entry % 2 ^ 16 + e.pos % 2 ^ 32 * 2 ^ 16 + gridBits * 2 ^ 48 + c.fmt * 2 ^ 64 + level * 2 ^ 72 +
            i % 2 ^ 16 * 2 ^ 80 } }
    { s with txq := s.txq ++ (pieces.zipIdx).map fun wi => mk wi.2 wi.1 }

/-! ### Receiving -/

/-- The packets of one message from a sender, in chunk order. -/
def State.message (s : State) (c : Coll) (sender : Nat) (down : Bool) : List CollRx :=
  let l := s.collRx.filter fun r => r.parcel == c.parcel && r.entry == c.entry && r.sender == sender && decide (128 ≤ r.level) == down
  (List.range l.length).filterMap fun i => l.find? fun r => r.chunk == i

/-- A message of n words is complete: its words, re-gridded where its grid differs (11 R281), and the state without its
packets, which leave their tallies. -/
def State.takeMessage (s : State) (c : Coll) (sender : Nat) (down : Bool) (form n : Nat) : Option (List Int × State) :=
  let l := s.message c sender down
  let words (r : CollRx) : List Int := (cutWords r.bytes.length (wordBytes form) r.bytes).map (decodeWord form)
  let ws := l.flatMap fun r =>
    if form = 0 ∧ r.grid ≠ c.grid then (words r).map fun x => (regrid x r.grid c.grid).1 else words r
  if ws.length < n then none
  else
    let s := { s with collRx := l.foldl List.erase s.collRx }
    let s := l.foldl (fun s r =>
      let t := s.tally r.parcel r.tally
      s.setTally r.parcel r.tally { t with count := t.count - 1 }) s
    some (ws.take n, s)

/-! ### The instruction -/

/-- The words of an XCOLL's source. -/
def State.collWords (s : State) (p base d form : Nat) : List Int :=
  if form = 4 then
    (sendRows base d).flatMap fun ob => (s.pmRead p ob.1 ob.2).map fun b => (b.toNat : Int)
  else
    let w := if form = 0 then 20 else 4
    let f := if form = 2 then 3 else form
    (dElems base d w).map fun o => decodeWord f (s.pmRead p o w)

/-- The source, re-gridded onto a fixed grid (04 R103), with flags. -/
def State.collSource (s : State) (p : Nat) (q : QEntry) (form : Nat) : List Int × Int × Nat :=
  let d := (q.op 1).bits
  let ws := s.collWords p (q.op 1).base d form
  if form = 0 then
    let g0 := s.gridAt p (q.op 1).base d
    let g := ((q.op 3).grid).getD g0
    let rs := ws.map fun x => regrid x g0 g
    (rs.map (·.1), g, flagIf (rs.any (·.2)) flagLsSat)
  else (ws, 0, 0)

/-- Write the result: its own slice for reduce-scatter; long sums with their grid word. The instruction may then
complete, or fails on an uncorrectable word it covers in part. -/
def State.writeResult (s : State) (c : Coll) (q : QEntry) (e : CollEntry) (form : Nat) (ws : List Int) : State :=
  let p := c.parcel
  let d := (q.op 0).bits
  let base := (q.op 0).base
  let rows : List RowWrite :=
    if form = 4 then
      let bs := ws.map fun x => BitVec.ofNat 8 x.toNat
      ((sendRows base d).foldl (fun (acc : List RowWrite × List Byte) ob =>
        (acc.1 ++ [(ob.1, acc.2.take ob.2)], acc.2.drop ob.2)) ([], bs)).1
    else
      let offs := dElems base d (wordBytes form)
      let mine := if c.kind = 1 then ws.drop (e.pos * offs.length) else ws
      (offs.zip mine).map fun ow => (ow.1, encodeWord form ow.2)
  let grid : List RowWrite := if form = 0 then [(base + dScaleOff d, leBytes 8 (gridWord c.grid))] else []
  let r := s.commitRows p (wFlagSel q.w) false (rows ++ grid) c.flags (some (0, 0))
  let x := r.st.eng p 3
  let upd (f : Flight) : Flight :=
    if f.entry.seq = c.seq ∧ f.stage = .held then { f with stage := .run, status := r.status } else f
  r.st.setEng p 3 { x with flight := x.flight.map upd }

/-- The result is here: copied on, written, and the collective is over. -/
def State.finishColl (s : State) (c : Coll) (q : QEntry) (t : Nat) (e : CollEntry) (ws : List Int) : State :=
  let form := if c.form = 2 then 3 else c.form
  let lvl (peer : Nat) : Nat := 128 + (if e.ring then 0 else upLevel 25 peer)
  let s := (e.copies c.kind).foldl (fun s v => s.sendWords c.parcel c t e v (lvl v) form ws) s
  { s with colls := s.colls.filter fun x => !(x.parcel == c.parcel && x.seq == c.seq) }.writeResult c q e form ws

/-- Replace a collective in progress. -/
def State.setColl (s : State) (c : Coll) : State :=
  { s with colls := s.colls.map fun x => if x.parcel = c.parcel ∧ x.seq = c.seq then c else x }

/-- One advance of a collective: combine the next contribution, hand the value on, or take the result. -/
def State.collStep (s : State) (c : Coll) (q : QEntry) (t : Nat) (e : CollEntry) : State :=
  let kids := e.children c.kind
  match kids[c.combined]? with
  | some (v, span) =>
    let n := if c.form = 4 then c.count * span else c.count
    match s.takeMessage c v false c.form n with
    | none => s
    | some (ws, s) =>
      let r := if e.ring then combineWords c.kind c.form ws c.acc else combineWords c.kind c.form c.acc ws
      s.setColl { c with acc := r.1, combined := c.combined + 1, flags := orFlags c.flags r.2 }
  | none =>
    if e.pos = e.root c.kind then
      if c.form = 2 then
        let rs := c.acc.map clampInt32
        s.finishColl { c with flags := orFlags c.flags (unionFlags (rs.map (·.2))) } q t e (rs.map (·.1))
      else s.finishColl c q t e c.acc
    else if c.kind ≠ 3 ∧ c.sentUp = false then
      let lvl := if e.ring then 0 else upLevel 25 e.pos
      (s.sendWords c.parcel c t e e.parent lvl c.form c.acc).setColl { c with sentUp := true }
    else
      let form := if c.form = 2 then 3 else c.form
      let n := if c.kind = 2 then c.count * e.parts else c.count
      match s.takeMessage c e.source true form n with
      | none => s
      | some (ws, s) => s.finishColl c q t e ws

/-- Advance every collective of a parcel as far as what has come allows; each needs at most a step per contribution and
two more. -/
def State.collRun (s : State) (p : Nat) : Nat → State
  | 0 => s
  | fuel + 1 =>
    let s1 := (s.colls.filter fun c => c.parcel == p).foldl (fun s c =>
      match (s.eng p 3).flight.find? (fun f => f.entry.seq == c.seq), s.collEntry p c.entry with
      | some f, some (t, e) => s.collStep c f.entry t e
      | _, _ => s) s
    s1.collRun p fuel

/-- XCOLL (04 R103, R105): on an entry that the tract does not hold it writes nothing and completes at once; otherwise it
runs until its result is written, or its deadline. -/
def execXcoll (p : ParcelId) (s : State) : Host.Outcome State Fault Refusal :=
  match s.readyHead p 3 0xA8 with
  | none => done s
  | some q =>
    match s.collEntry p ((q.op 2).num 16) with
    | none => done (s.launch p 3 { entry := q })
    | some (_, e) =>
      let d := (q.op 1).bits
      let kind := bitsOf (wMod q.w) 0 3
      let form := upForm kind (dFmt d)
      let occ := e.ticks * 2048
      let f : Flight := { entry := q, stage := .held, occ := occ, lat := occ, deadline := s.planTick (p / 16) + e.deadline }
      let f := { f with met := s.pmCorr p (denseLines (q.op 1).base d) }
      if s.memTerm p 3 128 (denseLines (q.op 1).base d) = none then done (s.launch p 3 { f with deadline := 0 })
      else if s.anyLineBad p (denseLines (q.op 1).base d) then done (s.launch p 3 { f with stage := .run, status := 0x40 })
      else
        let src := s.collSource p q form
        let c : Coll := { parcel := p, seq := q.seq, entry := (q.op 2).num 16, kind := kind, fmt := dFmt d, form := form, grid := src.2.1,
                          count := src.1.length, acc := src.1, flags := src.2.2 }
        let s := s.launch p 3 f
        done ({ s with colls := s.colls ++ [c] }.collRun p 28)

/-! ### PACKET_DELIVER -/

/-- A collective packet is kept for its collective, and counts in its tally (11 R281). -/
def State.deliverColl (s : State) (p : Nat) (k : Pkt) : State :=
  let r : CollRx := { parcel := p, entry := k.spec 0 2, sender := k.spec 2 4, level := k.spec 9 1, chunk := k.spec 10 2,
                      grid := sextOf 16 (k.spec 6 2), tally := k.tally, bytes := k.payload }
  ({ s with collRx := s.collRx ++ [r] }.countTally p k).collRun p 28

/-- PACKET_DELIVER (04 R101): the oldest packet accepted for parcel p reaches it; a payload waits for ever where the wheel in
force gives the exchange engine no phase (02 R49). Where the parcel's township clock has
stopped the crossing refuses it, and a signal is counted as discarded; a signal for a job that no tract holds any more is
counted for the module (08 R212). -/
def execPacketDeliver (p : ParcelId) (s : State) : Host.Outcome State Fault Refusal :=
  match s.arrivals.find? fun a => a.parcel == p.val with
  | none => done s
  | some a =>
    if a.pkt.kind ≠ 0x81 && (s.town (p / 16)).clocked && !s.hasPhase p 3 then done s else
    let s := { s with arrivals := s.arrivals.erase a }
    let x := s.tract a.tract
    if a.pkt.kind = 0x81 ∧ (x.job ≠ a.pkt.job ∨ x.epoch ≠ a.pkt.epoch ∨ x.landing = []) then
      done ((s.count Reg.MCB_ORPHAN_SIGNALS 0 1).endRetryFreeze a.num)
    else if a.pkt.kind = 0x81 then
      let h := (s.vBeacon a.tract (a.pkt.spec 0 2)).getD 0
      if (s.town (beaconHome h / 16)).clocked then done ((s.deliverSignal a).endRetryFreeze a.num)
      else done ((s.count Reg.TRC_ORPHAN_SIGNALS a.tract 1).endRetryFreeze a.num)
    else if !(s.town (p / 16)).clocked then done ((s.count Reg.TWN_FLUSHED (p / 16) 1).endRetryFreeze a.num)
    else
      let s := s.judgeAll p
      if a.pkt.kind = 0x82 then done ((s.deliverColl p a.pkt).endRetryFreeze a.num)
      else
        let r := s.deliverBytes p a.pkt.offset a.pkt.payload
        let s := if r.1 then r.2.countTally p a.pkt else r.2
        done (s.endRetryFreeze a.num)

end Sys2Proof.Machine
end

