-- ==== Sys2Proof/Machine/ServeData.lean ====
section
/-!
DEFINITION. Serve mode's data: the step-template header, the page state and its operations, rows and records, rings and
sessions (12 R290 to R308).
-/
namespace Sys2Proof.Machine

/-! ### The step-template header (12 R290) -/

/-- A field of tract t's header. -/
def State.tpl (s : State) (t off n : Nat) : Nat := fieldOf (s.tract t).templates off n
def State.tRatios (s : State) (t : Nat) : Nat := s.tpl t 0 1
def State.tStepReg (s : State) (t : Nat) : Nat := s.tpl t 1 1
def State.tRatioReg (s : State) (t : Nat) : Nat := s.tpl t 2 1
def State.tRowsMax (s : State) (t : Nat) : Nat := s.tpl t 8 4
def State.tCtxMax (s : State) (t : Nat) : Nat := s.tpl t 0x0C 4
def State.tPageBytes (s : State) (t : Nat) : Nat := s.tpl t 0x10 4
def State.tStream (s : State) (t : Nat) : Nat := s.tpl t 0x14 4
def State.tNodeMax (s : State) (t : Nat) : Nat := s.tpl t 0x18 4
def State.tRecordBytes (s : State) (t : Nat) : Nat := s.tpl t 0x1C 4
def State.tRecordOff (s : State) (t : Nat) : Nat := s.tpl t 0x20 4
def State.tRowOff (s : State) (t : Nat) : Nat := s.tpl t 0x24 4
def State.tWordOff (s : State) (t : Nat) : Nat := s.tpl t 0x28 4
def State.tPageOff (s : State) (t : Nat) : Nat := s.tpl t 0x2C 4
def State.tPageArea (s : State) (t : Nat) : Nat := s.tpl t 0x30 4
def State.tOutOff (s : State) (t : Nat) : Nat := s.tpl t 0x34 4
/-- D_r and P_r. -/
def State.tDecode (s : State) (t r : Nat) : Nat := s.tpl t (0x40 + 16 * r) 4
def State.tPrefill (s : State) (t r : Nat) : Nat := s.tpl t (0x44 + 16 * r) 4
/-- The target fold parcels. -/
def State.tTargets (s : State) (t : Nat) : List Nat :=
  (List.range (s.tpl t 6 2)).map fun i => s.tpl t (0x40 + 16 * s.tRatios t + 2 * i) 2

/-- The instance's segments: 0 serve, 1 HBM KV, 2 DDR5 KV, 3 staging. -/
def Srv.seg (x : Srv) (i : Nat) : Nat × Nat := x.segs.getD i (0, 0)
/-- Page slots of the HBM pool and of the DDR5 pool. -/
def State.poolSlots (s : State) (t : Nat) (ddr : Bool) : Nat := ((s.srvOf t).seg (if ddr then 2 else 1)).2 / max 1 (s.tPageBytes t)
/-- The address of a page slot. -/
def State.slotAddr (s : State) (t : Nat) (ddr : Bool) (slot : Nat) : Nat :=
  ((s.srvOf t).seg (if ddr then 2 else 1)).1 + slot * s.tPageBytes t

/-! ### Page state (12 R287, R307, R308) -/

/-- A session's page table. -/
def PageState.table (x : PageState) (i : Nat) : List PageEnt := tabGet [] x.pages i
/-- Replace it. -/
def PageState.setTable (x : PageState) (i : Nat) (l : List PageEnt) : PageState := { x with pages := tabPut [] x.pages i l }
/-- A prefix node. -/
def PageState.node (x : PageState) (n : Nat) : PNode := tabGet {} x.nodes n
/-- Replace it. -/
def PageState.setNode (x : PageState) (n : Nat) (v : PNode) : PageState := { x with nodes := tabPut {} x.nodes n v }

/-- Slots of a pool in use: by pages a session holds alone, and by prefix nodes. -/
def PageState.usedSlots (x : PageState) (ddr : Bool) : List Nat :=
  (x.pages.flatMap fun kv => (kv.2.filter fun e => e.ddr == ddr && !e.shared).map (·.slot)) ++
    (if ddr then [] else (x.nodes.filter fun kv => kv.2.used).map fun kv => kv.2.slot)

/-- The n lowest free slots of a pool, from slot `at` on, with fuel. -/
def lowestFree (used : List Nat) (size : Nat) : Nat → Nat → Nat → List Nat
  | 0, _, _ => []
  | _, 0, _ => []
  | fuel + 1, n + 1, a =>
    if size ≤ a then [] else if used.contains a then lowestFree used size fuel (n + 1) (a + 1)
    else a :: lowestFree used size fuel n (a + 1)

/-- The n lowest free slots, fewer where there are fewer. -/
def State.freeSlots (s : State) (t : Nat) (x : PageState) (ddr : Bool) (n : Nat) : List Nat :=
  let used := x.usedSlots ddr
  lowestFree used (s.poolSlots t ddr) (used.length + n) n 0

/-- Free slots of a pool. -/
def State.freeCount (s : State) (t : Nat) (x : PageState) (ddr : Bool) : Nat := s.poolSlots t ddr - (x.usedSlots ddr).length

/-- The lowest unused prefix node. -/
def PageState.freeNode (x : PageState) (max' : Nat) : Option Nat :=
  (lowestFree ((x.nodes.filter fun kv => kv.2.used).map (·.1)) max' (x.nodes.length + 1) 1 0).head?

/-- Nodes whose PARENT is n. -/
def PageState.children (x : PageState) (n : Nat) : Nat := x.nodes.countP fun kv => kv.2.used && kv.2.parent == n

/-- One reference fewer. -/
def PageState.unref (x : PageState) (n : Nat) : PageState := x.setNode n { x.node n with refs := (x.node n).refs - 1 }

/-- A page table with page n set; a page before it that has no entry gets an empty one. -/
def setPage (l : List PageEnt) (n : Nat) (e : PageEnt) : List PageEnt :=
  l.take n ++ List.replicate (n - l.length) ({} : PageEnt) ++ e :: l.drop (n + 1)

/-- A page operation on the page state (R297); DDR5 and HBM slots are taken lowest first. -/
def State.pageOp (s : State) (t : Nat) (x : PageState) (o : PageOp) : PageState :=
  let tab := x.table o.sess
  match o.op with
  | 1 => x.setTable o.sess (setPage tab o.page { slot := o.slot })
  | 2 =>
    let n := x.node o.slot
    (x.setTable o.sess (setPage tab o.page { slot := n.slot, shared := true, fill := 64, node := o.slot })).setNode o.slot
      { n with refs := n.refs + 1, lastUse := o.lastUse }
  | 3 => ((tab.filter (·.shared)).foldl (fun x e => x.unref e.node) x).setTable o.sess []
  | 4 =>
    let mine := tab.filter fun e => !e.shared && !e.ddr
    let dst := s.freeSlots t x true mine.length
    let mv (acc : List PageEnt × List Nat) (e : PageEnt) : List PageEnt × List Nat :=
      if e.shared || e.ddr then (acc.1 ++ [e], acc.2) else (acc.1 ++ [{ e with ddr := true, slot := acc.2.headD 0 }], acc.2.drop 1)
    x.setTable o.sess (tab.foldl mv ([], dst)).1
  | 5 =>
    let mine := tab.filter (·.ddr)
    let dst := s.freeSlots t x false mine.length
    let mv (acc : List PageEnt × List Nat) (e : PageEnt) : List PageEnt × List Nat :=
      if e.ddr then (acc.1 ++ [{ e with ddr := false, slot := acc.2.headD 0 }], acc.2.drop 1) else (acc.1 ++ [e], acc.2)
    x.setTable o.sess (tab.foldl mv ([], dst)).1
  | 6 =>
    let e := tab.getD o.page {}
    let parent := if o.page = 0 then 0xFFFFFFFF else (tab.getD (o.page - 1) {}).node
    let n := { x.node o.slot with used := true, parent := parent, slot := e.slot, refs := 1,
                                  lastUse := o.lastUse, scope := o.scope, tokens := o.tokens }
    (x.setTable o.sess (tab.set o.page { e with shared := true, node := o.slot })).setNode o.slot n
  | 7 => x.setNode o.slot { x.node o.slot with used := false, refs := 0 }
  | _ => x

/-- Rows write KV: the pages they cover show how many of their positions are valid. -/
def PageState.fillRow (x : PageState) (r : RowEnt) : PageState :=
  if r.kind = 0 then x
  else
    x.setTable r.sess (((x.table r.sess).zipIdx).map fun e =>
      { e.1 with fill := max e.1.fill (min 64 (r.pos + r.count - 64 * e.2)) })

/-! ### Rows and records (12 R293, R294, R297) -/

/-- A row entry's 32 bytes. -/
def RowEnt.bytes (r : RowEnt) : List Byte :=
  leBytes 2 (if r.kind = 0 then 0xFFFF else r.sess) ++ leBytes 1 r.kind ++ leBytes 1 (b2n r.last) ++ leBytes 2 r.count ++
  leBytes 1 r.k ++ leBytes 1 0 ++ leBytes 4 r.pos ++ leBytes 4 r.stageOff ++ leBytes 4 r.pages ++ leBytes 4 r.temp ++
  leBytes 4 r.topP ++ leBytes 2 r.topK ++ leBytes 2 r.pageN

/-- The random words of an entry's rows; pad rows have 0. -/
def RowEnt.words (r : RowEnt) (stream : Nat) : List Nat :=
  (List.range r.count).map fun i => if r.kind = 0 then 0 else counterWord r.seed stream (r.pos + i) 0

/-- A page operation's 64 bits. -/
def PageOp.word (o : PageOp) : Nat := o.op % 256 + o.sess % 65536 * 2 ^ 8 + o.page % 2 ^ 17 * 2 ^ 24 + o.slot % 2 ^ 23 * 2 ^ 41
/-- And back. -/
def parseOp (w : Nat) : PageOp := { op := bitsOf w 0 8, sess := bitsOf w 8 16, page := bitsOf w 24 17, slot := bitsOf w 41 23 }

/-- A step record (R297). -/
def State.recordBytes (s : State) (t step ratio pointer : Nat) (rows : List RowEnt) (ops : List PageOp) : List Byte :=
  let words := rows.flatMap fun r => r.words (s.tStream t)
  let n := s.tRowsMax t
  leBytes 8 step ++ leBytes 1 ratio ++ leBytes 1 0 ++ leBytes 2 rows.length ++ leBytes 4 ops.length ++ leBytes 2 pointer ++
  List.replicate 46 0 ++ rows.flatMap RowEnt.bytes ++ ((words ++ List.replicate (n - words.length) 0).take n).flatMap (leBytes 4) ++
  ops.flatMap fun o => leBytes 8 o.word

/-! ### Rings, accounts, sessions -/

/-- A ring. -/
def State.ring (s : State) (r : Nat) : Ring := tabGet {} s.rings r
/-- Replace it. -/
def State.setRing (s : State) (r : Nat) (x : Ring) : State := { s with rings := tabPut {} s.rings r x }
/-- An account. -/
def State.acct (s : State) (a : Nat) : Acct := tabGet {} s.accts a
/-- Replace it. -/
def State.setAcct (s : State) (a : Nat) (x : Acct) : State := { s with accts := tabPut {} s.accts a x }
/-- A session. -/
def State.sess (s : State) (i : Nat) : Sess := tabGet {} s.sessions i
/-- Replace it. -/
def State.setSess (s : State) (i : Nat) (x : Sess) : State := { s with sessions := tabPut {} s.sessions i x }

/-- Session states (R303). -/
def ssFree : Nat := 0
def ssQueued : Nat := 1
def ssPrefill : Nat := 2
def ssDecode : Nat := 3
def ssIdle : Nat := 4
def ssParking : Nat := 5
def ssParked : Nat := 6
def ssUnparking : Nat := 7

/-- The account and the tract of a ring. -/
def State.ringTract (s : State) (r : Nat) : Nat := (s.acct (s.ring r).acct).tract
/-- The tract of a session that is not FREE. -/
def State.sessTract (s : State) (i : Nat) : Nat := s.ringTract (s.sess i).ring
/-- The handle of a session. -/
def State.handle (s : State) (i : Nat) : Nat := i % 65536 + (s.sess i).gen % 65536 * 65536
/-- The sessions of tract t that are not FREE, by index. -/
def State.tractSessions (s : State) (t : Nat) : List Nat :=
  (s.sessions.filter fun kv => kv.2.state != ssFree && s.ringTract kv.2.ring == t).map (·.1)

/-- A request is live: PREFILL or DECODE, or QUEUED or UNPARKING with one. -/
def Sess.live (x : Sess) : Bool := x.req.isSome

/-- Drop the oldest-first order of a list of sessions by a key. -/
def sortByKey (f : Nat → Nat) (l : List Nat) : List Nat :=
  l.foldl (fun acc i => acc.filter (fun j => decide (f j ≤ f i)) ++ i :: acc.filter (fun j => decide (f i < f j))) []

/-! ### Completion entries (12 R300, R302) -/

/-- A completion entry's 32 bytes. -/
def CplEntry.bytes (e : CplEntry) (phase : Bool) : List Byte :=
  leBytes 1 (e.kind % 128 + (if phase then 128 else 0)) ++ leBytes 1 e.status ++ leBytes 2 e.n ++ leBytes 4 e.tag ++ leBytes 4 e.handle ++
  leBytes 4 e.total ++ leBytes 8 e.step ++ leBytes 8 0

/-- Write the waiting entries of a ring that fit; an entry that the companion has not consumed is never overwritten. -/
def State.ringFlushN : Nat → Nat → State → State
  | 0, _, s => s
  | fuel + 1, r, s =>
    let x := s.ring r
    match x.waiting with
    | [] => s
    | e :: rest =>
      let n := 2 ^ x.cqLog
      if x.cqTail - x.cqHead < n then
        let s := s.put .serve (x.cqBase + 32 * (x.cqTail % n)) (e.bytes (x.cqTail / n % 2 == 0))
        State.ringFlushN fuel r (s.setRing r { x with waiting := rest, cqTail := x.cqTail + 1 })
      else s

/-- Write what fits, with one interrupt where the ring asks for them. -/
def State.ringFlush (s : State) (r : Nat) : State :=
  let before := (s.ring r).cqTail
  let s := s.ringFlushN ((s.ring r).waiting.length) r
  if (s.ring r).cqTail = before ∨ bitAt (s.ring r).flags 1 = false then s else s.attInt r

/-- Deliver a commit: every token, then every entry, then the interrupts (R300). -/
def State.deliver (s : State) (d : Delivery) : State :=
  let s := d.tokens.foldl (fun s w => s.put .serve w.1 (leBytes 4 w.2)) s
  let s := d.entries.foldl (fun s e => s.setRing e.1 { s.ring e.1 with waiting := (s.ring e.1).waiting ++ [e.2] }) s
  (sortDedup (d.entries.map (·.1))).foldl State.ringFlush s

end Sys2Proof.Machine
end

