-- ==== Sys2Proof/Machine/Compose.lean ====
section
/-!
DEFINITION. Composition of a serve step: commit, ring entries, admission, placement, parking, the step record (12 R288, R289,
R299 to R318; 13 R339).
-/
namespace Sys2Proof.Machine

/-- A composition under way: the state, the tract, the step it composes, the page state its operations make, the operations
and row entries placed so far, the rows left of each region, the bytes of page lists, what it delivers, the accounts out of
it, the sessions placed, the rows of the step under way, and whether data of its own read uncorrectable. -/
structure Comp where
  s : State := {}
  t : Nat := 0
  step : Nat := 0
  w : PageState := {}
  ops : List PageOp := []
  drows : List RowEnt := []
  prows : List RowEnt := []
  dLeft : Nat := 0
  pLeft : Nat := 0
  lists : Nat := 0
  d : Delivery := {}
  out : List Nat := []
  placed : List Nat := []
  now : List RowEnt := []
  bad : Bool := false
deriving DecidableEq, Repr

/-- The step counter that completion entries show: that of the last commit. -/
def Comp.shown (c : Comp) : Nat := c.s.fld Reg.SRV_T_STEP c.t

/-- A session changes. -/
def Comp.setSess (c : Comp) (i : Nat) (x : Sess) : Comp := { c with s := c.s.setSess i x }

/-- Give a ring a completion entry. -/
def Comp.entry (c : Comp) (r : Nat) (e : CplEntry) : Comp :=
  { c with d := { c.d with entries := c.d.entries ++ [(r, { e with step := c.shown })] } }

/-- An entry about a session's request. -/
def Comp.sessEntry (c : Comp) (i kind status n tag total : Nat) : Comp :=
  c.entry (c.s.sess i).ring { kind := kind, status := status, n := n, tag := tag, handle := c.s.handle i, total := total }

/-! ### Operations (R297) -/

/-- The record still fits with so many more row entries and operations, and so many pad entries. -/
def Comp.fits (c : Comp) (ents ops pads : Nat) : Bool :=
  decide (64 + 32 * (c.drows.length + c.prows.length + ents + pads) + 4 * c.s.tRowsMax c.t + 8 * (c.ops.length + ops) ≤ c.s.tRecordBytes c.t)

/-- Pad entries with so many rows left. -/
def pads (d p : Nat) : Nat := b2n (decide (0 < d)) + b2n (decide (0 < p))

/-- An operation joins the record. -/
def Comp.op (c : Comp) (o : PageOp) : Comp := { c with w := c.s.pageOp c.t c.w o, ops := c.ops ++ [o] }

/-- So many more operations fit. -/
def Comp.room (c : Comp) (n : Nat) : Bool := c.fits 0 n (pads c.dLeft c.pLeft)

/-- HBM slots free and not reserved by an admitted request. -/
def Comp.unreserved (c : Comp) : Nat :=
  c.s.freeCount c.t c.w false - ((c.s.tractSessions c.t).map fun i => (c.s.sess i).reserved).foldl (· + ·) 0

/-! ### Ends of requests (R296, R303, R316, R317) -/

/-- FINAL CANCELLED for every request held behind a session. -/
def Comp.cancelHeld (c : Comp) (i status : Nat) : Comp :=
  let x := c.s.sess i
  let c := x.held.foldl (fun c q => c.sessEntry i 3 status 0 q.tag 0) c
  c.setSess i { x with held := [] }

/-- Free a session: its index is freed, requests behind it and releases of it are answered, and its pages go at the next
composition. -/
def Comp.free (c : Comp) (i : Nat) : Comp :=
  let c := c.cancelHeld i 2
  let x := c.s.sess i
  let c := x.snuff.foldl (fun c tag => c.sessEntry i 5 0 0 tag 0) c
  let v := c.s.srvOf c.t
  let c := { c with s := c.s.setSrv c.t { v with ended := v.ended ++ [c.s.handle i] } }
  c.setSess i { gen := (x.gen + 1) % 65536, ring := x.ring, tract := c.t, releaseDue := true }

/-- The longest a session may be. -/
def Comp.ctx (c : Comp) : Nat := c.s.tCtxMax c.t

/-- A request begins on a session that has none: QUEUED, or UNPARKING where its pages are parked. The draft length firmware
hands the composer first is a free value. -/
def Comp.begin (c : Comp) (i : Nat) (q : SrvReq) : Comp :=
  let x := c.s.sess i
  let v := c.s.srvOf c.t
  let d := c.s.draw
  let c := { c with s := d.2.setSrv c.t { v with orderNext := v.orderNext + 1 } }
  let parked := x.state == ssParked
  c.setSess i { x with
    state := if parked then ssUnparking else ssQueued
    opDue := if parked then 5 else 0
    reported := 0
    expired := false
    req := some { q with base := x.tokens.length }
    order := v.orderNext
    admitted := false
    k := d.1 % (q.draftK + 1)
    zeroSteps := 0 }

/-- The request breaks R304 at once: no prompt, or none of the context left. -/
def Comp.refused (c : Comp) (i : Nat) (q : SrvReq) : Bool :=
  q.promptTokens == 0 || decide (c.ctx ≤ (c.s.sess i).tokens.length + q.promptTokens)

/-- Requests held behind a session that has become free for them: one that R304 refuses ends at once, the next begins. -/
def Comp.unhold (c : Comp) (i : Nat) : List SrvReq → Comp
  | [] => c.setSess i { c.s.sess i with held := [] }
  | q :: rest =>
    if c.refused i q then
      let c := c.sessEntry i 3 0 0 q.tag 0
      if bitAt q.flags 2 then c.unhold i rest
      else (c.setSess i { c.s.sess i with held := rest }).free i
    else (c.setSess i { c.s.sess i with held := rest }).begin i q

/-- A session's request ends with a status, `n` tokens delivered with it; pending snuffs are answered: OK where one ended it,
ALREADY_COMPLETE otherwise. With KEEP the session is IDLE, and a request held behind it begins; otherwise it is freed. -/
def Comp.endReq (c : Comp) (i status n : Nat) : Comp :=
  let x := c.s.sess i
  match x.req with
  | none => c
  | some q =>
    let c := c.sessEntry i 3 status n q.tag q.total
    let c := x.snuff.foldl (fun c tag => c.sessEntry i 5 (if status = 2 then 0 else 1) 0 tag q.total) c
    let moving := x.state == ssUnparking
    let keep := bitAt q.flags 2 && !x.releasing
    let c := c.setSess i { x with
      state := if moving then x.state else ssIdle
      req := none
      admitted := false
      reserved := 0
      snuff := []
      releasing := moving && !keep
      opDue := if moving then x.opDue else 0
      idleAt := c.s.datum }
    if moving then c else if keep then c.unhold i x.held else c.free i

/-! ### Commit (R296, R310, R314) -/

/-- Rows refunded to an account, up to the cap. -/
def Comp.refund (c : Comp) (a rows : Nat) : Comp :=
  let x := c.s.acct a
  let s := if x.isOpen then c.s.setAcct a { x with bucket := min (x.bucket + 256 * rows) (256 * x.burst) } else c.s
  { c with s := s.count Reg.SRV_SPENT_ROWS c.t rows }

/-- The tokens of an outcome that a request takes: until a stop token, MAX_NEW or the context's end; whether it has ended. -/
def takeTokens (q : SrvReq) (ctx : Nat) : List Nat → Nat → Nat → List Nat → List Nat × Bool
  | [], total, len, acc => (acc, decide (q.maxNew ≤ total ∨ ctx ≤ len))
  | tk :: rest, total, len, acc =>
    if q.maxNew ≤ total ∨ ctx ≤ len then (acc, true)
    else if (tk = q.stop0 ∨ tk = q.stop1) ∧ tk ≠ 0xFFFFFFFF then (acc ++ [tk], true)
    else takeTokens q ctx rest (total + 1) (len + 1) (acc ++ [tk])

/-- The default draft policy (R314), over the last eight verify entries. -/
def nextK (k most : Nat) (drafts : List (Nat × Nat)) : Nat :=
  let off : Nat := (drafts.map (·.1)).foldl (· + ·) 0
  let acc : Nat := (drafts.map (·.2)).foldl (· + ·) 0
  if 4 * acc < off then k / 2 else if 3 * off < 4 * acc then min most (k + 1) else k

/-- Draft counters and policy after a row entry of a live request. -/
def Comp.drafts (c : Comp) (i : Nat) (r : RowEnt) (n : Nat) : Comp :=
  let x := c.s.sess i
  let most := (x.req.map (·.draftK)).getD 0
  if r.kind = 3 then
    let s := (c.s.count Reg.SRV_DRAFT_OFFERED c.t r.k).count Reg.SRV_DRAFT_ACCEPTED c.t (n - 1)
    let l := ((r.k, n - 1) :: x.drafts).take 8
    { c with s := s.setSess i { x with drafts := l, k := nextK x.k most l, zeroSteps := 0 } }
  else c

/-- A step goes by for every session of the tract with an admitted request: one that drafts nothing tries one draft again
after 64 of them (R314). -/
def Comp.zeroDrafts (c : Comp) : Comp :=
  (c.s.tractSessions c.t).foldl (fun c i =>
    let x := c.s.sess i
    let z := x.zeroSteps + 1
    let most := (x.req.map (·.draftK)).getD 0
    if x.req.isSome = true ∧ x.admitted = true ∧ x.k = 0 then
      c.setSess i (if 64 ≤ z then { x with k := min 1 most, zeroSteps := 0 } else { x with zeroSteps := z })
    else c) c

/-- Deliver the tokens of a row entry to its live request. A request whose snuff is pending and which the step does not end
is cancelled with them, its rows refunded (R310, R316). -/
def Comp.deliver (c : Comp) (r : RowEnt) (toks : List Nat) : Comp :=
  let i := r.sess
  let c := c.drafts i r toks.length
  let x := c.s.sess i
  match x.req with
  | none => c
  | some q =>
    let g := takeTokens q c.ctx toks q.total x.tokens.length []
    let n := g.1.length
    let w := (g.1.zipIdx).map fun p => (q.outAddr + 4 * (q.total + p.2), p.1)
    let q := { q with total := q.total + n }
    let c := { c with d := { c.d with tokens := c.d.tokens ++ w } }
    let c := c.setSess i { x with tokens := x.tokens ++ g.1, req := some q }
    if g.2 then c.endReq i 0 n
    else if x.snuff ≠ [] then (c.refund r.acct r.count).endReq i 2 n
    else if n = 0 ∨ bitAt q.flags 0 = true then c
    else c.sessEntry i 2 0 n q.tag q.total

/-- Tokens of a request's staged prompt. -/
def State.promptTokens (s : State) (t : Nat) (q : SrvReq) (at' n : Nat) : List Nat :=
  leWords 4 n (s.rdBytes (((s.srvOf t).seg 3).1 + q.stageOff + 4 * at') (4 * n))

/-- The scope of a ring's prefix pages. -/
def State.scopeOf (s : State) (r : Nat) : Nat := if bitAt (s.ring r).flags 0 then 0xFFFF else (s.ring r).acct

/-- A prefix node by parent, tokens and scope. -/
def PageState.findNode (x : PageState) (parent : Nat) (toks : List Nat) (scope : Nat) : Option Nat :=
  (x.nodes.find? fun kv => kv.2.used && kv.2.parent == parent && kv.2.scope == scope && kv.2.tokens == toks).map (·.1)

/-- The least recently used unreferenced leaf. -/
def PageState.lruLeaf (x : PageState) : Option Nat :=
  (x.nodes.filter fun kv => kv.2.used && kv.2.refs == 0 && x.children kv.1 == 0).foldl (fun acc kv =>
    match acc with
    | none => some kv.1
    | some b => if kv.2.lastUse < (x.node b).lastUse then some kv.1 else acc) none

/-- Drop it, where there is one and the operation fits. -/
def Comp.dropLeaf (c : Comp) : Option Comp :=
  match c.w.lruLeaf with
  | some n => if c.room 1 then some (c.op { op := 7, slot := n }) else none
  | none => none

/-- The composition once a prefix node is free: the least recently used leaf is dropped where none is (R308). -/
def Comp.nodeRoom (c : Comp) : Comp :=
  match c.w.freeNode (c.s.tNodeMax c.t) with
  | some _ => c
  | none => c.dropLeaf.getD c

/-- Page i of a session becomes a prefix node, where R308 lets it. LAST_USE before any match is a free value. -/
def Comp.insertPage (c : Comp) (i page : Nat) : Comp :=
  let x := c.s.sess i
  let tab := c.w.table i
  let parent := if page = 0 then 0xFFFFFFFF else (tab.getD (page - 1) {}).node
  let toks := (x.tokens.drop (64 * page)).take 64
  let scope := c.s.scopeOf x.ring
  let ok := decide (page < tab.length) && !(tab.getD page {}).shared && (page == 0 || (tab.getD (page - 1) {}).shared) &&
    (c.w.findNode parent toks scope).isNone
  if !ok then c
  else
    let most := c.s.tNodeMax c.t
    let c := c.nodeRoom
    match c.w.freeNode most with
    | some n =>
      if c.room 1 then
        let d := c.s.draw
        let c := { c with s := d.2 }
        c.op { op := 6, sess := i, page := page, slot := n, scope := scope, tokens := toks, lastUse := d.1 % 2 ^ 64 }
      else c
    | none => c

/-- The pages that a prefill entry completes and that lie wholly within the prompt. -/
def completedPages (q : SrvReq) (pos count : Nat) : List Nat :=
  (List.range (count / 64 + 2)).filterMap fun j =>
    let i := pos / 64 + j
    if pos < 64 * (i + 1) ∧ 64 * (i + 1) ≤ pos + count ∧ q.base ≤ 64 * i ∧ 64 * (i + 1) ≤ q.base + q.promptTokens then some i else none

/-- The request of a row entry is still the session's. -/
def State.rowLive (s : State) (r : RowEnt) : Bool :=
  let x := s.sess r.sess
  x.req.isSome && x.admitted && x.order == r.order

/-- Commit one row entry with its outcome. A request whose own staged prompt reads uncorrectable ends so (R319). -/
def Comp.commitRow (c : Comp) (rj : RowEnt × Nat) : Comp :=
  let r := rj.1
  let a := parcelBase ((c.s.tract c.t).landing.getD 0 0) + c.s.tOutOff c.t + 72 * rj.2
  let toks := leWords 4 (min 16 (c.s.rdNat (a + 2) 1)) (c.s.rdBytes (a + 8) 64)
  if r.kind = 0 ∨ r.rebuild = true then c
  else if !c.s.rowLive r then c.refund r.acct r.count
  else if r.kind = 1 then
    let x := c.s.sess r.sess
    let q := x.req.getD {}
    let rd := c.s.scan .serve [(((c.s.srvOf c.t).seg 3).1 + q.stageOff + 4 * (r.pos - q.base), 4 * r.count)]
    let c := { c with s := rd.2 }
    if rd.1 == 2 then (c.refund r.acct r.count).endReq r.sess 0x40 0
    else
    let new := c.s.promptTokens c.t q (r.pos - q.base) r.count
    let c := c.setSess r.sess { x with tokens := x.tokens.take r.pos ++ new, state := if r.last then ssDecode else x.state }
    let c := if bitAt q.flags 1 then c else (completedPages q r.pos r.count).foldl (fun c i => c.insertPage r.sess i) c
    if r.last then c.deliver r toks
    else if x.snuff ≠ [] then c.refund r.acct r.count
    else c
  else c.deliver r toks

/-- Sessions whose snuff was pending and which no row has ended. -/
def Comp.snuffRest (c : Comp) (l : List Nat) : Comp :=
  l.foldl (fun c i =>
    let x := c.s.sess i
    if x.snuff ≠ [] ∧ x.req.isSome = true then c.endReq i 2 0 else c) c

/-- What a commit reads: the outcome table and the record, as spans. -/
def Comp.commitSpans (c : Comp) (rows : List RowEnt) : List (Nat × Nat) :=
  let b := parcelBase ((c.s.tract c.t).landing.getD 0 0)
  [(b + c.s.tOutOff c.t, 72 * rows.length), (b + c.s.tRecordOff c.t, c.s.tRecordBytes c.t)]

/-- Commit the step before the one under way. -/
def Comp.commit (c : Comp) : Comp :=
  let v := c.s.srvOf c.t
  let rd := c.s.scan .serve (c.commitSpans v.rowsNow)
  let c := { c with s := rd.2 }
  let pending := (c.s.tractSessions c.t).filter fun i => (c.s.sess i).snuff != [] && (c.s.sess i).req.isSome
  let c := { c with
    bad := c.bad || rd.1 == 2
    s := (if v.composed.isSome then c.s.setFld Reg.SRV_T_STEP c.t (c.s.fld Reg.TRC_STEP_NUM c.t - 1) else c.s).setSrv c.t
      { v with rowsNow := v.rowsNext, ended := [] }
    now := v.rowsNext }
  (((v.rowsNow.zipIdx).foldl Comp.commitRow c).snuffRest pending).zeroDrafts

/-! ### An immediate stop, releases, faults of one request (R317 to R319) -/

/-- Every live or queued request ends with DISCARDED. -/
def Comp.stopNow (c : Comp) : Comp :=
  let v := c.s.srvOf c.t
  if v.stopNow then
    let c := (c.s.tractSessions c.t).foldl (fun c i => (c.cancelHeld i 3).endReq i 3 0) c
    { c with s := (c.s.setSrv c.t { c.s.srvOf c.t with stopNow := false }).raise Reg.SRV_EVT_STOPPED 0 }
  else c

/-- Sessions of the tract freed at an earlier composition, whose pages are still held. -/
def Comp.due (c : Comp) : List Nat := (c.s.sessions.filter fun kv => kv.2.releaseDue && kv.2.tract == c.t).map (·.1)

/-- Page tables of freed sessions go. -/
def Comp.releases (c : Comp) (due : List Nat) : Comp :=
  due.foldl (fun c i =>
    if c.w.table i = [] then c.setSess i { c.s.sess i with releaseDue := false }
    else if c.room 1 then (c.op { op := 3, sess := i }).setSess i { c.s.sess i with releaseDue := false }
    else c) c

/-- A request whose own staged prompt is uncorrectable ends so. -/
def Comp.badPrompts (c : Comp) : Comp :=
  (c.s.tractSessions c.t).foldl (fun c i =>
    match (c.s.sess i).req with
    | some q =>
      if q.bad || (q.staged && decide (q.placed < q.promptTokens) && c.s.rangeBad (((c.s.srvOf c.t).seg 3).1 + q.stageOff) (4 * q.promptTokens))
      then c.endReq i 0x40 0 else c
    | none => c) c

/-- Sessions with no request that are to be released, and those of closing rings, are freed. -/
def Comp.sweep (c : Comp) : Comp :=
  (c.s.tractSessions c.t).foldl (fun c i =>
    let x := c.s.sess i
    if x.req.isNone && (x.state == ssIdle || x.state == ssParked) && (x.releasing || (c.s.ring x.ring).closing) then c.free i else c) c

/-! ### Ring entries (R299 to R301, R303 to R305, R316, R317) -/

/-- The first free index at or cyclically after a place, with fuel. -/
def cyclicFree (used : List Nat) : Nat → Nat → Nat
  | 0, a => a % 65536
  | fuel + 1, a => if used.contains (a % 65536) then cyclicFree used fuel (a + 1) else a % 65536

/-- A free session index: which one is a free value. -/
def State.freeIndex (s : State) : Nat × State :=
  let d := s.draw
  let used := (s.sessions.filter fun kv => kv.2.state != ssFree || kv.2.releaseDue).map (·.1)
  (cyclicFree used used.length d.1, d.2)

/-- The expired session of the tract with the earliest expiry. -/
def Comp.expired (c : Comp) : Option Nat :=
  let f (i : Nat) : Nat := (c.s.sess i).parkedAt + (c.s.ring (c.s.sess i).ring).parkTtl * 1000000000
  (sortByKey f ((c.s.tractSessions c.t).filter fun i => (c.s.sess i).expired && (c.s.sess i).state == ssParked)).head?

/-- A submission entry's request. -/
def parseReq (b : List Byte) (submit : Bool) : SrvReq :=
  let f := fieldOf b
  { tag := f 4 4, flags := f 1 1, promptTokens := f 12 4, promptAddr := f 16 8, outAddr := f 24 8, maxNew := f 32 4, temp := f 36 4,
    topP := f 40 4, topK := f 44 2, draftK := min 15 (f 46 1), seed := f 48 8, stop0 := f 56 4, stop1 := f 60 4, submit := submit }

/-- OP is not reserved, and the bytes it does not use are zero. -/
def entryOk (b : List Byte) : Bool :=
  let f := fieldOf b
  match f 0 1 with
  | 1 => f 2 2 == 0 && f 47 1 == 0 && decide (f 1 1 < 8) && f 8 4 == 0
  | 2 => f 2 2 == 0 && f 47 1 == 0 && decide (f 1 1 < 8)
  | 3 => f 1 3 == 0 && f 12 52 == 0
  | 4 => f 1 3 == 0 && f 12 52 == 0
  | _ => false

/-- A handle is open to a ring. -/
def State.handleOpen (s : State) (h r : Nat) : Bool :=
  let x := s.sess (h % 65536)
  x.state != ssFree && x.gen == h / 65536 && x.ring == r

/-- SUBMIT and APPEND are taken from a ring. -/
def Comp.accepts (c : Comp) (r : Nat) : Bool :=
  bitAt (c.s.fld Reg.SRV_EN 0) c.t && !(c.s.ring r).closing

/-- A request on an idle or parked session begins, or ends at once (R304). -/
def Comp.startOn (c : Comp) (i : Nat) (q : SrvReq) : Comp := c.unhold i ((c.s.sess i).held ++ [q])

/-- SUBMIT: a session for it, reclaiming an expired one where the share is used up. -/
def Comp.submit (c : Comp) (r : Nat) (q : SrvReq) : Comp :=
  if !c.accepts r then c.entry r { kind := 1, status := 0x11, tag := q.tag }
  else
    let full := decide (c.s.fld Reg.SRV_SESS_SHARE c.t ≤ (c.s.tractSessions c.t).length)
    match full, c.expired with
    | true, none => { c.entry r { kind := 1, status := 0x10, tag := q.tag } with s := c.s.raise Reg.SRV_EVT_FULL 0 }
    | _, e =>
      let c := if full then (match e with
        | some i => c.free i
        | none => c) else c
      let g := c.s.freeIndex
      let x := g.2.sess g.1
      let c := { c with s := g.2.setSess g.1 { gen := x.gen, ring := r, tract := c.t, state := ssIdle, idleAt := g.2.datum } }
      (c.sessEntry g.1 1 0 0 q.tag 0).startOn g.1 q

/-- APPEND: on an IDLE or PARKED session the request begins; behind a live request or a move it is held. -/
def Comp.append (c : Comp) (r h : Nat) (q : SrvReq) : Comp :=
  if !c.accepts r || !c.s.handleOpen h r then c.entry r { kind := 1, status := 0x11, tag := q.tag, handle := h }
  else
    let i := h % 65536
    let x := c.s.sess i
    let c := c.sessEntry i 1 0 0 q.tag 0
    if x.req.isNone && (x.state == ssIdle || x.state == ssParked) && !x.releasing then c.startOn i q
    else c.setSess i { x with held := x.held ++ [q] }

/-- SNUFF, and RELEASE of a session with a live request (`rel`). -/
def Comp.snuff (c : Comp) (i tag : Nat) (rel : Bool) : Comp :=
  let x := c.s.sess i
  if x.state = ssQueued ∨ x.state = ssUnparking then
    (c.setSess i { x with snuff := [tag], releasing := rel || x.releasing }).endReq i 2 0
  else c.setSess i { x with snuff := x.snuff ++ [tag], releasing := rel || x.releasing }

/-- SNUFF or RELEASE. -/
def Comp.endEntry (c : Comp) (r h tag : Nat) (rel : Bool) : Comp :=
  let i := h % 65536
  if (c.s.srvOf c.t).ended.contains h && (c.s.sess i).ring == r then c.entry r { kind := 5, status := 1, tag := tag, handle := h }
  else if !c.s.handleOpen h r then c.entry r { kind := 5, status := 0x11, tag := tag, handle := h }
  else
    let x := c.s.sess i
    if x.req.isSome then c.snuff i tag rel
    else if !rel then c.sessEntry i 5 1 0 tag 0
    else if x.state = ssIdle ∨ x.state = ssParked then (c.setSess i { x with snuff := x.snuff ++ [tag] }).free i
    else c.setSess i { x with snuff := x.snuff ++ [tag], releasing := true }

/-- Take one submission entry. -/
def Comp.takeEntry (c : Comp) (r : Nat) (b : List Byte) : Comp :=
  let h := fieldOf b 8 4
  let tag := fieldOf b 4 4
  if !entryOk b then c.entry r { kind := 5, status := 0x11, tag := tag, handle := h }
  else
    match fieldOf b 0 1 with
    | 1 => c.submit r (parseReq b true)
    | 2 => c.append r h (parseReq b false)
    | 3 => c.endEntry r h tag false
    | _ => c.endEntry r h tag true

/-- Take entries of a ring, oldest first, with the number that may still be taken. -/
def takeRing : Nat → Nat → Comp → Comp × Nat
  | 0, _, c => (c, 0)
  | n + 1, r, c =>
    let x := c.s.ring r
    if x.sqHead < x.sqTail then
      let a := x.sqBase + 64 * (x.sqHead % 2 ^ x.sqLog)
      let g := c.s.fetch .serve a 64
      let c := { c with bad := c.bad || g.1 == 2, s := g.2.2.setRing r { x with sqHead := x.sqHead + 1 } }
      takeRing n r (c.takeEntry r g.2.1)
    else (c, n + 1)

/-- Take entries of the tract's rings in ascending order, at most 4,096, and write each head back. -/
def Comp.takeRings (c : Comp) : Comp :=
  let rings := (c.s.rings.filter fun kv => kv.2.isOpen && (c.s.acct kv.2.acct).tract == c.t).map (·.1)
  (rings.foldl (fun (cn : Comp × Nat) r =>
    let before := (cn.1.s.ring r).sqHead
    let g := takeRing cn.2 r cn.1
    let x := g.1.s.ring r
    if x.sqHead = before then g
    else ({ g.1 with s := g.1.s.put .serve x.headWb (leBytes 8 (x.sqHead % 2 ^ x.sqLog)) }, g.2)) (c, 4096)).1

/-! ### Budgets and the ratio template (R309, R311) -/

/-- Every open account of the tract gets its rate. -/
def Comp.refill (c : Comp) : Comp :=
  { c with s := (c.s.accts.filter fun kv => kv.2.isOpen && kv.2.tract == c.t).foldl (fun s kv =>
      s.setAcct kv.1 { kv.2 with bucket := min (kv.2.bucket + kv.2.rate) (256 * kv.2.burst) }) c.s }

/-- The row entry of a session's present request in the step under way. -/
def Comp.rowNow (c : Comp) (i : Nat) : Option RowEnt :=
  c.now.find? fun r => r.kind != 0 && r.sess == i && r.order == (c.s.sess i).order && !r.rebuild

/-- A session may have rows for its request: admitted, no snuff pending, its history in HBM. -/
def Comp.ready (c : Comp) (i : Nat) : Bool :=
  let x := c.s.sess i
  x.req.isSome && x.admitted && x.snuff == [] && !x.rebuild

/-- A session is a decode candidate (R312). -/
def Comp.decodeCand (c : Comp) (i : Nat) : Bool :=
  c.ready i && ((c.s.sess i).state == ssDecode || (match c.rowNow i with
    | some r => r.kind == 1 && r.last
    | none => false))

/-- A session is a prefill candidate. -/
def Comp.prefillCand (c : Comp) (i : Nat) : Bool :=
  c.ready i && (match (c.s.sess i).req with
    | some q => q.staged && decide (q.placed < q.promptTokens)
    | none => false)

/-- The sessions that a composition considers: at most 4,096 candidates, in admission order, those that wait for admission among
them (R289). -/
def Comp.considered (c : Comp) : List Nat :=
  (sortByKey (fun i => (c.s.sess i).order) ((c.s.tractSessions c.t).filter fun i =>
    c.decodeCand i || c.prefillCand i || (c.s.sess i).state == ssQueued)).take 4096

/-- The template that the load asks for. -/
def Comp.wantRatio (c : Comp) (cands : List Nat) : Nat :=
  let idx := List.range (c.s.tRatios c.t)
  let top := (idx.map (c.s.tDecode c.t)).foldl max 0
  let want := min top ((cands.map fun i => 1 + (c.s.sess i).k).foldl (· + ·) 0)
  let fit := idx.filter fun r => decide (want ≤ c.s.tDecode c.t r)
  let best := (fit.map (c.s.tPrefill c.t)).foldl max 0
  match fit.find? fun r => c.s.tPrefill c.t r == best with
  | some r => r
  | none => (idx.find? fun r => c.s.tDecode c.t r == top).getD 0

/-- Choose the ratio template; rows of both regions are open. -/
def Comp.chooseRatio (c : Comp) : Comp :=
  let v := c.s.srvOf c.t
  let pin := c.s.ctl Reg.SRV_RATIO_OVR_EN c.t == 1
  let r := if pin then c.s.ctl Reg.SRV_RATIO_OVR c.t else if 0 < v.hold then v.ratio else c.wantRatio (c.considered.filter c.decodeCand)
  let hold := if pin then v.hold else if 0 < v.hold then v.hold - 1 else if r = v.ratio then 0 else c.s.fld Reg.SRV_RATIO_HOLD c.t
  { c with
    s := (c.s.setSrv c.t { v with ratio := r, hold := hold }).setFld Reg.SRV_RATIO_NOW c.t r
    dLeft := c.s.tDecode c.t r
    pLeft := c.s.tPrefill c.t r }

/-! ### Placement (R293, R307, R309, R312, R313) -/

/-- The page operations of a row entry: ALLOC for every page it first reaches, lowest slots first. -/
def Comp.allocs (c : Comp) (i pages : Nat) : List PageOp :=
  let have' := (c.w.table i).length
  ((c.s.freeSlots c.t c.w false (pages - have')).zipIdx).map fun sl => { op := 1, sess := i, page := have' + sl.2, slot := sl.1 }

/-- Row r in the composition with its pages allocated: `dl` and `pl` rows stay free for decode and prefill. -/
def Comp.putRow (c : Comp) (r : RowEnt) (pages dl pl : Nat) : Comp :=
  let x := c.s.sess r.sess
  let decode := r.kind != 1
  let r := { r with order := x.order, pages := c.lists, pageN := pages }
  let need := pages - (c.w.table r.sess).length
  let c := (c.allocs r.sess pages).foldl Comp.op c
  let c := c.setSess r.sess { c.s.sess r.sess with reserved := x.reserved - need }
  { c with
    drows := if decode then c.drows ++ [r] else c.drows
    prows := if decode then c.prows else c.prows ++ [r]
    dLeft := dl
    pLeft := pl
    lists := c.lists + 4 * pages
    placed := r.sess :: c.placed }

/-- Place a row entry where its operations and its page list fit. -/
def Comp.place (c : Comp) (r : RowEnt) : Option Comp :=
  let pages := ceilDiv (r.pos + r.count) 64
  let need := pages - (c.w.table r.sess).length
  let decode := r.kind != 1
  let dl := if decode then c.dLeft - r.count else c.dLeft
  let pl := if decode then c.pLeft else c.pLeft - r.count
  let ok := c.fits 1 need (pads dl pl) && decide (c.lists + 4 * pages ≤ c.s.tPageArea c.t) &&
    decide (need ≤ c.unreserved + (c.s.sess r.sess).reserved) && (c.allocs r.sess pages).length == need
  if ok then some (c.putRow r pages dl pl) else none

/-- The row entry of a candidate: a decode or verify entry at the session's next position, which after a verify entry not yet
committed depends on how many drafts it accepts, a free value; or a prefill entry of so many rows. The entry before starts at the
committed length, whatever was taken for it when it was composed (06 R151). -/
def Comp.rowOf (c : Comp) (decode : Bool) (i cost : Nat) : RowEnt × State :=
  let x := c.s.sess i
  let q := x.req.getD {}
  let d := c.s.draw
  let base : RowEnt := { sess := i, count := cost, temp := q.temp, topP := q.topP, topK := q.topK, seed := q.seed,
                         acct := (c.s.ring x.ring).acct }
  if decode then
    let pos := match c.rowNow i with
      | some r =>
        if r.kind = 3 then (x.tokens.length + d.1 % (r.k + 1), d.2) else if r.kind = 2 then (x.tokens.length, c.s) else (r.pos + r.count, c.s)
      | none => (x.tokens.length - 1, c.s)
    ({ base with kind := if cost = 1 then 2 else 3, k := cost - 1, pos := pos.1 }, pos.2)
  else
    ({ base with kind := 1, last := q.placed + cost == q.promptTokens, pos := q.base + q.placed, stageOff := q.stageOff + 4 * q.placed }, c.s)

/-- BUDGET_DEFERRED to a session, once until it next runs. -/
def Comp.deferred (c : Comp) (i : Nat) : Comp :=
  let x := c.s.sess i
  match x.req with
  | some q =>
    if q.noticed then c
    else
      let c := (c.sessEntry i 4 4 0 q.tag q.total).setSess i { x with req := some { q with noticed := true } }
      { c with s := c.s.count Reg.SRV_DEFERRALS c.t 1 }
  | none => c

/-- The account of a session. -/
def State.sessAcct (s : State) (i : Nat) : Nat := (s.ring (s.sess i).ring).acct

/-- Some completion entry of a ring waits for room (R302). -/
def Comp.ringWaits (c : Comp) (r : Nat) : Bool :=
  let x := c.s.ring r
  let due := (((c.s.srvOf c.t).outbox ++ [c.d]).flatMap (·.entries)).countP fun e => e.1 == r
  decide (x.cqHead + 2 ^ x.cqLog < x.cqTail + x.waiting.length + due)

/-- One account's turn in a pass; whether it moved. -/
def Comp.turn (decode : Bool) (cands : List Nat) (c : Comp) (a : Nat) : Comp × Bool :=
  let first := cands.find? fun i => c.s.sessAcct i == a && !c.placed.contains i && !c.ringWaits (c.s.sess i).ring
  let rows := if decode then c.dLeft else c.pLeft
  match first with
  | none => (c, false)
  | some i =>
    let x := c.s.sess i
    let q := x.req.getD {}
    let b := (c.s.acct a).bucket
    let want := if decode then 1 + x.k else min (q.promptTokens - q.placed) rows
    if c.out.contains a || rows == 0 || decide (rows < want) then (c, false)
    else
      let cost := if b < 256 * want then (if decode then 0 else b / 256) else want
      if cost = 0 then ({ c.deferred i with out := a :: c.out }, false)
      else
        let g := c.rowOf decode i cost
        match ({ c with s := g.2 } : Comp).place g.1 with
        | none => (c, false)
        | some c =>
          let x := c.s.sess i
          let q := x.req.getD {}
          let q := { q with noticed := false, placed := if decode then q.placed else q.placed + cost }
          let c := c.setSess i { x with req := some q }
          ({ c with s := c.s.setAcct a { c.s.acct a with bucket := b - 256 * cost } }, true)

/-- Passes over the accounts until one moves nothing, with fuel. -/
def passes (decode : Bool) (cands accts : List Nat) : Nat → Comp → Comp
  | 0, c => c
  | fuel + 1, c =>
    let g := accts.foldl (fun (cm : Comp × Bool) a =>
      let r := cm.1.turn decode cands a
      (r.1, cm.2 || r.2)) (c, false)
    if g.2 then passes decode cands accts fuel g.1 else g.1

/-- The accounts with candidates, cyclically from the pointer. -/
def Comp.cyclic (c : Comp) (cands : List Nat) : List Nat :=
  let l := sortDedup (cands.map c.s.sessAcct)
  let p := (c.s.srvOf c.t).pointer
  l.filter (fun a => decide (p ≤ a)) ++ l.filter (fun a => decide (a < p))

/-- Place the candidates of one kind. -/
def Comp.placeAll (decode : Bool) (cands : List Nat) (c : Comp) : Comp :=
  passes decode cands (c.cyclic cands) (cands.length + 1) c

/-! ### Admission (R304, R308) -/

/-- Pages of a prompt that match the prefix tree, with fuel: the nodes. -/
def PageState.matchPages (x : PageState) (toks : List Nat) (scope : Nat) : Nat → Nat → Nat → List Nat
  | 0, _, _ => []
  | fuel + 1, i, parent =>
    if 64 * (i + 1) < toks.length then
      match x.findNode parent ((toks.drop (64 * i)).take 64) scope with
      | some n => n :: x.matchPages toks scope fuel (i + 1) n
      | none => []
    else []

/-- Unshared HBM pages of a session. -/
def PageState.hbmOwn (x : PageState) (i : Nat) : Nat := (x.table i).countP fun e => !e.shared && !e.ddr
/-- DDR5 pages of a session. -/
def PageState.ddrOwn (x : PageState) (i : Nat) : Nat := (x.table i).countP (·.ddr)

/-- Park a session where DDR5 slots are free for it and the operation fits; otherwise the earliest expired session is
reclaimed, and the session waits, IDLE. -/
def Comp.park (c : Comp) (i : Nat) : Comp :=
  let x := c.s.sess i
  if c.w.hbmOwn i ≤ c.s.freeCount c.t c.w true then
    if c.room 1 then (c.op { op := 4, sess := i }).setSess i { x with state := ssParking, opDue := 0, reported := 0 } else c
  else
    let c := c.setSess i { x with state := ssIdle, opDue := 4 }
    match c.expired with
    | some j => c.free j
    | none => c

/-- Free HBM for a request that needs it: unreferenced nodes first, with fuel. -/
def dropNodes : Nat → Nat → Comp → Comp
  | 0, _, c => c
  | fuel + 1, need, c =>
    if need ≤ c.unreserved then c
    else
      match c.dropLeaf with
      | some c => dropNodes fuel need c
      | none => c

/-- Then IDLE sessions are parked, longest idle first. -/
def Comp.makeRoom (c : Comp) (need : Nat) : Comp :=
  let c := dropNodes c.w.nodes.length need c
  let idle := sortByKey (fun i => (c.s.sess i).idleAt) ((c.s.tractSessions c.t).filter fun i => (c.s.sess i).state == ssIdle && (c.s.sess i).req.isNone)
  idle.foldl (fun c i => if need ≤ c.unreserved then c else if (c.s.sess i).state = ssIdle then c.park i else c) c

/-- HBM slots a request must have free, beyond the pages held. -/
def Comp.needs (c : Comp) (q : SrvReq) (held : Nat) : Nat :=
  ceilDiv (min c.ctx (q.base + q.promptTokens + q.maxNew) + q.draftK) 64 - held

/-- Admit the head of the queue: prefix pages are shared, slots reserved. -/
def Comp.admitOne (c : Comp) (i : Nat) : Comp × Bool :=
  let x := c.s.sess i
  match x.req with
  | none => (c, false)
  | some q =>
    if !q.staged then (c, false)
    else
      let toks := c.s.promptTokens c.t q 0 q.promptTokens
      let nodes := if q.submit && !bitAt q.flags 1 then c.w.matchPages toks (c.s.scopeOf x.ring) (q.promptTokens / 64 + 1) 0 0xFFFFFFFF else []
      let m := nodes.length
      let need := c.needs q ((c.w.table i).length + m)
      let rebuilt := x.rebuild
      if c.unreserved < need then (c.makeRoom need, false)
      else if !c.room m then (c, false)
      else
        let c := (nodes.zipIdx).foldl (fun c n =>
          c.op { op := 2, sess := i, page := n.2, slot := n.1, lastUse := c.step }) c
        (c.setSess i { x with
          state := ssPrefill
          admitted := true
          reserved := need
          rebuild := rebuilt
          tokens := if m = 0 then x.tokens else toks.take (64 * m)
          req := some { q with placed := 64 * m } }, true)

/-- Admit in admission order, until the head cannot be admitted. -/
def admitList : List Nat → Comp → Comp
  | [], c => c
  | i :: rest, c =>
    let g := c.admitOne i
    if g.2 then admitList rest g.1 else g.1

/-- Admit queued requests among the sessions considered. -/
def Comp.admission (l : List Nat) (c : Comp) : Comp := admitList (l.filter fun i => (c.s.sess i).state == ssQueued) c

/-! ### Rebuilding after a recovery (13 R340) -/

/-- Rows that rebuild a session's history, ahead of every other prefill row; its tokens are staged for it. -/
def Comp.rebuildOne (c : Comp) (i : Nat) : Comp :=
  let x := c.s.sess i
  let left := x.tokens.length - x.rebuilt
  if left = 0 then c.setSess i { x with rebuild := false, rebuilt := 0 }
  else if c.pLeft = 0 then c
  else
    let cost := min left c.pLeft
    let off := x.rebuildOff
    let r : RowEnt := { sess := i, kind := 1, count := cost, pos := x.rebuilt, stageOff := off + 4 * x.rebuilt, rebuild := true }
    match c.place r with
    | none => c
    | some c =>
      let seg := (c.s.srvOf c.t).seg 3
      let s := c.s.put .serve (seg.1 + off + 4 * x.rebuilt) (((x.tokens.drop x.rebuilt).take cost).flatMap (leBytes 4))
      { c with s := s.setSess i { s.sess i with rebuilt := x.rebuilt + cost, rebuild := decide (x.rebuilt + cost < x.tokens.length) } }

/-- Every session that is to be rebuilt and whose pages are in HBM. -/
def Comp.rebuilds (c : Comp) : Comp :=
  ((c.s.tractSessions c.t).filter fun i =>
    let x := c.s.sess i
    x.rebuild && [ssQueued, ssPrefill, ssDecode, ssIdle].contains x.state).foldl Comp.rebuildOne c

/-! ### Parking and unparking (R304, R306) -/

/-- Unpark operations due, then park operations due. -/
def Comp.parkAndReclaim (c : Comp) : Comp :=
  let of (c : Comp) (st op : Nat) : List Nat :=
    (c.s.tractSessions c.t).filter fun i => (c.s.sess i).state == st && (c.s.sess i).opDue == op
  let c := (of c ssUnparking 5).foldl (fun c i =>
    let n := c.w.ddrOwn i
    let c := if c.unreserved < n then c.makeRoom n else c
    if n ≤ c.unreserved ∧ c.room 1 = true then (c.op { op := 5, sess := i }).setSess i { c.s.sess i with opDue := 0, reported := 0 } else c) c
  let c := (of c ssParking 4).foldl Comp.park c
  (of c ssIdle 4).foldl (fun c i => if (c.s.sess i).req.isNone then c.park i else c) c

/-! ### The record, the journal, deliveries (R288, R297, R300, 13 R339) -/

/-- A pad entry for rows left. -/
def padRows (n : Nat) : List RowEnt := if n = 0 then [] else [{ count := n }]

/-- Every row entry of the record, pads included. -/
def Comp.rows (c : Comp) : List RowEnt := c.drows ++ padRows c.dLeft ++ c.prows ++ padRows c.pLeft

/-- The step record goes into the record buffer of fold parcel 0. -/
def Comp.emit (c : Comp) : Comp :=
  let v := c.s.srvOf c.t
  let p := (v.pointer + 1) % 1024
  let b := c.s.recordBytes c.t c.step v.ratio p c.rows c.ops
  let s := c.s.put .serve (parcelBase ((c.s.tract c.t).landing.getD 0 0) + c.s.tRecordOff c.t) b
  { c with s := s.setSrv c.t { v with pointer := p, rowsNext := c.rows, composed := some c.step, ops := c.ops } }

/-- What a commit's journal entry records, as numbers. -/
def Comp.journal (c : Comp) : List Byte :=
  let ss := (c.s.tractSessions c.t).flatMap fun i =>
    let x := c.s.sess i
    [i, x.state, x.gen, x.tokens.length] ++ x.tokens ++ [(x.req.map (·.total)).getD 0]
  let rs := (c.s.rings.filter fun kv => kv.2.isOpen).flatMap fun kv => [kv.1, kv.2.sqHead, kv.2.cqTail]
  let bs := (c.s.accts.filter fun kv => kv.2.isOpen).flatMap fun kv => [kv.1, kv.2.bucket]
  Config.journalBytes c.step (ss ++ rs ++ bs ++ [(c.s.srvOf c.t).pointer])

/-- The journal entry is written; with a +X neighbour it goes there first, and the deliveries wait for the replies (R339). -/
def Comp.handOver (c : Comp) : State :=
  let b := c.journal
  let s := c.s.journalPut c.t b
  let x := s.tract c.t
  if x.foldGrid.getD 0 1 ≤ 1 then s.deliver c.d
  else
    let parts := cutWords b.length 1024 b
    let s := parts.foldl (fun s p => s.request (x.members.getD 1 s.coord) opJournal x.job x.epoch p) s
    let v := s.srvOf c.t
    if parts = [] then s.deliver c.d else s.setSrv c.t { v with outbox := v.outbox ++ [{ c.d with left := parts.length }] }

/-- Deliveries whose journal entry is safe go out in order, with fuel. -/
def State.outboxFlush : Nat → Nat → State → State
  | 0, _, s => s
  | fuel + 1, t, s =>
    match (s.srvOf t).outbox with
    | [] => s
    | d :: rest => if d.left = 0 then State.outboxFlush fuel t ((s.setSrv t { s.srvOf t with outbox := rest }).deliver d) else s

/-- A reply to a journal request of a job (R339): the oldest entry of its instance that waits for one. -/
def State.journalReply (job : Nat) (s : State) : State :=
  match (List.range 8).find? fun t => (s.srvOf t).outbox != [] && (s.tract t).job == job with
  | some t =>
    let v := s.srvOf t
    let ob := match v.outbox with
      | d :: rest => { d with left := d.left - 1 } :: rest
      | [] => []
    State.outboxFlush ob.length t (s.setSrv t { v with outbox := ob })
  | none => s

/-- SRV_EVT_DRAINED once no request is live (R318). -/
def State.drainCheck (s : State) (t : Nat) : State :=
  let v := s.srvOf t
  if v.draining && (s.tractSessions t).all fun i => !(s.sess i).live && (s.sess i).held == [] then
    (s.setSrv t { v with draining := false }).raise Reg.SRV_EVT_DRAINED 0
  else s

/-! ### Closing rings and accounts (R322) -/

/-- A closing ring whose sessions are all gone and whose entries are all written is closed. -/
def State.closeRings (s : State) : State :=
  (s.rings.filter fun kv => kv.2.closing).foldl (fun s kv =>
    let x := s.ring kv.1
    let busy := s.sessions.any fun ks => ks.2.state != ssFree && ks.2.ring == kv.1
    if busy || x.waiting != [] then s else s.setRing kv.1 {}) s

/-- A close command ends once its ring, or its account's rings, are closed. -/
def State.closeCheck (s : State) : State :=
  let s := s.closeRings
  let finish (s : State) : State :=
    ({ s with srvCmd := none }.setFlds 0 [(Reg.SRV_CMD_BUSY, 0), (Reg.SRV_CMD_RESULT, 0)]).raise Reg.SRV_EVT_CMD 0
  match s.srvCmd with
  | some (2, r) => if (s.ring r).isOpen then s else finish s
  | some (4, a) =>
    if s.rings.any fun kv => kv.2.isOpen && kv.2.acct == a then s else finish (s.setAcct a {})
  | _ => s

/-! ### COMPOSITION -/

/-- The first stages of a composition: commit, releases, the rings, the budgets and the ratio (14 R302, R309 to R311). -/
def Comp.taken (c : Comp) : Comp := (c.stopNow.commit.releases c.due).sweep.badPrompts.takeRings.refill.chooseRatio

/-- The later stages: the rows placed, requests admitted, sessions parked and the record written (14 R302, R311). -/
def Comp.filled (c : Comp) : Comp :=
  let l := c.considered
  let c := Comp.admission l (c.placeAll true (l.filter c.decodeCand)).rebuilds
  (c.placeAll false (l.filter c.prefillCand)).parkAndReclaim.emit

/-- The composition that begins in the step under way (R312). -/
def State.compose (s : State) (t : Nat) : State :=
  let s := s.outboxFlush (s.srvOf t).outbox.length t
  let c : Comp := { s := s, t := t, step := s.fld Reg.TRC_STEP_NUM t + 1, w := (s.srvOf t).ops.foldl (s.pageOp t) (s.srvOf t).ps }
  let c := c.taken.filled
  if c.bad then s.serveFault t else (c.handOver.drainCheck t).closeCheck

/-- COMPOSITION (12 R288, R312) in tract t, begun at datum d: at the front module, once per step, while the tract runs and no
failure has stopped composition. -/
def execComposition (t : TractId) (d : Nat) (s : State) : Host.Outcome State Fault Refusal :=
  if s.moduleDark then done s else
  let s := s.at d
  let v := s.srvOf t
  let runs := s.fld Reg.TRC_STATE_CODE t == 3 || s.fld Reg.TRC_STATE_CODE t == 4
  if s.bit Reg.TRC_MODE t && bitAt (s.fld Reg.SRV_FRONT 0) t && runs && !v.faulted && v.composed != some (s.fld Reg.TRC_STEP_NUM t + 1)
  then done (s.compose t) else done s

end Sys2Proof.Machine
end

