-- ==== Sys2Proof/Machine/ServeCmd.lean ====
section
/-!
DEFINITION. The serve block's other events, its doorbells and its commands (12 R288, R297, R301, R304, R306, R309, R318, R322,
R323).
-/
namespace Sys2Proof.Machine

/-! ### Applying a step record (R288, R297) -/

/-- Copy the data of pages that move between the pools, from one page state to the next. A line that reads uncorrectable is not
written, and the serving instance fails (07 R170). -/
def State.movePages (s : State) (t i : Nat) (a b : PageState) : State :=
  let moves := ((a.table i).zip (b.table i)).filter fun e => e.1.ddr != e.2.ddr
  moves.foldl (fun s e =>
    let r := s.copyMem .serve (s.slotAddr t e.1.ddr e.1.slot) (s.slotAddr t e.2.ddr e.2.slot) (s.tPageBytes t)
    if r.1 then r.2.serveFault t else r.2) s

/-- Apply one operation; a move is this module's own to carry out and report. -/
def State.applyOp (s : State) (t : Nat) (o : PageOp) : State :=
  let v := s.srvOf t
  let ps := s.pageOp t v.ps o
  let s := s.setSrv t { v with ps := ps }
  if o.op = 4 ∨ o.op = 5 then
    let s := s.movePages t o.sess v.ps ps
    s.setSrv t { s.srvOf t with moves := (s.srvOf t).moves ++ [(o.sess, o.op == 4)] }
  else s

/-- A row entry read back from a record. -/
def parseRow (b : List Byte) : RowEnt :=
  let f := fieldOf b
  { sess := f 0 2, kind := f 2 1, last := bitAt (f 3 1) 0, count := f 4 2, k := f 6 1, pos := f 8 4, stageOff := f 12 4, pages := f 16 4,
    temp := f 20 4, topP := f 24 4, topK := f 28 2, pageN := f 30 2 }

/-- What a step's operations make of their nodes: what the composer holds of its own record; on another module LAST_USE is the step of
a match, and what the record does not say of an INSERT is free (DESIGN CHOICE, log entry 70). -/
def State.opsOf (s : State) (t step : Nat) (l : List PageOp) : List PageOp × State :=
  let own := (s.srvOf t).ops
  if own.map PageOp.word == l.map PageOp.word then (own, s)
  else l.foldl (fun (acc : List PageOp × State) o =>
    if o.op = 2 then (acc.1 ++ [{ o with lastUse := step }], acc.2)
    else if o.op = 6 then
      let d := acc.2.draw
      let g : Nat → Nat := fun i => Config.freeValue (d.2.freeCtr + i) % 2 ^ 32
      (acc.1 ++ [{ o with lastUse := d.1 % 2 ^ 64, scope := g 0 % 65536, tokens := (List.range 64).map fun i => g (i + 1) }],
       { d.2 with freeCtr := d.2.freeCtr + 65 })
    else (acc.1 ++ [o], acc.2)) ([], s)

/-- Write the row table, random words and page lists into one target parcel. -/
def State.writeTables (s : State) (t p : Nat) (table words : List Byte) (rows : List RowEnt) : State :=
  let s := s.put .serve (parcelBase p + s.tRowOff t) table
  let s := s.put .serve (parcelBase p + s.tWordOff t) words
  rows.foldl (fun s r =>
    if r.kind = 0 then s
    else s.put .serve (parcelBase p + s.tPageOff t + r.pages) ((((s.srvOf t).ps.table r.sess).take r.pageN).flatMap fun e => leBytes 4 e.slot)) s

/-- The serve block applies the record in its module's record buffer: operations, tables, step counter and ratio index. A
record with a reserved operation is not applied (R297), nor one that reads uncorrectable (R319). -/
def State.applyStepRecord (s : State) (t : Nat) : State :=
  let x := s.tract t
  let b := parcelBase (x.landing.getD 0 0) + s.tRecordOff t
  let rd := s.scan .serve [(b, s.tRecordBytes t)]
  let s := rd.2
  let step := s.rdNat b 8
  let ratio := s.rdNat (b + 8) 1
  let n := s.rdNat (b + 10) 2
  let nops := s.rdNat (b + 12) 4
  let most := s.tRowsMax t
  let table := s.rdBytes (b + 64) (32 * n)
  let words := s.rdBytes (b + 64 + 32 * n) (4 * most)
  let ops := (leWords 8 nops (s.rdBytes (b + 64 + 32 * n + 4 * most) (8 * nops))).map parseOp
  let rows := (List.range n).map fun i => parseRow ((table.drop (32 * i)).take 32)
  if rd.1 == 2 || ops.any (fun o => o.op == 0 || decide (7 < o.op)) then s.serveFault t
  else
    let o := s.opsOf t step ops
    let s := o.1.foldl (fun s o => s.applyOp t o) o.2
    let v := s.srvOf t
    let s := s.setSrv t { v with ps := rows.foldl PageState.fillRow v.ps, ops := [], applied := some step }
    let s := (s.tTargets t).foldl (fun s f => s.writeTables t (x.landing.getD f 0) table words rows) s
    x.landing.foldl (fun s p =>
      (s.paramWrite p (s.tStepReg t) (BitVec.ofNat 64 step)).paramWrite p (s.tRatioReg t) (BitVec.ofNat 64 (ratio % 8))) s

/-- STEP_RECORD_APPLY (12 R288 step 4) in tract t: once per record, the record of the step after the one under way. -/
def execStepRecordApply (t : TractId) (s : State) : Host.Outcome State Fault Refusal :=
  if s.moduleDark then done s else
  let v := s.srvOf t
  let b := parcelBase ((s.tract t).landing.getD 0 0) + s.tRecordOff t
  let next := s.fld Reg.TRC_STEP_NUM t + 1
  let runs := s.fld Reg.TRC_STATE_CODE t == 3 || s.fld Reg.TRC_STATE_CODE t == 4
  if s.bit Reg.TRC_MODE t && runs && !v.faulted && v.applied != some next && s.rdNat b 8 == next then done (s.applyStepRecord t) else done s

/-! ### Moves (R297, R303) -/

/-- Requests held behind a session that has no request begin, outside a composition. -/
def State.unholdNow (s : State) (t i : Nat) : State :=
  let x := s.sess i
  if x.releasing ∨ x.held = [] then s
  else
    let c := ({ s := s, t := t } : Comp).unhold i x.held
    c.s.deliver c.d

/-- A session's move is complete on every module: PARKED, or QUEUED, or IDLE where its request has gone; an APPEND held behind a
session without a request begins. -/
def State.moved (s : State) (t i : Nat) : State :=
  let x := s.sess i
  if x.state = ssParking then
    (s.setSess i { x with state := ssParked, parkedAt := s.datum, reported := 0, expired := false }).unholdNow t i
  else if x.state = ssUnparking then
    let s' := s.setSess i { x with state := if x.req.isSome then ssQueued else ssIdle, idleAt := s.datum, reported := 0 }
    if x.req.isSome then s' else s'.unholdNow t i
  else s

/-- One module reports a move; the session's state follows once every module of the instance has. -/
def State.moveReported (s : State) (t i : Nat) : State :=
  let x := s.sess i
  if x.opDue ≠ 0 then s
  else if x.reported + 1 < (s.tract t).members.length then s.setSess i { x with reported := x.reported + 1 }
  else s.moved t i

/-- PARK_MOVE_COMPLETE (12 R297): this module's serve block has finished session i's move in tract t, at datum d; it reports to
the composer. -/
def execParkMoveComplete (t : TractId) (i : Fin 65536) (d : Nat) (s : State) : Host.Outcome State Fault Refusal :=
  let s := s.at d
  let v := s.srvOf t
  match v.moves.find? fun m => m.1 == i.val with
  | none => done s
  | some m =>
    let s := s.setSrv t { v with moves := v.moves.erase m }
    let x := s.tract t
    if bitAt (s.fld Reg.SRV_FRONT 0) t then done (s.moveReported t i)
    else
      let front := x.members.getD 0 s.coord
      let b := leBytes 4 i.val
      let p : Pkt := { kind := 0x85, vc := 8, cls := 3, job := x.job, epoch := x.epoch, dest := front, sp := lanternSp s.transCtr opMoved 0,
                       len := b.length - 1, payload := b }
      done (({ s with transCtr := s.transCtr + 1 }).sendLantern (Config.nextLink s.coord front) p)

/-- MANAGEMENT_NOTICE (11 R275) from link l, at datum d: the oldest is consumed, or sent on; a park report counts for its
session. -/
def execManagementNotice (l : LinkId) (d : Nat) (s : State) : Host.Outcome State Fault Refusal :=
  if s.moduleDark then done s else
  let s := s.at d
  match s.takeLantern l fun p => p.kind == 0x85 with
  | none => done s
  | some (p, s1) =>
    done (s1.orRelay p fun s =>
      match (List.range 8).find? fun t => bitAt (s.fld Reg.SRV_FRONT 0) t && (s.tract t).job == p.job && (s.tract t).epoch == p.epoch with
      | some t => if p.spec 4 2 = opMoved then s.moveReported t (leNat (p.payload.take 4)) else s
      | none => s)

/-- LANTERN_REPLY (11 R275): the oldest reply from link l is consumed. -/
def execLanternReply (l : LinkId) (s : State) : Host.Outcome State Fault Refusal := done (s.lit (s.lanternReply l State.journalReply))

/-! ### Staging and time limits (R304, R306) -/

/-- Ranges of the staging segment in use by requests of tract t, and by histories being rebuilt. -/
def State.stagedRanges (s : State) (t : Nat) : List (Nat × Nat) :=
  (s.tractSessions t).flatMap fun i =>
    let x := s.sess i
    (match x.req with
      | some q => if q.staged && !q.bad then [(q.stageOff, 4 * q.promptTokens)] else []
      | none => []) ++ (if x.rebuild then [(x.rebuildOff, 4 * x.tokens.length)] else [])

/-- The lowest offset of the staging segment where n bytes fit. -/
def State.stageFit (s : State) (t n : Nat) : Option Nat :=
  let used := s.stagedRanges t
  let ok (a : Nat) : Bool := decide (a + n ≤ ((s.srvOf t).seg 3).2) && used.all fun r => decide (a + n ≤ r.1 ∨ r.1 + r.2 ≤ a)
  (sortDedup (0 :: used.map fun r => ceilDiv (r.1 + r.2) 4 * 4)).find? ok

/-- PROMPT_STAGED (12 R304): the copy of session i's prompt into the staging segment is complete; a prompt that reads
uncorrectable ends its request at the next composition (R319). -/
def execPromptStaged (i : Fin 65536) (s : State) : Host.Outcome State Fault Refusal :=
  if s.moduleDark then done s else
  let x := s.sess i
  let t := s.sessTract i
  match x.req with
  | none => done s
  | some q =>
    let n := 4 * q.promptTokens
    if q.staged then done s
    else
      match s.stageFit t n with
      | none => done s
      | some off =>
        let r := s.copyMem .serve q.promptAddr (((s.srvOf t).seg 3).1 + off) n
        let s := r.2
        if r.1 then done (s.setSess i { x with req := some { q with staged := true, bad := true } })
        else done (s.setSess i { x with req := some { q with staged := true, stageOff := off } })

/-- DDR5 slots free for one more move to DDR5, those of moves not yet in a record being taken. -/
def State.parkRoom (s : State) (t : Nat) : Nat :=
  let ps := (s.srvOf t).ps
  let due := (s.tractSessions t).filter fun j => (s.sess j).state == ssParking && (s.sess j).opDue == 4
  s.freeCount t ps true - (due.map fun j => ps.hbmOwn j).foldl (· + ·) 0

/-- IDLE_TTL_EXPIRY (12 R306) at datum d: session i has been IDLE for IDLE_TTL and starts PARKING; where no DDR5 slots are free
for it, it stays IDLE and the composer tries again. -/
def execIdleTtlExpiry (i : Fin 65536) (d : Nat) (s : State) : Host.Outcome State Fault Refusal :=
  if s.moduleDark then done s else
  let s := s.at d
  let x := s.sess i
  let t := s.sessTract i
  if x.state = ssIdle ∧ x.req = none ∧ x.idleAt + (s.ring x.ring).idleTtl * 1000000000 ≤ s.datum then
    let ok := decide ((s.srvOf t).ps.hbmOwn i ≤ s.parkRoom t)
    done (s.setSess i { x with state := if ok then ssParking else ssIdle, opDue := 4, reported := 0 })
  else done s

/-- PARK_TTL_EXPIRY (12 R306) at datum d: session i has been PARKED for PARK_TTL and expires. -/
def execParkTtlExpiry (i : Fin 65536) (d : Nat) (s : State) : Host.Outcome State Fault Refusal :=
  if s.moduleDark then done s else
  let s := s.at d
  let x := s.sess i
  let ttl := (s.ring x.ring).parkTtl
  if x.state = ssParked ∧ ttl ≠ 0xFFFFFFFF ∧ x.parkedAt + ttl * 1000000000 ≤ s.datum then done (s.setSess i { x with expired := true })
  else done s

/-! ### Doorbells (R301) -/

/-- A doorbell is dropped, and recorded. -/
def State.ringError (s : State) (r : Nat) : State :=
  (((s.setFlds 0 [(Reg.SRV_ERR_RING, r), (Reg.SRV_ERR_STATUS, 0x11)]).count Reg.SRV_ERR_COUNT 0 1)).raise Reg.SRV_EVT_RING_ERR 0

/-- A new submission tail. -/
def State.tailBell (s : State) (r v : Nat) : State :=
  let x := s.ring r
  let n := 2 ^ x.sqLog
  if !x.isOpen || decide (n ≤ v) then s.ringError r
  else s.setRing r { x with sqTail := x.sqHead + (v + n - x.sqHead % n) % n }

/-- The completion head the companion has consumed up to: entries that wait are written where there is room now. -/
def State.headBell (s : State) (r v : Nat) : State :=
  let x := s.ring r
  let n := 2 ^ x.cqLog
  if !x.isOpen || decide (n ≤ v) then s.ringError r
  else (s.setRing r { x with cqHead := min x.cqTail (x.cqHead + (v + n - x.cqHead % n) % n) }).ringFlush r

/-- SUBMISSION_TAIL_DOORBELL (12 R301). -/
def execSubmissionTailDoorbell (r : Fin 4096) (v : Fin 65536) (s : State) : Host.Outcome State Fault Refusal := done (s.lit (s.tailBell r v))

/-- COMPLETION_HEAD_DOORBELL (12 R301). -/
def execCompletionHeadDoorbell (r : Fin 4096) (v : Fin 65536) (s : State) : Host.Outcome State Fault Refusal := done (s.lit (s.headBell r v))

/-! ### Commands (R298, R309, R322, R323) -/

/-- A command ends with a status. -/
def State.srvResult (s : State) (v : Nat) : State :=
  let s := (s.setFlds 0 [(Reg.SRV_CMD_RESULT, v), (Reg.SRV_CMD_BUSY, 0)]).raise Reg.SRV_EVT_CMD 0
  if v = 0x12 then s.raise Reg.SRV_EVT_FULL 0 else s

/-- A command written by agent g: dropped with a register access error while another is in progress; ended with
RING_UNAVAILABLE unless `ok`. -/
def State.srvCommand (s : State) (g : Agent) (op index block : Nat) (ok : Bool) (act : State → State) : State :=
  if s.bit Reg.SRV_CMD_BUSY 0 then s.regError g (fieldAddr Reg.SRV_CMD_OP 0)
  else
    let s := s.setFlds 0 [(Reg.SRV_CMD_OP, op), (Reg.SRV_CMD_INDEX, index), (Reg.SRV_CMD_BLOCK, block)]
    if ok then act s else s.srvResult 0x11

/-- This module is the front module of tract t, which is in serve mode. -/
def State.frontOf (s : State) (t : Nat) : Bool := bitAt (s.fld Reg.SRV_FRONT 0) t && bitAt (s.fld Reg.SRV_SERVE 0) t

/-- A ring-open block keeps R298. -/
def ringBlockOk (b : List Byte) : Bool :=
  let f := fieldOf b
  let place (a : Nat) : Bool := inAperture a || inHbm a
  f 0 8 % 64 == 0 && f 8 8 % 32 == 0 && decide (6 ≤ f 24 1 ∧ f 24 1 ≤ 16) && decide (6 ≤ f 25 1 ∧ f 25 1 ≤ 16) && f 26 1 == 0 &&
  decide (f 27 1 < 4) && decide (f 28 2 < 1024) && f 30 2 == 0 && f 40 24 == 0 && place (f 0 8) && place (f 8 8)

/-- OPEN_RING. -/
def State.openRing (s : State) (g : Agent) (r block : Nat) : State :=
  let b := s.rdBytes block 64
  let f := fieldOf b
  let a := s.acct (f 28 2)
  let ok := ringBlockOk b && !s.rangeBad block 64 && a.isOpen && !a.closing && s.frontOf a.tract && !(s.ring r).isOpen
  s.srvCommand g 1 r block ok fun s =>
    (s.setRing r { isOpen := true, sqBase := f 0 8, cqBase := f 8 8, headWb := f 16 8, sqLog := f 24 1, cqLog := f 25 1, flags := f 27 1,
                   acct := f 28 2, idleTtl := f 32 4, parkTtl := f 36 4 }).srvResult 0

/-- CLOSE_RING: in progress until its live requests have ended. -/
def State.closeRing (s : State) (g : Agent) (r : Nat) : State :=
  let x := s.ring r
  s.srvCommand g 2 r 0 (x.isOpen && s.frontOf (s.ringTract r)) fun s =>
    (({ s with srvCmd := some (2, r) }.setFld Reg.SRV_CMD_BUSY 0 1).setRing r { x with closing := true }).closeCheck

/-- RATE and BURST of an account block. -/
def acctBlockOk (b : List Byte) : Bool :=
  let f := fieldOf b
  decide (f 4 4 < 2 ^ 24) && decide (1 ≤ f 8 4 ∧ f 8 4 < 2 ^ 24)

/-- OPEN_ACCOUNT: the lowest free index. -/
def State.openAccount (s : State) (g : Agent) (block : Nat) : State :=
  let b := s.rdBytes block 64
  let f := fieldOf b
  let ok := acctBlockOk b && !s.rangeBad block 64 && decide (f 0 1 < 8) && f 1 3 == 0 && f 16 48 == 0 && s.frontOf (f 0 1)
  s.srvCommand g 3 0 block ok fun s =>
    match (List.range 1024).find? fun a => !(s.acct a).isOpen with
    | none => s.srvResult 0x12
    | some a =>
      ((s.setAcct a { isOpen := true, tract := f 0 1, rate := f 4 4, burst := f 8 4, bucket := min (f 12 4) (256 * f 8 4) }).setFld
        Reg.SRV_CMD_OUT 0 a).srvResult 0

/-- CLOSE_ACCOUNT: every ring of it closes, and then it is freed. -/
def State.closeAccount (s : State) (g : Agent) (a : Nat) : State :=
  let x := s.acct a
  s.srvCommand g 4 a 0 (decide (a < 1024) && x.isOpen && s.frontOf x.tract) fun s =>
    let s := ({ s with srvCmd := some (4, a) }.setFld Reg.SRV_CMD_BUSY 0 1).setAcct a { x with closing := true }
    ((s.rings.filter fun kv => kv.2.isOpen && kv.2.acct == a).foldl (fun s kv => s.setRing kv.1 { kv.2 with closing := true }) s).closeCheck

/-- SET_ACCOUNT: RATE and BURST change, and the bucket falls to the new cap. -/
def State.setAccount (s : State) (g : Agent) (a block : Nat) : State :=
  let b := s.rdBytes block 64
  let f := fieldOf b
  let x := s.acct a
  let ok := acctBlockOk b && !s.rangeBad block 64 && f 0 4 == 0 && f 12 52 == 0 && decide (a < 1024) && x.isOpen && s.frontOf x.tract
  s.srvCommand g 5 a block ok fun s =>
    (s.setAcct a { x with rate := f 4 4, burst := f 8 4, bucket := min x.bucket (256 * f 8 4) }).srvResult 0

/-- OPEN_RING (12 R298, R322). -/
def execOpenRing (r : Fin 4096) (block : BitVec 48) (s : State) : Host.Outcome State Fault Refusal :=
  if s.moduleDark then done s else
  done (s.openRing .lantern r block.toNat)
/-- CLOSE_RING (12 R322). -/
def execCloseRing (r : Fin 4096) (s : State) : Host.Outcome State Fault Refusal :=
  if s.moduleDark then done s else
  done (s.closeRing .lantern r)
/-- OPEN_ACCOUNT (12 R309, R323). -/
def execOpenAccount (block : BitVec 48) (s : State) : Host.Outcome State Fault Refusal :=
  if s.moduleDark then done s else
  done (s.openAccount .lantern block.toNat)
/-- CLOSE_ACCOUNT (12 R322). -/
def execCloseAccount (a : Fin 4096) (s : State) : Host.Outcome State Fault Refusal :=
  if s.moduleDark then done s else
  done (s.closeAccount .lantern a)
/-- SET_ACCOUNT (12 R309). -/
def execSetAccount (a : Fin 4096) (block : BitVec 48) (s : State) : Host.Outcome State Fault Refusal :=
  done (s.lit (s.setAccount .lantern a block.toNat))

/-! ### Disabling (R318) -/

/-- SRV_EN is written: a tract whose bit is cleared drains. -/
def State.srvEn (s : State) (mask : Nat) : State :=
  let old := s.fld Reg.SRV_EN 0
  let s := s.setFld Reg.SRV_EN 0 mask
  (List.range 8).foldl (fun s t =>
    if bitAt old t && !bitAt mask t then (s.setSrv t { s.srvOf t with draining := true }).drainCheck t
    else if bitAt mask t && (s.srvOf t).draining then s.setSrv t { s.srvOf t with draining := false } else s) s

/-- SRV_STOP_NOW is written: every serve tract named stops at its next composition. -/
def State.srvStop (s : State) (mask : Nat) : State :=
  (List.range 8).foldl (fun s t =>
    if bitAt mask t && s.frontOf t then s.setSrv t { s.srvOf t with stopNow := true } else s) s

/-- SRV_EN (12 R318). -/
def execSrvEn (mask : Fin 256) (s : State) : Host.Outcome State Fault Refusal := done (s.lit (s.srvEn mask))

/-- SRV_STOP_NOW (12 R318), expert. -/
def execSrvStopNow (mask : Fin 256) (s : State) : Host.Outcome State Fault Refusal :=
  if s.moduleDark then done s else
  if s.expertOpen Reg.SRV_STOP_NOW then done (s.srvStop mask) else done s

end Sys2Proof.Machine
end

