-- ==== Sys2Proof/Machine/RegAccess.lean ====
section
/-!
DEFINITION. Register space: where the blocks lie, what each register reads as, and what a write does (00 R6 to R10, 07 R153,
and the register tables of every chapter).
-/
namespace Sys2Proof.Machine

/-! ### The blocks (07 R153) -/

/-- A block's units: the block, the number of its first unit, base, spacing, units. -/
structure BlkRange where
  blk : Blk
  first : Nat
  base : Nat
  spacing : Nat
  count : Nat

/-- The register blocks. -/
def blkRanges : List BlkRange :=
  [⟨.mcb, 0, 0x90000000, 0x10000, 1⟩, ⟨.idn, 0, 0x90010000, 0x10000, 1⟩, ⟨.pwr, 0, 0x90020000, 0x10000, 1⟩,
   ⟨.sfm, 0, 0x90030000, 0x10000, 1⟩, ⟨.clk, 0, 0x90040000, 0x10000, 1⟩, ⟨.cfg, 0, 0x90050000, 0x10000, 1⟩,
   ⟨.dbg, 0, 0x90060000, 0x10000, 1⟩, ⟨.att, 0, 0x90070000, 0x10000, 1⟩, ⟨.srv, 0, 0x90100000, 0x10000, 1⟩,
   ⟨.lnk, 0, 0x90200000, 0x10000, 6⟩, ⟨.xx, 0, 0x90300000, 0x10000, 8⟩, ⟨.xx, 8, 0x90400000, 0x10000, 8⟩,
   ⟨.trc, 0, 0x90500000, 0x1000, 8⟩, ⟨.twn, 0, 0x90600000, 0x1000, 32⟩, ⟨.pct, 0, 0x91000000, 0x1000, 512⟩]

/-- The unit and offset of an address in a range of units. -/
def BlkRange.place (r : BlkRange) (a : Nat) : Option (Blk × Nat × Nat) :=
  if r.base ≤ a ∧ a < r.base + r.spacing * r.count then
    some (r.blk, r.first + (a - r.base) / r.spacing, (a - r.base) % r.spacing)
  else none

/-- A block has a register at an offset. -/
def Blk.lists (b : Blk) (off : Nat) : Bool :=
  b.fields.any (fun f => f.off == off) || (b == .pct && decide (0x800 ≤ off ∧ off < 0x1000 ∧ off % 8 = 0)) || (b == .dbg && off == 0x20)

/-- The block, unit and offset of a register address; none where no register is listed. -/
def regAt (a : Nat) : Option (Blk × Nat × Nat) :=
  match blkRanges.findSome? fun r => r.place a with
  | some (b, u, off) => if b.lists off then some (b, u, off) else none
  | none => none

/-- The unit whose copy of a field an offset shows: windows select one (16 R395, R410, 12 R321). -/
def State.fieldUnit (s : State) (b : Blk) (u off : Nat) : Nat :=
  match b with
  | .att => if off = 0x18 ∨ off = 0x20 then s.fld Reg.ATT_WIN_SEL 0 else u
  | .srv => if 0x30 ≤ off ∧ off ≤ 0x58 then s.fld Reg.SRV_SEL_TRACT 0 else u
  | .dbg => if off = 0x20 then 1 else u
  | _ => u

/-- The offset whose fields a register has: the second breakpoint has the fields of the first. -/
def fieldOff (b : Blk) (off : Nat) : Nat := if b == .dbg && off == 0x20 then 0x18 else off

/-- The fields of a register: bit 3 of xx_ID and its ranks differ between the stacks and the channels (07 R179). -/
def regFields (b : Blk) (u off : Nat) : List Fld :=
  b.fields.filter fun f => f.off == fieldOff b off &&
    !(b == .xx && ((f.idn == Reg.HBC_MAP.idn && decide (8 ≤ u)) || (f.idn == Reg.DDC_PRESENT.idn && decide (u < 8))))

/-! ### What fields show that no table entry holds -/

/-- An engine of a parcel executes. -/
def State.engBusy (s : State) (p e : Nat) : Bool := (s.eng p e).flight.any fun f => f.stage == .run || f.stage == .held

/-- PCT_TAPER_ASLEEP (02 R57): the taper is asleep with no call queued. Held in reset, as after module reset, it shows 0. -/
def State.taperAsleep (s : State) (p : Nat) : Bool :=
  let e := s.eng p 5
  !s.bit Reg.PCT_TAPER_RESET p && !(s.par p).taper.running && !s.bit Reg.PCT_TAPER_TRAPPED p && e.queue == [] && e.flight == []

/-- The parcel block (02 R57). -/
def State.pctViews (s : State) (p : Nat) : List (Fld × Nat) :=
  let t := s.ptract p
  let q (e : Nat) := (s.eng p e).queue.length
  [(Reg.PCT_PARCEL, p), (Reg.PCT_TOWNSHIP, p / 16), (Reg.PCT_LOCAL, p % 16), (Reg.PCT_DISABLED, b2n (s.disabled p)),
   (Reg.PCT_TRACT, t.getD 0), (Reg.PCT_IN_TRACT, b2n t.isSome), (Reg.PCT_TAPER_ASLEEP, b2n (s.taperAsleep p)),
   (Reg.PCT_Q_TENSOR, q 0), (Reg.PCT_Q_VECTOR, q 1), (Reg.PCT_Q_MOVE, q 2), (Reg.PCT_Q_EXCHANGE, q 3),
   (Reg.PCT_Q_BEACON, q 4), (Reg.PCT_Q_TAPER, q 5),
   (Reg.PCT_BUSY, ((List.range 6).map fun e => b2n (s.engBusy p e) * 2 ^ e).foldl (· + ·) 0)]

/-- Milliseconds since a lane's last full calibration, saturating (10 R255). -/
def State.calAge (s : State) (x : Lane) : Nat :=
  match x.calAt with
  | some t => min 0xFFFFFF ((s.datum - t) / 1000000)
  | none => 0xFFFFFF

/-- The tract of this module that holds an owner's job (11 R286). -/
def State.ownerTract (s : State) (o : Owner) : Option Nat :=
  if o.state = ownFree then none
  else (List.range 8).find? fun t =>
    (s.tract t).job == o.job && (s.tract t).epoch == o.epoch && s.bit Reg.TRC_CONFIGURED t && s.fld Reg.TRC_STATE_CODE t != 0

/-- The link block: the lane, the owner entry and the grant selected (10 R255, 11 R286). -/
def State.lnkViews (s : State) (k : Nat) : List (Fld × Nat) :=
  let x := s.lane k (s.bit Reg.LNK_SEL_TX k) (s.fld Reg.LNK_SEL_LANE k)
  let o := s.owner k (s.fld Reg.LNK_OWN_IDX k)
  let g := s.grantNow k (s.fld Reg.LNK_EASE_GRP k)
  let cad := s.cadWord k
  [(Reg.LNK_INDEX, k), (Reg.LNK_DIE, k / 3), (Reg.LNK_ROLE, x.role), (Reg.LNK_SYM_ERR, x.symErr), (Reg.LNK_MARGIN, x.margin),
   (Reg.LNK_CAL_AGE, s.calAge x), (Reg.LNK_TAPS, x.taps), (Reg.LNK_CTLE, x.ctle), (Reg.LNK_DFE1, x.dfe1),
   (Reg.LNK_ADC_GAIN, x.gain), (Reg.LNK_CDR_PHASE, x.cdr), (Reg.LNK_PPM, x.ppm), (Reg.LNK_OVR_TAPS, x.ovrTaps),
   (Reg.LNK_OVR_TX_EN, b2n x.ovrTx), (Reg.LNK_OVR_RX_FREEZE, b2n x.frozen), (Reg.LNK_OWN_JOB, o.job), (Reg.LNK_OWN_STATE, o.state),
   (Reg.LNK_OWN_TRACT, (s.ownerTract o).getD 0), (Reg.LNK_OWN_LOCAL, b2n (s.ownerTract o).isSome), (Reg.LNK_OWN_EPOCH, o.epoch),
   (Reg.LNK_CAD_ENTRY, cad % 2 ^ 32), (Reg.LNK_CAD_VALID, cad / 2 ^ 32), (Reg.LNK_EASE_OWNER, g.getD 0), (Reg.LNK_EASE_VALID, b2n g.isSome)]

/-- HBM slots reserved by sessions of tract t and not yet allocated (12 R304). -/
def State.reservedSlots (s : State) (t : Nat) : Nat :=
  ((s.sessions.filter fun kv => kv.2.tract == t && kv.2.state != 0).map fun kv => kv.2.reserved).foldl (· + ·) 0

/-- The serve block: the tract, session and account selected (12 R321). -/
def State.srvViews (s : State) : List (Fld × Nat) :=
  let t := s.fld Reg.SRV_SEL_TRACT 0
  let ps := (s.srvOf t).ps
  let live := s.sessions.filter fun kv => kv.2.tract == t && kv.2.state != 0
  let x := s.sess (s.fld Reg.SRV_SESS_IDX 0)
  let a := s.acct (s.fld Reg.SRV_ACCT_IDX 0)
  [(Reg.SRV_SESS_LIVE, live.length), (Reg.SRV_SESS_PARKED, live.countP fun kv => kv.2.state == ssParked),
   (Reg.SRV_HBM_FREE, s.freeCount t ps false - s.reservedSlots t), (Reg.SRV_DDR_FREE, s.freeCount t ps true),
   (Reg.SRV_SESS_STATE, x.state), (Reg.SRV_SESS_ACCT, (s.ring x.ring).acct), (Reg.SRV_SESS_RING, x.ring), (Reg.SRV_SESS_K, x.k),
   (Reg.SRV_SESS_EXPIRED, b2n x.expired), (Reg.SRV_SESS_SNUFF, b2n (x.snuff != [])), (Reg.SRV_SESS_LEN, x.tokens.length),
   (Reg.SRV_ACCT_OPEN, b2n a.isOpen), (Reg.SRV_ACCT_TRACT, a.tract), (Reg.SRV_ACCT_RATE, a.rate), (Reg.SRV_ACCT_BUCKET, a.bucket)]

/-- The safety monitor: the parcel and the record part selected (14 R366). -/
def State.sfmViews (s : State) : List (Fld × Nat) :=
  let p := s.fld Reg.SFM_Q_PARCEL 0
  let x := s.safety
  let n := ((tabGet [] x.counted p).filter fun t => decide (s.datum < t + dayNs)).length
  [(Reg.SFM_Q_COUNT, min 3 n), (Reg.SFM_Q_MARKED, b2n (tabGet false x.marked p)), (Reg.SFM_Q_HARD, b2n (tabGet false x.hard p)),
   (Reg.SFM_Q_LAST_TICK, tabGet 0 x.lastTick p / 16)]

/-- The fields of a block whose value follows from other state. -/
def State.views (s : State) (b : Blk) (u : Nat) : List (Fld × Nat) :=
  match b with
  | .pct => s.pctViews u
  | .xx => [(Reg.XX_INDEX, u % 8)]
  | .trc => [(Reg.TRC_NUM, u)]
  | .twn => [(Reg.TWN_NUM, u), (Reg.TWN_X, u % 8), (Reg.TWN_Y, u / 8), (Reg.TWN_USABLE, (s.usable u).length)]
  | .lnk => s.lnkViews u
  | .srv => s.srvViews
  | .sfm => s.sfmViews
  | .clk => [(Reg.CLK_HOLD_S, match s.clk.holdSince with
      | some t => min 0xFFFF ((s.datum - t) / 1000000000)
      | none => 0)]
  | .dbg => [(Reg.DBG_BEACON_COUNT, (s.beacon (s.fld Reg.DBG_BEACON_NUM 0)).count)]
  | _ => []

/-- Fields that a one-time store fixes (16 R399, R400; DESIGN CHOICE, log entry 7). -/
def idnFixed (f : Fld) : Bool := f.blk == .idn && decide (f.off < 0x70)

/-- What a field reads as (00 R7, R10): a write-only field 0, an expert field whose function is closed its reset value. -/
def State.fieldShows (s : State) (f : Fld) (b : Blk) (u off : Nat) : Nat :=
  if f.acc == .wo then 0
  else if !s.expertOpen f then s.startVal f (s.fieldUnit b u off)
  else if idnFixed f then Config.identity f.idn % 2 ^ f.w
  else
    match (s.views b u).find? fun v => v.1.idn == f.idn with
    | some v => v.2 % 2 ^ f.w
    | none => s.fld f (s.fieldUnit b u off)

/-- The 64 bits of a register. -/
def State.regWord (s : State) (b : Blk) (u off : Nat) : Nat :=
  ((regFields b u off).map fun f => s.fieldShows f b u off * 2 ^ f.lo).foldl (· + ·) 0

/-- A register is read: `lastRead` is what it returned. Some reads have an effect of their own; a link shows its lanes as they are now. -/
def State.regLoad (s : State) (g : Agent) (b : Blk) (u off : Nat) : State :=
  let s := if b == .lnk then s.settle u else s
  let plain := { s with lastRead := BitVec.ofNat 64 (s.regWord b u off) }
  match b with
  | .pct =>
    if s.disabled u && off != 0 then { s with lastRead := 0 }
    else if s.shut (u / 16) && (off == 0xA0 || off == 0xB0) then s.noData
    else if 0x800 ≤ off then { s with lastRead := BitVec.ofNat 64 (s.liveP u ((off - 0x800) / 8)) }
    else if off = 0xA0 then s.codeData g u none
    else if off = 0xB0 then s.descData g u none
    else plain
  | .xx => if off = 0x58 then s.calData g u none else plain
  | .clk => if off = 0x08 then s.clkNsRead else plain
  | .lnk => if off = 0x138 then s.cadRead u else plain
  | .sfm => if off = 0x40 then s.logRead else plain
  | _ => plain

/-! ### Writes -/

/-- The values a field may be given: every other value is a reserved encoding (00 R8 and the register tables). -/
def fieldRules : List (Fld × (State → Nat → Nat → Bool)) :=
  [(Reg.PCT_WHEEL_SET, fun _ _ v => (List.range 16).all fun k => bitsOf v (3 * k) 3 != 7),
   (Reg.XX_REF_OVR, fun _ _ v => v != 3),
   (Reg.XX_CAL_POS, fun _ u v => decide (v < positionsOf u)), (Reg.XX_CAL_LANE, fun _ u v => decide (v < lanesOf u)),
   (Reg.TRC_PLAT_ADDR, fun _ _ v => v % 64 == 0), (Reg.TRC_START_TICK_NUM, fun s t _ => s.fld Reg.TRC_STATE_CODE t == 2),
   (Reg.TRC_LAG_LIMIT, fun _ _ v => v != 0), (Reg.TRC_STALL_LIMIT, fun _ _ v => decide (16 ≤ v)), (Reg.TRC_FREEZE_LIMIT, fun _ _ v => v != 0),
   (Reg.CLK_PARENT, fun _ _ v => v != 6), (Reg.CLK_EXCH_TICKS, fun _ _ v => decide (16 ≤ v)), (Reg.CLK_HOLD_LIMIT, fun _ _ v => v != 0),
   (Reg.TWN_DROOP_THR, fun _ _ v => decide (1 ≤ v ∧ v ≤ 6)), (Reg.TWN_DROOP_HOLD, fun _ _ v => decide (8 ≤ v)),
   (Reg.LNK_ROLL_MS, fun _ _ v => decide (4 ≤ v)), (Reg.LNK_MARGIN_MIN, fun _ _ v => decide (4 ≤ v)),
   (Reg.LNK_MGMT_UNITS, fun _ _ v => decide (v ≤ 64)), (Reg.LNK_SEL_LANE, fun _ _ v => decide (v ≤ 16)),
   (Reg.LNK_INJ_LANE, fun _ _ v => decide (v ≤ 16)), (Reg.LNK_STONE_MS, fun _ _ v => v != 0),
   (Reg.LNK_CAD_SLOT, fun _ _ v => decide (v ≤ 1279)), (Reg.LNK_CAD_TAB, fun _ _ v => v != 3),
   (Reg.LNK_SAMPLE_BASE, fun _ _ v => v % 32 == 0), (Reg.LNK_SAMPLE_LOG, fun _ _ v => decide (v ≤ 20)),
   (Reg.LNK_RING_LOG, fun _ _ v => decide (8 ≤ v ∧ v ≤ 24)),
   (Reg.SRV_RATIO_OVR, fun s t v => decide (v < s.tRatios t)), (Reg.SRV_RATIO_HOLD, fun _ _ v => v != 0),
   (Reg.SFM_LWDT_MS, fun _ _ v => decide (10 ≤ v)), (Reg.SFM_T_DIE, fun _ _ v => decide (90 ≤ v ∧ v ≤ 110)),
   (Reg.SFM_T_MEM, fun _ _ v => decide (85 ≤ v ∧ v ≤ 105)), (Reg.MCB_FW_ADDR, fun _ _ v => v % 64 == 0),
   (Reg.ATT_WIN_BASE, fun _ _ v => v % 4096 == 0), (Reg.ATT_WIN_LOG, fun _ _ v => decide (12 ≤ v ∧ v ≤ 48)),
   (Reg.ATT_WIN_SCOPE, fun _ _ v => decide (v ≤ 8)), (Reg.ATT_RPTQ_BASE, fun _ _ v => v % 64 == 0),
   (Reg.ATT_CMDQ_BASE, fun _ _ v => v % 64 == 0), (Reg.ATT_RPTQ_LOG, fun _ _ v => decide (6 ≤ v ∧ v ≤ 16)),
   (Reg.ATT_CMDQ_LOG, fun _ _ v => decide (6 ≤ v ∧ v ≤ 16)), (Reg.IDN_ATT_OUT, fun _ _ v => v % 64 == 0),
   (Reg.PWR_STRETCH_MAX, fun _ _ v => decide (v ≤ 20)), (Reg.PWR_T_DIE_WARN, fun _ _ v => decide (70 ≤ v ∧ v ≤ 105)),
   (Reg.PWR_T_COOL_WARN, fun _ _ v => decide (20 ≤ v ∧ v ≤ 60))]

/-- Unit u's field may take a value. -/
def State.fieldOk (s : State) (f : Fld) (u v : Nat) : Bool :=
  match fieldRules.find? fun r => r.1.idn == f.idn with
  | some r => r.2 s u v
  | none => true

/-- Registers whose writes are an operation of their own; the plain storing of fields leaves them alone. -/
def ownWrite (b : Blk) (off : Nat) : Bool :=
  match b with
  | .pct => off == 0xA0 || off == 0xB0
  | .xx => off == 0x58
  | .clk => off == 0x30
  | .lnk => off == 0x60 || off == 0x140
  | .att => off == 0x18 || off == 0x20
  | _ => false

/-- Fields, stored or not, whose write is an operation of its own. -/
def ownField (f : Fld) : Bool :=
  [Reg.PCT_TAPER_RESET, Reg.LNK_ROLL_EN, Reg.SRV_EN, Reg.DBG_BEACON_COUNT, Reg.PWR_CAP_W].any fun x => x.idn == f.idn

/-- Store one field of a written word (00 R7, R8, R10): the state, and whether the value was refused. -/
def State.storeField (s : State) (u v : Nat) (f : Fld) : State × Bool :=
  let x := bitsOf v f.lo f.w
  match f.acc with
  | .rw =>
    if ownField f || !s.expertOpen f then (s, false)
    else if s.fieldOk f u x then (s.setFld f u x, false)
    else (s, true)
  | .w1c => (if x = 1 ∧ s.raisedNow f u = false then s.setFld f u 0 else s, false)
  | _ => (s, false)

/-- Store the fields of a written word; a refused value is recorded once for the write. -/
def State.storeFields (s : State) (g : Agent) (addr u v : Nat) (l : List Fld) : State :=
  let r := l.foldl (fun (acc : State × Bool) f =>
    let x := acc.1.storeField u v f
    (x.1, acc.2 || x.2)) (s, false)
  if r.2 then r.1.regError g addr else r.1

/-- Do `act` where `c`. -/
def State.when (s : State) (c : Bool) (act : State → State) : State := if c then act s else s

/-- Bit f of a written word is 1, and the field is open (00 R10). -/
def State.asked (s : State) (f : Fld) (v : Nat) : Bool := bitAt v f.lo && s.expertOpen f

/-- The parcel block's commands (02 R57). -/
def State.pctCommands (s : State) (g : Agent) (p off v : Nat) : State :=
  if off = 0x08 then
    let s := s.when (bitAt v 0) fun s => s.pctStart p
    let s := s.when (bitAt v 1) fun s => s.pctStop p
    let s := s.when (s.asked Reg.PCT_STOP_NOW v) fun s => s.pctStopNow p
    if bitAt v 3 then s.taperReset p true else s.taperReset p false
  else if off = 0xA0 then s.codeData g p (some (BitVec.ofNat 64 v))
  else if off = 0xB0 then s.descData g p (some (BitVec.ofNat 64 v))
  else if 0x800 ≤ off then s.paramWrite p ((off - 0x800) / 8) (BitVec.ofNat 64 v)
  else s

/-- The controllers' commands (07 R179, R180). -/
def State.xxCommands (s : State) (g : Agent) (c off v : Nat) : State :=
  if off = 0x10 then
    let s := s.when (bitAt v 0) fun s => s.xxRetire c
    let s := s.when (s.asked Reg.XX_INJECT_CE v) fun s => s.setTctl c { s.tctl c with armCe := true }
    let s := s.when (s.asked Reg.XX_INJECT_UE v) fun s => s.setTctl c { s.tctl c with armUe := true }
    s.when (bitAt v 7) fun s => s.xxCountClr c
  else if off = 0x58 then s.calData g c (some (BitVec.ofNat 64 v))
  else if off = 0x68 then s.when (s.asked Reg.XX_TRAIN_REQ v) fun s => s.xxTrainReq g c
  else s

/-- The tracts' commands (08 R216), in the order of R217. -/
def State.trcCommands (s : State) (g : Agent) (t off v : Nat) : State :=
  if off = 0x08 then
    let s := s.when (bitAt v 4) fun s => s.trcReset g t
    let s := s.when (s.asked Reg.TRC_STOP_NOW v) fun s => s.trcStopNow g t
    let s := s.when (bitAt v 2) fun s => s.trcStop g t
    let s := s.when (bitAt v 0) fun s => s.trcLoad g t
    let s := s.when (bitAt v 1) fun s => s.trcStart g t
    s.when (bitAt v 5) fun s => s.trcCountClr t
  else s

/-- The links' commands (10 R255, 11 R286). -/
def State.lnkCommands (s : State) (g : Agent) (k off v : Nat) : State :=
  if off = 0x10 then
    let s := s.when (bitAt v 0) fun s => s.trainLink g k
    let s := s.when (bitAt v 1 != s.bit Reg.LNK_ROLL_EN k) fun s => s.rollEn k (bitAt v 1)
    let s := s.when (s.asked Reg.LNK_ROLL_NOW v) fun s => s.rollNow k
    let s := s.when (s.asked Reg.LNK_ROLL_STOP_NOW v) fun s => s.rollStopNow k
    let s := s.when (s.asked Reg.LNK_DOWN v) fun s => s.downLink k
    let s := s.when (s.expertOpen Reg.LNK_FORCE_FAIL) fun s => s.forceFail g k (bitsOf v 5 5)
    let s := s.retestLane g k (bitsOf v 10 5)
    s.when (bitAt v 15) fun s => s.lnkCountClr k
  else if off = 0x60 then s.when (s.expertOpen Reg.LNK_OVR_TAPS) fun s => s.laneOvr g k v
  else if off = 0x68 then
    let s := s.when (s.asked Reg.LNK_INJ_CW v) fun s => s.setLink k { s.link k with injCw := some (s.ctl Reg.LNK_INJ_LANE k) }
    s.when (s.asked Reg.LNK_INJ_CRC v) fun s => s.setLink k { s.link k with injCrc := true }
  else if off = 0x120 then
    let s := s.when (bitAt v 32) fun s => s.passOwner g k
    s.when (s.asked Reg.LNK_RELEASE_STUCK v) fun s => s.releaseStuck k
  else if off = 0x140 then s.easeWrite g k v
  else if off = 0x178 then s.when (bitsOf v 0 48 % 32 == 0) fun s => s.setFld Reg.LNK_SAMPLE_IDX k 0
  else s

/-- SRV_CMD (12 R321, R322): an operation not listed is a reserved encoding (00 R8). -/
def State.srvCmdWrite (s : State) (g : Agent) (v : Nat) : State :=
  let i := bitsOf v 4 12
  let blk := bitsOf v 16 48
  match bitsOf v 0 4 with
  | 1 => s.openRing g i blk
  | 2 => s.closeRing g i
  | 3 => s.openAccount g blk
  | 4 => s.closeAccount g i
  | 5 => s.setAccount g i blk
  | _ => s.regError g (fieldAddr Reg.SRV_CMD_OP 0)

/-- The serve block's commands (12 R301, R318, R321). -/
def State.srvCommands (s : State) (g : Agent) (off v : Nat) : State :=
  if off = 0x08 then
    let s := s.srvEn (bitsOf v 0 8)
    s.when (s.expertOpen Reg.SRV_STOP_NOW) fun s => s.srvStop (bitsOf v 8 8)
  else if off = 0x10 then s.srvCmdWrite g v
  else if off = 0x20 then
    if bitAt v 12 then s.headBell (bitsOf v 0 12) (bitsOf v 32 16) else s.tailBell (bitsOf v 0 12) (bitsOf v 32 16)
  else s

/-- The attach block's commands (16 R391 to R393, R395). -/
def State.attCommands (s : State) (g : Agent) (off v : Nat) : State :=
  let w := s.fld Reg.ATT_WIN_SEL 0
  if off = 0x08 then
    let s := s.when (bitAt v 0) State.attTrain
    s.when (bitAt v 1) State.attCountClr
  else if off = 0x18 then s.winBase g w (bitsOf v 0 48)
  else if off = 0x20 then s.winAttr g w (bitsOf v 0 14)
  else if off = 0x38 then (if bitAt v 16 then s.rptHead (bitsOf v 0 16) else s.cmdTail (bitsOf v 0 16))
  else s

/-- The module control block's commands, in ascending bit order (15 R386). -/
def State.mcbCommands (s : State) (g : Agent) (off v : Nat) : State :=
  if off = 0x08 then
    let s := s.when (bitAt v 0) State.coldStart
    let s := s.when (bitAt v 1) fun s => s.warmStart g
    let s := s.when (bitAt v 2) State.adopt
    let s := s.when (bitAt v 3) fun s => s.fwStage g
    let s := s.when (bitAt v 4) fun s => s.recoveryGo []
    let s := s.when (bitAt v 5) fun s => s.retest g
    let s := s.when (bitAt v 6) fun s => s.markQuarantine (s.fld Reg.MCB_PARCEL 0)
    s.when (s.asked Reg.MCB_DRILL_STOP_NOW v) State.drillStopNow
  else s

/-- The safety monitor's commands (14 R357, R366). -/
def State.sfmCommands (s : State) (off v : Nat) : State :=
  if off = 0x08 then
    let s := s.when (bitAt v 0) fun s => s.goDark 13
    s.tractsDarkNow (bitsOf v 1 8)
  else if off = 0x10 then s.lwdtKick (bitsOf v 0 4)
  else s

/-- The debug block's commands (16 R407, R408, R410). -/
def State.dbgCommands (s : State) (off v : Nat) : State :=
  if off = 0x10 then
    let s := s.when (bitAt v 10) State.dbgHalt
    let s := s.when (bitAt v 11) State.dbgResume
    let s := s.when (bitAt v 12) State.dbgStep
    s.when (bitAt v 13) State.endToken
  else if off = 0x38 then s.when (bitAt v 15) fun s => s.dbgBeacon (s.fld Reg.DBG_BEACON_NUM 0) (bitsOf v 16 16)
  else s

/-- What a write does beyond storing fields: commands, in ascending bit order. -/
def State.regCommands (s : State) (g : Agent) (b : Blk) (u off v : Nat) : State :=
  match b with
  | .pct => s.pctCommands g u off v
  | .xx => s.xxCommands g u off v
  | .trc => s.trcCommands g u off v
  | .lnk => s.lnkCommands g u off v
  | .srv => s.srvCommands g off v
  | .att => s.attCommands g off v
  | .mcb => s.mcbCommands g off v
  | .sfm => s.sfmCommands off v
  | .dbg => s.dbgCommands off v
  | .clk =>
    if off = 0x30 then s.when (s.expertOpen Reg.CLK_SET_NS) fun s => s.clkSetNs g v
    else if off = 0x18 then s.discWritten
    else s
  | .pwr => if off = 0x10 then s.pwrCapW g (bitsOf v 0 16) else s
  | .idn => if off = 0x88 then s.when (bitAt v 0) fun s => s.idnAttReq g else s
  | .cfg => s
  | .twn => s

/-- Writes of a register by an agent that are dropped, with a register access error: the companion's to its own windows and to the
safety and debug blocks (16 R391), the debug port's to SFM_CTL and SFM_LWDT (14 R366), others' than the debug port's to the debug
block (16 R409), any to a report or command queue that holds unconsumed entries (16 R395), and any to a tract's load source, options
and mapping record while it is LOADING (08 R216). -/
def State.writeDenied (s : State) (g : Agent) (b : Blk) (u off : Nat) : Bool :=
  let x := s.att
  (g == .companion && ((b == .att && (off == 0x10 || off == 0x18 || off == 0x20)) || b == .sfm || b == .dbg)) ||
  (g == .debug && b == .sfm && (off == 0x08 || off == 0x10)) ||
  (g != .debug && b == .dbg) ||
  (b == .trc && [0x18, 0x20, 0x28].contains off && s.fld Reg.TRC_STATE_CODE u == 1) ||
  (b == .att && off == 0x28 && decide (x.rptHead < x.rptTail)) || (b == .att && off == 0x30 && decide (x.cmdHead < x.cmdTail))

/-- A register is written; a parcel whose township takes nothing in keeps its registers (09 R219). -/
def State.regStore (s : State) (g : Agent) (addr : Nat) (b : Blk) (u off v : Nat) : State :=
  if b == .pct && (s.disabled u || s.shut (u / 16)) then s
  else if s.writeDenied g b u off then s.regError g addr
  else
    let store (s : State) : State :=
      if ownWrite b off then s else s.storeFields g addr (s.fieldUnit b u off) v (regFields b u off)
    (if b == .xx then s.nextMode u store else store s).regCommands g b u off v

/-- An access of register space of n bytes at an address is one aligned 64-bit word (00 R6). -/
def regAligned (a n : Nat) : Bool := a % 8 == 0 && n == 8

end Sys2Proof.Machine
end

