-- ==== Sys2Proof/Machine/Access.lean ====
section
/-!
DEFINITION. Accesses of the module address map by outside agents: windows, scopes, address errors, uncorrectable data
(00 R6, 07 R153, R154, R170, 16 R391, R406). An access ends with a status as CPL gives it: 0 OK, 1 refused, 2 uncorrectable,
3 address error.
-/
namespace Sys2Proof.Machine

/-! ### Registers -/

/-- One 64-bit word of register space is read (00 R6, 07 R154). -/
def State.readReg (s : State) (g : Agent) (a : Nat) : Nat × State :=
  match regAt a with
  | some (b, u, off) => (0, s.regLoad g b u off)
  | none => (3, ({ s with lastRead := 0 }).addrError g a)

/-- One 64-bit word of register space is written. -/
def State.writeReg (s : State) (g : Agent) (a v : Nat) : Nat × State :=
  match regAt a with
  | some (b, u, off) => (0, s.regStore g a b u off v)
  | none => (3, s.addrError g a)

/-- Read registers: any access but one aligned word is not performed and returns zero. The companion's reads come in lines, each
of them eight words. -/
def State.readRegs (s : State) (g : Agent) (a n : Nat) : Nat × List Byte × State :=
  if regAligned a n then
    let r := s.readReg g a
    (r.1, leBytes 8 r.2.lastRead.toNat, r.2)
  else if g == .companion && a % 8 == 0 && n % 8 == 0 then
    (List.range (n / 8)).foldl (fun (acc : Nat × List Byte × State) i =>
      let r := acc.2.2.readReg g (a + 8 * i)
      (max acc.1 r.1, acc.2.1 ++ leBytes 8 r.2.lastRead.toNat, r.2)) (0, [], s)
  else (0, List.replicate n 0, s.regError g a)

/-- Write registers: any access but one aligned word is dropped (00 R6). -/
def State.writeRegs (s : State) (g : Agent) (a : Nat) (bs : List Byte) : Nat × State :=
  if regAligned a bs.length then s.writeReg g a (leNat bs) else (0, s.regError g a)

/-! ### Who may (16 R391, R406) -/

/-- An attribute of some window that holds an access lets it through. -/
def State.winAllows (s : State) (a n : Nat) (attr : Fld) : Bool := (List.range 16).any fun w => s.winHolds w a n && s.bit attr w

/-- Record a refused attach access. -/
def State.attRefuse (s : State) (reason addr : Nat) : State :=
  ((s.setFlds 0 [(Reg.ATT_ERR_ADDR, addr), (Reg.ATT_ERR_REASON, reason)]).count Reg.ATT_ERR_COUNT 0 1).raise Reg.ATT_EVT_REFUSED 0

/-- Why the companion's access is refused: 0 not, 1 no window, 2 no permission. Recovery boot takes its image with no window. -/
def State.winReason (s : State) (a n : Nat) (wr : Bool) : Nat :=
  let attr := if wr then Reg.ATT_WIN_WRITE else Reg.ATT_WIN_READ
  if s.recovery && inSram a && inSram (a + n - 1) then 0
  else if s.winAllows a n attr then 0
  else if (List.range 16).any fun w => s.winHolds w a n then 2
  else 1

/-- The scope bit that a line of the module address map needs: its tract's for the tract's parcels and regions, that of everything
else otherwise. -/
def State.lineScope (s : State) (line : Nat) : Nat :=
  if inParcelMem line then s.parcelScope (line / 0x400000)
  else if inRegs line then
    match regAt (line / 8 * 8) with
    | some (.pct, p, _) => s.parcelScope p
    | _ => 9
  else if s.inTier line then
    match (List.range 8).find? fun t => (s.tractRegions t).any fun r => decide (r.1 ≤ line ∧ line < r.2) with
    | some t => 1 + t
    | none => 9
  else 9

/-- The debug block answers whatever tract or other scope is in force. -/
def State.dbgBlockScope (s : State) : Bool := (List.range 9).any fun i => s.inScope (1 + i)

/-- The debug port's access lies within its scope. -/
def State.scopeHolds (s : State) (a n : Nat) : Bool :=
  if 0x90060000 ≤ a ∧ a + n ≤ 0x90070000 then s.dbgBlockScope
  else if inRegs a then s.inScope (s.lineScope a)
  else (accessLines a n).all fun l => s.inScope (s.lineScope l)

/-- Agent g's access is let through; otherwise it is refused with status 1, and recorded where the agent's errors are. -/
def State.admits (s : State) (g : Agent) (a n : Nat) (wr : Bool) : Option State :=
  match g with
  | .companion =>
    let r := s.winReason a n wr
    if r = 0 then none else some (s.attRefuse r a)
  | .debug => if s.scopeHolds a n then none else some (s.dbgError 3 a)
  | _ => none

/-- What an agent's own records show of a status (07 R154, R170, 16 R391, R406). -/
def State.noteStatus (s : State) (g : Agent) (a st : Nat) : State :=
  match g with
  | .companion => if st = 2 then s.attRefuse 3 a else if st = 3 then s.attRefuse 4 a else s
  | .debug => if st = 2 then s.dbgError 1 a else if st = 3 then s.dbgError 2 a else s
  | .serve =>
    if st = 2 then
      match (List.range 8).find? fun t => (s.tractRegions t).any fun r => decide (r.1 ≤ a ∧ a < r.2) with
      | some t => s.serveFault t
      | none => s
    else s
  | _ => s

/-! ### Accesses -/

/-- What a read returned. -/
def State.result (s : State) (bs : List Byte) : State := { s with lastRead := BitVec.ofNat 64 (leNat (bs.take 8)), lastData := bs }

/-- An access that has been let through: its status, and the state after it. -/
def State.perform (s : State) (g : Agent) (a n : Nat) (wr : Option (List Byte)) : Nat × State :=
  if inRegs a then
    match wr with
    | none =>
      let r := s.readRegs g a n
      (r.1, r.2.2.result r.2.1)
    | some bs => s.writeRegs g a bs
  else
    match wr with
    | none =>
      let r := s.fetch g a n
      (r.1, r.2.2.result r.2.1)
    | some bs => if (accessLines a n).all (s.reaches g) then s.writeMem g a bs else (3, s.addrError g a)

/-- An outside agent's access of n bytes. -/
def State.access (s : State) (g : Agent) (a n : Nat) (wr : Option (List Byte)) : Nat × State :=
  match s.admits g a n wr.isSome with
  | some s => (1, if wr.isNone then s.result (List.replicate n 0) else s)
  | none =>
    let r := s.perform g a n wr
    (r.1, r.2.noteStatus g a r.1)

/-- The RDs of a read of companion memory: at most four lines each (16 R388). -/
def rdParts (a n : Nat) : List (Nat × Nat) :=
  if n = 0 then []
  else (List.range ((a + n - 1) / 256 - a / 256 + 1)).map fun i =>
    let lo := max a ((a / 256 + i) * 256)
    (lo, min (a + n) ((a / 256 + i + 1) * 256) - lo)

/-- A read of companion memory goes out as RDs; its data come with their completions (16 R388, R391). -/
def State.apertureRead (s : State) (a n : Nat) : State :=
  (rdParts a n).foldl (fun s p =>
    let x := s.att
    let s := { s with att := { x with nextTag := (x.nextTag + 1) % 65536, reads := x.reads ++ [({ tag := x.nextTag, addr := p.1, len := p.2 } : AttRead)] } }
    s.attSend { typ := 1, vc := 0, tag := x.nextTag, lines := (accessLines p.1 p.2).length, addr := p.1 / 64 * 64 }) s

/-- The agents outside the parcels that access the map on their own (07 R153). -/
def outside (g : Agent) : Bool := g == .lantern || g == .serve || g == .companion || g == .debug

/-- An access ends with a status (07 R154, R170): a lantern's core takes an access fault on 2 and 3. -/
def ended (r : Nat × State) : State := { r.2 with lastStat := r.1 }

/-- OUTSIDE_AGENT_ACCESS (07 R153, R154): g reads len bytes at an address, or writes the bytes given. DESIGN CHOICE (log entry 89): the
command stands for the calendar position of KIND 2 or 4 that serves it. -/
def execOutsideAgentAccess (g : Agent) (addr len : Nat) (wr : Option (List Byte)) (s : State) : Host.Outcome State Fault Refusal :=
  if s.moduleDark then done s else
  let n := match wr with
    | some bs => bs.length
    | none => len
  if !outside g || n == 0 then done s
  else if g == .lantern && wr.isNone && inAperture addr && inAperture (addr + n - 1) then done (s.apertureRead addr n)
  else done (ended (s.access g addr n wr))

/-- REGISTER_WRITE (00 R6 to R10): g writes the low bytes of v, `size` of them, at an address of register space. -/
def execRegisterWrite (g : Agent) (addr size : Nat) (v : BitVec 64) (s : State) : Host.Outcome State Fault Refusal :=
  if s.moduleDark then done s else
  if outside g && inRegs addr && size != 0 then done (ended (s.access g addr size (some (leBytes size v.toNat)))) else done s

end Sys2Proof.Machine
end

