-- ==== Sys2Proof/Machine/AttachMsg.lean ====
section
/-!
DEFINITION. Messages from the companion on Birvox attach: reads, completions, posted writes, credit (16 R388, R389).
-/
namespace Sys2Proof.Machine

/-- A header's CREDIT returns messages per VC; what waited for them may leave. -/
def State.creditBack (s : State) (credit : Nat) : State :=
  let x := s.att
  let spent := (List.range 4).foldl (fun t v => tabPut 0 t v (tabGet 0 t v - bitsOf credit (4 * v) 4)) x.spent
  { s with att := { x with spent := spent } }.attFlush

/-- A message of a VC has been taken: its place is to be returned to the companion. -/
def State.freeVc (s : State) (v : Nat) : State :=
  { s with att := { s.att with freed := tabPut 0 s.att.freed v (tabGet 0 s.att.freed v + 1) } }

/-- A message of VC v arrives with a CREDIT field; nothing arrives on a link that is not up. -/
def State.attArrive (s : State) (v credit : Nat) (act : State → State) : State :=
  if s.attUp then ((act (s.freeVc v)).creditBack credit) else s

/-- IDLE (16 R388): credit only. -/
def execIdle (credit : BitVec 16) (s : State) : Host.Outcome State Fault Refusal :=
  done (s.lit (if s.attUp then s.creditBack credit.toNat else s))

/-- A companion read is served at one instant, and its completion generated at that instant (R389, R390). -/
def State.serveRd (s : State) (a lines tag : Nat) : State :=
  let r := s.access .companion a (64 * lines) none
  let ok := r.1 == 0
  r.2.attSend { typ := 2, vc := 2, tag := tag, lines := if ok then lines else 0, status := r.1, addr := a,
                data := if ok then r.2.lastData else [] }

/-- RD (16 R389). -/
def execRd (addr : BitVec 48) (lines : Fin 5) (tag : BitVec 16) (credit : BitVec 16) (s : State) : Host.Outcome State Fault Refusal :=
  if s.moduleDark then done s else
  done (s.attArrive 0 credit.toNat fun s =>
    if lines.val = 0 then s.attSend { typ := 2, vc := 2, tag := tag.toNat, addr := addr.toNat }
    else s.serveRd (addr.toNat / 64 * 64) lines tag.toNat)

/-- CPL (16 R388, R391): lines of companion memory come, and the read with its tag completes; status 1 or 2 leaves them
uncorrectable to the serve block, and a lantern's read ends with an access fault. -/
def execCpl (tag : BitVec 16) (addr : BitVec 48) (status : Fin 256) (data : List Byte) (credit : BitVec 16) (s : State) :
    Host.Outcome State Fault Refusal :=
  if s.moduleDark then done s else
  done (s.attArrive 2 credit.toNat fun s =>
    let a := addr.toNat / 64 * 64
    let rd := s.att.reads.find? fun r => r.tag == tag.toNat
    let s := { s with att := { s.att with reads := s.att.reads.filter fun r => r.tag != tag.toNat } }
    if status.val = 0 then
      let bs := data.take 256
      let s := if inAperture a && inAperture (a + bs.length - 1) then s.wrBytes a bs else s
      match rd with
      | some r => s.result (s.rdBytes r.addr r.len)
      | none => s
    else
      match rd with
      | some r =>
        let s := (touchedWords (r.addr / 64 * 64) ((r.addr + r.len + 63) / 64 * 64 - r.addr / 64 * 64)).foldl
          (fun s w => { s with uncorr := tabPut false s.uncorr w true }) s
        s.result (List.replicate r.len 0)
      | none => s)

/-! ### Posted writes -/

/-- A 64-bit word of a line is written where enabled: a word enabled in part that is uncorrectable stays as it is. -/
def State.writeWord (s : State) (a en : Nat) (bs : List Byte) : Nat × State :=
  if en = 0 then (0, s)
  else if en ≠ 255 ∧ tabGet false s.uncorr (a / 8) = true then (2, if inParcelMem a || inTaperMem a then s.noteMemError (memParcel a) true (a / 64 * 64) 0 5 else s)
  else
    let met := if en ≠ 255 ∧ (inParcelMem a || inTaperMem a) = true ∧ tabGet false s.correc (a / 8) = true then [a / 64 * 64] else []
    (0, (s.noteLines 5 met).wrBytes a ((List.range 8).map fun i => if bitAt en i then bs.getD i 0 else s.rd8 (a + i)))

/-- A line is written under byte enables (R388, 07 R165, R170). -/
def State.writeMasked (s : State) (line mask : Nat) (bs : List Byte) : Nat × State :=
  if s.shutLine line then (0, s.refuseLines [line])
  else if mask = 2 ^ 64 - 1 then s.writePart .companion line bs
  else if s.inTier line then
    let old := s.readLine .companion line
    if old.1 then (2, old.2)
    else
      let merged := (List.range 64).map fun i => if bitAt mask i then bs.getD i 0 else old.2.rd8 (line + i)
      (0, (((old.2.countServed (s.ctrlOf line)).cancelRewrite line).outsideWrote line 64).agentWrite line merged)
  else
    let r := (List.range 8).foldl (fun (acc : Nat × State) i =>
      let x := acc.2.writeWord (line + 8 * i) (bitsOf mask (8 * i) 8) ((bs.drop (8 * i)).take 8)
      (max acc.1 x.1, x.2)) (0, s)
    (r.1, r.2.binvLine line)

/-- A line of register space is written: each word enabled whole is one write; one enabled in part is not performed (00 R6). -/
def State.writeRegLine (s : State) (line mask : Nat) (bs : List Byte) : Nat × State :=
  (List.range 8).foldl (fun (acc : Nat × State) i =>
    let en := bitsOf mask (8 * i) 8
    let a := line + 8 * i
    if en = 0 then acc
    else if en = 255 then
      let x := acc.2.writeReg .companion a (leNat ((bs.drop (8 * i)).take 8))
      (max acc.1 x.1, x.2)
    else (acc.1, acc.2.regError .companion a)) (0, s)

/-- Each line of a WR in its turn, the byte enables `mask` for the last one: the worst status and the state. -/
def State.eachLine (s : State) (a mask : Nat) (bs : List Byte) (f : State → Nat → Nat → List Byte → Nat × State) : Nat × State :=
  let n := bs.length / 64
  (List.range n).foldl (fun (acc : Nat × State) i =>
    let x := f acc.2 (a + 64 * i) (if i + 1 = n then mask else 2 ^ 64 - 1) ((bs.drop (64 * i)).take 64)
    (max acc.1 x.1, x.2)) (0, s)

/-- A posted write of whole lines, the last under byte enables: admitted and reached, or dropped and recorded. -/
def State.serveWr (s : State) (a mask : Nat) (bs : List Byte) : State :=
  let n := bs.length / 64
  match s.admits .companion a (64 * n) true with
  | some s => s
  | none =>
    let r : Nat × State :=
      if inRegs a then s.eachLine a mask bs State.writeRegLine
      else if (accessLines a (64 * n)).all (s.reaches .companion) then s.eachLine a mask bs State.writeMasked
      else (3, s.addrError .companion a)
    r.2.noteStatus .companion a r.1

/-- WR (16 R389): one to four lines of data, posted. -/
def execWr (addr : BitVec 48) (data : List Byte) (mask : BitVec 64) (credit : BitVec 16) (s : State) : Host.Outcome State Fault Refusal :=
  if s.moduleDark then done s else
  done (s.attArrive 1 credit.toNat fun s =>
    let bs := data.take 256
    if bs.length < 64 then s else s.serveWr (addr.toNat / 64 * 64) mask.toNat bs)

end Sys2Proof.Machine
end

