-- ==== Sys2Proof/Machine/DebugPort.lean ====
section
/-!
DEFINITION. The debug port: the TAP's instructions, and the RISC-V debug module behind DMI (16 R405, R406, R409). What the
RISC-V External Debug Support specification, version 0.13.2, gives and this spec only names is PRESUMED (log entry 29).
-/
namespace Sys2Proof.Machine

/-! ### The TAP (R405) -/

/-- An instruction is selected and its data register scanned: what was captured is shifted out. Pins are driven only by EXTEST. -/
def State.tapScan (s : State) (ir out : Nat) : State := { s with tap := { s.tap with ir := ir, out := out, pins := none } }

/-- BYPASS acts: one bit, captured as 0; the bit shifted in last stays. -/
def State.tapBypass (s : State) (ir : Nat) (b : Bool) : State :=
  { s.tapScan ir 0 with tap := { (s.tapScan ir 0).tap with bypass := b } }

/-- What EXTEST and SAMPLE/PRELOAD capture: the levels of the pins, which are free values. -/
def State.tapSample (s : State) (ir : Nat) : State := s.draw.2.tapScan ir s.draw.1

/-- BYPASS (16 R405). -/
def execBypass (b : Bool) (s : State) : Host.Outcome State Fault Refusal := done (s.tapBypass 0x3F b)

/-- IDCODE (16 R405). -/
def execIdcode (s : State) : Host.Outcome State Fault Refusal := done (s.tapScan 0x01 0x0AB23A1F)

/-- SAMPLE/PRELOAD (16 R405): the boundary register is loaded. -/
def execSamplePreload (d : List Bool) (s : State) : Host.Outcome State Fault Refusal :=
  let s := s.tapSample 0x02
  done { s with tap := { s.tap with preload := d } }

/-- EXTEST (16 R405): in STANDBY or RECOVERY the boundary register drives the pins, as preloaded or as scanned. -/
def execExtest (d : Option (List Bool)) (s : State) : Host.Outcome State Fault Refusal :=
  if s.fld Reg.MCB_STATE_CODE 0 = 3 ∨ s.fld Reg.MCB_STATE_CODE 0 = 4 then
    let s := s.tapSample 0x00
    let bits := d.getD s.tap.preload
    done { s with tap := { s.tap with preload := bits, pins := some bits } }
  else done (s.tapBypass 0x00 false)

/-- TOKEN (16 R406): the challenge is captured; a token scanned in is offered. -/
def execToken (b : List Byte) (s : State) : Host.Outcome State Fault Refusal := done ((s.tapScan 0x21 (leNat s.tap.challenge)).offerToken b)

/-! ### DBGACC (R405, R406) -/

/-- The status an access has in the data register: 0 done, 2 error, 3 outside scope. -/
def accStat (st : Nat) : Nat := if st = 0 then 0 else if st = 1 then 3 else 2

/-- One aligned 64-bit access; its result appears at the next capture. -/
def State.dbgAccess (s : State) (a : Nat) (wr : Option Nat) : State :=
  let a := if inRegs a then a else a / 8 * 8
  let r := s.access .debug a 8 (wr.map (leBytes 8))
  let s := r.2
  { s with tap := { s.tap with accStatus := accStat r.1, accData := if wr.isNone then s.lastRead.toNat else s.tap.accData } }

/-- DBGACC (16 R405, R406): the last access's result is captured, and the access scanned in performed. -/
def execDbgacc (op : Fin 4) (addr : BitVec 48) (data : BitVec 64) (s : State) : Host.Outcome State Fault Refusal :=
  if s.moduleDark then done s else
  if s.dbgLocked then done (s.tapBypass 0x20 false)
  else
    let s := s.tapScan 0x20 (s.tap.accData * 2 ^ 50 + s.tap.accStatus * 2 ^ 114)
    match op.val with
    | 1 => done (s.dbgAccess addr.toNat none)
    | 2 => done (s.dbgAccess addr.toNat (some data.toNat))
    | _ => done s

/-! ### The debug module (R409) -/

/-- A register of the debug module by its DMI address. -/
def State.dmReg (s : State) (a : Nat) : Nat := tabGet 0 s.dm.regs a
/-- Replace it. -/
def State.setDm (s : State) (a v : Nat) : State := { s with dm := { s.dm with regs := tabPut 0 s.dm.regs a (v % 2 ^ 32) } }
/-- A hart. -/
def State.hart (s : State) (h : Nat) : Hart := tabGet {} s.dm.harts h
/-- Replace it. -/
def State.setHart (s : State) (h : Nat) (x : Hart) : State := { s with dm := { s.dm with harts := tabPut {} s.dm.harts h x } }

/-- The hart that dmcontrol selects. -/
def State.hartSel (s : State) : Nat := bitsOf (s.dmReg 0x10) 16 10 + 1024 * bitsOf (s.dmReg 0x10) 6 10

/-- A lost core is held in reset: its hart is unavailable (14 R357). -/
def State.hartLost (s : State) (h : Nat) : Bool := bitAt (s.fld Reg.SFM_LWDT_LOST 0) h

/-- Core h holds the request tracking of serve tract t: among the cores that were there at the tract's last step boundary (01
R18). -/
def State.tracks (s : State) (h t : Nat) : Bool :=
  let lost := (s.tract t).trackLost
  !bitAt lost h && Config.tracksTract lost h t

/-- Hart h halts: its watchdog deadline is suspended, and the serve tracts whose tracking it holds stop at their next step
boundary. -/
def State.haltHart (s : State) (h : Nat) : State :=
  if (s.hart h).halted || s.hartLost h then s
  else
    (List.range 8).foldl (fun s t =>
      if s.fld Reg.TRC_STATE_CODE t = 3 ∧ s.bit Reg.TRC_MODE t = true ∧ s.tracks h t = true then s.trcStop .lantern t else s)
      (s.setHart h { s.hart h with halted := true, resumeAck := false })

/-- Hart h runs again, with a fresh watchdog deadline. -/
def State.resumeHart (s : State) (h : Nat) : State :=
  if (s.hart h).halted then (s.setHart h { s.hart h with halted := false, resumeAck := true }).lwdtKick (2 ^ h) else s

/-- dmcontrol is written: DMACTIVE 0 resets the debug module; the hart it then selects is halted, resumed or acknowledged. -/
def State.dmControl (s : State) (v : Nat) : State :=
  if !bitAt v 0 then { s with dm := { s.dm with regs := [] } }
  else
    let s := s.setDm 0x10 (v % 2 ^ 26 / 64 * 64 + 1)
    let h := s.hartSel
    if 4 ≤ h then s
    else
      let s := s.when (bitAt v 28) fun s => s.setHart h { s.hart h with haveReset := false }
      if bitAt v 31 then s.haltHart h else s.when (bitAt v 30) fun s => s.resumeHart h

/-- Both bits of a pair of dmstatus, for the one hart selected. -/
def pairBits (b : Bool) (lo : Nat) : Nat := b2n b * 3 * 2 ^ lo

/-- dmstatus: version 0.13, authenticated. -/
def State.dmStatus (s : State) : Nat :=
  let h := s.hartSel
  let x := s.hart h
  let has := decide (h < 4)
  let up := has && !s.hartLost h
  2 + 2 ^ 7 + pairBits (up && x.halted) 8 + pairBits (up && !x.halted) 10 + pairBits (has && s.hartLost h) 12 + pairBits (!has) 14 +
    pairBits (has && x.resumeAck) 16 + pairBits (has && x.haveReset) 18

/-- The command error, kept until cleared. -/
def State.cmdErr (s : State) : Nat := bitsOf (s.dmReg 0x16) 8 3
/-- Record one, where none stands. -/
def State.setCmdErr (s : State) (e : Nat) : State := if s.cmdErr = 0 then s.setDm 0x16 (e * 256) else s

/-- The trigger registers of a hart, of the trigger it selects: TSELECT, TDATA1, TDATA2. -/
def triggerKey (x : Hart) (regno : Nat) : Option Nat :=
  if regno = 0x7A0 then some 8
  else if regno = 0x7A1 then some (2 * (tabGet 0 x.triggers 8 % 4))
  else if regno = 0x7A2 then some (2 * (tabGet 0 x.triggers 8 % 4) + 1)
  else none

/-- Write a register of a halted hart. -/
def State.hartWrite (s : State) (h regno v : Nat) : State :=
  let x := s.hart h
  match triggerKey x regno with
  | some k => s.setHart h { x with triggers := tabPut 0 x.triggers k (if k = 8 then v % 4 else v) }
  | none => s.setHart h { x with regs := tabInsert x.regs regno (BitVec.ofNat 64 v) }

/-- Read a register of a halted hart: one that its debugger has not written is the core's own, a free value, and is the same
when it is read again. -/
def State.hartRead (s : State) (h regno : Nat) : Nat × State :=
  let x := s.hart h
  match triggerKey x regno, x.regs.find? fun kv => kv.1 == regno with
  | some k, _ => (tabGet 0 x.triggers k, s)
  | none, some kv => (kv.2.toNat, s)
  | none, none =>
    let d := s.draw
    let v := d.1 % 2 ^ 64
    (v, d.2.setHart h { x with regs := tabInsert x.regs regno (BitVec.ofNat 64 v) })

/-- The program buffer runs on hart h: what it leaves in the registers, and whether it ends in an exception, are free values. -/
def State.runBuffer (s : State) (h : Nat) : State :=
  let d := s.draw
  let s := d.2.setHart h { s.hart h with regs := [] }
  if d.1 % 2 = 1 then s.setCmdErr 3 else s

/-- An abstract command: access register, of 32 or 64 bits; every other is not supported. -/
def State.abstract (s : State) (c : Nat) : State :=
  let h := s.hartSel
  let size := bitsOf c 20 3
  let regno := bitsOf c 0 16
  let transfer := bitAt c 17
  let s := s.setDm 0x17 c
  if s.cmdErr ≠ 0 then s
  else if bitsOf c 24 8 ≠ 0 ∨ (transfer = true ∧ size ≠ 2 ∧ size ≠ 3) then s.setCmdErr 2
  else if 4 ≤ h ∨ s.hartLost h = true ∨ (s.hart h).halted = false then s.setCmdErr 4
  else
    let s :=
      if !transfer then s
      else if bitAt c 16 then s.hartWrite h regno (s.dmReg 0x04 + (if size = 3 then s.dmReg 0x05 * 2 ^ 32 else 0))
      else
        let r := s.hartRead h regno
        let s := r.2.setDm 0x04 r.1
        if size = 3 then s.setDm 0x05 (r.1 / 2 ^ 32) else s
    let s := if bitAt c 19 then s.setDm 0x17 (putBits c 0 16 (regno + 1)) else s
    if bitAt c 18 then s.runBuffer h else s

/-! #### System bus access -/

/-- sbcs without its fixed fields: version 1, 48 address bits, 64-bit accesses. -/
def sbFixed : Nat := 1 * 2 ^ 29 + 48 * 2 ^ 5 + 2 ^ 3
/-- The address of the next system-bus access. -/
def State.sbAddr (s : State) : Nat := (s.dmReg 0x39 + s.dmReg 0x3A * 2 ^ 32) % 2 ^ 48
/-- A system-bus error is recorded. -/
def State.sbError (s : State) (e : Nat) : State := s.setDm 0x38 (putBits (s.dmReg 0x38) 12 3 e)
/-- Access size as sbcs stores it: its reset value 2 is stored as 0. -/
def State.sbSize (s : State) : Nat := (bitsOf (s.dmReg 0x38) 17 3).xor 2

/-- A system-bus access of 64 bits, in the lanterns' view of the map. -/
def State.sbAccess (s : State) (wr : Bool) : State :=
  let a := s.sbAddr
  if bitsOf (s.dmReg 0x38) 12 3 ≠ 0 then s
  else if s.sbSize ≠ 3 then s.sbError 4
  else if a % 8 ≠ 0 then s.sbError 3
  else
    let r := s.perform .lantern a 8 (if wr then some (leBytes 8 (s.dmReg 0x3C + s.dmReg 0x3D * 2 ^ 32)) else none)
    let s := r.2
    if r.1 ≠ 0 then s.sbError (if r.1 = 3 then 2 else 7)
    else
      let s := if wr then s else (s.setDm 0x3C (s.lastRead.toNat % 2 ^ 32)).setDm 0x3D (s.lastRead.toNat / 2 ^ 32)
      if bitAt (s.dmReg 0x38) 16 then (s.setDm 0x39 ((a + 8) % 2 ^ 32)).setDm 0x3A ((a + 8) % 2 ^ 48 / 2 ^ 32) else s

/-- sbcs is written: errors are cleared by ones. -/
def State.sbWrite (s : State) (v : Nat) : State :=
  let err := bitsOf (s.dmReg 0x38) 12 3
  let left := err - (err &&& bitsOf v 12 3)
  s.setDm 0x38 (bitAt v 20 |> b2n |> (· * 2 ^ 20) |> (· + (bitsOf v 17 3).xor 2 * 2 ^ 17) |> (· + b2n (bitAt v 16) * 2 ^ 16) |>
    (· + b2n (bitAt v 15) * 2 ^ 15) |> (· + left * 2 ^ 12))

/-! #### DMI -/

/-- The word of program or data at a DMI address that abstractauto names runs the command again. -/
def State.autoExec (s : State) (a : Nat) : State :=
  let auto := s.dmReg 0x18
  if (a = 0x04 ∨ a = 0x05) ∧ bitAt auto (a - 4) = true ∨ 0x20 ≤ a ∧ a < 0x28 ∧ bitAt auto (16 + (a - 0x20)) = true then
    s.abstract (s.dmReg 0x17)
  else s

/-- Harts that are halted, one bit each. -/
def State.haltSum (s : State) : Nat := ((List.range 4).map fun h => b2n (s.hart h).halted * 2 ^ h).foldl (· + ·) 0

/-- A debug-module register is read: its value, and the state after the read. -/
def State.dmRead (s : State) (a : Nat) : Nat × State :=
  match a with
  | 0x10 => (s.dmReg 0x10, s)
  | 0x11 => (s.dmStatus, s)
  | 0x12 => (s.draw.1 % 2 ^ 24, s.draw.2)
  | 0x16 => (8 * 2 ^ 24 + s.cmdErr * 256 + 2, s)
  | 0x17 => (0, s)
  | 0x18 => (s.dmReg 0x18, s)
  | 0x38 => (sbFixed + putBits (s.dmReg 0x38) 17 3 s.sbSize, s)
  | 0x39 => (s.dmReg 0x39, s)
  | 0x3A => (s.dmReg 0x3A, s)
  | 0x3C => (s.dmReg 0x3C, s.when (bitAt (s.dmReg 0x38) 15) fun s => s.sbAccess false)
  | 0x3D => (s.dmReg 0x3D, s)
  | 0x40 => (s.haltSum, s)
  | a => if a = 0x04 ∨ a = 0x05 ∨ 0x20 ≤ a ∧ a < 0x28 then (s.dmReg a, s.autoExec a) else (0, s)

/-- A debug-module register is written. -/
def State.dmWrite (s : State) (a v : Nat) : State :=
  match a with
  | 0x10 => s.dmControl v
  | 0x16 => s.setDm 0x16 ((s.cmdErr - (s.cmdErr &&& bitsOf v 8 3)) * 256)
  | 0x17 => s.abstract v
  | 0x18 => s.setDm 0x18 (bitsOf v 0 2 + bitsOf v 16 8 * 2 ^ 16)
  | 0x38 => s.sbWrite v
  | 0x39 => (s.setDm 0x39 v).when (bitAt (s.dmReg 0x38) 20) fun s => s.sbAccess false
  | 0x3A => s.setDm 0x3A (v % 2 ^ 16)
  | 0x3C => (s.setDm 0x3C v).sbAccess true
  | 0x3D => s.setDm 0x3D v
  | a => if a = 0x04 ∨ a = 0x05 ∨ 0x20 ≤ a ∧ a < 0x28 then (s.setDm a v).autoExec a else s

/-- The debug module is active, or the access makes it so: everything but dmcontrol ignores accesses otherwise. -/
def State.dmOpen (s : State) (a : Nat) : Bool := a == 0x10 || bitAt (s.dmReg 0x10) 0

/-- DMI (16 R409): the last operation's result is captured; the one scanned in is performed where scope bit 0 allows. -/
def execDmi (op : Fin 4) (addr : BitVec 7) (data : BitVec 32) (s : State) : Host.Outcome State Fault Refusal :=
  if s.moduleDark then done s else
  if s.dbgLocked then done (s.tapBypass 0x11 false)
  else
    let s := s.tapScan 0x11 (s.dm.stat + s.dm.data * 4)
    let a := addr.toNat
    if op.val = 0 ∨ s.dm.stat ≠ 0 then done s
    else if op.val = 3 then done { s with dm := { s.dm with stat := 2 } }
    else if !s.inScope 0 then done { s.dbgError 3 a with dm := { (s.dbgError 3 a).dm with stat := 2 } }
    else if !s.dmOpen a then done { s with dm := { s.dm with data := 0 } }
    else if op.val = 1 then
      let r := s.dmRead a
      done { r.2 with dm := { r.2.dm with data := r.1 } }
    else
      let t := s.dmWrite a data.toNat
      done { t with dm := { t.dm with data := data.toNat } }

/-- DTMCS (16 R409): version 0.13, a 7-bit address, the status of the last operation; a write of DMIRESET or DMIHARDRESET clears
that. -/
def execDtmcs (v : BitVec 32) (s : State) : Host.Outcome State Fault Refusal :=
  if s.dbgLocked then done (s.tapBypass 0x10 false)
  else
    let s := s.tapScan 0x10 (1 + 7 * 16 + s.dm.stat * 2 ^ 10)
    if bitAt v.toNat 16 || bitAt v.toNat 17 then done { s with dm := { s.dm with stat := 0 } } else done s

end Sys2Proof.Machine
end

