-- ==== Sys2Proof/Machine/MemTemp.lean ====
section
/-!
DEFINITION. Temperatures of HBM stacks and DIMMs (07 R163 to R166, 14 R349 class E7).
-/
namespace Sys2Proof.Machine

/-- The refresh mode a temperature requires (07 R163): up to 85 °C mode A, up to 95 °C mode B, above it B with
additions. -/
def refNeedOf (t : Nat) : Nat := if t ≤ 85 then 0 else if t ≤ 95 then 1 else 2

/-- MEMORY_TEMP_READ (07 R165, R166): controller c's temperature is read, and sets the refresh it needs and the
hottest of all (17 R423); at or above SFM_T_MEM the module goes dark (14 R349). -/
def execMemoryTempRead (c : CtrlId) (t : Fin 256) (s : State) : Host.Outcome State Fault Refusal :=
  let need := refNeedOf t
  let plan := s.fld Reg.XX_REF_PLAN c - 1
  let rose := decide (s.fld Reg.XX_REF_NEED c ≤ plan ∧ plan < need)
  let s := s.setFlds c [(Reg.XX_TEMP, t.val), (Reg.XX_REF_NEED, need)]
  let s := if rose then s.raise Reg.XX_EVT_TEMP c else s
  let s := s.setFld Reg.PWR_T_MEM_MAX 0 (((List.range 16).map fun c => s.fld Reg.XX_TEMP c).foldl max 0)
  if s.ctl Reg.SFM_T_MEM 0 ≤ t.val then done (s.goDark 7) else done s

end Sys2Proof.Machine
end

