-- ==== Sys2Proof/Machine/Vector.lean ====
section
/-!
DEFINITION. The vector engine (02 R44 to R46, 03 R77 to R82, 05 R114 to R119, R124).
-/
namespace Sys2Proof.Machine

/-! ### Sources, ranges and write-back -/

/-- The wicks of an instruction's range, rising. -/
def rangeOf (q : QEntry) : List Nat := (List.range (wCount q.w + 1)).map (fun i => wFirst q.w + i)

/-- The acting wicks: those of the range whose predicate is 1, or all of it when PRED is 0 (02 R45). -/
def State.acting (s : State) (p : Nat) (q : QEntry) : List Nat :=
  if wPred q.w then (rangeOf q).filter (s.pred p) else rangeOf q

/-- The FP32 code of an integer immediate: −4,096 to 4,095 convert exactly (03 R61). -/
def immToFp32 (i : Int) : Nat := (fmtFp32.round .nearest true (decide (i < 0)) i.natAbs 0).val

/-- A vector source as 32 bits for one wick (03 R61). `fp` says the operation is an FP32 one, whose
immediates convert to FP32. -/
def State.vsrc (s : State) (p w : Nat) (fp : Bool) (o : Opnd) : Nat :=
  match o with
  | .wreg r => s.wreg p w r
  | .special 0 => w
  | .special 1 => s.widx' p w
  | .special _ => b2n (s.pred p w)
  | .imm i => if fp then immToFp32 i else wrapTo 32 i
  | o => o.num 32

/-- The wick quarters that hold at least one wick of the range (02 R44). -/
def quarters (q : QEntry) : Nat := (wFirst q.w + wCount q.w) / 1024 - wFirst q.w / 1024 + 1

/-- Write one register of several wicks. -/
def State.writeWicks (s : State) (p r : Nat) (l : List (Nat × Nat)) : State :=
  l.foldl (fun s wv => s.setWreg p wv.1 r wv.2) s

/-- The last act of an instruction that writes registers and no memory (03 R68, R69): OR the flags into the flag word in a
phase of the vector engine, or fail with UNCORRECTABLE_MEMORY on that word, the registers then holding free values. Without
such a phase the OR waits forever (02 R49). -/
def State.orLast (s : State) (p : Nat) (q : QEntry) (flags : Nat) (time : Option (Nat × Nat)) (free : State) : Effect :=
  if wFlagSel q.w ≠ 0 ∧ s.hasPhase p 1 = false then { st := s, time := none }
  else
    let r := s.orFlagWord p (wFlagSel q.w) flags
    if r.2 then { st := free, status := 0x40, time := time } else { st := r.1, time := time }

/-- The end of an instruction that writes VD of the acting wicks and no memory. -/
def State.commitWicks (s : State) (p : Nat) (q : QEntry) (l : List (Nat × Nat)) (flags : Nat)
    (time : Option (Nat × Nat)) : Effect :=
  (s.writeWicks p (wVd q.w) l).orLast p q flags time
    (l.foldl (fun s wv => let d := s.draw; d.2.setWreg p wv.1 (wVd q.w) d.1) s)

/-- Occupancy q·a + b, latency occupancy + c (03 R78). -/
def vtime (q : QEntry) (a b c : Nat) : Option (Nat × Nat) := some (quarters q * a + b, quarters q * a + b + c)

/-- A lanewise instruction: VD of each acting wick from its sources. -/
def lanewise (p : Nat) (fp : Bool) (f : Nat → Nat → Nat → Res) (mult lat : Nat) (s : State) (q : QEntry) : Effect :=
  let rs := (s.acting p q).map fun w =>
    (w, f (s.vsrc p w fp (q.op 0)) (s.vsrc p w fp (q.op 1)) (s.vsrc p w fp (q.op 2)))
  s.commitWicks p q (rs.map fun r => (r.1, r.2.val)) (unionFlags (rs.map fun r => r.2.flags)) (vtime q mult 0 lat)

/-- A two-operand FP32 instruction on decoded operands. -/
def fpBin (f : Num → Num → Res) (a b _c : Nat) : Res := f (fp32 a) (fp32 b)

/-- A lanewise integer instruction: it raises no flag. -/
def intOp (f : Nat → Nat → Nat) (a b _c : Nat) : Res := ⟨f a b % 2 ^ 32, 0⟩

/-- VSRA: arithmetic right shift. -/
def sraOp (a b : Nat) : Nat := wrapTo 32 (sextOf 32 a / ((2 ^ (b % 32) : Nat) : Int))

/-! ### Predicates, index registers, selection (03 R78, R80) -/

/-- VCMP's condition on signed integers. -/
def cmpInt (sub a b : Nat) : Bool :=
  let x := sextOf 32 a
  let y := sextOf 32 b
  match sub with
  | 0 => x == y
  | 1 => x != y
  | 2 => decide (x < y)
  | 3 => decide (x ≤ y)
  | 4 => decide (y < x)
  | _ => decide (y ≤ x)

/-- VCMP's condition on FP32: any comparison with a NaN is false except NE. -/
def cmpFp (sub a b : Nat) : Bool :=
  let x := fp32 a
  let y := fp32 b
  if x = .nan ∨ y = .nan then sub == 1
  else
    match sub with
    | 0 => x.scaled == y.scaled
    | 1 => x.scaled != y.scaled
    | 2 => decide (x.scaled < y.scaled)
    | 3 => decide (x.scaled ≤ y.scaled)
    | 4 => decide (y.scaled < x.scaled)
    | _ => decide (y.scaled ≤ x.scaled)

/-- Write predicates. -/
def State.writePreds (s : State) (p : Nat) (l : List (Nat × Bool)) : State :=
  l.foldl (fun s wb => s.setPred p wb.1 wb.2) s

/-- The end of an instruction that writes predicates. -/
def State.commitPreds (s : State) (p : Nat) (q : QEntry) (l : List (Nat × Bool)) (flags : Nat) : Effect :=
  (s.writePreds p l).orLast p q flags (vtime q 1 0 4)
    (l.foldl (fun s wb => let d := s.draw; d.2.setPred p wb.1 (d.1 % 2 == 1)) s)

/-- VCMP's effect: every wick of the range; with PRED the old predicate AND the result. Flags come from the acting
wicks alone (03 R68). -/
def vcmpEffect (p : Nat) (s : State) (q : QEntry) : Effect :=
  let int := wInt q.w
  let rs := (rangeOf q).map fun w =>
    let a := s.vsrc p w (!int) (q.op 0)
    let b := s.vsrc p w (!int) (q.op 1)
    let t := if int then cmpInt (wSub q.w) a b else cmpFp (wSub q.w) a b
    ((w, if wPred q.w then s.pred p w && t else t),
      if int ∨ (wPred q.w = true ∧ s.pred p w = false) then 0 else nanFlags [fp32 a, fp32 b])
  s.commitPreds p q (rs.map (·.1)) (unionFlags (rs.map (·.2)))

/-- VSETP's effect: t = (SA ≠ 0), combined as SUB selects. -/
def vsetpEffect (p : Nat) (s : State) (q : QEntry) : Effect :=
  let l := (rangeOf q).map fun w =>
    let t := s.vsrc p w false (q.op 0) != 0
    let old := s.pred p w
    (w, match wSub q.w with
      | 0 => t
      | 1 => old && t
      | 2 => old || t
      | _ => old != t)
  s.commitPreds p q l 0

/-- VSETIDX's effect. -/
def vsetidxEffect (p : Nat) (s : State) (q : QEntry) : Effect :=
  let l := (s.acting p q).map fun w => (w, s.vsrc p w false (q.op 0))
  (l.foldl (fun s wv => s.setWidx p wv.1 wv.2) s).orLast p q 0 (vtime q 1 0 4)
    (l.foldl (fun s wv => let d := s.draw; d.2.setWidx p wv.1 d.1) s)

/-- VSEL's effect: every wick of the range, predicated or not. -/
def vselEffect (p : Nat) (s : State) (q : QEntry) : Effect :=
  s.commitWicks p q ((rangeOf q).map fun w =>
    (w, if s.pred p w then s.vsrc p w false (q.op 0) else s.vsrc p w false (q.op 1))) 0 (vtime q 1 0 4)

/-! ### Conversions and random numbers (03 R82) -/

/-- VCVT's effect. The source format reads the low bits of SA. -/
def vcvtEffect (p : Nat) (s : State) (q : QEntry) : Effect :=
  let sb := (q.op 1).num 13
  let dst := bitsOf sb 0 5
  let src := bitsOf sb 5 5
  let rs := (s.acting p q).map fun w =>
    let x := decodeElem src (s.vsrc p w (src == 0) (q.op 0) % 2 ^ fmtBits src)
    (w, convertElem dst (roundingOf q (wSub q.w) w) x)
  s.commitWicks p q (rs.map fun r => (r.1, r.2.val)) (unionFlags (rs.map fun r => r.2.flags)) (vtime q 1 0 6)

/-- E of R119: the exponent that the largest magnitude takes in the element format. -/
def mxTop : Nat → Int
  | 8 => 8
  | 9 => 15
  | 10 => 4
  | 11 => 2
  | 12 => 2
  | _ => 0

/-- ⌊log2⌋ of a finite nonzero magnitude. -/
def magExp (m : Nat) (e : Int) : Int := e + (Nat.log2 m : Int)

/-- Divide by 2^k and convert to the element format, saturating at the largest finite value (05 R119). -/
def mxElem (fmt : Nat) (k : Int) (x : Num) : Res :=
  match x with
  | .fin neg m e =>
    match floatFmt? fmt with
    | some f =>
      let r := f.round .nearest false neg m (e - k)
      if r.flags % 4 / 2 = 1 then ⟨f.maxCode neg, r.flags⟩ else r
    | none => convertInt 8 .nearest (.fin neg m (e - k + 6))
  | _ => ⟨0, 0⟩

/-- One group of VMXQ: the scale byte, the element codes, the flags (05 R119), from the values taken into
account. -/
def mxGroup (fmt : Nat) (xs : List Nat) : Nat × List Nat × Nat :=
  let ns := xs.map fp32
  let nan := ns.any (· == .nan)
  let inf := ns.any fun x => match x with | .inf _ => true | _ => false
  if nan || inf then (0xFF, xs.map (fun _ => 0), orFlags (flagIf nan flagNanIn) (flagIf inf flagOverflow))
  else
    let tops := ns.filterMap fun x => match x with | .fin _ m e => if m = 0 then none else some (magExp m e) | _ => none
    let k : Int := match tops with
      | [] => -127
      | a :: t => max (-127) (min 127 (t.foldl max a - mxTop fmt))
    let rs := ns.map (mxElem fmt k)
    ((k + 127).toNat, rs.map (·.val), unionFlags (rs.map (·.flags)))

/-- VMXQ's effect: element codes to VD and the scale byte to VD + 1, of the acting wicks of each group of 32. -/
def vmxqEffect (p : Nat) (s : State) (q : QEntry) : Effect :=
  let fmt := bitsOf ((q.op 1).num 13) 0 5
  let act := s.acting p q
  let groups := (List.range ((wCount q.w + 1) / 32)).map fun g =>
    let ws := act.filter fun w => decide ((w - wFirst q.w) / 32 = g)
    (ws, mxGroup fmt (ws.map fun w => s.vsrc p w true (q.op 0)))
  let groups := groups.filter fun g => !g.1.isEmpty
  let codes := groups.flatMap fun g => g.1.zip g.2.2.1
  let scales := groups.flatMap fun g => g.1.map fun w => (w, g.2.1)
  let s1 := (s.writeWicks p (wVd q.w) codes).writeWicks p (wVd q.w + 1) scales
  let free (s : State) (r : Nat) : State :=
    codes.foldl (fun s wv => let d := s.draw; d.2.setWreg p wv.1 r d.1) s
  s1.orLast p q (unionFlags (groups.map fun g => g.2.2.2)) (vtime q 2 0 10) (free (free s (wVd q.w)) (wVd q.w + 1))

/-- VRAND's effect (05 R131, R134). -/
def vrandEffect (p : Nat) (s : State) (q : QEntry) : Effect :=
  s.commitWicks p q ((s.acting p q).map fun w => (w, q.random w)) 0 (vtime q 2 0 8)

/-! ### Loads and stores (03 R79) -/

/-- The offset a wick accesses: index register plus SB modulo 4 MiB, rounded down to the width. -/
def State.vaddr (s : State) (p w : Nat) (q : QEntry) : Nat :=
  let n := 2 ^ wSub q.w
  let a := (s.widx' p w + s.vsrc p w false (q.op 1)) % 0x400000
  a / n * n

/-- The cycle, counted from the start at plan cycle φ, of the phase that serves the last line request (03 R79): quarter i
issues its requests in cycle i; each owned phase serves up to 32 lines, one per bank, oldest first. A window's phases begin
at 0 (02 R47). With a phase in every turn of the wheel the fuel of memTime is enough. -/
def serveCycles (wheel φ : Nat) : Nat → Nat → List (Nat × Nat) → Nat
  | _, c, [] => c - 1
  | 0, c, _ :: _ => c
  | fuel + 1, c, reqs =>
    if wheelOwner wheel ((φ + c) % windowCycles) = 1 then
      let step := reqs.foldl (fun (a : List (Nat × Nat) × List Nat × Nat) r =>
        if r.1 ≤ c ∧ !a.2.1.contains (r.2 % 32) ∧ a.2.2 < 32 then (a.1, (r.2 % 32) :: a.2.1, a.2.2 + 1)
        else (a.1 ++ [r], a.2.1, a.2.2)) ([], [], 0)
      serveCycles wheel φ fuel (c + 1) step.1
    else serveCycles wheel φ fuel (c + 1) reqs

/-- Occupancy and latency of a VLD or VST: one request per distinct line of a quarter, in wick order. -/
def State.memTime (s : State) (p : Nat) (q : QEntry) (act : List Nat) (extra : Nat) : Option (Nat × Nat) :=
  let reqs := act.foldl (fun (l : List (Nat × Nat)) w =>
    let r := (w / 1024 - wFirst q.w / 1024, s.vaddr p w q / 64)
    if l.contains r then l else l ++ [r]) []
  let n := quarters q
  if reqs = [] then some (max n n, n - 1 + extra)
  else if s.hasPhase p 1 then
    let d := serveCycles (s.wheel p) (s.cycleNow (p / 16)) (17 * reqs.length + 64) 0 reqs
    some (max n (d + 1), d + extra)
  else none

/-- VLD's effect: zero- or sign-extended loads. -/
def vldEffect (p : Nat) (s : State) (q : QEntry) : Effect :=
  let n := 2 ^ wSub q.w
  let act := s.acting p q
  let time := s.memTime p q act 8
  let bad := !s.uncorr.isEmpty && act.any fun w => s.pmBad p (s.vaddr p w q) n
  let l := act.map fun w =>
    let v := leNat (s.pmRead p (s.vaddr p w q) n)
    (w, if wInt q.w then wrapTo 32 (sextOf (8 * n) v) else v)
  if time = none then { st := s, time := none }
  else if bad then
    { st := l.foldl (fun s wv => let d := s.draw; d.2.setWreg p wv.1 (wVd q.w) d.1) s, status := 0x40, time := time }
  else (s.commitWicks p q l 0 time).meeting (s.corrLines (act.map fun w => (pmAddr p (s.vaddr p w q), n)))

/-- VST's effect: the low bits of SA, the highest-numbered wick's value standing. -/
def vstEffect (p : Nat) (s : State) (q : QEntry) : Effect :=
  let n := 2 ^ wSub q.w
  let act := s.acting p q
  s.commitRows p (wFlagSel q.w) false
    (act.map fun w => (s.vaddr p w q, leBytes n (s.vsrc p w false (q.op 0)))) 0 (s.memTime p q act 4)

/-! ### Cross-wick operations (03 R81, 05 R124) -/

/-- VSHFL's source wick. -/
def State.shflFrom (s : State) (p w : Nat) (q : QEntry) : Nat :=
  let sb := s.vsrc p w false (q.op 1)
  if wSub q.w = 0 then Nat.xor w (sb % 4096)
  else
    let n : Int := ((wCount q.w + 1 : Nat) : Int)
    wFirst q.w + (((w : Int) - wFirst q.w + sextOf 32 sb) % n).toNat

/-- VSHFL's effect: SA of another wick, read whether or not that wick acts. -/
def vshflEffect (p : Nat) (s : State) (q : QEntry) : Effect :=
  s.commitWicks p q ((s.acting p q).map fun w => (w, s.vsrc p (s.shflFrom p w q) false (q.op 0))) 0 (vtime q 2 0 8)

/-- VSUMRED's effect: one exact long sum, rounded once; with SUB = 1 also the integer and the grid word. -/
def vsumredEffect (p : Nat) (s : State) (q : QEntry) : Effect :=
  let act := s.acting p q
  let xs := act.map fun w => s.vsrc p w true (q.op 0)
  let g := addendGrid xs
  let r := (sumAddends g xs).finish
  let f := r.1.toFloat fmtFp32 g
  let l := r.1.toLong
  let off := (q.op 1).num 22 / 8 * 8
  let rows : List RowWrite :=
    if wSub q.w = 1 then
      if act.isEmpty then [(off, lsBytes 0), (off + 24, leBytes 8 0)]
      else [(off, lsBytes l.1), (off + 24, leBytes 8 (gridWord g))]
    else []
  let flags := if act.isEmpty then 0 else orFlags (orFlags r.2 f.flags) (if wSub q.w = 1 then l.2 else 0)
  let time := match s.memTerm p 1 2048 (rows.flatMap fun w => linesOf w.1 w.2.length) with
    | some _ => vtime q 2 8 12
    | none => none
  let time := if wFlagSel q.w ≠ 0 ∧ s.hasPhase p 1 = false then none else time
  let e := s.commitRows p (wFlagSel q.w) false rows flags time
  if e.time = none then e
  else if e.status = 0 then { e with st := e.st.writeWicks p (wVd q.w) (act.map fun w => (w, f.val)) }
  else { e with st := act.foldl (fun s w => let d := s.draw; d.2.setWreg p w (wVd q.w) d.1) e.st }

/-- A reduction that writes one value to VD of every acting wick; with no acting wick it writes nothing. -/
def reduceEffect (p : Nat) (f : List Nat → Res) (s : State) (q : QEntry) : Effect :=
  let act := s.acting p q
  let r := f (act.map fun w => s.vsrc p w true (q.op 0))
  s.commitWicks p q (act.map fun w => (w, r.val)) (if act.isEmpty then 0 else r.flags) (vtime q 1 8 12)

/-- The FP32 maximum or minimum of a list. -/
def maxMinList (isMax : Bool) : List Nat → Res
  | [] => ⟨0, 0⟩
  | x :: xs => xs.foldl (fun a y =>
      let r := fp32MaxMin isMax a.val y
      ⟨r.val, orFlags a.flags r.flags⟩) (fp32MaxMin isMax x x)

/-- VEXPMAX: the largest exponent field minus 127; a NaN sets NAN_IN. -/
def expMaxList (xs : List Nat) : Res :=
  let es := xs.map fun x => (bitsOf x 23 8 : Int) - 127
  ⟨wrapTo 32 (es.foldl max (-127)), nanFlags (xs.map fp32)⟩

/-- VSCAN's effect: the inclusive exact prefix sum over the acting wicks, each rounded once. -/
def vscanEffect (p : Nat) (s : State) (q : QEntry) : Effect :=
  let act := s.acting p q
  let xs := act.map fun w => s.vsrc p w true (q.op 0)
  let g := addendGrid xs
  let rs := ((List.zip act xs).foldl (fun (a : LsAcc × List (Nat × Nat × Nat)) wx =>
    let acc := a.1.addTerm g (addendTerm (fp32 wx.2))
    let o := acc.finish
    let f := o.1.toFloat fmtFp32 g
    (acc, a.2 ++ [(wx.1, f.val, orFlags o.2 f.flags)])) ({}, [])).2
  s.commitWicks p q (rs.map fun r => (r.1, r.2.1)) (unionFlags (rs.map fun r => r.2.2)) (vtime q 2 8 12)

/-! ### Locations (03 R70) -/

/-- The lines that an instruction writes to memory, but for its flag word. -/
def State.vectorLines (s : State) (p : Nat) (q : QEntry) : List Nat :=
  match wOpcode q.w with
  | 0x41 => sortDedup ((s.acting p q).map fun w => s.vaddr p w q / 64)
  | 0x49 => if wSub q.w = 1 then
      let off := (q.op 1).num 22 / 8 * 8
      linesOf off 20 ++ linesOf (off + 24) 8
    else []
  | _ => []

/-- A vector instruction's locations: its source registers, of every wick for a shuffle; predicates and index registers that
it reads or writes; the lines of a load or a store; its flag word. -/
def vectorLocs (p : Nat) (s : State) (q : QEntry) : Locs :=
  let op := wOpcode q.w
  let n := wCount q.w + 1
  let f := wFirst q.w
  let src (o : Opnd) : List (Nat × Nat) := match o with
    | .wreg r => if op = 0x48 then wickLocs r 0 4096 else wickLocs r f n
    | .special 1 => if op = 0x48 then wickLocs 33 0 4096 else wickLocs 33 f n
    | .special 2 => if op = 0x48 then wickLocs 32 0 4096 else wickLocs 32 f n
    | _ => []
  { reads := q.ops.flatMap src ++ (if wPred q.w ∨ op = 0x39 ∨ op = 0x3B then wickLocs 32 f n else []) ++
      (if op = 0x40 ∨ op = 0x41 then wickLocs 33 f n else []) ++
      (if op = 0x40 then lineLocs (sortDedup ((s.acting p q).map fun w => s.vaddr p w q / 64)) else []) ++ flagLocs (wFlagSel q.w)
    writes := (if op = 0x38 ∨ op = 0x39 then wickLocs 32 f n
      else if op = 0x3A then wickLocs 33 f n
      else if op = 0x41 then []
      else if op = 0x3D then wickLocs (wVd q.w) f n ++ wickLocs (wVd q.w + 1) f n
      else wickLocs (wVd q.w) f n) ++
      lineLocs (s.vectorLines p q) ++ flagLocs (wFlagSel q.w) }

/-! ### The commands -/

/-- VADD (03 R78). -/
def execVadd (p : ParcelId) (s : State) : Host.Outcome State Fault Refusal :=
  done (s.startEngine p 1 0x20 (vectorLocs p) (lanewise p true (fpBin fp32Add) 1 6))
/-- VSUB (03 R78). -/
def execVsub (p : ParcelId) (s : State) : Host.Outcome State Fault Refusal :=
  done (s.startEngine p 1 0x21 (vectorLocs p) (lanewise p true (fpBin fun a b => fp32Add a b.neg) 1 6))
/-- VMUL (03 R78). -/
def execVmul (p : ParcelId) (s : State) : Host.Outcome State Fault Refusal :=
  done (s.startEngine p 1 0x22 (vectorLocs p) (lanewise p true (fpBin fp32Mul) 1 6))
/-- VFMA (03 R78). -/
def execVfma (p : ParcelId) (s : State) : Host.Outcome State Fault Refusal :=
  done (s.startEngine p 1 0x23 (vectorLocs p) (lanewise p true (fun a b c => fp32Fma (fp32 a) (fp32 b) (fp32 c)) 1 6))
/-- VMAX (03 R78). -/
def execVmax (p : ParcelId) (s : State) : Host.Outcome State Fault Refusal :=
  done (s.startEngine p 1 0x24 (vectorLocs p) (lanewise p true (fun a b _ => fp32MaxMin true a b) 1 6))
/-- VMIN (03 R78). -/
def execVmin (p : ParcelId) (s : State) : Host.Outcome State Fault Refusal :=
  done (s.startEngine p 1 0x25 (vectorLocs p) (lanewise p true (fun a b _ => fp32MaxMin false a b) 1 6))
/-- VABS (03 R78). -/
def execVabs (p : ParcelId) (s : State) : Host.Outcome State Fault Refusal :=
  done (s.startEngine p 1 0x26 (vectorLocs p) (lanewise p true (fun a _ _ => fp32AbsNeg false a) 1 6))
/-- VNEG (03 R78). -/
def execVneg (p : ParcelId) (s : State) : Host.Outcome State Fault Refusal :=
  done (s.startEngine p 1 0x27 (vectorLocs p) (lanewise p true (fun a _ _ => fp32AbsNeg true a) 1 6))
/-- VIADD (03 R78). -/
def execViadd (p : ParcelId) (s : State) : Host.Outcome State Fault Refusal :=
  done (s.startEngine p 1 0x28 (vectorLocs p) (lanewise p false (intOp fun a b => a + b) 1 4))
/-- VISUB (03 R78). -/
def execVisub (p : ParcelId) (s : State) : Host.Outcome State Fault Refusal :=
  done (s.startEngine p 1 0x29 (vectorLocs p) (lanewise p false (intOp fun a b => a + (2 ^ 32 - b)) 1 4))
/-- VIMUL (03 R78). -/
def execVimul (p : ParcelId) (s : State) : Host.Outcome State Fault Refusal :=
  done (s.startEngine p 1 0x2A (vectorLocs p) (lanewise p false (intOp fun a b => a * b) 1 4))
/-- VAND (03 R78). -/
def execVand (p : ParcelId) (s : State) : Host.Outcome State Fault Refusal :=
  done (s.startEngine p 1 0x2B (vectorLocs p) (lanewise p false (intOp Nat.land) 1 4))
/-- VOR (03 R78). -/
def execVor (p : ParcelId) (s : State) : Host.Outcome State Fault Refusal :=
  done (s.startEngine p 1 0x2C (vectorLocs p) (lanewise p false (intOp Nat.lor) 1 4))
/-- VXOR (03 R78). -/
def execVxor (p : ParcelId) (s : State) : Host.Outcome State Fault Refusal :=
  done (s.startEngine p 1 0x2D (vectorLocs p) (lanewise p false (intOp Nat.xor) 1 4))
/-- VSHL (03 R78): by SB[4:0]. -/
def execVshl (p : ParcelId) (s : State) : Host.Outcome State Fault Refusal :=
  done (s.startEngine p 1 0x2E (vectorLocs p) (lanewise p false (intOp fun a b => a * 2 ^ (b % 32)) 1 4))
/-- VSHR (03 R78): by SB[4:0]. -/
def execVshr (p : ParcelId) (s : State) : Host.Outcome State Fault Refusal :=
  done (s.startEngine p 1 0x2F (vectorLocs p) (lanewise p false (intOp fun a b => a / 2 ^ (b % 32)) 1 4))
/-- VSRA (03 R78): by SB[4:0]. -/
def execVsra (p : ParcelId) (s : State) : Host.Outcome State Fault Refusal :=
  done (s.startEngine p 1 0x30 (vectorLocs p) (lanewise p false (intOp sraOp) 1 4))
/-- VMOV (03 R78): copies bits. -/
def execVmov (p : ParcelId) (s : State) : Host.Outcome State Fault Refusal :=
  done (s.startEngine p 1 0x31 (vectorLocs p) (lanewise p false (intOp fun a _ => a) 1 2))
/-- VEXP2 (05 R115). -/
def execVexp2 (p : ParcelId) (s : State) : Host.Outcome State Fault Refusal :=
  done (s.startEngine p 1 0x34 (vectorLocs p) (lanewise p true (fun a _ _ => fp32Exp2 a) 4 12))
/-- VLOG2 (05 R115). -/
def execVlog2 (p : ParcelId) (s : State) : Host.Outcome State Fault Refusal :=
  done (s.startEngine p 1 0x35 (vectorLocs p) (lanewise p true (fun a _ _ => fp32Log2 a) 4 12))
/-- VRCP (05 R115). -/
def execVrcp (p : ParcelId) (s : State) : Host.Outcome State Fault Refusal :=
  done (s.startEngine p 1 0x36 (vectorLocs p) (lanewise p true (fun a _ _ => fp32Rcp a) 4 12))
/-- VRSQRT (05 R115). -/
def execVrsqrt (p : ParcelId) (s : State) : Host.Outcome State Fault Refusal :=
  done (s.startEngine p 1 0x37 (vectorLocs p) (lanewise p true (fun a _ _ => fp32Rsqrt a) 4 12))
/-- VCMP (03 R80). -/
def execVcmp (p : ParcelId) (s : State) : Host.Outcome State Fault Refusal :=
  done (s.startEngine p 1 0x38 (vectorLocs p) (vcmpEffect p))
/-- VSETP (03 R80). -/
def execVsetp (p : ParcelId) (s : State) : Host.Outcome State Fault Refusal :=
  done (s.startEngine p 1 0x39 (vectorLocs p) (vsetpEffect p))
/-- VSETIDX (03 R78). -/
def execVsetidx (p : ParcelId) (s : State) : Host.Outcome State Fault Refusal :=
  done (s.startEngine p 1 0x3A (vectorLocs p) (vsetidxEffect p))
/-- VSEL (03 R80). -/
def execVsel (p : ParcelId) (s : State) : Host.Outcome State Fault Refusal :=
  done (s.startEngine p 1 0x3B (vectorLocs p) (vselEffect p))
/-- VCVT (03 R82). -/
def execVcvt (p : ParcelId) (s : State) : Host.Outcome State Fault Refusal :=
  done (s.startEngine p 1 0x3C (vectorLocs p) (vcvtEffect p))
/-- VMXQ (05 R119). -/
def execVmxq (p : ParcelId) (s : State) : Host.Outcome State Fault Refusal :=
  done (s.startEngine p 1 0x3D (vectorLocs p) (vmxqEffect p))
/-- VRAND (05 R131). -/
def execVrand (p : ParcelId) (s : State) : Host.Outcome State Fault Refusal :=
  done (s.startEngine p 1 0x3E (vectorLocs p) (vrandEffect p))
/-- VLD (03 R79). -/
def execVld (p : ParcelId) (s : State) : Host.Outcome State Fault Refusal :=
  done (s.startEngine p 1 0x40 (vectorLocs p) (vldEffect p))
/-- VST (03 R79). -/
def execVst (p : ParcelId) (s : State) : Host.Outcome State Fault Refusal :=
  done (s.startEngine p 1 0x41 (vectorLocs p) (vstEffect p))
/-- VSHFL (03 R81). -/
def execVshfl (p : ParcelId) (s : State) : Host.Outcome State Fault Refusal :=
  done (s.startEngine p 1 0x48 (vectorLocs p) (vshflEffect p))
/-- VSUMRED (03 R81). -/
def execVsumred (p : ParcelId) (s : State) : Host.Outcome State Fault Refusal :=
  done (s.startEngine p 1 0x49 (vectorLocs p) (vsumredEffect p))
/-- VMAXRED (03 R81). -/
def execVmaxred (p : ParcelId) (s : State) : Host.Outcome State Fault Refusal :=
  done (s.startEngine p 1 0x4A (vectorLocs p) (reduceEffect p (maxMinList true)))
/-- VMINRED (03 R81). -/
def execVminred (p : ParcelId) (s : State) : Host.Outcome State Fault Refusal :=
  done (s.startEngine p 1 0x4B (vectorLocs p) (reduceEffect p (maxMinList false)))
/-- VEXPMAX (03 R81). -/
def execVexpmax (p : ParcelId) (s : State) : Host.Outcome State Fault Refusal :=
  done (s.startEngine p 1 0x4C (vectorLocs p) (reduceEffect p expMaxList))
/-- VSCAN (03 R81). -/
def execVscan (p : ParcelId) (s : State) : Host.Outcome State Fault Refusal :=
  done (s.startEngine p 1 0x4D (vectorLocs p) (vscanEffect p))

end Sys2Proof.Machine
end

