-- ==== Sys2Proof/Machine/Dispatch.lean ====
section
/-!
DEFINITION. The dispatch: one arm per command, each a direct call of that command's meaning.
-/
namespace Sys2Proof.Machine

/-- The effect of a command on everything but the queue. -/
def exec (i : Instr) (s : State) : Host.Outcome State Fault Refusal :=
  match i with
  | .issue p => Sys2Proof.Machine.execIssue p s
  | .engineCompletion p e k => Sys2Proof.Machine.execEngineCompletion p e k s
  | .nop p => Sys2Proof.Machine.execNop p s
  | .replay p => Sys2Proof.Machine.execReplay p s
  | .replayDrainComplete p copied => Sys2Proof.Machine.execReplayDrainComplete p copied s
  | .br p => Sys2Proof.Machine.execBr p s
  | .bfork p => Sys2Proof.Machine.execBfork p s
  | .bmerge p => Sys2Proof.Machine.execBmerge p s
  | .loop p => Sys2Proof.Machine.execLoop p s
  | .endStream p => Sys2Proof.Machine.execEndStream p s
  | .tmul p => Sys2Proof.Machine.execTmul p s
  | .tlsadd p => Sys2Proof.Machine.execTlsadd p s
  | .tlscvt p => Sys2Proof.Machine.execTlscvt p s
  | .tlsset p => Sys2Proof.Machine.execTlsset p s
  | .vadd p => Sys2Proof.Machine.execVadd p s
  | .vsub p => Sys2Proof.Machine.execVsub p s
  | .vmul p => Sys2Proof.Machine.execVmul p s
  | .vfma p => Sys2Proof.Machine.execVfma p s
  | .vmax p => Sys2Proof.Machine.execVmax p s
  | .vmin p => Sys2Proof.Machine.execVmin p s
  | .vabs p => Sys2Proof.Machine.execVabs p s
  | .vneg p => Sys2Proof.Machine.execVneg p s
  | .viadd p => Sys2Proof.Machine.execViadd p s
  | .visub p => Sys2Proof.Machine.execVisub p s
  | .vimul p => Sys2Proof.Machine.execVimul p s
  | .vand p => Sys2Proof.Machine.execVand p s
  | .vor p => Sys2Proof.Machine.execVor p s
  | .vxor p => Sys2Proof.Machine.execVxor p s
  | .vshl p => Sys2Proof.Machine.execVshl p s
  | .vshr p => Sys2Proof.Machine.execVshr p s
  | .vsra p => Sys2Proof.Machine.execVsra p s
  | .vmov p => Sys2Proof.Machine.execVmov p s
  | .vexp2 p => Sys2Proof.Machine.execVexp2 p s
  | .vlog2 p => Sys2Proof.Machine.execVlog2 p s
  | .vrcp p => Sys2Proof.Machine.execVrcp p s
  | .vrsqrt p => Sys2Proof.Machine.execVrsqrt p s
  | .vcmp p => Sys2Proof.Machine.execVcmp p s
  | .vsetp p => Sys2Proof.Machine.execVsetp p s
  | .vsetidx p => Sys2Proof.Machine.execVsetidx p s
  | .vsel p => Sys2Proof.Machine.execVsel p s
  | .vcvt p => Sys2Proof.Machine.execVcvt p s
  | .vmxq p => Sys2Proof.Machine.execVmxq p s
  | .vrand p => Sys2Proof.Machine.execVrand p s
  | .vld p => Sys2Proof.Machine.execVld p s
  | .vst p => Sys2Proof.Machine.execVst p s
  | .vshfl p => Sys2Proof.Machine.execVshfl p s
  | .vsumred p => Sys2Proof.Machine.execVsumred p s
  | .vmaxred p => Sys2Proof.Machine.execVmaxred p s
  | .vminred p => Sys2Proof.Machine.execVminred p s
  | .vexpmax p => Sys2Proof.Machine.execVexpmax p s
  | .vscan p => Sys2Proof.Machine.execVscan p s
  | .tcall p => Sys2Proof.Machine.execTcall p s
  | .taperTakeCall p => Sys2Proof.Machine.execTaperTakeCall p s
  | .taperInstruction p dt => Sys2Proof.Machine.execTaperInstruction p dt s
  | .mcopy p => Sys2Proof.Machine.execMcopy p s
  | .mfill p => Sys2Proof.Machine.execMfill p s
  | .mgath p => Sys2Proof.Machine.execMgath p s
  | .mscat p => Sys2Proof.Machine.execMscat p s
  | .xsend p => Sys2Proof.Machine.execXsend p s
  | .xrecv p => Sys2Proof.Machine.execXrecv p s
  | .xsig p => Sys2Proof.Machine.execXsig p s
  | .xcoll p => Sys2Proof.Machine.execXcoll p s
  | .bsig p => Sys2Proof.Machine.execBsig p s
  | .bwait p => Sys2Proof.Machine.execBwait p s
  | .bbcast p => Sys2Proof.Machine.execBbcast p s
  | .bsub p => Sys2Proof.Machine.execBsub p s
  | .fence p => Sys2Proof.Machine.execFence p s
  | .beaconOpArrival b ps => Sys2Proof.Machine.execBeaconOpArrival b ps s
  | .beaconAckReturn p k => Sys2Proof.Machine.execBeaconAckReturn p k s
  | .parcelQuiesced p => Sys2Proof.Machine.execParcelQuiesced p s
  | .pctStart p => Sys2Proof.Machine.execPctStart p s
  | .pctStop p => Sys2Proof.Machine.execPctStop p s
  | .pctStopNow p => Sys2Proof.Machine.execPctStopNow p s
  | .pctTaperReset p v => Sys2Proof.Machine.execPctTaperReset p v s
  | .pctCodeDataAccess p wr => Sys2Proof.Machine.execPctCodeDataAccess p wr s
  | .pctDescDataAccess p wr => Sys2Proof.Machine.execPctDescDataAccess p wr s
  | .pctParamWrite p n v => Sys2Proof.Machine.execPctParamWrite p n v s
  | .registerWrite g addr size v => Sys2Proof.Machine.execRegisterWrite g addr size v s
  | .outsideAgentAccess g addr len wr => Sys2Proof.Machine.execOutsideAgentAccess g addr len wr s
  | .tickGate w t => Sys2Proof.Machine.execTickGate w t s
  | .windowEnd w t => Sys2Proof.Machine.execWindowEnd w t s
  | .tickWatchdogFire r t => Sys2Proof.Machine.execTickWatchdogFire r t s
  | .trcLoad t => Sys2Proof.Machine.execTrcLoad t s
  | .loadStageComplete t => Sys2Proof.Machine.execLoadStageComplete t s
  | .trcStart t => Sys2Proof.Machine.execTrcStart t s
  | .trcStop t => Sys2Proof.Machine.execTrcStop t s
  | .trcStopNow t => Sys2Proof.Machine.execTrcStopNow t s
  | .trcReset t => Sys2Proof.Machine.execTrcReset t s
  | .tractResetComplete t failed => Sys2Proof.Machine.execTractResetComplete t failed s
  | .trcCountClr t => Sys2Proof.Machine.execTrcCountClr t s
  | .slotSend l slot t => Sys2Proof.Machine.execSlotSend l slot t s
  | .slackUnitSend l t => Sys2Proof.Machine.execSlackUnitSend l t s
  | .unitReceive l t pt n lanes syms => Sys2Proof.Machine.execUnitReceive l t pt n lanes syms s
  | .packetDeliver p => Sys2Proof.Machine.execPacketDeliver p s
  | .transferDeadline p k => Sys2Proof.Machine.execTransferDeadline p k s
  | .retryOverrun l k seq w t => Sys2Proof.Machine.execRetryOverrun l k seq w t s
  | .ack l seq => Sys2Proof.Machine.execAck l seq s
  | .nak l seqs => Sys2Proof.Machine.execNak l seqs s
  | .copy l k f cw => Sys2Proof.Machine.execCopy l k f cw s
  | .linkRelease l j cw => Sys2Proof.Machine.execLinkRelease l j cw s
  | .parity l j cw => Sys2Proof.Machine.execParity l j cw s
  | .tap l j taps => Sys2Proof.Machine.execTap l j taps s
  | .failover l k f cw => Sys2Proof.Machine.execFailover l k f cw s
  | .degrade l lanes parity tick => Sys2Proof.Machine.execDegrade l lanes parity tick s
  | .restore l lanes free tick => Sys2Proof.Machine.execRestore l lanes free tick s
  | .datumUnit l t1 t2 t3 t4 now => Sys2Proof.Machine.execDatumUnit l t1 t2 t3 t4 now s
  | .darkUnit l => Sys2Proof.Machine.execDarkUnit l s
  | .laneLinkChangeTick l tx t => Sys2Proof.Machine.execLaneLinkChangeTick l tx t s
  | .laneFailDeclared l j => Sys2Proof.Machine.execLaneFailDeclared l j s
  | .laneAdaptUpdate l j t => Sys2Proof.Machine.execLaneAdaptUpdate l j t s
  | .rollStepStart l t => Sys2Proof.Machine.execRollStepStart l t s
  | .rollVerifyDone l pass => Sys2Proof.Machine.execRollVerifyDone l pass s
  | .rollLaneSwitch l => Sys2Proof.Machine.execRollLaneSwitch l s
  | .rollCalibrationDone l => Sys2Proof.Machine.execRollCalibrationDone l s
  | .rollMarginScanDone l margin => Sys2Proof.Machine.execRollMarginScanDone l margin s
  | .lnkTrain l => Sys2Proof.Machine.execLnkTrain l s
  | .trainingComplete l rxMask txMask peer flight => Sys2Proof.Machine.execTrainingComplete l rxMask txMask peer flight s
  | .lnkRollEn l v => Sys2Proof.Machine.execLnkRollEn l v s
  | .lnkRollNow l => Sys2Proof.Machine.execLnkRollNow l s
  | .lnkRollStopNow l => Sys2Proof.Machine.execLnkRollStopNow l s
  | .lnkDown l => Sys2Proof.Machine.execLnkDown l s
  | .lnkForceFail l j => Sys2Proof.Machine.execLnkForceFail l j s
  | .lnkRetest l j => Sys2Proof.Machine.execLnkRetest l j s
  | .lnkCountClr l => Sys2Proof.Machine.execLnkCountClr l s
  | .lnkLaneOvr l v => Sys2Proof.Machine.execLnkLaneOvr l v s
  | .lnkInjCw l => Sys2Proof.Machine.execLnkInjCw l s
  | .lnkInjCrc l => Sys2Proof.Machine.execLnkInjCrc l s
  | .lnkPass l => Sys2Proof.Machine.execLnkPass l s
  | .ownerDrainComplete l k => Sys2Proof.Machine.execOwnerDrainComplete l k s
  | .boundaryStoneDrained l => Sys2Proof.Machine.execBoundaryStoneDrained l s
  | .boundaryStoneConfirm l => Sys2Proof.Machine.execBoundaryStoneConfirm l s
  | .ownerSwitchTick l k t => Sys2Proof.Machine.execOwnerSwitchTick l k t s
  | .stoneTimeout l k t => Sys2Proof.Machine.execStoneTimeout l k t s
  | .lnkReleaseStuck l => Sys2Proof.Machine.execLnkReleaseStuck l s
  | .lnkEaseWrite l v => Sys2Proof.Machine.execLnkEaseWrite l v s
  | .lnkCadDataRead l => Sys2Proof.Machine.execLnkCadDataRead l s
  | .detourStart l t => Sys2Proof.Machine.execDetourStart l t s
  | .detourEnd l t => Sys2Proof.Machine.execDetourEnd l t s
  | .lanternReply l => Sys2Proof.Machine.execLanternReply l s
  | .managementNotice l d => Sys2Proof.Machine.execManagementNotice l d s
  | .startMessage l t => Sys2Proof.Machine.execStartMessage l t s
  | .platChunk l => Sys2Proof.Machine.execPlatChunk l s
  | .abandon l => Sys2Proof.Machine.execAbandon l s
  | .startAckTimeout j t => Sys2Proof.Machine.execStartAckTimeout j t s
  | .startHoldExpiry j t => Sys2Proof.Machine.execStartHoldExpiry j t s
  | .ready l => Sys2Proof.Machine.execReady l s
  | .go l t => Sys2Proof.Machine.execGo l t s
  | .done l => Sys2Proof.Machine.execDone l s
  | .abort l => Sys2Proof.Machine.execAbort l s
  | .journalEntry l => Sys2Proof.Machine.execJournalEntry l s
  | .datumExchangeStart l t => Sys2Proof.Machine.execDatumExchangeStart l t s
  | .datumPulseEdge t => Sys2Proof.Machine.execDatumPulseEdge t s
  | .referenceLost t => Sys2Proof.Machine.execReferenceLost t s
  | .referenceBack t => Sys2Proof.Machine.execReferenceBack t s
  | .holdLimitExpiry t => Sys2Proof.Machine.execHoldLimitExpiry t s
  | .clkSetNs v => Sys2Proof.Machine.execClkSetNs v s
  | .clkNsRead => Sys2Proof.Machine.execClkNsRead s
  | .droopResponse k droop => Sys2Proof.Machine.execDroopResponse k droop s
  | .droopHandback k => Sys2Proof.Machine.execDroopHandback k s
  | .calendarPosition c lane pos shown => Sys2Proof.Machine.execCalendarPosition c lane pos shown s
  | .tierReadDelivery p => Sys2Proof.Machine.execTierReadDelivery p s
  | .refreshWindow c j cyc => Sys2Proof.Machine.execRefreshWindow c j cyc s
  | .patrolScrub => Sys2Proof.Machine.execPatrolScrub s
  | .memoryTempRead c t => Sys2Proof.Machine.execMemoryTempRead c t s
  | .xxRetire c => Sys2Proof.Machine.execXxRetire c s
  | .xxInjectCe c => Sys2Proof.Machine.execXxInjectCe c s
  | .xxInjectUe c => Sys2Proof.Machine.execXxInjectUe c s
  | .xxCountClr c => Sys2Proof.Machine.execXxCountClr c s
  | .xxCalDataAccess c wr => Sys2Proof.Machine.execXxCalDataAccess c wr s
  | .xxTrainReq c => Sys2Proof.Machine.execXxTrainReq c s
  | .composition t d => Sys2Proof.Machine.execComposition t d s
  | .stepRecordApply t => Sys2Proof.Machine.execStepRecordApply t s
  | .parkMoveComplete t k d => Sys2Proof.Machine.execParkMoveComplete t k d s
  | .promptStaged k => Sys2Proof.Machine.execPromptStaged k s
  | .idleTtlExpiry k d => Sys2Proof.Machine.execIdleTtlExpiry k d s
  | .parkTtlExpiry k d => Sys2Proof.Machine.execParkTtlExpiry k d s
  | .submissionTailDoorbell r v => Sys2Proof.Machine.execSubmissionTailDoorbell r v s
  | .completionHeadDoorbell r v => Sys2Proof.Machine.execCompletionHeadDoorbell r v s
  | .openRing r block => Sys2Proof.Machine.execOpenRing r block s
  | .closeRing r => Sys2Proof.Machine.execCloseRing r s
  | .openAccount block => Sys2Proof.Machine.execOpenAccount block s
  | .closeAccount a => Sys2Proof.Machine.execCloseAccount a s
  | .setAccount a block => Sys2Proof.Machine.execSetAccount a block s
  | .srvEn mask => Sys2Proof.Machine.execSrvEn mask s
  | .srvStopNow mask => Sys2Proof.Machine.execSrvStopNow mask s
  | .benchmarkDigestDone t slot mirror => Sys2Proof.Machine.execBenchmarkDigestDone t slot mirror s
  | .drillStart k r c l j t => Sys2Proof.Machine.execDrillStart k r c l j t s
  | .mcbDrillStopNow => Sys2Proof.Machine.execMcbDrillStopNow s
  | .katSlot p t pass => Sys2Proof.Machine.execKatSlot p t pass s
  | .katRerun p t pass => Sys2Proof.Machine.execKatRerun p t pass s
  | .clockMonitorWindow k cycles t => Sys2Proof.Machine.execClockMonitorWindow k cycles t s
  | .lockstepMismatch t => Sys2Proof.Machine.execLockstepMismatch t s
  | .heartbeatSend t => Sys2Proof.Machine.execHeartbeatSend t s
  | .heartbeatTimeout t => Sys2Proof.Machine.execHeartbeatTimeout t s
  | .sfmLwdtKick mask t => Sys2Proof.Machine.execSfmLwdtKick mask t s
  | .lanternWatchdogExpiry c t => Sys2Proof.Machine.execLanternWatchdogExpiry c t s
  | .dieSensorRead temps t => Sys2Proof.Machine.execDieSensorRead temps t s
  | .inputOvervoltage mv t => Sys2Proof.Machine.execInputOvervoltage mv t s
  | .inputOvercurrent ca t => Sys2Proof.Machine.execInputOvercurrent ca t s
  | .railOvervoltage rail permille t => Sys2Proof.Machine.execRailOvervoltage rail permille t s
  | .sensingCompare mv ca rails t => Sys2Proof.Machine.execSensingCompare mv ca rails t s
  | .inputDip ns t => Sys2Proof.Machine.execInputDip ns t s
  | .inputLow mv => Sys2Proof.Machine.execInputLow mv s
  | .sfmDarkNow => Sys2Proof.Machine.execSfmDarkNow s
  | .sfmTractDarkNow mask => Sys2Proof.Machine.execSfmTractDarkNow mask s
  | .coldStartPowerOn mv away => Sys2Proof.Machine.execColdStartPowerOn mv away s
  | .startSequenceStepDone t dimms failed => Sys2Proof.Machine.execStartSequenceStepDone t dimms failed s
  | .mcbCold => Sys2Proof.Machine.execMcbCold s
  | .mcbWarm => Sys2Proof.Machine.execMcbWarm s
  | .mcbAdopt sect => Sys2Proof.Machine.execMcbAdopt sect s
  | .mcbFwStage => Sys2Proof.Machine.execMcbFwStage s
  | .fwHandoverStageDone t ok => Sys2Proof.Machine.execFwHandoverStageDone t ok s
  | .mcbRecoveryGo writes => Sys2Proof.Machine.execMcbRecoveryGo writes s
  | .mcbRetest => Sys2Proof.Machine.execMcbRetest s
  | .mcbQMark => Sys2Proof.Machine.execMcbQMark s
  | .identity => Sys2Proof.Machine.execIdentity s
  | .status => Sys2Proof.Machine.execStatus s
  | .lastResult => Sys2Proof.Machine.execLastResult s
  | .setCoord b pec => Sys2Proof.Machine.execSetCoord b pec s
  | .getCoord => Sys2Proof.Machine.execGetCoord s
  | .powerCap w pec => Sys2Proof.Machine.execPowerCap w pec s
  | .powerRead => Sys2Proof.Machine.execPowerRead s
  | .attestNonce nonce pec => Sys2Proof.Machine.execAttestNonce nonce pec s
  | .attestRead off => Sys2Proof.Machine.execAttestRead off s
  | .warmStart pec => Sys2Proof.Machine.execWarmStart pec s
  | .coldStart pec => Sys2Proof.Machine.execColdStart pec s
  | .standby pec => Sys2Proof.Machine.execStandby pec s
  | .safetyLog k => Sys2Proof.Machine.execSafetyLog k s
  | .alertResponse slot => Sys2Proof.Machine.execAlertResponse slot s
  | .idnAttReq => Sys2Proof.Machine.execIdnAttReq s
  | .attestationSigned t => Sys2Proof.Machine.execAttestationSigned t s
  | .powerAverageUpdate avg t => Sys2Proof.Machine.execPowerAverageUpdate avg t s
  | .pwrCapW v => Sys2Proof.Machine.execPwrCapW v s
  | .rd addr lines tag credit => Sys2Proof.Machine.execRd addr lines tag credit s
  | .cpl tag addr status data credit => Sys2Proof.Machine.execCpl tag addr status data credit s
  | .wr addr data mask credit => Sys2Proof.Machine.execWr addr data mask credit s
  | .idle credit => Sys2Proof.Machine.execIdle credit s
  | .attachLaneFail j => Sys2Proof.Machine.execAttachLaneFail j s
  | .attTrain => Sys2Proof.Machine.execAttTrain s
  | .attWinWrite w base attr => Sys2Proof.Machine.execAttWinWrite w base attr s
  | .attCountClr => Sys2Proof.Machine.execAttCountClr s
  | .commandTailDoorbell v => Sys2Proof.Machine.execCommandTailDoorbell v s
  | .reportHeadDoorbell v => Sys2Proof.Machine.execReportHeadDoorbell v s
  | .startJob t => Sys2Proof.Machine.execStartJob t s
  | .abortJob t => Sys2Proof.Machine.execAbortJob t s
  | .drillWindow => Sys2Proof.Machine.execDrillWindow s
  | .exportBlock => Sys2Proof.Machine.execExportBlock s
  | .linkPass => Sys2Proof.Machine.execLinkPass s
  | .easement => Sys2Proof.Machine.execEasement s
  | .extest d => Sys2Proof.Machine.execExtest d s
  | .idcode => Sys2Proof.Machine.execIdcode s
  | .samplePreload d => Sys2Proof.Machine.execSamplePreload d s
  | .dtmcs v => Sys2Proof.Machine.execDtmcs v s
  | .dmi op addr data => Sys2Proof.Machine.execDmi op addr data s
  | .dbgacc op addr data => Sys2Proof.Machine.execDbgacc op addr data s
  | .token b => Sys2Proof.Machine.execToken b s
  | .bypass b => Sys2Proof.Machine.execBypass b s
  | .tokenExpiry t => Sys2Proof.Machine.execTokenExpiry t s
  | .dbgHalt => Sys2Proof.Machine.execDbgHalt s
  | .dbgResume => Sys2Proof.Machine.execDbgResume s
  | .dbgStep => Sys2Proof.Machine.execDbgStep s
  | .dbgLock => Sys2Proof.Machine.execDbgLock s
  | .dbgBeaconSet b n => Sys2Proof.Machine.execDbgBeaconSet b n s
  | .sfmLogDataRead => Sys2Proof.Machine.execSfmLogDataRead s
  | .attachTrainingComplete mask => Sys2Proof.Machine.execAttachTrainingComplete mask s
  | .memoryTrainingComplete c ok margin cached => Sys2Proof.Machine.execMemoryTrainingComplete c ok margin cached s
  | .memoryControllerFailure c => Sys2Proof.Machine.execMemoryControllerFailure c s
  | .coolantInletRead tin tout => Sys2Proof.Machine.execCoolantInletRead tin tout s

end Sys2Proof.Machine
end

