-- ==== Sys2Proof/Safety.lean ====
section
/-!
DEFINITION. The terms in which statements about the module are made: the canonical form of memory, what a command
completes with, and what two states have in common.
-/
namespace Sys2Proof.Machine

/-- The canonical form of memory: addresses strictly rising, and no byte equal to what an unlisted one reads as. -/
def Memory.wf (m : List Host.Cell) : Bool := tabWf 0 m

/-- The canonical form as a proposition. -/
def MemOk (m : List Host.Cell) : Prop := Memory.wf m = true

/-- The memory an outcome leaves: the next state's. -/
def memOf : Host.Outcome State Fault Refusal → List Host.Cell
  | .next t => t.mem
  | _ => []

/-- Command c at state s answers a next state, and P holds of it. -/
def Completes (c : Instr) (s : State) (P : State → Prop) : Prop := ∃ t, exec c s = .next t ∧ P t

/-- Every byte of the module address map reads the same. -/
def SameMemory (s t : State) : Prop := ∀ a, t.rd8 a = s.rd8 a

/-- Every byte outside the n bytes from a reads the same. -/
def SameMemoryBut (a n : Nat) (s t : State) : Prop := ∀ b, ¬(a ≤ b ∧ b < a + n) → t.rd8 b = s.rd8 b

/-- Every register field but those listed, each with its unit, reads the same. -/
def SameRegistersBut (l : List (Fld × Nat)) (s t : State) : Prop :=
  ∀ f u, (∀ x ∈ l, fkey x.1 x.2 ≠ fkey f u) → t.fld f u = s.fld f u

/-- Every register field reads the same. -/
def SameRegisters (s t : State) : Prop := ∀ f u, t.fld f u = s.fld f u

/-- Every wick register, predicate and index register reads the same. -/
def SameWicks (s t : State) : Prop :=
  (∀ p w r, t.wreg p w r = s.wreg p w r) ∧ (∀ p w, t.pred p w = s.pred p w) ∧ (∀ p w, t.widx' p w = s.widx' p w)

/-- The issue stage of parcel p reaches its next word, a well-formed one with no breakpoint on it and no single step under way (02
R32, 16 R407). -/
def MayIssue (s : State) (p : Nat) : Prop :=
  s.canIssue p = true ∧ wordOk (s.nextWord p) = true ∧ s.breakMatch p (s.nextWord p) 0 = false ∧
    s.breakMatch p (s.nextWord p) 1 = false ∧ (s.par p).stepping = false

/-- That word is a control instruction of the given opcode whose waits hold (02 R35). -/
def IssuesControl (s : State) (p op : Nat) : Prop :=
  MayIssue s p ∧ wOpcode (s.nextWord p) = op ∧ s.waitsHold p (s.wordWaits p (s.nextWord p)) = true

/-- The head of engine e's queue of parcel p is q, of the given opcode, may start, and depends on nothing in flight there: l is what
it reads and writes (02 R36, 03 R70). -/
def Ready (s : State) (p e op : Nat) (l : Locs) (q : QEntry) : Prop := s.readyHead p e op = some q ∧ s.dependsOn p e l = false

/-- The tensor engine may start q. -/
def TensorReady (s : State) (p op : Nat) (q : QEntry) : Prop := Ready s p 0 op (tensorLocs p s q) q

/-- The vector engine may start q. -/
def VectorReady (s : State) (p op : Nat) (q : QEntry) : Prop := Ready s p 1 op (vectorLocs p s q) q

/-- The line accesses of a move. -/
def movesLines (s : State) (p : Nat) (q : QEntry) : List (Nat × Bool) := s.moveAccesses p (s.moveRuns p [] q) (State.moveIndex q)

/-- The move engine may start q. -/
def MoveReady (s : State) (p op : Nat) (q : QEntry) : Prop := Ready s p 2 op (moveLocs (movesLines s p q)) q

/-- The wheels and calendars in force serve every line access of a list (02 R49, 04 R89, 07 R161): the move engine has a phase, for
lines of other parcels the exchange engines of both have one, and for lines of a tier the calendar grants positions. -/
def MoveServed (s : State) (p : Nat) (acc : List (Nat × Bool)) : Prop :=
  s.hasPhase p 2 = true ∧ ∀ x ∈ acc,
    (x.1 < 0x2000000 → x.1 / 65536 ≠ p → s.hasPhase p 3 = true ∧ s.hasPhase (x.1 / 65536) 3 = true) ∧
    (0x2000000 ≤ x.1 → 0 < s.grant p (inHbm (64 * x.1)) (b2n x.2))

/-- Memory as engine e of parcel p reads it is settled: no word holds data that cannot be corrected, and no other engine of the parcel
is writing (02 R38). -/
def Settled (s : State) (p e : Nat) : Prop := s.uncorr = [] ∧ s.unsettled p e = []

/-- Flag word n of parcel p can be updated: n = 0 names none; a flag word reads without an uncorrectable error, and the vector engine
has a phase in which to update it (02 R49, 03 R68, R69). -/
def FlagsOk (s : State) (p n : Nat) : Prop :=
  n = 0 ∨ (tabGet false s.uncorr (pmAddr p (0x3FFFC0 + 8 * n) / 8) = false ∧ s.hasPhase p 1 = true)

/-- What an instruction leaves in memory that writes these rows, in order, and ORs these flags into the flag word it names. -/
def RowsWritten (s : State) (p : Nat) (q : QEntry) (rows : List RowWrite) (flags : Nat) (t : State) : Prop :=
  ∀ a, t.rd8 a = ((s.writeRows p rows).orFlagWord p (wFlagSel q.w) flags).1.rd8 a

/-- Pieces of data, each laid from its address on, modulo 2^48, in order: every byte of parcel memory in the move engine's reach holds
what the last piece there put, and the bytes under none are as before (04 R86). -/
def Placed (s : State) (p : Nat) (data : List (Nat × List Byte)) (t : State) : Prop :=
  (∀ (i k : Nat) (x : Nat × List Byte), data[i]? = some x → k < x.2.length →
    (∀ (j m : Nat) (y : Nat × List Byte), i < j → data[j]? = some y → m < y.2.length →
      (y.1 + m) % 2 ^ 48 ≠ (x.1 + k) % 2 ^ 48) →
    s.reach p ((x.1 + k) % 2 ^ 48) = true → inParcelMem ((x.1 + k) % 2 ^ 48) = true →
    some (t.rd8 ((x.1 + k) % 2 ^ 48)) = x.2[k]?) ∧
  ∀ a, (∀ x ∈ data, ∀ k, k < x.2.length → (x.1 + k) % 2 ^ 48 ≠ a) → t.rd8 a = s.rd8 a

/-- Row j of a dense table at a base, and its scales where it has any, as (address, bytes) (03 R65, R67). -/
def tableRow (base d j : Nat) : List (Nat × Nat) :=
  let scales := dExt d 0 / 32
  (addrAdd base ((j : Int) * dStr1 d), packBytes (dFmt d) (dExt d 0)) ::
    (if fmtIsMx (dFmt d) ∧ scales ≠ 0 then [(addrAdd base ((dScaleOff d + j * scales : Nat) : Int), scales)] else [])

/-- The bytes that the move engine of p reads over a span, with 0 out of its reach (04 R86). -/
def spanBytes (s : State) (p : Nat) (x : Nat × Nat) : List Byte :=
  (List.range x.2).map fun i => s.moveByte p ((x.1 + i) % 2 ^ 48)

/-- Spans copied to spans. -/
def copied (s : State) (p : Nat) (dst src : List (Nat × Nat)) : List (Nat × List Byte) :=
  (dst.zip src).map fun e => (e.1.1, spanBytes s p e.2)

/-- The acts that wait at the lanes of link l, of its sender and of its receiver, are all of codewords still to come, and a rolling
step that adapts is within its first 105 µs (10 R241). -/
def LanesSettled (s : State) (l : Nat) : Prop :=
  (∀ a ∈ (s.link l).txActs, s.actDue l true a = false) ∧ (∀ a ∈ (s.link l).rxActs, s.actDue l false a = false) ∧
    ∀ r, (s.link l).roll = some r → s.fld Reg.LNK_ROLL_PHASE l = 2 → s.datum < r.began + 105000

/-- A packet passes the checks of its slot's entry on link k, sent or received (11 R262): an owner holds the entry, the packet names its
job, epoch, channel and class, and where the entry delivers, its destination is this end's; one received has a parcel here. -/
def PassesChecks (s : State) (k : Nat) (tx : Bool) (p : Pkt) (slot : Nat) : Prop :=
  let e := s.cadAt k tx slot
  ∃ o, s.entryOwner k e = some o ∧ p.job = o.job ∧ p.epoch = o.epoch ∧ (s.fld Reg.LNK_VERSION k = 1 → p.epoch < 2 ^ 32) ∧
    (cadKind e = 3 ∨ p.vc = cadVc e) ∧ p.cls = cadCls e ∧
    (cadAction e = 0 → p.dest = (if tx then Config.neighbour s.coord k % 2 ^ 18 else s.coord) ∧
      (tx = false → (s.landed p.job p.epoch p.dparcel).isSome = true))

/-- A packet fails check c of R262 first, with status st (11 R262). -/
def FailsCheck (s : State) (k : Nat) (tx : Bool) (p : Pkt) (slot c st : Nat) : Prop :=
  let e := s.cadAt k tx slot
  let waits := ∃ w, s.waitingOwner k tx slot = some w ∧ w.job = p.job ∧ w.epoch = p.epoch
  let wide := s.fld Reg.LNK_VERSION k = 1 ∧ 2 ^ 32 ≤ p.epoch
  let other := (cadKind e ≠ 3 ∧ p.vc ≠ cadVc e) ∨ p.cls ≠ cadCls e
  let here := if tx then Config.neighbour s.coord k % 2 ^ 18 else s.coord
  (s.entryOwner k e = none ∧ c = 2 ∧ st = 0x30) ∨
  ∃ o, s.entryOwner k e = some o ∧
    ((p.job ≠ o.job ∧ waits ∧ c = 3 ∧ st = 0x31) ∨ (p.job ≠ o.job ∧ ¬waits ∧ c = 4 ∧ st = 0x30) ∨
    (p.job = o.job ∧ (p.epoch ≠ o.epoch ∨ wide) ∧ c = 5 ∧ st = 0x31) ∨
    (p.job = o.job ∧ p.epoch = o.epoch ∧ ¬wide ∧ other ∧ c = 6 ∧ st = 0x30) ∨
    (p.job = o.job ∧ p.epoch = o.epoch ∧ ¬wide ∧ ¬other ∧ cadAction e = 0 ∧
      (p.dest ≠ here ∨ (tx = false ∧ s.landed p.job p.epoch p.dparcel = none)) ∧ c = 7 ∧ st = 0x30))

/-- A refused packet is counted and recorded on link k (11 R262, R286). -/
def Recorded (s : State) (k : Nat) (tx : Bool) (slot c st : Nat) (t : State) : Prop :=
  t.fld Reg.LNK_VIOL_CHECK k = c ∧ t.fld Reg.LNK_VIOL_STATUS k = st ∧ t.fld Reg.LNK_VIOL_SLOT k = slot ∧
    t.fld Reg.LNK_VIOL_TX k = b2n tx ∧
    if st = 0x30 then t.fld Reg.LNK_VIOL_COUNT k = satAdd Reg.LNK_VIOL_COUNT.w (s.fld Reg.LNK_VIOL_COUNT k) 1 ∧
      t.bit Reg.LNK_EVT_VIOL k = true
    else t.fld Reg.LNK_EPOCH_COUNT k = satAdd Reg.LNK_EPOCH_COUNT.w (s.fld Reg.LNK_EPOCH_COUNT k) 1 ∧
      t.bit Reg.LNK_EVT_EPOCH k = true

/-- Link k has packet p to send in a slot that starts at a time, and with the packet taken the module is w: a forward due by then, or
else the first packet of its instruction that an exchange engine has ready 103 ns before, no other for this link standing before it (04
R100, 11 R264); no slot of a job whose tract here is dark (14 R348). -/
def Offered (s : State) (k slot start : Nat) (p : Pkt) (w : State) : Prop :=
  (∀ o r, s.entryOwner k (s.cadAt k true slot) = some o → s.tractOfJob o.job o.epoch = some r → s.fld Reg.TRC_STATE_CODE r ≠ 7) ∧
  let fits := fun h : Held => h.link == k && h.slot == slot && decide (h.due ≤ start + 2)
  ((∃ h, s.held.find? fits = some h ∧ p = h.pkt ∧ w = { s with held := s.held.erase h }) ∨
  (s.held.find? fits = none ∧ ∃ pre x rest, s.txq = pre ++ x :: rest ∧
    (∀ y ∈ pre, y.link ≠ k ∧ (y.parcel ≠ x.parcel ∨ y.seq ≠ x.seq)) ∧ x.link = k ∧ slot ∈ x.slots ∧
    (x.tick < s.tickNow ∨ x.tick = s.tickNow ∧ x.slot ≤ slot) ∧ x.ready + 103 ≤ start ∧
    p = { x.pkt with tick := s.tickNow % 2 ^ 32 } ∧ w = { s with txq := pre ++ rest }))

/-- No forward on link k has missed its onward slot. -/
def NoneMissed (s : State) (k : Nat) : Prop := ∀ h ∈ s.held, h.link = k → s.datum ≤ h.due + 2

/-- Link k sends packet p for the first time, in a slot: the next sequence number, one more hop, and a copy kept for replay; the packet
that fills the replay buffer fails the direction (10 R248, 11 R257). -/
def SentIn (s : State) (k slot : Nat) (p : Pkt) (t : State) : Prop :=
  let x := s.link k
  (t.link k).nextSeq = x.nextSeq + 1 ∧ (∃ q, (t.link k).replayBuf = x.replayBuf ++ [(s.datum, q)] ∧ q.seq = x.nextSeq ∧
    q.slot = slot ∧ q.hops = min 255 (p.hops + 1) ∧ q.payload = p.payload) ∧
  t.fld Reg.LNK_TX_STATE k = if 8191 ≤ x.replayBuf.length then lkFailed else s.fld Reg.LNK_TX_STATE k

/-- The drain of owner i of link k is complete (11 R271): none of its packets waits to be sent, forwarded or acknowledged, no tract of it
runs its plan, and it is granted no easement. -/
def Drained (s : State) (k i : Nat) : Prop :=
  let o := s.owner k i
  (∀ q ∈ s.txq, q.link = k → o.has q.pkt = false) ∧ (∀ h ∈ s.held, h.link = k → o.has h.pkt = false) ∧
  (∀ h ∈ s.late, h.link = k → o.has h.pkt = false) ∧ (∀ p ∈ (s.link k).detQ, o.has p = false) ∧
  (∀ e ∈ (s.link k).replayBuf, o.has e.2 = false) ∧ (∀ g : Fin 16, s.grantNow k g ≠ some i) ∧
  ∀ t : TractId, (s.tract t).job = o.job → (s.tract t).epoch = o.epoch →
    s.fld Reg.TRC_STATE_CODE t ≠ 2 ∧ s.fld Reg.TRC_STATE_CODE t ≠ 3 ∧ s.fld Reg.TRC_STATE_CODE t ≠ 4

/-- Every byte of memory reads without an error: no word is damaged, no controller has failed and no injection is armed. -/
def Sound (s : State) : Prop :=
  s.uncorr = [] ∧ s.correc = [] ∧
    ∀ c : CtrlId, s.fld Reg.XX_STATE_CODE c ≠ xxFailed ∧ (s.tctl c).armUe = false ∧ (s.tctl c).armCe = false

/-- Agent g reaches every line of n bytes at a, and no township's crossing refuses one (07 R154, 09 R226). -/
def Reached (s : State) (g : Agent) (a n : Nat) : Prop :=
  ∀ line ∈ accessLines a n, s.reaches g line = true ∧ s.shutLine line = false

/-- The serve block reaches n bytes at a, which lie in a tier or in companion memory (07 R154). -/
def ServeReaches (s : State) (a n : Nat) : Prop :=
  0x88000000 ≤ a ∧ ∀ line ∈ accessLines a n, s.reaches .serve line = true

/-- The head of engine e's queue of parcel p has started: it left the queue and stands last among those in flight. -/
def Started (s : State) (p e : Nat) (q : QEntry) (t : State) : Prop :=
  (t.eng p e).queue = (s.eng p e).queue.tail ∧
    ∃ f, f.entry = q ∧ (t.eng p e).flight = (s.eng p e).flight ++ [f]

/-- Every acting wick of instruction q holds in VD what f makes of its three sources. -/
def LanewiseResult (s : State) (p : Nat) (q : QEntry) (fp : Bool) (f : Nat → Nat → Nat → Nat) (t : State) : Prop :=
  Started s p 1 q t ∧ ∀ w ∈ s.acting p q, t.wreg p w (wVd q.w) =
    f (s.vsrc p w fp (q.op 0)) (s.vsrc p w fp (q.op 1)) (s.vsrc p w fp (q.op 2)) % 2 ^ 32

/-- Every acting wick of instruction q holds in VD the value v. -/
def WicksHold (s : State) (p : Nat) (q : QEntry) (v : Nat → Nat) (t : State) : Prop :=
  Started s p 1 q t ∧ ∀ w ∈ s.acting p q, t.wreg p w (wVd q.w) = v w % 2 ^ 32

/-- Every wick of instruction q's range has the predicate v. -/
def PredicatesHold (s : State) (p : Nat) (q : QEntry) (v : Nat → Bool) (t : State) : Prop :=
  Started s p 1 q t ∧ ∀ w ∈ rangeOf q, t.pred p w = v w

/-- What a special function gives for the FP32 code x of a special input: the result's code, and the flag bit it sets where it sets
one; none for an input that is not special (05 R115; the canonical NaN of R114). Opcodes: 0x34 VEXP2, 0x35 VLOG2, 0x36 VRCP, 0x37
VRSQRT. -/
def specialInput (op x : Nat) : Option (Nat × Option Nat) :=
  let zero := decide (x % 2 ^ 31 = 0)
  let negative := decide (2 ^ 31 < x)
  if 0x7F800000 < x % 2 ^ 31 then some (0x7FC00000, some 6)
  else if (op = 0x36 ∨ op = 0x37) ∧ zero = true then some (0x7F800000 + x, some 5)
  else if (op = 0x35 ∨ op = 0x37) ∧ negative = true then some (0x7FC00000, some 4)
  else if op = 0x34 ∧ x = 0x7F800000 then some (0x7F800000, none)
  else if op = 0x34 ∧ x = 0xFF800000 then some (0, none)
  else if op = 0x35 ∧ x = 0x7F800000 then some (0x7F800000, none)
  else if op = 0x34 ∧ x < 2 ^ 31 ∧ 0x43000000 < x then some (0x7F800000, some 1)
  else if op = 0x34 ∧ negative = true ∧ 0xC3150000 < x then some (0, some 2)
  else none

/-- A two's complement operation on 32-bit values. -/
def bits32 (f : BitVec 32 → BitVec 32 → BitVec 32) (a b _c : Nat) : Nat :=
  (f (BitVec.ofNat 32 a) (BitVec.ofNat 32 b)).toNat

/-- The commands that change the lanes of link l: its control units, its rolling calibration and adaptation, its lane failures, its
training and its states. -/
def movesLanes (l : LinkId) : Instr → Bool
  | .copy k _ _ _ | .linkRelease k _ _ | .parity k _ _ | .tap k _ _ | .failover k _ _ _ | .degrade k _ _ _ | .restore k _ _ _
  | .laneLinkChangeTick k _ _ | .laneFailDeclared k _ | .laneAdaptUpdate k _ _ | .rollStepStart k _ | .rollVerifyDone k _
  | .rollLaneSwitch k | .rollCalibrationDone k | .rollMarginScanDone k _ | .lnkTrain k | .trainingComplete k _ _ _ _
  | .lnkRollNow k | .lnkRollStopNow k | .lnkDown k | .lnkForceFail k _ | .lnkRetest k _ => k == l
  | _ => false

/-- The commands that change no byte of memory: issue of what stores nothing, links and their control units, clocks, lifecycle and
monitor commands, the bus reads, the debug port. -/
def keepsMemory : Instr → Bool
  | .taperTakeCall _ | .xsend _ | .xrecv _ | .bwait _ | .bsub _ | .beaconOpArrival _ _ | .pctStart _ | .pctStop _
  | .pctStopNow _ | .pctTaperReset _ _ | .pctCodeDataAccess _ _ | .pctDescDataAccess _ _ | .pctParamWrite _ _ _
  | .trcCountClr _ | .slackUnitSend _ _ | .retryOverrun _ _ _ _ _ | .ack _ _ | .nak _ _ | .copy _ _ _ _ | .linkRelease _ _ _
  | .parity _ _ _ | .tap _ _ _ | .failover _ _ _ _ | .degrade _ _ _ _ | .restore _ _ _ _ | .datumUnit _ _ _ _ _ _ | .darkUnit _
  | .laneFailDeclared _ _ | .laneAdaptUpdate _ _ _ | .rollStepStart _ _ | .rollVerifyDone _ _ | .rollLaneSwitch _
  | .rollCalibrationDone _ | .rollMarginScanDone _ _ | .lnkTrain _ | .lnkRollEn _ _ | .lnkRollNow _ | .lnkRollStopNow _
  | .lnkDown _ | .lnkForceFail _ _ | .lnkRetest _ _ | .lnkCountClr _ | .lnkLaneOvr _ _ | .lnkInjCw _ | .lnkInjCrc _
  | .lnkPass _ | .ownerDrainComplete _ _ | .stoneTimeout _ _ _ | .lnkReleaseStuck _ | .lnkEaseWrite _ _ | .lnkCadDataRead _
  | .detourStart _ _ | .detourEnd _ _ | .datumExchangeStart _ _ | .datumPulseEdge _ | .referenceLost _ | .referenceBack _
  | .holdLimitExpiry _ | .clkSetNs _ | .clkNsRead | .droopResponse _ _ | .droopHandback _ | .refreshWindow _ _ _ | .patrolScrub
  | .memoryTempRead _ _ | .xxInjectCe _ | .xxInjectUe _ | .xxCountClr _ | .xxCalDataAccess _ _ | .xxTrainReq _
  | .idleTtlExpiry _ _ | .parkTtlExpiry _ _ | .submissionTailDoorbell _ _ | .srvEn _ | .srvStopNow _ | .katRerun _ _ _
  | .lockstepMismatch _ | .heartbeatSend _ | .heartbeatTimeout _ | .sfmLwdtKick _ _ | .dieSensorRead _ _
  | .inputOvervoltage _ _ | .inputOvercurrent _ _ | .railOvervoltage _ _ _ | .sensingCompare _ _ _ _ | .inputDip _ _
  | .inputLow _ | .sfmDarkNow | .mcbCold | .mcbWarm | .mcbAdopt _ | .mcbFwStage | .mcbRetest | .mcbQMark | .identity | .status
  | .lastResult | .getCoord | .powerRead | .attestRead _ | .warmStart _ | .safetyLog _ | .alertResponse _ | .idnAttReq
  | .powerAverageUpdate _ _ | .pwrCapW _ | .idle _ | .attachLaneFail _ | .attTrain | .attWinWrite _ _ _ | .attCountClr
  | .commandTailDoorbell _ | .extest _ | .idcode | .samplePreload _ | .dtmcs _ | .token _ | .bypass _ | .tokenExpiry _
  | .dbgLock | .dbgBeaconSet _ _ | .sfmLogDataRead | .attachTrainingComplete _ | .memoryTrainingComplete _ _ _ _
  | .memoryControllerFailure _ | .coolantInletRead _ _ => true
  | _ => false

end Sys2Proof.Machine
end

