-- ==== Sys2Proof/Certificates/Slice0/Obligations.lean ====
section
/-!
DEFINITION. The statements about the module, one for every family of commands and every kind of state. Each names the choices of the
model it rests on by their log entries (notes/assumptions).
-/
set_option linter.unusedVariables false

open Sys2Proof Sys2Proof.Machine

/-- A step runs the command at the front of the queue, with the queue's rest waiting, and answers its outcome.
(95_what_each_step_holds) -/
def Obligations.StepRunsTheFrontCommand : Prop := ∀ (c : Instr) (rest : List Instr) (s : State),
  step { s with pending := c :: rest } = exec c { s with pending := rest }

/-- With no command waiting a step is one cycle of the datum keeper, and touches no memory, wick or parcel (the model's choice,
log entry 1). Rests on the model's choices of log entry 1. (09 R223, 09 R224, 09 R228) -/
def Obligations.IdleStepIsOneKeeperCycle : Prop := ∀ s : State, s.pending = [] →
  0 ≤ (s.datumFrac : Int) + 65536 + s.clk.freqTrim + slewPart s.clk.slew →
  ∃ t, step s = .next t ∧ SameMemory s t ∧ SameWicks s t ∧ t.pending = [] ∧ (∀ p, t.par p = s.par p) ∧
    t.datum * 65536 + t.datumFrac =
      s.datum * 65536 + ((s.datumFrac : Int) + 65536 + s.clk.freqTrim + slewPart s.clk.slew).toNat

/-- No command faults and none is refused: every command answers a next state in every state. Rests on the model's choices of log
entry 2. (95_what_each_step_holds) -/
def Obligations.EveryCommandAnswers : Prop := ∀ (c : Instr) (s : State), ∃ t, exec c s = .next t

/-- The memory of the module right after reset is canonical, and every byte of the address map reads 0 (the value of a byte
nothing has written is the model's choice, log entry 3). Rests on the model's choices of log entry 3. (07 R153) -/
def Obligations.ResetMemoryIsCanonical : Prop := MemOk State.reset.mem ∧ ∀ a, State.reset.rd8 a = 0

/-- Every step, of any command in any state whose memory is canonical, leaves the memory canonical. Rests on the model's choices
of log entry 3. (07 R153) -/
def Obligations.StepKeepsMemoryCanonical : Prop := ∀ s t : State, MemOk s.mem → step s = .next t → MemOk t.mem

/-- What is written to the module's memory reads back, every other byte stays, and a 64-bit word that is written whole holds
fresh check bits. (07 R153, 07 R167) -/
def Obligations.MemoryReadsWhatWasWritten : Prop := ∀ (s : State) (a : Nat) (bs : List Byte),
  (∀ i, i < bs.length → some ((s.wrBytes a bs).rd8 (a + i)) = bs[i]?) ∧
  SameMemoryBut a bs.length s (s.wrBytes a bs) ∧
  (∀ k, a ≤ 8 * k → 8 * k + 8 ≤ a + bs.length → tabGet false (s.wrBytes a bs).uncorr k = false)

/-- The commands that keep memory (those of keepsMemory: issue, branches, links and their control units, clocks, the monitor, the
management bus's reads, the debug port) leave every byte of the module's memory as it was. (07 R153, 02 R32, 10 R236, 10
R252, 16 R396) -/
def Obligations.CommandsThatKeepMemory : Prop := ∀ (c : Instr) (s t : State),
  keepsMemory c = true → exec c s = .next t → t.mem = s.mem ∧ SameMemory s t

/-- The control instructions: what each does to the instruction fetch, once its waits hold. (02 R52, 04 R84, 04 R106, 04 R107, 04
R108, 04 R109) -/
def Obligations.ControlInstructionsMoveFetch : Prop := ∀ (p : ParcelId) (s : State),
  let w := s.nextWord p
  let pc := (s.par p).pc
  let x := bitsOf (s.liveP p (bitsOf w 29 8)) 0 32
  let v := bitsOf w 37 32
  (IssuesControl s p 0x00 → s.bit Reg.PCT_LOOP_ACTIVE p = false →
    Completes (.nop p) s fun t => (t.par p).pc = (pc + 1) % 8192) ∧
  (IssuesControl s p 0x01 →
    Completes (.replay p) s fun t => (t.par p).replayTo = some (wTarget w) ∧ (t.par p).pc = pc) ∧
  (IssuesControl s p 0x02 → brTaken (bitsOf (wMod w) 0 3) x v = true →
    Completes (.br p) s fun t => (t.par p).pc = wTarget w) ∧
  (IssuesControl s p 0x02 → brTaken (bitsOf (wMod w) 0 3) x v = false → s.bit Reg.PCT_LOOP_ACTIVE p = false →
    Completes (.br p) s fun t => (t.par p).pc = (pc + 1) % 8192) ∧
  (IssuesControl s p 0x03 → (s.par p).forkOpen = false → wheelOwner (s.wheel p) (s.cycleNow (p / 16)) = 5 → s.pmBad p (4 * bitsOf w 76 20) 4 = false →
    Completes (.bfork p) s fun t => (t.par p).forkOpen = true ∧
      (t.par p).pc = s.forkTarget p w (leNat (s.pmRead p (4 * bitsOf w 76 20) 4))) ∧
  (IssuesControl s p 0x03 → (s.par p).forkOpen = false → wheelOwner (s.wheel p) (s.cycleNow (p / 16)) ≠ 5 →
    Completes (.bfork p) s fun t => t.par p = s.par p ∧ t.bit Reg.PCT_STALLED p = true ∧ t.fld Reg.PCT_STALL_CAUSE p = 2) ∧
  (IssuesControl s p 0x03 → (s.par p).forkOpen = false → wheelOwner (s.wheel p) (s.cycleNow (p / 16)) = 5 →
    s.pmBad p (4 * bitsOf (s.nextWord p) 76 20) 4 = true → Completes (.bfork p) s fun t => (t.par p).faulted = true ∧
      t.fld Reg.PCT_FAULT_STATUS p = 0x40 ∧ t.fld Reg.PCT_FAULT_ENGINE p = 6) ∧
  (IssuesControl s p 0x04 →
    Completes (.bmerge p) s fun t => (t.par p).pc = wTarget w ∧ (t.par p).forkOpen = false) ∧
  (IssuesControl s p 0x05 →
    Completes (.loop p) s fun t => t.bit Reg.PCT_LOOP_ACTIVE p = true ∧ (t.par p).loop.start = (pc + 1) % 8192 ∧
      (t.par p).loop.len = bitsOf (s.liveP p (bitsOf w 16 8 + 1)) 32 8 + 1) ∧
  (IssuesControl s p 0x06 → Completes (.endStream p) s fun t => (t.par p).ended = true)

/-- An engine instruction issues into its engine's queue when the queue has a free entry, and stalls the issue stage, the queue
as it was, when it has none. TCALL is such an instruction, for the taper. (02 R32, 02 R34, 03 R83) -/
def Obligations.EngineInstructionsEnterTheirQueue : Prop := ∀ (p : ParcelId) (s : State) (e : Nat),
  MayIssue s p → opUnit (wOpcode (s.nextWord p)) = .engine e →
  ((s.eng p e).queue.length < queueDepth e →
    (Completes (.issue p) s fun t => (t.eng p e).queue = (s.eng p e).queue ++ [s.makeEntry p e (s.nextWord p)] ∧
      (t.eng p e).issued = ((s.eng p e).issued + 1) % 2 ^ 24 ∧ t.fld Reg.PCT_TAG_ISSUED p = wTag (s.nextWord p) ∧
      t.bit Reg.PCT_STALLED p = false) ∧
    (wOpcode (s.nextWord p) = 0x60 → Completes (.tcall p) s fun t =>
      (t.eng p 5).queue = (s.eng p 5).queue ++ [s.makeEntry p 5 (s.nextWord p)])) ∧
  (queueDepth e ≤ (s.eng p e).queue.length →
    Completes (.issue p) s fun t => (∀ k, t.eng p k = s.eng p k) ∧ (t.par p).pc = (s.par p).pc ∧
      t.bit Reg.PCT_STALLED p = true ∧ t.fld Reg.PCT_STALL_CAUSE p = 1)

/-- What issue leaves: all memory, every wick, every descriptor and parameter register, and every other parcel's issue state,
loop indices and command count. (02 R32, 02 R52, 04 R84) -/
def Obligations.IssueFrame : Prop := ∀ (p : ParcelId) (s t : State) (c : Instr),
  c ∈ [.issue p, .nop p, .replay p, .br p, .bfork p, .bmerge p, .loop p, .endStream p, .tcall p] →
  (wOpcode (s.nextWord p) = 0x03 → s.pmBad p (4 * bitsOf (s.nextWord p) 76 20) 4 = false) → exec c s = .next t →
  SameMemory s t ∧ SameWicks s t ∧ t.descs = s.descs ∧ t.code = s.code ∧ (∀ q n, t.liveP q n = s.liveP q n) ∧
    (∀ q : ParcelId, q ≠ p → t.par q = s.par q ∧ t.fld Reg.PCT_CMD q = s.fld Reg.PCT_CMD q)

/-- The FP32 instructions of the vector engine give every acting wick the rounded result of its sources. The integer instructions
of the vector engine compute in two's complement of 32 bits, shifting by SB[4:0]. Rests on the model's choices of log entries
5, 8, 32. (02 R45, 03 R78, 05 R113, 05 R114, 05 R115) -/
def Obligations.VectorArithmeticResults : Prop :=
  (∀ (p : ParcelId) (s : State) (q : QEntry), FlagsOk s p (wFlagSel q.w) →
      (VectorReady s p 0x20 q → Completes (.vadd p) s
        (LanewiseResult s p q true fun a b _ => (fp32Add (fp32 a) (fp32 b)).val)) ∧
      (VectorReady s p 0x21 q → Completes (.vsub p) s
        (LanewiseResult s p q true fun a b _ => (fp32Add (fp32 a) (fp32 b).neg).val)) ∧
      (VectorReady s p 0x22 q → Completes (.vmul p) s
        (LanewiseResult s p q true fun a b _ => (fp32Mul (fp32 a) (fp32 b)).val)) ∧
      (VectorReady s p 0x23 q → Completes (.vfma p) s
        (LanewiseResult s p q true fun a b c => (fp32Fma (fp32 a) (fp32 b) (fp32 c)).val)) ∧
      (VectorReady s p 0x24 q → Completes (.vmax p) s
        (LanewiseResult s p q true fun a b _ => (fp32MaxMin true a b).val)) ∧
      (VectorReady s p 0x25 q → Completes (.vmin p) s
        (LanewiseResult s p q true fun a b _ => (fp32MaxMin false a b).val)) ∧
      (VectorReady s p 0x26 q → Completes (.vabs p) s
        (LanewiseResult s p q true fun a _ _ => (fp32AbsNeg false a).val)) ∧
      (VectorReady s p 0x27 q → Completes (.vneg p) s
        (LanewiseResult s p q true fun a _ _ => (fp32AbsNeg true a).val)) ∧
      (VectorReady s p 0x34 q → Completes (.vexp2 p) s
        (LanewiseResult s p q true fun a _ _ => (fp32Exp2 a).val)) ∧
      (VectorReady s p 0x35 q → Completes (.vlog2 p) s
        (LanewiseResult s p q true fun a _ _ => (fp32Log2 a).val)) ∧
      (VectorReady s p 0x36 q → Completes (.vrcp p) s
        (LanewiseResult s p q true fun a _ _ => (fp32Rcp a).val)) ∧
      (VectorReady s p 0x37 q → Completes (.vrsqrt p) s
        (LanewiseResult s p q true fun a _ _ => (fp32Rsqrt a).val))) ∧
  (∀ (p : ParcelId) (s : State) (q : QEntry), FlagsOk s p (wFlagSel q.w) →
      (VectorReady s p 0x28 q → Completes (.viadd p) s (LanewiseResult s p q false (bits32 fun a b => a + b))) ∧
      (VectorReady s p 0x29 q → Completes (.visub p) s (LanewiseResult s p q false (bits32 fun a b => a - b))) ∧
      (VectorReady s p 0x2A q → Completes (.vimul p) s (LanewiseResult s p q false (bits32 fun a b => a * b))) ∧
      (VectorReady s p 0x2B q → Completes (.vand p) s (LanewiseResult s p q false (bits32 fun a b => a &&& b))) ∧
      (VectorReady s p 0x2C q → Completes (.vor p) s (LanewiseResult s p q false (bits32 fun a b => a ||| b))) ∧
      (VectorReady s p 0x2D q → Completes (.vxor p) s (LanewiseResult s p q false (bits32 fun a b => a ^^^ b))) ∧
      (VectorReady s p 0x2E q → Completes (.vshl p) s
        (LanewiseResult s p q false (bits32 fun a b => a <<< (b.toNat % 32)))) ∧
      (VectorReady s p 0x2F q → Completes (.vshr p) s
        (LanewiseResult s p q false (bits32 fun a b => a >>> (b.toNat % 32)))) ∧
      (VectorReady s p 0x30 q → Completes (.vsra p) s
        (LanewiseResult s p q false (bits32 fun a b => a.sshiftRight (b.toNat % 32)))) ∧
      (VectorReady s p 0x31 q → Completes (.vmov p) s (LanewiseResult s p q false fun a _ _ => a)))

/-- Comparison, the predicate and index registers, and selection. Conversion, random words, and the exchanges and reductions
across the wicks of an instruction. Rests on the model's choices of log entries 5, 31. (03 R78, 03 R80, 03 R81, 03 R82, 05
R119, 05 R131) -/
def Obligations.VectorPredicatesAndCrossWickResults : Prop :=
  (∀ (p : ParcelId) (s : State) (q : QEntry),
      FlagsOk s p (wFlagSel q.w) →
      let a := fun w => s.vsrc p w false (q.op 0)
      let b := fun w => s.vsrc p w false (q.op 1)
      (VectorReady s p 0x38 q → wInt q.w = true → Completes (.vcmp p) s (PredicatesHold s p q fun w =>
        (!wPred q.w || s.pred p w) && cmpInt (wSub q.w) (a w) (b w))) ∧
      (VectorReady s p 0x38 q → wInt q.w = false → Completes (.vcmp p) s (PredicatesHold s p q fun w =>
        (!wPred q.w || s.pred p w) && cmpFp (wSub q.w) (s.vsrc p w true (q.op 0)) (s.vsrc p w true (q.op 1)))) ∧
      (VectorReady s p 0x39 q → wSub q.w = 0 → Completes (.vsetp p) s (PredicatesHold s p q fun w => a w != 0)) ∧
      (VectorReady s p 0x39 q → wSub q.w = 1 → Completes (.vsetp p) s
        (PredicatesHold s p q fun w => s.pred p w && a w != 0)) ∧
      (VectorReady s p 0x39 q → wSub q.w = 2 → Completes (.vsetp p) s
        (PredicatesHold s p q fun w => s.pred p w || a w != 0)) ∧
      (VectorReady s p 0x39 q → wSub q.w = 3 → Completes (.vsetp p) s
        (PredicatesHold s p q fun w => s.pred p w != (a w != 0))) ∧
      (VectorReady s p 0x3A q → Completes (.vsetidx p) s fun t =>
        Started s p 1 q t ∧ ∀ w ∈ s.acting p q, t.widx' p w = a w % 2 ^ 32) ∧
      (VectorReady s p 0x3B q → Completes (.vsel p) s fun t =>
        Started s p 1 q t ∧ ∀ w ∈ rangeOf q, t.wreg p w (wVd q.w) = (if s.pred p w then a w else b w) % 2 ^ 32)) ∧
  (∀ (p : ParcelId) (s : State) (q : QEntry), FlagsOk s p (wFlagSel q.w) →
      let xs := (s.acting p q).map fun w => s.vsrc p w true (q.op 0)
      let src := bitsOf ((q.op 1).num 13) 5 5
      let fmt := bitsOf ((q.op 1).num 13) 0 5
      (VectorReady s p 0x3C q → Completes (.vcvt p) s (WicksHold s p q fun w =>
        (convertElem fmt (roundingOf q (wSub q.w) w)
          (decodeElem src (s.vsrc p w (src == 0) (q.op 0) % 2 ^ fmtBits src))).val)) ∧
      (VectorReady s p 0x3D q → Completes (.vmxq p) s fun t => Started s p 1 q t ∧
        ∀ g, g < (wCount q.w + 1) / 32 →
          let ws := (s.acting p q).filter fun w => decide ((w - wFirst q.w) / 32 = g)
          let m := mxGroup fmt (ws.map fun w => s.vsrc p w true (q.op 0))
          ∀ i w, ws[i]? = some w →
            t.wreg p w (wVd q.w + 1) = m.1 % 2 ^ 32 ∧ t.wreg p w (wVd q.w) = m.2.1.getD i 0 % 2 ^ 32) ∧
      (VectorReady s p 0x3E q → Completes (.vrand p) s (WicksHold s p q q.random)) ∧
      (VectorReady s p 0x48 q → Completes (.vshfl p) s (WicksHold s p q fun w =>
        s.vsrc p (s.shflFrom p w q) false (q.op 0))) ∧
      (VectorReady s p 0x49 q → Settled s p 1 → s.hasPhase p 1 = true →
        let g := addendGrid xs
        let sum := (sumAddends g xs).finish
        let off := (q.op 1).num 22 / 8 * 8
        Completes (.vsumred p) s fun t => WicksHold s p q (fun _ => (sum.1.toFloat fmtFp32 g).val) t ∧
          (wSub q.w = 1 → s.acting p q ≠ [] → RowsWritten s p q [(off, lsBytes sum.1.toLong.1), (off + 24, leBytes 8 (gridWord g))]
            (orFlags (orFlags sum.2 (sum.1.toFloat fmtFp32 g).flags) sum.1.toLong.2) t)) ∧
      (VectorReady s p 0x4A q → Completes (.vmaxred p) s (WicksHold s p q fun _ => (maxMinList true xs).val)) ∧
      (VectorReady s p 0x4B q → Completes (.vminred p) s (WicksHold s p q fun _ => (maxMinList false xs).val)) ∧
      (VectorReady s p 0x4C q → Completes (.vexpmax p) s (WicksHold s p q fun _ => (expMaxList xs).val)) ∧
      (VectorReady s p 0x4D q → Completes (.vscan p) s fun t => Started s p 1 q t ∧
        ∀ i w, (s.acting p q)[i]? = some w → t.wreg p w (wVd q.w) =
          (((xs.take (i + 1)).foldl (fun (a : LsAcc) x => a.addTerm (addendGrid xs) (addendTerm (fp32 x))) {}).finish.1.toFloat fmtFp32
            (addendGrid xs)).val % 2 ^ 32))

/-- Loads and stores of the vector engine, where memory is settled and the port wheel gives the engine a phase: every acting wick
loads the extended value at its address, and of the wicks that store to one address the highest stands. Rests on the model's
choices of log entry 5. (02 R46, 03 R79) -/
def Obligations.VectorLoadsAndStores : Prop := ∀ (p : ParcelId) (s : State) (q : QEntry),
  Settled s p 1 → s.hasPhase p 1 = true →
  let n := 2 ^ wSub q.w
  let at' := fun w => (s.widx' p w + s.vsrc p w false (q.op 1)) % 0x400000 / n * n
  (VectorReady s p 0x40 q →
    Completes (.vld p) s (WicksHold s p q fun w =>
      if wInt q.w then wrapTo 32 (sextOf (8 * n) (leNat (s.pmRead p (at' w) n))) else leNat (s.pmRead p (at' w) n))) ∧
  (VectorReady s p 0x41 q → wSub q.w ≤ 2 →
    Completes (.vst p) s fun t => Started s p 1 q t ∧
      (∀ w ∈ s.acting p q, (∀ x ∈ s.acting p q, w < x → at' x ≠ at' w) →
        t.pmRead p (at' w) n = leBytes n (s.vsrc p w false (q.op 0))) ∧
      ∀ a, (∀ w ∈ s.acting p q, ¬(pmAddr p (at' w) ≤ a ∧ a < pmAddr p (at' w) + n)) → t.rd8 a = s.rd8 a)

/-- The frame of the vector instructions: a lanewise, reduction, shuffle, random or conversion instruction changes VD of the
acting wicks (VMXQ VD + 1 too; VSEL of the whole range) and the eight bytes of the flag word it names, and no other wick
register, predicate, index register or byte of memory. Rests on the model's choices of log entry 5. (02 R45, 03 R68, 03 R78,
03 R79, 03 R80, 03 R81, 03 R82) -/
def Obligations.VectorFrame : Prop := ∀ (p : ParcelId) (s t : State) (q : QEntry) (c : Instr) (op : Nat),
  (c, op) ∈ [(.vadd p, 0x20), (.vsub p, 0x21), (.vmul p, 0x22), (.vfma p, 0x23), (.vmax p, 0x24), (.vmin p, 0x25),
    (.vabs p, 0x26), (.vneg p, 0x27), (.viadd p, 0x28), (.visub p, 0x29), (.vimul p, 0x2A), (.vand p, 0x2B), (.vor p, 0x2C),
    (.vxor p, 0x2D), (.vshl p, 0x2E), (.vshr p, 0x2F), (.vsra p, 0x30), (.vmov p, 0x31), (.vexp2 p, 0x34), (.vlog2 p, 0x35),
    (.vrcp p, 0x36), (.vrsqrt p, 0x37), (.vsel p, 0x3B), (.vcvt p, 0x3C), (.vmxq p, 0x3D), (.vrand p, 0x3E), (.vld p, 0x40),
    (.vshfl p, 0x48), (.vmaxred p, 0x4A), (.vminred p, 0x4B), (.vexpmax p, 0x4C), (.vscan p, 0x4D)] →
  s.readyHead p 1 op = some q → wordOk q.w = true → exec c s = .next t →
  (∀ w r, w < 4096 → r < 32 → ¬((if op = 0x3B then w ∈ rangeOf q else w ∈ s.acting p q) ∧
      (r = wVd q.w ∨ op = 0x3D ∧ r = wVd q.w + 1)) → t.wreg p w r = s.wreg p w r) ∧
    (∀ u w, t.pred u w = s.pred u w) ∧ (∀ u w, t.widx' u w = s.widx' u w) ∧
    (∀ a, ¬(wFlagSel q.w ≠ 0 ∧ pmAddr p (0x3FFFC0 + 8 * wFlagSel q.w) ≤ a ∧ a < pmAddr p (0x3FFFC0 + 8 * wFlagSel q.w) + 8) →
      t.rd8 a = s.rd8 a)

/-- VEXP2, VLOG2, VRCP and VRSQRT on special inputs: every acting wick whose source is a zero, an infinity, a NaN, a negative
value or one outside the range of VEXP2, as R115 lists them, holds the result R115 names, and the flag R115 names is set in
the flag word the instruction selects (no other engine of the parcel writing at the time, so that the word it ORs into is one
word). (05 R115) -/
def Obligations.SpecialFunctionsTreatSpecialInputs : Prop := ∀ (p : ParcelId) (s : State) (q : QEntry) (c : Instr) (op : Nat),
  (c, op) ∈ [(.vexp2 p, 0x34), (.vlog2 p, 0x35), (.vrcp p, 0x36), (.vrsqrt p, 0x37)] →
  VectorReady s p op q → FlagsOk s p (wFlagSel q.w) →
  Completes c s fun t => ∀ w ∈ s.acting p q, ∀ v k,
    specialInput op (s.vsrc p w true (q.op 0) % 2 ^ 32) = some (v, k) →
    t.wreg p w (wVd q.w) = v ∧
    ∀ b ∈ k, wFlagSel q.w ≠ 0 → s.unsettled p 1 = [] → bitAt (t.rdNat (pmAddr p (0x3FFFC0 + 8 * wFlagSel q.w)) 8) b = true

/-- A tensor instruction starts where it may, whatever its descriptors. With its engine given a phase, memory settled, no drill's
residue failure armed and descriptors that agree, it leaves in memory the rows that its table gives: TMUL's elements from the
terms of each row and column, on its grid; TLSADD's re-gridded exact sums; TLSCVT's converted long sums; TLSSET's zeros; with
the grid word of a long-sum destination; and its flags ORed into its flag word. A residue check that a drill has made fail
stops the pass with RESIDUE_MISMATCH, once, where the engine has a phase. Rests on the model's choices of log entries 5, 79.
(03 R71, 03 R73, 03 R74, 03 R76, 13 R341) -/
def Obligations.TensorInstructionsTakeEffect : Prop :=
  (∀ (p : ParcelId) (s : State) (q : QEntry),
      let d := (q.op 0).bits
      let db := (q.op 0).base
      let a := (q.op 1).bits
      let ab := (q.op 1).base
      let b := (q.op 2).bits
      let bb := (q.op 2).base
      let sound := (q.op 0).broken = false ∧ (q.op 1).broken = false ∧ (q.op 2).broken = false
      let served := Settled s p 0 ∧ s.hasPhase p 0 = true
      let ok := served ∧ tabGet false s.residueArmed p = false
      let gridRow := fun (g : Int) => if dFmt d = 14 then [(db + dScaleOff d, leBytes 8 (gridWord g))] else []
      (∀ (c : Instr) (op : Nat), (c, op) ∈ [(.tmul p, 0x10), (.tlsadd p, 0x11), (.tlscvt p, 0x12), (.tlsset p, 0x13)] →
        TensorReady s p op q → Completes c s (Started s p 0 q)) ∧
      (TensorReady s p 0x10 q → ok → sound → State.tmulBroken (q.op 0) (q.op 1) (q.op 2) q = false →
        let r := tmulRows ((q.op 3).num 7)
        let n := dExt b 1
        let acc := bitAt (wMod q.w) 0
        let auto := s.autoGrid p ab a r bb b
        let old := s.gridAt p db d
        let g := ((q.op 4).grid).getD (if acc then min old auto else auto)
        let row := fun (i : Nat) => addrAdd db ((i : Int) * dStr1 d)
        let element := fun (i j : Nat) => tmulElem g (dFmt d)
          (if acc then some (regrid (s.lsAt p (row i + fmtBits (dFmt d) / 8 * j)) old g) else none)
          (tmulTerms (s.actRow p ab a i) (s.weightCol p bb b j))
        Completes (.tmul p) s fun t => Started s p 0 q t ∧ RowsWritten s p q
          (((List.range r).map fun i => (row i, (List.range n).flatMap fun j => (element i j).1)) ++ gridRow g)
          (unionFlags ((List.range r).map fun i => unionFlags ((List.range n).map fun j => (element i j).2))) t) ∧
      (TensorReady s p 0x11 q → ok → sound → dFmt d = 14 → dFmt a = 14 → dFmt b = 14 → dForm d = 0 → dForm a = 0 → dForm b = 0 →
        sameExtents d a = true → sameExtents d b = true →
        let g := ((q.op 4).grid).getD (min (s.gridAt p ab a) (s.gridAt p bb b))
        let sum := fun (x y : Nat) =>
          let u := regrid (s.lsAt p x) (s.gridAt p ab a) g
          let v := regrid (s.lsAt p y) (s.gridAt p bb b) g
          let z := ((({} : LsAcc).addInt u.1).addInt v.1).finish
          (lsBytes z.1.toLong.1, orFlags z.2 (flagIf (u.2 || v.2) flagLsSat))
        let sums := ((dElems db d 20).zip ((dElems ab a 20).zip (dElems bb b 20))).map fun e => (e.1, sum e.2.1 e.2.2)
        Completes (.tlsadd p) s fun t => Started s p 0 q t ∧
          RowsWritten s p q ((sums.map fun e => (e.1, e.2.1)) ++ gridRow g) (unionFlags (sums.map (·.2.2))) t) ∧
      (∀ f, TensorReady s p 0x12 q → served → (q.op 0).broken = false → (q.op 1).broken = false → floatFmt? (dFmt d) = some f → dFmt d ≤ 3 →
        dFmt a = 14 → dForm d = 0 → dForm a = 0 → sameExtents d a = true →
        let g := s.gridAt p ab a
        let size := fmtBits (dFmt d) / 8
        let results := (((dElems db d size).zip (dElems ab a 20)).zipIdx).map fun e =>
          (e.1.1, lsConvert f (roundingOf q (bitsOf (wMod q.w) 0 2) e.2) (s.lsAt p e.1.2) g)
        Completes (.tlscvt p) s fun t => Started s p 0 q t ∧
          RowsWritten s p q (results.map fun e => (e.1, leBytes size e.2.val)) (unionFlags (results.map (·.2.flags))) t) ∧
      (TensorReady s p 0x13 q → served → (q.op 0).broken = false → dFmt d = 14 → dForm d = 0 →
        Completes (.tlsset p) s fun t => Started s p 0 q t ∧
          RowsWritten s p q (((dElems db d 20).map fun o => (o, List.replicate 20 0)) ++ gridRow (gridOf ((q.op 4).num 16))) 0 t)) ∧
  (∀ (p : ParcelId) (s : State) (q : QEntry) (c : Instr) (op : Nat),
      (c, op) ∈ [(.tmul p, 0x10), (.tlsadd p, 0x11)] → tabGet false s.residueArmed p = true → TensorReady s p op q →
      s.hasPhase p 0 = true →
      Completes c s fun t => (∃ f, f.entry = q ∧ f.status = 0x41 ∧ (t.eng p 0).flight = (s.eng p 0).flight ++ [f]) ∧
        tabGet false t.residueArmed p = false)

/-- A move starts where it may. With every access served, memory settled, descriptors that agree, no overlap and no tier line to
read, its data moves at once: MFILL repeats its eight-byte pattern over the rows; MCOPY copies plane to plane; MGATH takes
row i from the row that index i names, or zeros it; MSCAT puts row i at the row that index i names, or nowhere. A move that
reads tiers asks for its lines. The four moves' frame: no wick, no code word, descriptor or parameter register changes, and
no byte of parcel memory outside the move's reach. Rests on the model's choices of log entries 5, 34, 79. (04 R86, 04 R87, 04
R88, 04 R90) -/
def Obligations.MovesWriteTheirRunsOnly : Prop :=
  (∀ (p : ParcelId) (s : State) (q : QEntry),
      let d := (q.op 0).bits
      let db := (q.op 0).base
      let a := (q.op 1).bits
      let ab := (q.op 1).base
      let ok := MoveServed s p (movesLines s p q) ∧ s.linesLeft p q [] = [] ∧ Settled s p 2 ∧ moveBroken q = false ∧
        runsOverlap (s.moveRuns p [] q) = false
      let index := fun (rows i : Nat) => s.indexAt p [] (q.op 2) rows i
      let places := fun (data : List (Nat × List Byte)) (t : State) => Started s p 2 q t ∧ Placed s p data t
      (∀ (c : Instr) (op : Nat), (c, op) ∈ [(.mcopy p, 0x80), (.mfill p, 0x81), (.mgath p, 0x82), (.mscat p, 0x83)] →
        MoveReady s p op q → Completes c s (Started s p 2 q) ∧
        (MoveServed s p (movesLines s p q) → s.linesLeft p q [] ≠ [] → Completes c s fun t => SameMemory s t ∧
          ((t.eng p 2).flight.getLast?.map (·.need)) = some (s.linesLeft p q []) ∧
          t.tierReads.map (fun r => (r.parcel, r.line)) =
            s.tierReads.map (fun r => (r.parcel, r.line)) ++ (s.linesLeft p q []).map fun l => (p.val, l))) ∧
      (MoveReady s p 0x80 q → ok →
        let planes := fun (base d : Nat) => valueRuns base d (s.tileCount p [] ab a) ++ sideRuns base d
        Completes (.mcopy p) s (places (copied s p (planes db d) (planes ab a)))) ∧
      (MoveReady s p 0x81 q → ok →
        let n := packBytes (dFmt d) (dExt d 0)
        let pattern := leBytes 8 ((q.op 1).num 64)
        Completes (.mfill p) s (places ((dRows d).zipIdx.map fun o =>
          (addrAdd db o.1, (List.range n).map fun k => pattern.getD ((o.2 * n + k) % 8) 0)))) ∧
      (MoveReady s p 0x82 q → ok → Completes (.mgath p) s (places ((List.range (dExt d 1)).flatMap fun i =>
        match index (dExt a 1) i with
        | some j => copied s p (tableRow db d i) (tableRow ab a j)
        | none => (tableRow db d i).map fun x => (x.1, List.replicate x.2 0)))) ∧
      (MoveReady s p 0x83 q → ok → Completes (.mscat p) s (places ((List.range (dExt a 1)).flatMap fun i =>
        match index (dExt d 1) i with
        | some j => copied s p (tableRow db d j) (tableRow ab a i)
        | none => [])))) ∧
  (∀ (p : ParcelId) (s t : State) (c : Instr),
      c ∈ [.mcopy p, .mfill p, .mgath p, .mscat p] → exec c s = .next t →
      SameWicks s t ∧ SameRegisters s t ∧ t.code = s.code ∧ t.descs = s.descs ∧ t.live = s.live ∧ t.shadow = s.shadow ∧
        ∀ a, (inParcelMem a = false ∨ s.reach p a = false) → t.rd8 a = s.rd8 a)

/-- The beacon instructions send their operation to the home parcel where its crossing has room; a crossing under reset takes
none and counts it; a ninth BWAIT waits; a FENCE leaves no accepted write of the moves it covers hidden from other agents.
Rests on the model's choices of log entry 5. (04 R91, 04 R92, 04 R98, 07 R177) -/
def Obligations.BeaconInstructionsStart : Prop := ∀ (p : ParcelId) (s : State) (q : QEntry),
  let home := beaconHome (wBeacon q.w) / 16
  let open8 := (s.eng p 4).flight.countP (fun f => wOpcode f.entry.w == 0xC1 && (f.stage == .held || f.stage == .run))
  (s.crossFull p (wBeacon q.w) = false →
    ∀ (c : Instr) (op : Nat) (k : BeaconKind),
    (c, op, k) ∈ [(.bsig p, 0xC0, .sig), (.bwait p, 0xC1, .wait), (.bbcast p, 0xC2, .bcast), (.bsub p, 0xC3, .sub)] →
    s.readyHead p 4 op = some q → (op = 0xC1 → open8 < 8) →
    ((p.val / 16 = home ∨ s.bit Reg.TWN_XRST home = false) → Completes c s fun t => Started s p 4 q t ∧
      t.beaconOps = s.beaconOps ++ [{ kind := k, parcel := p, seq := q.seq, beacon := wBeacon q.w, amount := wAmount q.w }]) ∧
    (p.val / 16 ≠ home → s.bit Reg.TWN_XRST home = true → Completes c s fun t => Started s p 4 q t ∧
      t.beaconOps = s.beaconOps ∧ t.fld Reg.TWN_FLUSHED home = satAdd 32 (s.fld Reg.TWN_FLUSHED home) 1)) ∧
  (s.readyHead p 4 0xC1 = some q → 8 ≤ open8 → exec (.bwait p) s = .next s) ∧
  (s.readyHead p 4 0xC8 = some q → Completes (.fence p) s fun t => Started s p 4 q t ∧
    ∀ w ∈ t.tierWrites, w.accepted = true → ¬(w.parcel = p.val ∧ w.seq < q.cover))

/-- Waiters are served strictly in registration order: the release procedure releases a prefix of the queue, takes exactly the
needs released from the count, and stops at an empty queue or at a head whose need exceeds the count. A beacon operation that
arrives alone, the first of its crossing, in a plan cycle of a live beacon's home in its own tract: a signal adds and runs
the release, unless the count would pass 65,535; a subtraction takes its amount and runs the release, unless the count is too
small; a wait joins the queue's end and runs the release; a broadcast empties the queue and leaves the count. The waiters a
release names may complete, with OK. (04 R93) -/
def Obligations.BeaconCountsAndWaitersFollowOperations : Prop :=
  (∀ (c : Nat) (l : List Waiter),
      let r := releaseWaiters c l
      r.2.2 ++ r.2.1 = l ∧ r.1 + (r.2.2.map (·.need)).sum = c ∧ (∀ w, r.2.1.head? = some w → r.1 < w.need)) ∧
  (∀ (s : State) (b : Fin 32768) (p : ParcelId) (o : BeaconOp),
      s.oldestOp b p = some o → s.planRuns (beaconHome b / 16) = true → s.behind [o] o = false →
      s.disabled (beaconHome b) = false → s.beaconLive b = true →
      (∃ t, s.ptract p = some t ∧ s.ptract (beaconHome b) = some t) →
      let x := s.beacon b
      let released := fun (c : Nat) (l : List Waiter) (t : State) =>
        (t.beacon b).count = (releaseWaiters c l).1 ∧ (t.beacon b).waiters = (releaseWaiters c l).2.1 ∧
        ∀ w ∈ (releaseWaiters c l).2.2, ∀ f ∈ (s.eng w.parcel 4).flight, f.entry.seq = w.seq → f.stage = .held →
          { f with stage := .run, status := 0 } ∈ (t.eng w.parcel 4).flight
      (o.kind = .sig → x.count + o.amount ≤ 65535 →
        Completes (.beaconOpArrival b [p]) s (released (x.count + o.amount) x.waiters)) ∧
      (o.kind = .sig → 65535 < x.count + o.amount → Completes (.beaconOpArrival b [p]) s fun t => t.beacon b = x) ∧
      (o.kind = .sub → o.amount ≤ x.count →
        Completes (.beaconOpArrival b [p]) s (released (x.count - o.amount) x.waiters)) ∧
      (o.kind = .sub → x.count < o.amount → Completes (.beaconOpArrival b [p]) s fun t => t.beacon b = x) ∧
      (o.kind = .wait →
        Completes (.beaconOpArrival b [p]) s (released x.count (x.waiters ++ [⟨p, o.seq, o.amount⟩]))) ∧
      (o.kind = .bcast → Completes (.beaconOpArrival b [p]) s fun t =>
        (t.beacon b).waiters = [] ∧ (t.beacon b).count = x.count))

/-- A completion counter advances in issue order: the oldest instruction of an engine that completes without a failure, its
successor still running, advances its counter by one modulo 2^24; a younger one that completes first does not. An instruction
that completes with a failure stops its parcel: the fault record names its status, engine, tag and command count, and the
fault event is set. Rests on the model's choices of log entry 2. (02 R36, 02 R37, 02 R40, 02 R41, 04 R96) -/
def Obligations.CompletionsCountInOrderOrStopTheParcel : Prop :=
  (∀ (s : State) (p : ParcelId) (e : Fin 6) (f : Flight) (fs : List Flight)
        (c : Instr) (i : Nat),
      (s.eng p e).flight = f :: fs → f.status = 0 → (∀ g, fs.head? = some g → g.stage ≠ .done) →
      s.planRuns (p / 16) = true →
      (∃ g, (f :: fs)[i]? = some g ∧ g.status = 0 ∧ f.stage ≠ .done ∧
        ((e.val ≤ 1 ∧ c = .engineCompletion p e i ∧ g.stage = .run) ∨
         (e.val = 2 ∧ c = .engineCompletion p e i ∧ g.stage = .run ∧ s.moveReady p g = true) ∨
         (e.val = 3 ∧ c = .engineCompletion p e i ∧ g.stage = .run ∧ wOpcode g.entry.w ≠ 0xA1) ∨
         (e.val = 4 ∧ c = .engineCompletion p e i ∧ g.stage = .run ∧ wOpcode g.entry.w = 0xC8 ∧ bitsOf (wMod g.entry.w) 0 1 = 0) ∨
         (e.val = 4 ∧ c = .beaconAckReturn p i ∧ g.stage = .run ∧ wOpcode g.entry.w ≠ 0xC8))) →
      Completes c s fun t =>
        t.fld (cntFld e) p = (if i = 0 then (s.fld (cntFld e) p + 1) % 2 ^ 24 else s.fld (cntFld e) p % 2 ^ 24) ∧
        (i = 0 → (t.eng p e).flight = fs)) ∧
  (∀ (s : State) (p : ParcelId) (e : Fin 2) (i : Nat) (f : Flight),
      (s.eng p e).flight[i]? = some f → f.stage = .run → f.status ≠ 0 → f.status < 256 → f.entry.cmd < 2 ^ 48 →
      s.planRuns (p / 16) = true → (s.par p).faulted = false →
      Completes (.engineCompletion p (e.castLE (by decide)) i) s fun t => (t.par p).faulted = true ∧
        t.fld Reg.PCT_FAULT_STATUS p = f.status ∧ t.fld Reg.PCT_FAULT_ENGINE p = e ∧
        t.fld Reg.PCT_FAULT_TAG p = wTag f.entry.w ∧ t.fld Reg.PCT_FAULT_CMD_VAL p = f.entry.cmd ∧
        t.bit Reg.PCT_EVT_FAULT p = true ∧ t.canIssue p = false)

/-- The exchange instructions start: XSEND cuts its source, in element order, into packets of up to 1,024 bytes, 4,096 at most,
or sends none where the route entry is not the parcel's; XSIG queues one signal packet for its beacon and amount; XRECV waits
on its tally until its deadline tick, behind an earlier one on the same tally; XCOLL enters flight, and on an entry that the
tract does not hold does nothing. An XCOLL on an entry that its tract holds: with one participant its result is there at
once, and for four-byte words it is the source, element for element; with contributions outstanding it waits, with a
collective in progress, until the deadline tick of its entry. Rests on the model's choices of log entries 21, 45, 85. (04
R100, 04 R101, 04 R102, 04 R103, 11 R279) -/
def Obligations.ExchangeInstructionsStart : Prop :=
  (∀ (p : ParcelId) (s : State) (q : QEntry),
      let d := (q.op 0).bits
      let source := (dRows d).flatMap fun o => (List.range (packBytes (dFmt d) (dExt d 0))).map fun i =>
        s.rd8 (pmAddr p (addrAdd (q.op 0).base o + i))
      let number := min 4096 (ceilDiv source.length 1024)
      (s.readyHead p 3 0xA0 = some q → Completes (.xsend p) s (Started s p 3 q)) ∧
      (∀ t r, s.readyHead p 3 0xA0 = some q → s.routeFor p ((q.op 1).num 12) = some (t, r) → s.hasPhase p 3 = true → s.uncorr = [] →
        Completes (.xsend p) s fun u => Started s p 3 q u ∧ SameMemory s u ∧ ∃ l, u.txq = s.txq ++ l ∧ l.length = number ∧
          ∀ (i : Nat) (x : TxPkt), l[i]? = some x → x.parcel = p.val ∧ x.link = r.link ∧ x.slots = r.slots ∧
            x.final = decide ((i + 1) * 1024 ≥ source.length ∨ i + 1 = 4096) ∧
            x.pkt.kind = 0x80 ∧ x.pkt.vc = r.vc ∧ x.pkt.cls = r.cls ∧ x.pkt.dest = r.dest ∧ x.pkt.dparcel = r.destFold ∧
            x.pkt.job = (s.tract t).job ∧ x.pkt.epoch = (s.tract t).epoch ∧ x.pkt.tally = (q.op 2).num 6 ∧
            x.pkt.offset = ((q.op 3).num 22 + 1024 * i) % 0x400000 ∧ x.pkt.payload = (source.drop (1024 * i)).take 1024 ∧
            x.pkt.flags = (if x.final = true ∧ bitAt (wMod q.w) 0 = true then 1 else 0)) ∧
      (s.readyHead p 3 0xA0 = some q → s.routeFor p ((q.op 1).num 12) = none →
        Completes (.xsend p) s fun u => Started s p 3 q u ∧ u.txq = s.txq ∧ SameMemory s u) ∧
      (∀ t r, s.readyHead p 3 0xA2 = some q → s.routeFor p (wRoute q.w) = some (t, r) →
        Completes (.xsig p) s fun u => Started s p 3 q u ∧ ∃ x, u.txq = s.txq ++ [x] ∧ x.parcel = p.val ∧ x.link = r.link ∧
          x.pkt.kind = 0x81 ∧ x.pkt.dest = r.dest ∧ x.pkt.job = (s.tract t).job ∧ x.pkt.epoch = (s.tract t).epoch ∧
          x.pkt.sp = wBeacon q.w + wAmount q.w * 2 ^ 16) ∧
      (s.readyHead p 3 0xA2 = some q → s.routeFor p (wRoute q.w) = none →
        Completes (.xsig p) s fun u => Started s p 3 q u ∧ u.txq = s.txq) ∧
      (s.readyHead p 3 0xA1 = some q → s.tallyBusy p q = false →
        Completes (.xrecv p) s fun u => Started s p 3 q u ∧ SameMemory s u ∧ (∃ f, (u.eng p 3).flight.getLast? = some f ∧ f.stage = .held ∧
          f.deadline = s.planTick (p / 16) + (if (q.op 2).num 12 = 0 then 4096 else (q.op 2).num 12))) ∧
      (s.readyHead p 3 0xA1 = some q → s.tallyBusy p q = true → exec (.xrecv p) s = .next s) ∧
      (s.readyHead p 3 0xA8 = some q → Completes (.xcoll p) s fun u => (u.eng p 3).queue = (s.eng p 3).queue.tail ∧
        (u.eng p 3).flight.map (·.entry) = (s.eng p 3).flight.map (·.entry) ++ [q]) ∧
      (s.readyHead p 3 0xA8 = some q → s.collEntry p ((q.op 2).num 16) = none →
        Completes (.xcoll p) s fun u => Started s p 3 q u ∧ u.colls = s.colls ∧ u.txq = s.txq ∧ SameMemory s u)) ∧
  (∀ (p : ParcelId) (s : State) (q : QEntry) (t : Nat) (e : CollEntry),
      let kind := bitsOf (wMod q.w) 0 3
      let d := (q.op 1).bits
      s.readyHead p 3 0xA8 = some q → s.collEntry p ((q.op 2).num 16) = some (t, e) → s.uncorr = [] → s.collRx = [] →
      s.hasPhase p 3 = true → (∀ c ∈ s.colls, c.parcel ≠ p.val) →
      (∀ f ∈ (s.eng p 3).flight, f.entry.seq ≠ q.seq) → descShape d = true →
      (e.parts = 1 → e.pos = 0 → Completes (.xcoll p) s fun u => u.colls = s.colls ∧ u.txq = s.txq ∧
        (∃ f, (u.eng p 3).flight = (s.eng p 3).flight ++ [f] ∧ f.entry = q ∧ f.stage = .run ∧ f.status = 0) ∧
        (1 ≤ upForm kind (dFmt d) → upForm kind (dFmt d) ≤ 3 → RowsWritten s p q
          (((dElems (q.op 0).base (q.op 0).bits 4).zip (dElems (q.op 1).base d 4)).map fun e => (e.1, s.pmRead p e.2 4)) 0 u)) ∧
      (e.children kind ≠ [] ∨ e.pos ≠ e.root kind → 0 < e.parts → Completes (.xcoll p) s fun u =>
        (∃ c ∈ u.colls, c.parcel = p.val ∧ c.seq = q.seq ∧ c.kind = kind) ∧ SameMemory s u ∧
        ∃ f, (u.eng p 3).flight = (s.eng p 3).flight ++ [f] ∧ f.entry = q ∧ f.stage = .held ∧
          f.deadline = s.planTick (p / 16) + e.deadline))

/-- Packets and the transfers that wait for them: a data packet is written at its offset and counted in its tally; an XRECV whose
tally has its count and the last flag completes and takes its count from the tally; one that has not by its deadline fails
with TALLY_SHORT and stops its parcel. Rests on the model's choices of log entries 41, 49, 97. (02 R36, 04 R101, 04 R104, 04
R105, 10 R249) -/
def Obligations.TransfersAreCountedAndJudged : Prop := ∀ (p : ParcelId) (s : State),
  (∀ a, s.arrivals.find? (fun a => a.parcel == p.val) = some a → a.pkt.kind = 0x80 → (s.town (p / 16)).clocked = true → s.hasPhase p 3 = true →
    (∀ f ∈ (s.eng p 3).flight, f.stage ≠ .held) → s.uncorr = [] → a.pkt.payload.length ≤ 1024 →
    Completes (.packetDeliver p) s fun t => t.pmRead p a.pkt.offset a.pkt.payload.length = a.pkt.payload ∧
      t.tally p a.pkt.tally = ⟨(s.tally p a.pkt.tally).count + 1, (s.tally p a.pkt.tally).last || a.pkt.isLast⟩ ∧ t.arrivals = s.arrivals.erase a) ∧
  (∀ a, s.arrivals.find? (fun a => a.parcel == p.val) = some a → a.pkt.kind = 0x80 → (s.town (p / 16)).clocked = false →
    Completes (.packetDeliver p) s fun t => SameMemory s t ∧ (∀ k, t.tally p k = s.tally p k) ∧
      t.fld Reg.TWN_FLUSHED (p / 16) = satAdd 32 (s.fld Reg.TWN_FLUSHED (p / 16)) 1) ∧
  (∀ (i : Nat) (f : Flight), (s.eng p 3).flight[i]? = some f → wOpcode f.entry.w = 0xA1 → f.stage = .held → f.status = 0 →
    s.tallyMet p f.entry = true → s.planRuns (p / 16) = true →
    Completes (.engineCompletion p 3 i) s fun t => t.tally p (xrecvTally f.entry) =
      { count := (s.tally p (xrecvTally f.entry)).count - xrecvExpect f.entry, last := false }) ∧
  (∀ (i : Nat) (f : Flight), (s.eng p 3).flight[i]? = some f → wOpcode f.entry.w = 0xA1 → f.stage = .held → 0 < f.deadline →
    f.deadline ≤ s.planTick (p / 16) → s.tallyMet p f.entry = false → (s.par p).faulted = false →
    Completes (.transferDeadline p i) s fun t => (t.par p).faulted = true ∧ t.fld Reg.PCT_FAULT_STATUS p = 0x33 ∧
      t.fld Reg.PCT_FAULT_ENGINE p = 3 ∧ ∀ k, t.tally p k = s.tally p k) ∧
  (∀ (l k : LinkId) (seq : Nat) (w : TownshipId) (t : Nat) (g : Nat × Nat × Nat), s.datum ≤ t →
    (s.link k).gaps.find? (fun g => g.1 == seq) = some g → g.2.1 ≤ t / 2048 → t / 2048 ≤ g.2.2 → s.rxHas k seq = false →
    (∀ a ∈ s.arrivals, a.num ≠ pktNum k seq) →
    (∀ f ∈ (s.town w).freezes, ¬(f.cause = 1 ∧ f.key = pktNum k seq)) → 2046 ≤ t % 2048 →
    Completes (.retryOverrun l k seq w t) s fun u =>
      u.bit Reg.LNK_EVT_RETRY_OVR l = true ∧
      u.fld Reg.LNK_RETRY_OVR l = satAdd 16 (s.fld Reg.LNK_RETRY_OVR l) 1 ∧ u.planRuns w = false)

/-- The taper: it takes the call at the head of its queue, starting the routine at twice ENTRY with ARG in a0; PCT_TAPER_RESET
clears it and abandons its routine, or lets it run; while its township takes nothing in, nothing runs. The taper computes as
RV32IM does: of the instruction w at its pc, a word or the expansion of a compressed one, register-register and register-
immediate results, upper immediates, jumps, branches, and the load and store of a word of its data memory; x0 reads zero
whatever is written; an instruction retires in memory order and counts in minstret. A taper traps, its pc and cause recorded
and its event set: outside instruction memory (cause 1), at a compressed instruction that RV32C does not have (2), at EBREAK
(3) and at ECALL (11). Module memory is as before; companion memory may take the report of the job's failure. Rests on the
model's choices of log entries 5, 10, 85. (02 R50, 03 R83, 02 R425, 02 R426) -/
def Obligations.TaperRunsItsCalls : Prop :=
  (∀ (p : ParcelId) (s : State),
      (∀ q, s.readyHead p 5 0x60 = some q → s.bit Reg.PCT_TAPER_RESET p = false → s.bit Reg.PCT_TAPER_TRAPPED p = false →
        (s.par p).taper.running = false →
        Completes (.taperTakeCall p) s fun t => Started s p 5 q t ∧ (t.par p).taper.running = true ∧
          t.fld Reg.PCT_TAPER_PC p = 2 * bitsOf q.w 16 16 ∧ t.treg p 10 = (q.op 0).num 32 ∧
          (∀ r, r ≠ 10 → t.treg p r = s.treg p r) ∧ SameMemory s t) ∧
      (s.bit Reg.PCT_TAPER_RESET p = true ∨ s.bit Reg.PCT_TAPER_TRAPPED p = true ∨ (s.par p).taper.running = true →
        exec (.taperTakeCall p) s = .next s) ∧
      (∀ dt, s.shut (p / 16) = true → exec (.taperInstruction p dt) s = .next s) ∧
      (s.disabled p = false → s.shut (p / 16) = false →
        (Completes (.pctTaperReset p true) s fun t => t.bit Reg.PCT_TAPER_RESET p = true ∧
          (t.par p).taper.running = false ∧ t.fld Reg.PCT_TAPER_PC p = 0 ∧ (∀ r, t.treg p r = 0) ∧
          t.bit Reg.PCT_TAPER_TRAPPED p = false ∧ t.eng p 5 = s.eng p 5 ∧ SameMemory s t ∧ t.imem = s.imem) ∧
        Completes (.pctTaperReset p false) s fun t => t.bit Reg.PCT_TAPER_RESET p = false)) ∧
  (∀ (s : State) (p : ParcelId) (dt len w : Nat),
      let pc := s.fld Reg.PCT_TAPER_PC p
      (s.par p).taper.running = true → s.bit Reg.PCT_TAPER_RESET p = false → s.planRuns (p / 16) = true → s.shut (p / 16) = false →
      pc + 4 ≤ 0x10000 →
      (len = 4 ∧ w = s.imemRead p pc 4 ∧ w % 4 = 3 ∨ len = 2 ∧ s.imemRead p pc 2 % 4 ≠ 3 ∧ expandC (s.imemRead p pc 2) = some w) →
      let rd := bitsOf w 7 5
      let a := BitVec.ofNat 32 (s.treg p (bitsOf w 15 5))
      let b := BitVec.ofNat 32 (s.treg p (bitsOf w 20 5))
      let imm := (BitVec.ofNat 12 (bitsOf w 20 12)).signExtend 32
      let sImm := (BitVec.ofNat 12 (bitsOf w 25 7 * 32 + rd)).signExtend 32
      let bImm := (BitVec.ofNat 13 (bitsOf w 31 1 * 2 ^ 12 + bitsOf w 7 1 * 2 ^ 11 + bitsOf w 25 6 * 2 ^ 5 + bitsOf w 8 4 * 2)).signExtend 32
      let jImm := (BitVec.ofNat 21 (bitsOf w 31 1 * 2 ^ 20 + bitsOf w 12 8 * 2 ^ 12 + bitsOf w 20 1 * 2 ^ 11 +
        bitsOf w 21 10 * 2)).signExtend 32
      let at' := BitVec.ofNat 32 pc
      let next := at' + BitVec.ofNat 32 len
      let is := fun (opc f3 f7 : Nat) => bitsOf w 0 7 = opc ∧ bitsOf w 12 3 = f3 ∧ bitsOf w 25 7 = f7
      let goes := fun (npc : BitVec 32) (t : State) => t.fld Reg.PCT_TAPER_PC p = npc.toNat ∧
        (t.par p).taper.minstret = (s.par p).taper.minstret + 1 ∧ (t.par p).taper.running = true
      let writes := fun (v : BitVec 32) (t : State) => ∀ r, t.treg p r = if r = rd ∧ r ≠ 0 then v.toNat else s.treg p r
      let ret := fun (v npc : BitVec 32) => Completes (.taperInstruction p dt) s fun t => goes npc t ∧ writes v t ∧ SameMemory s t
      let data := fun (x : BitVec 32) => x.toNat % 4 = 0 ∧ 0x10000000 ≤ x.toNat ∧ x.toNat < 0x10040000
      (bitsOf w 0 7 = 0x13 → bitsOf w 12 3 = 0 → ret (a + imm) next) ∧ (is 0x33 0 0 → ret (a + b) next) ∧
      (is 0x33 0 0x20 → ret (a - b) next) ∧ (is 0x33 1 0 → ret (a <<< (b.toNat % 32)) next) ∧
      (is 0x33 5 0 → ret (a >>> (b.toNat % 32)) next) ∧ (is 0x33 5 0x20 → ret (a.sshiftRight (b.toNat % 32)) next) ∧
      (is 0x33 7 0 → ret (a &&& b) next) ∧ (is 0x33 6 0 → ret (a ||| b) next) ∧ (is 0x33 4 0 → ret (a ^^^ b) next) ∧
      (is 0x33 2 0 → ret (if a.slt b then 1 else 0) next) ∧ (is 0x33 3 0 → ret (if a.ult b then 1 else 0) next) ∧
      (is 0x33 0 1 → ret (a * b) next) ∧ (is 0x33 5 1 → ret (if b = 0 then BitVec.allOnes 32 else a / b) next) ∧
      (is 0x33 7 1 → ret (if b = 0 then a else a % b) next) ∧
      (bitsOf w 0 7 = 0x37 → ret (BitVec.ofNat 32 (bitsOf w 12 20) <<< 12) next) ∧
      (bitsOf w 0 7 = 0x17 → ret (at' + BitVec.ofNat 32 (bitsOf w 12 20) <<< 12) next) ∧
      (bitsOf w 0 7 = 0x6F → ret next (at' + jImm)) ∧
      (bitsOf w 0 7 = 0x63 → bitsOf w 12 3 = 0 ∨ bitsOf w 12 3 = 1 → Completes (.taperInstruction p dt) s fun t =>
        goes (if (a == b) = (bitsOf w 12 3 == 0) then at' + bImm else next) t ∧ (∀ r, t.treg p r = s.treg p r) ∧ SameMemory s t) ∧
      (bitsOf w 0 7 = 0x03 → bitsOf w 12 3 = 2 → data (a + imm) → Settled s p 5 →
        ret (BitVec.ofNat 32 (s.rdNat (taperBase p + ((a + imm).toNat - 0x10000000)) 4)) next) ∧
      (bitsOf w 0 7 = 0x23 → bitsOf w 12 3 = 2 → data (a + sImm) → Settled s p 5 →
        let m := taperBase p + ((a + sImm).toNat - 0x10000000)
        Completes (.taperInstruction p dt) s fun t => goes next t ∧ (∀ r, t.treg p r = s.treg p r) ∧
          t.rdNat m 4 = b.toNat ∧ SameMemoryBut m 4 s t)) ∧
  (∀ (s : State) (p : ParcelId) (dt c : Nat),
      let pc := s.fld Reg.PCT_TAPER_PC p
      (s.par p).taper.running = true → s.bit Reg.PCT_TAPER_RESET p = false → s.planRuns (p / 16) = true → s.shut (p / 16) = false →
      (c = 1 ∧ 0x10000 ≤ pc ∨
       c = 2 ∧ pc < 0x10000 ∧ s.imemRead p pc 2 % 4 ≠ 3 ∧ expandC (s.imemRead p pc 2) = none ∨
       c = 3 ∧ pc + 4 ≤ 0x10000 ∧ s.imemRead p pc 2 % 4 = 3 ∧ s.imemRead p pc 4 = 0x00100073 ∨
       c = 11 ∧ pc + 4 ≤ 0x10000 ∧ s.imemRead p pc 2 % 4 = 3 ∧ s.imemRead p pc 4 = 0x00000073) →
      Completes (.taperInstruction p dt) s fun t => (t.par p).taper.running = false ∧ t.bit Reg.PCT_TAPER_TRAPPED p = true ∧
        t.fld Reg.PCT_TAPER_CAUSE p = c ∧ t.fld Reg.PCT_TAPER_PC p = pc ∧ t.bit Reg.PCT_EVT_TAPER_TRAP p = true ∧
        ∀ a, a < apertureBase → t.rd8 a = s.rd8 a)

/-- The states of a parcel: PCT_START arms an IDLE parcel; PCT_STOP drains a running one; PCT_STOP_NOW, under expert control,
discards every queued instruction; a parcel whose engines are quiet, or whose drain is complete, enters STOPPED with its
status. Rests on the model's choices of log entries 13, 85. (01 R23, 02 R40, 02 R42, 02 R43) -/
def Obligations.ParcelStartsAndStops : Prop := ∀ (p : ParcelId) (s : State), s.disabled p = false → s.shut (p / 16) = false →
  let alive := s.pstate p = stRun ∨ s.pstate p = stDraining
  (s.pstate p = stIdle → Completes (.pctStart p) s fun t => (t.par p).armed = true ∧ t.pstate p = stIdle) ∧
  (s.pstate p ≠ stIdle → exec (.pctStart p) s = .next s) ∧
  (s.pstate p = stRun → (s.par p).faulted = false → Completes (.pctStop p) s fun t =>
    t.pstate p = stDraining ∧ t.canIssue p = false ∧ ∀ e, t.eng p e = s.eng p e) ∧
  (alive → (s.par p).faulted = false → s.expertOpen Reg.PCT_STOP_NOW = true → Completes (.pctStopNow p) s fun t =>
    (t.par p).stopNow = true ∧ t.canIssue p = false ∧ (∀ e, e < 6 → (t.eng p e).queue = []) ∧
    t.fld Reg.PCT_FAULT_DISCARDS p = satAdd 24 (s.fld Reg.PCT_FAULT_DISCARDS p)
      ((s.eng p 0).queue.length + (s.eng p 1).queue.length + (s.eng p 2).queue.length + (s.eng p 3).queue.length +
        (s.eng p 4).queue.length + (s.eng p 5).queue.length + (s.openWaits p).length + s.deadCalls p)) ∧
  (s.expertOpen Reg.PCT_STOP_NOW = false → exec (.pctStopNow p) s = .next s) ∧
  (alive → s.planRuns (p / 16) = true → (s.par p).faulted = true → s.quiet p = true → Completes (.parcelQuiesced p) s fun t => t.pstate p = stStopped ∧
    t.fld Reg.PCT_FAULT_STATUS p = s.fld Reg.PCT_FAULT_STATUS p) ∧
  (alive → s.planRuns (p / 16) = true → (s.par p).faulted = false → (s.par p).stopNow = true → s.quiet p = true →
    Completes (.parcelQuiesced p) s fun t => t.pstate p = stStopped ∧ t.fld Reg.PCT_FAULT_STATUS p = 3 ∧
      t.bit Reg.PCT_EVT_STOPPED p = true) ∧
  (s.pstate p = stDraining → (s.par p).faulted = false → (s.par p).stopNow = false → s.drainComplete p = true → s.planRuns (p / 16) = true →
    s.bit Reg.PCT_COPYING p = false → Completes (.parcelQuiesced p) s fun t => t.pstate p = stStopped ∧
      t.fld Reg.PCT_FAULT_STATUS p = 0 ∧ t.bit Reg.PCT_EVT_STOPPED p = true)

/-- The replay boundary: with the drain complete the parameter copy begins; when it ends the shadow bank is live, the completion
counters and the command count are zero, the replay count has advanced and fetch restarts at the word REPLAY named. (02 R37,
02 R51, 02 R52, 02 R55) -/
def Obligations.ReplayBoundary : Prop := ∀ (p : ParcelId) (s : State) (w : Nat), (s.par p).replayTo = some w →
  s.planRuns (p / 16) = true → (s.par p).faulted = false → (s.par p).stopNow = false → s.pstate p = stRun →
  (s.bit Reg.PCT_COPYING p = false → s.drainComplete p = true → s.ptract p = none →
    Completes (.replayDrainComplete p false) s fun t => t.bit Reg.PCT_COPYING p = true ∧ t.pstate p = stRun ∧
      ∀ n, t.liveP p n = s.liveP p n) ∧
  (∀ r : TractId, s.bit Reg.PCT_COPYING p = false → s.drainComplete p = true → s.ptract p = some r.val →
    s.fld Reg.TRC_STATE_CODE r ≠ 4 → (s.tract r).stopStep ≠ some ((s.tract r).stepStart + s.fld Reg.PCT_REPLAYS p + 1) →
    Completes (.replayDrainComplete p false) s fun t => t.bit Reg.PCT_COPYING p = true ∧ t.pstate p = stRun) ∧
  (∀ r : TractId, s.bit Reg.PCT_COPYING p = false → s.drainComplete p = true → s.ptract p = some r.val →
    s.fld Reg.TRC_STATE_CODE r = 4 →
    Completes (.replayDrainComplete p false) s fun t => t.pstate p = stStopped ∧ t.fld Reg.PCT_FAULT_STATUS p = 0) ∧
  (s.bit Reg.PCT_COPYING p = true → Completes (.replayDrainComplete p true) s fun t =>
    (∀ n, t.liveP p n = s.shadowP p n) ∧ (∀ e, e < 6 → t.fld (cntFld e) p = 0) ∧ t.fld Reg.PCT_CMD p = 0 ∧
    t.fld Reg.PCT_REPLAYS p = (s.fld Reg.PCT_REPLAYS p + 1) % 2 ^ 64 ∧ (t.par p).pc = w ∧ (t.par p).replayTo = none ∧
    t.bit Reg.PCT_COPYING p = false ∧ t.bit Reg.PCT_EVT_REPLAY p = true ∧ SameMemory s t)

/-- The parameter, stream code and descriptor data registers: a parameter write lands in the shadow bank, or is held while the
copy runs; the data registers read and write 64 bits of the word or descriptor their selectors name, where the parcel's state
allows. (02 R58) -/
def Obligations.ParcelDataRegisters : Prop := ∀ (p : ParcelId) (s : State), s.disabled p = false → s.shut (p / 16) = false →
  let word := p * 8192 + s.fld Reg.PCT_CODE_WORD p
  let half := s.fld Reg.PCT_CODE_HALF p
  let desc := p * 1024 + s.fld Reg.PCT_DESC_INDEX p
  let part := s.fld Reg.PCT_DESC_PART p
  (∀ (n : Fin 256) (v : BitVec 64), s.bit Reg.PCT_COPYING p = false → Completes (.pctParamWrite p n v) s fun t =>
    t.shadowP p n = v.toNat ∧ (∀ k, t.liveP p k = s.liveP p k) ∧
    ∀ k : Fin 256, k ≠ n → t.shadowP p k = s.shadowP p k) ∧
  (∀ (n : Fin 256) (v : BitVec 64), s.bit Reg.PCT_COPYING p = true → Completes (.pctParamWrite p n v) s fun t =>
    (t.par p).held = (s.par p).held ++ [(n.val, v)] ∧ t.shadow = s.shadow) ∧
  let codeMoves := fun (t : State) => 2 * t.fld Reg.PCT_CODE_WORD p + t.fld Reg.PCT_CODE_HALF p =
    if s.bit Reg.PCT_CODE_AUTOINC p then (2 * s.fld Reg.PCT_CODE_WORD p + half + 1) % 16384 else 2 * s.fld Reg.PCT_CODE_WORD p + half
  let descMoves := fun (t : State) => 4 * t.fld Reg.PCT_DESC_INDEX p + t.fld Reg.PCT_DESC_PART p =
    if s.bit Reg.PCT_DESC_AUTOINC p then (4 * s.fld Reg.PCT_DESC_INDEX p + part + 1) % 4096 else 4 * s.fld Reg.PCT_DESC_INDEX p + part
  (Completes (.pctCodeDataAccess p none) s fun t =>
    t.lastRead = (tabGet 0 s.code word).extractLsb' (64 * half) 64 ∧ t.code = s.code ∧ codeMoves t) ∧
  (Completes (.pctDescDataAccess p none) s fun t =>
    t.lastRead = (tabGet 0 s.descs desc).extractLsb' (64 * part) 64 ∧ t.descs = s.descs ∧ descMoves t) ∧
  (s.pstate p = stOff ∨ s.pstate p = stIdle ∨ s.pstate p = stStopped ∨ s.pstate p = stHalted → ∀ v,
    (half < 2 → Completes (.pctCodeDataAccess p (some v)) s fun t =>
      (tabGet 0 t.code word).extractLsb' (64 * half) 64 = v ∧ (∀ k, k ≠ word → tabGet 0 t.code k = tabGet 0 s.code k) ∧ codeMoves t) ∧
    (part < 4 → Completes (.pctDescDataAccess p (some v)) s fun t =>
      (tabGet 0 t.descs desc).extractLsb' (64 * part) 64 = v ∧ (∀ k, k ≠ desc → tabGet 0 t.descs k = tabGet 0 s.descs k) ∧
        descMoves t)) ∧
  (s.pstate p = stRun ∨ s.pstate p = stDraining → ∀ v,
    (Completes (.pctCodeDataAccess p (some v)) s fun t =>
      t.code = s.code ∧ t.bit Reg.MCB_EVT_REG_ERR 0 = true ∧ t.fld Reg.MCB_RAE_ADDR 0 = fieldAddr Reg.PCT_CODE_VAL p ∧ codeMoves t) ∧
    (Completes (.pctDescDataAccess p (some v)) s fun t =>
      t.descs = s.descs ∧ t.bit Reg.MCB_EVT_REG_ERR 0 = true ∧ t.fld Reg.MCB_RAE_ADDR 0 = fieldAddr Reg.PCT_DESC_VAL p ∧ descMoves t))

/-- A township opens the gate of its next tick, the first of a clock that has started within 3 ns of it (the model's choice), its
parcels that are armed run, and an armed tract starts at its start tick. Rests on the model's choices of log entry 108. (02
R42, 08 R196, 08 R199) -/
def Obligations.TickGateOpensTheWindow : Prop := ∀ (w : TownshipId) (t : Nat) (s : State),
  let n := s.nextTick w t
  (s.town w).clocked = true → tabGet false s.windowOpen w = false → (s.town w).freezes = [] → 2048 * n ≤ t → s.datum ≤ t →
  ((s.town w).tick = none → t ≤ 2048 * n + 3) →
  Completes (.tickGate w t) s fun u => u.datum = t ∧ tabGet false u.windowOpen w = true ∧ tabGet 0 u.gateAt w = t ∧
    (u.town w).tick = some n ∧ (u.town w).lag = t - 2048 * n ∧ u.planRuns w = true ∧
    (∀ p : ParcelId, p / 16 = w.val → s.pstate p = stIdle → (s.par p).armed = true → u.pstate p = stRun) ∧
    (∀ r : TractId, s.tractOf w = some r.val → (s.tract r).armed = true → s.fld Reg.TRC_STATE_CODE r = 2 →
      s.fld Reg.TRC_START_TICK_NUM r = n → (s.tract r).retiring = false → u.fld Reg.TRC_STATE_CODE r = 3 ∧ u.bit Reg.TRC_EVT_STARTED r = true)

/-- A window ends after its 1,945 plan cycles and whatever stretched it; the cycles are accounted to their causes, and a window
that ends after its tick is counted as an overrun. The watchdog fires on a lag or a freeze beyond its limit in ticks, and on
a parcel that runs or drains and has done nothing for as many whole ticks as its limit. Rests on the model's choices of log
entry 82. (08 R198, 08 R200, 08 R201, 08 R202, 08 R204) -/
def Obligations.WindowsEndAndAreAccounted : Prop := ∀ (w : TownshipId) (r : TractId) (t : Nat) (s : State),
  let x := s.town w
  let stretch := t - tabGet 0 s.gateAt w - 1945 - x.inWindow + x.cross
  s.tractOf w = some r.val → s.datum ≤ t →
  (tabGet false s.windowOpen w = true → x.freezes = [] → tabGet 0 s.gateAt w + 1945 + x.inWindow ≤ t →
    Completes (.windowEnd w t) s fun u => tabGet false u.windowOpen w = false ∧ u.planRuns w = false ∧
      u.fld Reg.TRC_STR_DROOP_CYC r = satAdd Reg.TRC_STR_DROOP_CYC.w (s.fld Reg.TRC_STR_DROOP_CYC r) stretch ∧
      (2048 * (x.tick.getD 0 + 1) < t → u.bit Reg.TRC_EVT_OVERRUN r = true ∧
        u.fld Reg.TRC_OVR_TICKS r = satAdd Reg.TRC_OVR_TICKS.w (s.fld Reg.TRC_OVR_TICKS r) 1) ∧
      (t ≤ 2048 * (x.tick.getD 0 + 1) → u.fld Reg.TRC_OVR_TICKS r = s.fld Reg.TRC_OVR_TICKS r)) ∧
  (s.bit Reg.TRC_CONFIGURED r = true →
    (∃ v ∈ s.tractTowns r, tabGet false s.windowOpen v = true ∧ 2048 * s.ctl Reg.TRC_LAG_LIMIT r < (s.town v).lag) ∨
    (∃ v ∈ s.tractTowns r, ∃ f ∈ (s.town v).freezes, 2048 * s.ctl Reg.TRC_FREEZE_LIMIT r < t - f.began) ∨
    (∃ p ∈ s.tractParcels r, (s.pstate p = stRun ∨ s.pstate p = stDraining) ∧
      s.ctl Reg.TRC_STALL_LIMIT r < t / 2048 - tabGet 0 s.lastAct p) →
    Completes (.tickWatchdogFire r t) s fun u => u.fld Reg.TRC_FAULT_STATUS r = 0x42 ∧ u.bit Reg.TRC_EVT_WATCHDOG r = true)

/-- The tract commands: the states that accept each, and the state each leads to; in any other state the command is dropped with
a register access error. The end of a tract reset zeroes the memories of its parcels and leaves it EMPTY; TRC_COUNT_CLR
zeroes its counters. Rests on the model's choices of log entries 42, 93. (08 R193, 08 R194, 08 R196, 08 R197, 08 R211, 08
R216) -/
def Obligations.TractCommandsMoveTheTract : Prop :=
  (∀ (t : TractId) (s : State), s.moduleDark = false → (s.tract t).won = none →
      (s.tract t).darkFrom = none →
      let st := s.fld Reg.TRC_STATE_CODE t
      let refused := fun c => Completes c s fun u => u.fld Reg.TRC_STATE_CODE t = st ∧ u.bit Reg.MCB_EVT_REG_ERR 0 = true ∧
        u.fld Reg.MCB_RAE_ADDR 0 = fieldAddr Reg.TRC_LOAD t
      (st = 0 ∨ st = 5 → s.boot.handover = 0 → Completes (.trcLoad t) s fun u =>
        u.fld Reg.TRC_STATE_CODE t = 1 ∧ (u.tract t).stage = 2 ∧ u.fld Reg.TRC_REFUSAL t = 0) ∧
      (st ≠ 0 → st ≠ 5 → refused (.trcLoad t)) ∧
      (st = 2 → s.datum < 2048 * s.fld Reg.TRC_START_TICK_NUM t → Completes (.trcStart t) s fun u =>
        (u.tract t).armed = true ∧ u.fld Reg.TRC_STATE_CODE t = 2) ∧
      (st = 2 → 2048 * s.fld Reg.TRC_START_TICK_NUM t ≤ s.datum → Completes (.trcStart t) s fun u =>
        u.bit Reg.TRC_EVT_START_MISSED t = true ∧ u.fld Reg.TRC_STATE_CODE t = 2) ∧
      (st ≠ 2 → refused (.trcStart t)) ∧
      (st = 3 → Completes (.trcStop t) s fun u => u.fld Reg.TRC_STATE_CODE t = 4) ∧
      (st ≠ 3 → refused (.trcStop t)) ∧
      (st = 3 ∨ st = 4 → s.expertOpen Reg.TRC_STOP_NOW = true → Completes (.trcStopNow t) s fun u =>
        u.fld Reg.TRC_STATE_CODE t = 4 ∧ u.fld Reg.TRC_CMD_STATUS t = 3 ∧
        ∀ p : ParcelId, p.val ∈ (s.tract t).landing → s.pstate p = stRun → (s.par p).faulted = false →
          (u.par p).stopNow = true ∧ ∀ e, e < 6 → (u.eng p e).queue = []) ∧
      (st ≠ 0 → Completes (.trcReset t) s fun u => u.fld Reg.TRC_STATE_CODE t = 6 ∧
        ∀ p : ParcelId, s.ptract p = some t.val → (s.par p).undo = none → resetStops (s.pstate p) = true → u.pstate p = stStopped) ∧
      (st = 0 → refused (.trcReset t))) ∧
  (∀ (t : TractId) (s : State),
      (s.fld Reg.TRC_STATE_CODE t = 6 → Completes (.tractResetComplete t []) s fun u => u.fld Reg.TRC_STATE_CODE t = 0 ∧
        ∀ p : ParcelId, s.ptract p = some t.val →
          (∀ a, parcelBase p ≤ a → a < parcelBase (p + 1) → u.rd8 a = 0) ∧ (∀ a, taperBase p ≤ a → a < taperBase (p + 1) → u.rd8 a = 0) ∧
          (∀ w r, w < 4096 → r < 32 → u.wreg p w r = 0) ∧ (∀ w, w < 4096 → u.pred p w = true) ∧ (∀ n, u.liveP p n = 0) ∧
          (∀ n, u.codeWord p n = 0) ∧ (∀ n, u.descWord p n = 0)) ∧
      (s.moduleDark = false → Completes (.trcCountClr t) s fun u => ∀ f ∈ [Reg.TRC_LAG_MAX, Reg.TRC_OVR_DROOP, Reg.TRC_OVR_REFRESH, Reg.TRC_OVR_RETRY,
        Reg.TRC_OVR_TICKS, Reg.TRC_STR_DROOP_CYC, Reg.TRC_STR_REFRESH_CYC, Reg.TRC_STR_RETRY_CYC], u.fld f t = 0))

/-- The clock reference, and the droop circuits of the islands: beyond its threshold a droop lengthens the period by 1.5 % for
each percent, 15 % at most, and the edge goes back to the generator once the supply has stayed above the threshold for the
hold. Datum time: it steps where no tract is loaded or runs; a read of CLK_NS latches the fraction; a pulse edge sets it
where management asked for that; and the exchange units of the links carry its stamps. Rests on the model's choices of log
entries 16, 44, 104, 107. (09 R220, 09 R221, 09 R222, 09 R226, 09 R227, 09 R228, 09 R229, 09 R231) -/
def Obligations.DatumReferenceAndExchange : Prop :=
  (∀ (s : State) (t : Nat), s.datum ≤ t →
      let r := s.fld Reg.CLK_REF_STATE 0
      (r = 1 ∨ r = 2 → Completes (.referenceLost t) s fun u => u.fld Reg.CLK_REF_STATE 0 = 3 ∧ u.clk.holdSince = some t ∧
        u.bit Reg.CLK_EVT_REF_LOST 0 = true) ∧
      (r = 3 → Completes (.referenceBack t) s fun u => u.fld Reg.CLK_REF_STATE 0 = 2 ∧ u.clk.holdSince = none ∧
        u.bit Reg.CLK_EVT_REF_BACK 0 = true) ∧
      (∀ b, r = 3 → s.clk.holdSince = some b → s.clk.limitHit = false → b + s.ctl Reg.CLK_HOLD_LIMIT 0 * 1000000000 ≤ t →
        Completes (.holdLimitExpiry t) s fun u => u.bit Reg.CLK_EVT_HOLD_LIMIT 0 = true ∧
          (s.parentLocked = false → s.bit Reg.CLK_PULSE_EN 0 = false → u.fld Reg.CLK_DATUM_STATE 0 = 5)) ∧
      (∀ (i : Fin 32) (droop : Nat), s.fld Reg.TWN_CLK_STATE i = 2 ∨ s.fld Reg.TWN_CLK_STATE i = 4 →
        100 * s.ctl Reg.TWN_DROOP_THR i < droop →
        let base := (s.town i).period
        let p := base + min (base * 15 / 100) (base * 15 * droop / 100000)
        p < 2 ^ Reg.TWN_PERIOD_PS.w → Completes (.droopResponse (i.castLE (by decide)) droop) s fun u => u.fld Reg.TWN_CLK_STATE i = 3 ∧
          u.fld Reg.TWN_PERIOD_PS i = p ∧ u.bit Reg.TWN_EVT_DROOP i = true ∧
          u.fld Reg.TWN_DROOP_EVENTS i = satAdd Reg.TWN_DROOP_EVENTS.w (s.fld Reg.TWN_DROOP_EVENTS i) 1 ∧ (u.town i).above = none) ∧
      (∀ (i : Fin 32) (droop : Nat), s.fld Reg.TWN_CLK_STATE i = 3 → (s.town i).above = none → droop ≤ 100 * s.ctl Reg.TWN_DROOP_THR i →
        Completes (.droopResponse (i.castLE (by decide)) droop) s fun u => u.fld Reg.TWN_CLK_STATE i = 3 ∧ (u.town i).above = some s.datum) ∧
      (∀ (i : Fin 32) (a : Nat), s.fld Reg.TWN_CLK_STATE i = 3 → (s.town i).above = some a →
        (1000 * a + s.ctl Reg.TWN_DROOP_HOLD i * s.fld Reg.TWN_PERIOD_PS i ≤ 1000 * s.datum →
          Completes (.droopHandback (i.castLE (by decide))) s fun u => u.fld Reg.TWN_CLK_STATE i = if r = 3 then 4 else 2) ∧
        (1000 * s.datum < 1000 * a + s.ctl Reg.TWN_DROOP_HOLD i * s.fld Reg.TWN_PERIOD_PS i →
          Completes (.droopHandback (i.castLE (by decide))) s fun u => u.fld Reg.TWN_CLK_STATE i = 3)) ∧
      (∀ droop, 300 < droop → Completes (.droopResponse 32 droop) s fun u => u.clk.spineDroop = true ∧ s.capPeriod ≤ u.clk.spinePeriod ∧
        100 * u.clk.spinePeriod ≤ 115 * s.capPeriod) ∧
      (∀ a, s.clk.spineDroop = true → s.clk.spineAbove = some a → 1000 * a + 32 * s.clk.spinePeriod ≤ 1000 * s.datum →
        Completes (.droopHandback 32) s fun u => u.clk.spineDroop = false ∧ u.clk.spinePeriod = s.capPeriod)) ∧
  (∀ (s : State), s.moduleDark = false →
      (∀ v : BitVec 64, s.expertOpen Reg.CLK_SET_NS = true → s.mayStep = true → Completes (.clkSetNs v) s fun u =>
        u.datum = v.toNat ∧ u.bit Reg.CLK_EVT_STEPPED 0 = true ∧ u.fld Reg.CLK_DATUM_STATE 0 ≠ 0) ∧
      (∀ v : BitVec 64, s.expertOpen Reg.CLK_SET_NS = true → s.mayStep = false → Completes (.clkSetNs v) s fun u =>
        u.datum = s.datum ∧ u.bit Reg.MCB_EVT_REG_ERR 0 = true) ∧
      (∀ v : BitVec 64, s.expertOpen Reg.CLK_SET_NS = false → exec (.clkSetNs v) s = .next s) ∧
      (Completes .clkNsRead s fun u => u.lastRead = BitVec.ofNat 64 s.datum ∧ u.fld Reg.CLK_FRAC 0 = s.datumFrac % 2 ^ 16 ∧
        u.datum = s.datum) ∧
      (∀ t v, s.clk.setAt = some v → s.mayStep = false → Completes (.datumPulseEdge t) s fun u => u.clk.setAt = none ∧
        u.fld Reg.CLK_DATUM_STATE 0 = s.fld Reg.CLK_DATUM_STATE 0 ∧ (s.datum ≤ t → u.datum = t)) ∧
      (∀ t, s.datum ≤ t → s.clk.setAt = none → s.bit Reg.CLK_PULSE_EN 0 = true → t % 1048576 < 32768 →
        Completes (.datumPulseEdge t) s fun u => u.fld Reg.CLK_PULSE_ERR 0 = t % 1048576) ∧
      (∀ t v, s.clk.setAt = some v → s.mayStep = true → Completes (.datumPulseEdge t) s fun u => u.datum = v % 2 ^ 64 ∧
        u.clk.setAt = none ∧ u.fld Reg.CLK_DATUM_STATE 0 = 1) ∧
      (∀ t, s.clk.setAt = none → s.bit Reg.CLK_PULSE_EN 0 = false → Completes (.datumPulseEdge t) s fun u =>
        u.fld Reg.CLK_PULSE_ERR 0 = s.fld Reg.CLK_PULSE_ERR 0 ∧ u.fld Reg.CLK_DATUM_STATE 0 = s.fld Reg.CLK_DATUM_STATE 0) ∧
      (∀ (l : LinkId) (t : Nat), (s.fld Reg.LNK_TX_STATE l = 2 ∨ s.fld Reg.LNK_TX_STATE l = 3 ∨ s.fld Reg.LNK_TX_STATE l = 4) →
        tabGet 0 s.clk.exchTick l = 0 → s.fld Reg.CLK_ROOT 0 = 1 → s.datum ≤ t →
        Completes (.datumExchangeStart l t) s fun u =>
          (u.link l).datumQ = (s.link l).datumQ ++ [{ kind := 0x20, args := [0, 0, 0, 0] }] ∧
          tabGet 0 u.clk.exchTick l = t / 2048 + 1) ∧
      (∀ (l : LinkId) (t1 now : Nat), s.fld Reg.CLK_ROOT 0 = 0 → s.fld Reg.CLK_PARENT 0 = l.val → s.clk.parentLost = false →
        Completes (.datumUnit l t1 0 0 0 now) s fun u =>
          (u.link l).datumQ = (s.link l).datumQ ++ [{ kind := 0x20, args := [t1, now, 0, 0] }]) ∧
      (∀ (l : LinkId) (t1 t2 t3 now : Nat), t2 ≠ 0 → Completes (.datumUnit l t1 t2 t3 0 now) s fun u =>
          (u.link l).datumQ = (s.link l).datumQ ++ [{ kind := 0x20, args := [t1, t2, t3, now] }]) ∧
      (∀ (l : LinkId) (t1 t2 t3 t4 now : Nat), s.fld Reg.CLK_ROOT 0 = 0 → s.fld Reg.CLK_PARENT 0 = l.val → s.clk.parentLost = false → t2 ≠ 0 → t4 ≠ 0 →
        ((t2 : Int) - t1 - (t4 - t3)).natAbs ≤ 1600 → Completes (.datumUnit l t1 t2 t3 t4 now) s fun u =>
          u.clk.slew = -2 * ((t2 : Int) - t1 - (t4 - t3)) ∧ u.fld Reg.CLK_DATUM_STATE 0 = 3 ∧ u.fld Reg.CLK_PARENT_NOW 0 = l))

/-- A tract load goes through its stages: stage 2 zeroes the tract's parcels; stage 4 goes on where the image's digest is the
mapping record's and refuses with 0x03 where it is not; stage 3 waits for a plat that is still being sent and refuses a
record of another magic with 0x08; every stage from 3 to 7 either leads to the next or ends the load, the tract EMPTY, its
refusal event set and its parcels zero; stage 6 of a plat without sheets and block tiles zeroes the tract's regions; the last
leaves it LOADED, its placed parcels IDLE. Rests on the model's choices of log entries 23, 42, 50, 86, 87, 91. (08 R186, 08
R194, 08 R195) -/
def Obligations.LoadStagesAdvanceOrRefuse : Prop := ∀ (t : TractId) (s : State), s.fld Reg.TRC_STATE_CODE t = 1 →
  s.moduleDark = false → (s.tract t).darkFrom = none →
  let n := (s.tract t).stage
  let clean := fun (v : State) => ∀ p : ParcelId, s.ptract p = some t.val → ∀ a, parcelBase p ≤ a → a < parcelBase (p + 1) → v.rd8 a = 0
  let refused := fun (v : State) => v.fld Reg.TRC_STATE_CODE t = 0 ∧ v.bit Reg.TRC_EVT_REFUSED t = true ∧ clean v
  let digest := sha384 (s.img t 0 (s.imgNat t 0x20 8))
  (n = 2 → Completes (.loadStageComplete t) s fun v => (v.tract t).stage = 3 ∧ v.fld Reg.TRC_STATE_CODE t = 1 ∧ clean v ∧
    ∀ p : ParcelId, s.ptract p = some t.val → v.fld Reg.PCT_FAULT_STATUS p = 0 ∧ v.fld Reg.PCT_FAULT_CMD_VAL p = 0) ∧
  (n = 3 → s.planHere t = false → exec (.loadStageComplete t) s = .next s) ∧
  (n = 3 → s.planHere t = true → s.mapNat t 0 4 ≠ 0x50414D4A → Completes (.loadStageComplete t) s fun v =>
    refused v ∧ v.fld Reg.TRC_REFUSAL t = 0x08) ∧
  (n = 4 → digest = s.rdBytes (s.fld Reg.TRC_MAP t + 0x20) 48 → Completes (.loadStageComplete t) s fun v =>
    (v.tract t).stage = 5 ∧ v.fld Reg.TRC_STATE_CODE t = 1 ∧ SameMemory s v ∧ SameRegisters s v) ∧
  (n = 4 → digest ≠ s.rdBytes (s.fld Reg.TRC_MAP t + 0x20) 48 → Completes (.loadStageComplete t) s fun v =>
    refused v ∧ v.fld Reg.TRC_REFUSAL t = 0x03) ∧
  (3 ≤ n → n ≤ 7 → s.planHere t = true → Completes (.loadStageComplete t) s fun v =>
    ((v.tract t).stage = n + 1 ∧ v.fld Reg.TRC_STATE_CODE t = 1) ∨ refused v) ∧
  (n = 6 → s.sheets t = [] → Config.platTiles (s.sectBytes t 0x12 (s.tract t).variant 0xFFFF) = [] → s.blockDescs t = [] →
    (s.tract t).restore = none → Completes (.loadStageComplete t) s fun v => (v.tract t).stage = 7 ∧
      ∀ r ∈ s.tractRegions t, ∀ a, r.1 ≤ a → a < r.2 → v.rd8 a = 0) ∧
  (n = 8 → Completes (.loadStageComplete t) s fun v => v.fld Reg.TRC_STATE_CODE t = 2 ∧
    v.bit Reg.TRC_EVT_LOADED t = true ∧ (v.tract t).stage = 0 ∧
    ∀ p : ParcelId, s.ptract p = some t.val → s.pstate p ≠ stQuarantined →
      v.pstate p = if p.val ∈ (s.tract t).landing then stIdle else stOff)

/-- The lantern messages of a job start, taken from the link that brought them by a module they are for. A job's start: an
accepted start message loads its tract and is remembered; one of a lower epoch is refused; a child that never acknowledges,
or a message held past its limit, has the start abandoned. Rests on the model's choices of log entries 24, 26, 52. (11 R275,
13 R339, 13 R344, 13 R345, 13 R346, 13 R347) -/
def Obligations.JobStartsAndMessagesTakeEffect : Prop :=
  (∀ (l : LinkId) (s s1 : State) (p : Pkt), p.dest = s.coord → s.moduleDark = false →
      let mine := (s.job p.job).msg ≠ [] ∧ (s.job p.job).epoch = p.epoch
      let got := fun op => s.takeLantern l (wantReq op) = some (p, s1)
      (got 2 → mine → (s.tract (s.job p.job).tract).bcast = true → Completes (.platChunk l) s fun u =>
        (u.tract (s.job p.job).tract).chunks = (s.tract (s.job p.job).tract).chunks ++ p.payload) ∧
      (got 3 → mine → Completes (.abandon l) s fun u => (u.job p.job).heldSince = none ∧
        ((s.job p.job).root = true → (s.job p.job).word = jobGo → (s.job p.job).wordAt ≠ s.datum → (u.job p.job).word = jobAbandoned)) ∧
      (got opReady → mine → Completes (.ready l) s fun u =>
        ∀ c ∈ (u.job p.job).children, c.coord = p.src → c.ready = true) ∧
      (got opReady → ¬mine → Completes (.ready l) s fun u => u.jobs = s.jobs ∧ u.lanternIn = s1.lanternIn) ∧
      (∀ t, (s.at t).takeLantern l (wantReq opGo) = some (p, s1) → mine → (s.job p.job).tract < 8 → s.moduleDark = false →
        (s.tract (s.job p.job).tract).won = none → s.fld Reg.TRC_STATE_CODE (s.job p.job).tract = 2 →
        (s.at t).datum < 2048 * leNat (p.payload.take 8) → leNat (p.payload.take 8) < 2 ^ 64 →
        Completes (.go l t) s fun u => (u.job p.job).go = some (leNat (p.payload.take 8)) ∧
          (u.tract (s.job p.job).tract).armed = true ∧
          u.fld Reg.TRC_START_TICK_NUM (s.job p.job).tract = leNat (p.payload.take 8)) ∧
      (got opDone → mine → Completes (.done l) s fun u =>
        ∀ c ∈ (u.job p.job).children, c.coord = p.src → c.finished = true) ∧
      (got opAbort → mine → s.tractJob (s.job p.job).tract = some p.job → (s.job p.job).tract < 8 → s.moduleDark = false →
        (s.tract (s.job p.job).tract).won = none → s.fld Reg.TRC_STATE_CODE (s.job p.job).tract = 3 →
        Completes (.abort l) s fun u => u.fld Reg.TRC_STATE_CODE (s.job p.job).tract = 6) ∧
      (∀ t : TractId, got opJournal → (s.tract t).job = p.job → (s.tract t).epoch = p.epoch → (s.tract t).landing ≠ [] →
        (∀ k : TractId, k ≠ t → (s.tract k).landing = []) → (s.srvOf t).journalOff + p.payload.length ≤ ((s.srvOf t).segs.getD 0 (0, 0)).2 →
        Completes (.journalEntry l) s fun u =>
          (u.srvOf t).journalOff = (s.srvOf t).journalOff + p.payload.length)) ∧
  (∀ (s : State) (t : Nat), s.moduleDark = false →
      (∀ (l : LinkId) (p : Pkt) (s1 : State), (s.at t).takeLantern l (wantReq 1) = some (p, s1) → p.dest = s.coord →
        (s.job (msgJob p.payload)).msg = [] → s.fld Reg.TRC_STATE_CODE (msgTract p.payload) = 0 →
        (s.tract (msgTract p.payload)).won = none → s.moduleDark = false → s.boot.handover = 0 →
        s1.startOk p.payload = true → p.payload ≠ [] →
        Completes (.startMessage l t) s fun u => (u.job (msgJob p.payload)).msg = p.payload ∧
          (u.job (msgJob p.payload)).epoch = msgEpoch p.payload ∧ u.fld Reg.TRC_STATE_CODE (msgTract p.payload) = 1 ∧
          (u.tract (msgTract p.payload)).job = msgJob p.payload) ∧
      (∀ (l : LinkId) (p : Pkt) (s1 : State), (s.at t).takeLantern l (wantReq 1) = some (p, s1) → p.dest = s.coord →
        (s.job (msgJob p.payload)).msg ≠ [] → msgEpoch p.payload < (s.job (msgJob p.payload)).epoch →
        Completes (.startMessage l t) s fun u => u.fld Reg.TRC_STATE_CODE (msgTract p.payload) =
          s.fld Reg.TRC_STATE_CODE (msgTract p.payload) ∧ (u.job (msgJob p.payload)).msg = (s.job (msgJob p.payload)).msg) ∧
      (∀ (j : Nat) (c : Child) (b : Nat), s.datum ≤ t → (s.job j).children = [c] → c.acked = false → c.sentAt = some b →
        b + 50000000 ≤ t → (s.job j).root = true → (s.job j).word = jobStarting →
        Completes (.startAckTimeout j t) s fun u => (u.job j).word = jobAbandoned ∧ (u.job j).heldSince = none) ∧
      (∀ (j b : Nat), s.datum ≤ t → (s.job j).heldSince = some b → b + s.startHoldNs ≤ t → (s.job j).root = true →
        (s.job j).word = jobStarting →
        Completes (.startHoldExpiry j t) s fun u => (u.job j).word = jobAbandoned ∧ (u.job j).heldSince = none))

/-- The control units of the far receiver move this end's sending lanes, each from the codeword that it names: at once where that
codeword has come, and waiting until it does where it has not. Rests on the model's choices of log entry 100. (10 R241, 10
R244, 10 R246, 10 R247, 10 R251, 10 R252) -/
def Obligations.LinkControlUnitsMoveLanes : Prop := ∀ (l : LinkId) (s : State), LanesSettled s l →
  let role := fun (u : State) j => (u.lane l true j).role
  let tx := fun (u : State) => u.fld Reg.LNK_TX_STATE l
  let due := fun cw => cwDue (s.cwNow l true) cw
  (∀ i f cw, due cw = true → i < 16 → f < 17 → role s f ≠ roleFailed → Completes (.copy l i f cw) s fun u =>
    role u f = roleMirror ∧ (u.lane l true f).mirrors = i ∧ ∀ j, j ≠ f → u.lane l true j = s.lane l true j) ∧
  (∀ j m cw, due cw = true → j < 17 → s.laneWith l true roleMirror = some m → role s j < 16 →
    Completes (.linkRelease l j cw) s fun u => role u j = roleCal ∧ role u m = role s j) ∧
  (∀ m cw, due cw = true → m < 17 → role s m = roleMirror → Completes (.linkRelease l m cw) s fun u =>
    role u m = roleFailed ∧ tx u = if tx s = lkUp then lkNoSpare else tx s) ∧
  (∀ j cw, due cw = true → j < 17 → Completes (.parity l j cw) s fun u =>
    role u j = roleParity ∧ tx u = if tx s = lkNoSpare then lkUp else tx s) ∧
  (∀ i f j cw, due cw = true → i < 16 → f < 17 → s.laneWith l true i = some j → j ≠ f →
    Completes (.failover l i f cw) s fun u => role u f = i ∧ role u j = roleFailed ∧
      tx u = if tx s = lkUp then lkNoSpare else tx s) ∧
  (∀ i f j cw, due cw = false → i < 16 → f < 17 → j < 17 →
    ∀ x ∈ [(Instr.copy l i f cw, LaneOp.mirror i f), (.linkRelease l j cw, .calib j), (.parity l j cw, .parity j),
      (.failover l i f cw, .data i f)],
    Completes x.1 s fun u => u.lanes = s.lanes ∧ (u.link l).txActs = (s.link l).txActs ++ [⟨cw, x.2⟩]) ∧
  (∀ j taps, j < 17 → Completes (.tap l j taps) s fun u => (u.lane l true j).taps =
    if (s.lane l true j).ovrTx = true then (s.lane l true j).taps else taps % 2 ^ 48) ∧
  (∀ lanes p d, lanes.length = 12 → Completes (.degrade l lanes p d) s fun u => (u.link l).txChange = some ⟨d, lanes, p⟩ ∧
    ∀ j : Fin 17, (role s j < 16 → j.val ∉ lanes → j.val < p → role u j = roleFailed) ∧
      ((j.val ∈ lanes ∨ p ≤ j.val) → role u j = role s j)) ∧
  (∀ lanes f d, lanes.length = 16 → Completes (.restore l lanes f d) s fun u => (u.link l).txChange = some ⟨d, lanes, f⟩ ∧
    ∀ j ∈ lanes ++ [f], role s j = roleFailed → role u j = roleSpare) ∧
  (Completes (.darkUnit l) s fun u => u.bit Reg.LNK_EVT_NEIGHBOUR_DARK l = true ∧ u.lanes = s.lanes ∧ u.links = s.links)

/-- Rolling calibration: the steps of a rolling step on the receiving lanes, its end, and its stop. What the step gives a lane,
it gives it from a codeword that it names to the far end in a control unit (kinds 0x10 COPY, 0x11 RELEASE, 0x12 PARITY, 0x13
TAP). A lane that fails: with a free lane its data fails over to it from a codeword named and the direction loses its spare;
without one the direction goes to twelve lanes at an agreed tick, or fails. A re-test takes the lane into calibration; a scan
passed makes it free again, or a held spare, and with every lane working sixteen come back. Working lanes adapt by one step
at a time. Rests on the model's choices of log entries 17, 18, 77, 98, 99, 100. (10 R239, 10 R240, 10 R241, 10 R242, 10 R243,
10 R246, 10 R247, 10 R253, 10 R255) -/
def Obligations.LanesCalibrateAndFailuresAreContained : Prop :=
  (∀ (l : LinkId) (s : State),
      let role := fun (u : State) j => (u.lane l false j).role
      let phase := fun (u : State) => u.fld Reg.LNK_ROLL_PHASE l
      let target := fun (u : State) => u.fld Reg.LNK_ROLL_TARGET l
      let acts := fun (u : State) => (u.link l).rxActs
      let ctl := fun (u : State) => (u.link l).ctlQ
      let c := s.codewordAhead l
      let starts := fun (v : State) (c : Instr) => LanesSettled v l → ∀ f j, v.mayRoll l = true →
        v.laneWith l false roleParity = some f → v.rollTarget l f = some j → role v j < 16 → Completes c s fun u =>
          (∃ r, (u.link l).roll = some r ∧ r.logical = role v j ∧ r.mirror = f ∧ r.began = v.datum) ∧ u.lanes = v.lanes ∧
            acts u = acts v ++ [⟨v.codewordAhead l, .mirror (role v j) f⟩] ∧ phase u = 1 ∧ target u = j ∧
            ctl u = ctl v ++ [⟨0x10, [role v j, f, v.codewordAhead l]⟩]
      (∀ t, let v := s.at t
        ((v.link l).rollLast = 0 ∨ (v.link l).rollLast - 1 + v.ctl Reg.LNK_ROLL_MS l ≤ v.datum / 1000000) →
        starts v (.rollStepStart l t)) ∧
      (s.moduleDark = false → s.expertOpen Reg.LNK_ROLL_NOW = true → starts s (.lnkRollNow l)) ∧
      (LanesSettled s l → ∀ r, (s.link l).roll = some r → (s.link l).retest = none →
        (r.verified = false → 2 ≤ phase s → phase s ≤ 3 → (Completes (.rollVerifyDone l true) s fun u =>
          (u.link l).roll = some { r with verified := true } ∧ phase u = 3 ∧ u.lanes = s.lanes) ∧
          (r.badVerify < 2 → Completes (.rollVerifyDone l false) s fun u =>
            (u.link l).roll = some { r with badVerify := r.badVerify + 1 } ∧ phase u = 3) ∧
          (2 ≤ r.badVerify → Completes (.rollVerifyDone l false) s fun u => (u.link l).roll = none ∧ phase u = 0 ∧
            acts u = acts s ++ [⟨c, .parity r.mirror⟩] ∧ ctl u = ctl s ++ [⟨0x12, [r.mirror, c]⟩] ∧
            u.bit Reg.LNK_EVT_ROLL_ABORT l = true)) ∧
        (5 ≤ phase s → Completes (.rollCalibrationDone l) s fun u => phase u = 6 ∧ role u (target s) = role s (target s) ∧
          (u.lane l false (target s)).calAt = some s.datum ∧ ∃ taps, taps < 2 ^ 48 ∧ ctl u = ctl s ++ [⟨0x13, [target s, taps]⟩]) ∧
        (phase s = 6 → ∀ m : Fin 64,
          (s.ctl Reg.LNK_MARGIN_MIN l ≤ m.val → Completes (.rollMarginScanDone l m) s fun u => (u.link l).roll = none ∧
            phase u = 0 ∧ (u.lane l false (target s)).margin = m.val ∧ acts u = acts s ++ [⟨c, .parity (target s)⟩] ∧
            ctl u = ctl s ++ [⟨0x12, [target s, c]⟩] ∧
            u.fld Reg.LNK_ROLL_STEPS l = satAdd Reg.LNK_ROLL_STEPS.w (s.fld Reg.LNK_ROLL_STEPS l) 1) ∧
          (m.val < s.ctl Reg.LNK_MARGIN_MIN l → r.badScan = 0 → Completes (.rollMarginScanDone l m) s fun u =>
            (u.link l).roll = some { r with badScan := 1 } ∧ phase u = 5) ∧
          (m.val < s.ctl Reg.LNK_MARGIN_MIN l → 0 < r.badScan → Completes (.rollMarginScanDone l m) s fun u =>
            (u.link l).roll = none ∧ role u (target s) = roleFailed ∧ u.bit Reg.LNK_EVT_LANE_FAIL l = true)) ∧
        (s.moduleDark = false → s.expertOpen Reg.LNK_ROLL_STOP_NOW = true → Completes (.lnkRollStopNow l) s fun u =>
          let j := if phase s ≤ 3 then r.mirror else target s
          (u.link l).roll = none ∧ u.fld Reg.LNK_ROLL_LAST l = 3 ∧ acts u = acts s ++ [⟨c, .parity j⟩] ∧
            ctl u = ctl s ++ [⟨0x12, [j, c]⟩])) ∧
      (LanesSettled s l → ∀ r, (s.link l).roll = some r → r.verified = true → phase s = 3 → r.mirror ≠ target s →
          let c := s.codewordAhead l
          let free := s.slackAt l false (s.datum - s.fld Reg.LNK_FLIGHT_NS l) = true ∧ (s.link l).rxTop = (s.link l).rxNext
          (free → Completes (.rollLaneSwitch l) s fun u =>
            role u r.mirror = r.logical ∧ role u (target s) = roleMirror ∧ phase u = 4 ∧
            acts u = acts s ++ [⟨c, .calib (target s)⟩] ∧ ctl u = ctl s ++ [⟨0x11, [target s, c]⟩]) ∧
          (¬free → exec (.rollLaneSwitch l) s = .next s)) ∧
      (∀ v, s.moduleDark = false → Completes (.lnkRollEn l v) s fun u => u.bit Reg.LNK_ROLL_EN l = v ∧ (u.link l).roll = (s.link l).roll)) ∧
  (∀ (l : LinkId) (s : State), LanesSettled s l →
      let role := fun (u : State) j => (u.lane l false j).role
      let rx := fun (u : State) => u.fld Reg.LNK_RX_STATE l
      let acts := fun (u : State) => (u.link l).rxActs
      let ctl := fun (u : State) => (u.link l).ctlQ
      let c := s.codewordAhead l
      let fails := fun (c : Instr) (j : Nat) => j < 17 → (s.link l).roll = none → (s.link l).rxChange = none → role s j < 16 →
        let a := s.codewordAhead l
        let w := (List.range 17).filter fun i => i != j && role s i != roleFailed && (s.link l).retest != some i
        (∀ f, acts s = [] → rx s = lkUp → s.laneWith l false roleParity = some f → s.laneWith l false roleSpare = none →
          Completes c s fun u => role u j = roleFailed ∧ role u f = roleParity ∧ acts u = [⟨a, .data (role s j) f⟩] ∧
            ctl u = ctl s ++ [⟨0x14, [role s j, f, a]⟩] ∧ rx u = lkNoSpare ∧ u.bit Reg.LNK_EVT_LANE_FAIL l = true) ∧
        (∀ f g, acts s = [] → rx s = lkUp12 → s.laneWith l false roleParity = some f → s.laneWith l false roleSpare = some g →
          Completes c s fun u => role u j = roleFailed ∧ acts u = [⟨a, .data (role s j) f⟩, ⟨a, .parity g⟩] ∧ rx u = lkUp12) ∧
        (rx s = lkNoSpare → 12 ≤ w.length → Completes c s fun u => role u j = roleFailed ∧
          (u.link l).rxChange = some ⟨s.tickAhead l, w.take 12, (w.drop 12).headD 31⟩ ∧
          ctl u = ctl s ++ [⟨0x15, w.take 12 ++ [(w.drop 12).headD 31, s.tickAhead l]⟩]) ∧
        (rx s = lkNoSpare → w.length < 12 → Completes c s fun u => role u j = roleFailed ∧ rx u = lkFailed)
      (∀ j : Fin 17, fails (.laneFailDeclared l j) j) ∧
      (∀ j : Fin 32, s.moduleDark = false → s.expertOpen Reg.LNK_FORCE_FAIL = true → fails (.lnkForceFail l j) j) ∧
      (∀ j : Fin 32, s.moduleDark = false → j.val < 17 → (rx s = lkNoSpare ∨ rx s = lkUp12) → role s j = roleFailed →
        (s.link l).retest = none → Completes (.lnkRetest l j) s fun u => role u j = roleCal ∧ (u.link l).retest = some j.val) ∧
      (∀ j (m : Fin 64), (s.link l).retest = some j → j < 17 →
        (s.ctl Reg.LNK_MARGIN_MIN l ≤ m.val → rx s = lkNoSpare → Completes (.rollMarginScanDone l m) s fun u =>
          (u.link l).retest = none ∧ rx u = lkUp ∧ acts u = acts s ++ [⟨c, .parity j⟩] ∧ ctl u = ctl s ++ [⟨0x12, [j, c]⟩]) ∧
        (s.ctl Reg.LNK_MARGIN_MIN l ≤ m.val → rx s = lkUp12 → Completes (.rollMarginScanDone l m) s fun u =>
          (u.link l).retest = none ∧ rx u = lkUp12 ∧ role u j = roleSpare ∧
          ((∀ i : Fin 17, i.val ≠ j → role s i ≠ roleFailed) → (s.link l).rxChange = none →
            (u.link l).rxChange = some ⟨s.tickAhead l, List.range 16, 16⟩ ∧
            ctl u = ctl s ++ [⟨0x16, List.range 16 ++ [16, s.tickAhead l]⟩])) ∧
        (m.val < s.ctl Reg.LNK_MARGIN_MIN l → Completes (.rollMarginScanDone l m) s fun u =>
          if (s.link l).retestBad = true then (u.link l).retest = none ∧ role u j = roleFailed
          else (u.link l).retest = some j ∧ (u.link l).retestBad = true)) ∧
      (∀ (tx : Bool) t c, let v := s.at t
        let st := v.fld (if tx then Reg.LNK_TX_STATE else Reg.LNK_RX_STATE) l
        LanesSettled v l → (if tx then (v.link l).txChange else (v.link l).rxChange) = some c →
        lkCarries st = true ∨ st = lkTraining →
        (c.tick ≤ v.tickNow → Completes (.laneLinkChangeTick l tx t) s fun u =>
          u.fld (if tx then Reg.LNK_TX_STATE else Reg.LNK_RX_STATE) l = (if c.lanes.length = 12 then lkUp12 else lkUp) ∧
          ∀ j : Fin 17, (v.lane l tx j).role ≠ roleFailed → (u.lane l tx j).role =
            match c.lanes.findIdx? (· == j.val) with
            | some i => i
            | none => if j.val = c.parity then roleParity else roleSpare) ∧
        (v.tickNow < c.tick → exec (.laneLinkChangeTick l tx t) s = .next v)) ∧
      (∀ (j : Fin 17) t, let v := s.at t
        LanesSettled v l → role s j < 18 → lkCarries (rx s) = true →
        let x := s.lane l false j
        let signed := fun n : Nat => if n < 128 then (n : Int) else n - 256
        ((∀ a, x.adaptAt = some a → cwDue (v.cwNow l false) (a + 1024) = true) → Completes (.laneAdaptUpdate l j t) s fun u =>
          let y := u.lane l false j
          y.role = x.role ∧ y.ctle = x.ctle ∧ y.gain = x.gain ∧ y.taps = x.taps ∧ y.adaptAt = some (v.cwNow l false) ∧
          (x.frozen = true → y.dfe1 = x.dfe1 ∧ y.ffe = x.ffe) ∧
          (x.dfe1 < 256 → -1 ≤ signed y.dfe1 - signed x.dfe1 ∧ signed y.dfe1 - signed x.dfe1 ≤ 1)) ∧
        (∀ a, x.adaptAt = some a → cwDue (v.cwNow l false) (a + 1024) = false → exec (.laneAdaptUpdate l j t) s = .next v)))

/-- Training, its end, LNK_DOWN, the link counters and the injected errors. Rests on the model's choices of log entries 18, 96,
99. (10 R239, 10 R252, 10 R255) -/
def Obligations.LinksTrainAndGoDown : Prop := ∀ (l : LinkId) (s : State),
  let rx := fun (u : State) => u.fld Reg.LNK_RX_STATE l
  let tx := fun (u : State) => u.fld Reg.LNK_TX_STATE l
  let may := fun st => st = lkDown ∨ st = lkFailed
  (s.moduleDark = false → may (rx s) ∨ may (tx s) → Completes (.lnkTrain l) s fun u =>
    rx u = (if rx s = lkDown ∨ rx s = lkFailed then lkTraining else rx s) ∧
    tx u = (if tx s = lkDown ∨ tx s = lkFailed then lkTraining else tx s) ∧
    (∀ j : Fin 17, (may (rx s) → (u.lane l false j).role = roleIdle) ∧ (may (tx s) → (u.lane l true j).role = roleIdle))) ∧
  (s.moduleDark = false → ¬may (rx s) → ¬may (tx s) → Completes (.lnkTrain l) s fun u => rx u = rx s ∧ tx u = tx s ∧
    u.bit Reg.MCB_EVT_REG_ERR 0 = true ∧ u.fld Reg.MCB_RAE_ADDR 0 = fieldAddr Reg.LNK_TRAIN l) ∧
  (∀ a b peer d, s.attempts l false = true → s.attempts l true = true →
    let n := fun dir m => (List.range 17).countP fun j => bitAt m j && (s.lane l dir j).role != roleFailed
    let good := 12 ≤ n false a ∧ 12 ≤ n true b ∧ (bitAt peer 0 = true ∨ bitAt peer 1 = true)
    (good → Completes (.trainingComplete l a b peer d) s fun u =>
      rx u = (if n false a < 16 then lkTraining else trainedState (n false a)) ∧
      tx u = (if n true b < 16 then lkTraining else trainedState (n true b)) ∧
      (n false a < 16 → ∃ c, (u.link l).rxChange = some c ∧ c.lanes.length = 12 ∧ u.tickNow < c.tick) ∧
      u.fld Reg.LNK_VERSION l = (if bitAt peer 1 = true then 2 else 1) ∧ u.bit Reg.LNK_EVT_TRAINED l = true ∧
      (u.link l).nextSeq = (if (s.link l).txFresh = true then 0 else (s.link l).nextSeq) ∧
      (u.link l).rxNext = (if (s.link l).rxFresh = true then 0 else (s.link l).rxNext)) ∧
    (¬good → Completes (.trainingComplete l a b peer d) s fun u => (u.link l).tries = (s.link l).tries + 1 ∧
      rx u = (if (s.link l).tries < 2 then lkTraining else lkFailed) ∧
      tx u = (if (s.link l).tries < 2 then lkTraining else lkFailed))) ∧
  (s.moduleDark = false → s.expertOpen Reg.LNK_DOWN = true → Completes (.lnkDown l) s fun u =>
    rx u = (if lkCarries (rx s) = true then lkDown else rx s) ∧ tx u = (if lkCarries (tx s) = true then lkDown else tx s) ∧
    ∀ (dir : Bool) (j : Fin 17), (u.lane l dir j).role =
      if lkCarries (if dir then tx s else rx s) = true ∧ (s.lane l dir j).role ≠ roleFailed then roleIdle
      else (s.lane l dir j).role) ∧
  (s.moduleDark = false → Completes (.lnkCountClr l) s fun u => ∀ f ∈ [Reg.LNK_ROLL_STEPS, Reg.LNK_ROLL_ABORTS, Reg.LNK_FEC_CORR,
    Reg.LNK_FEC_UNCORR, Reg.LNK_FEC_RECON, Reg.LNK_REPLAYS, Reg.LNK_RETRY_OVR, Reg.LNK_CRC_FAIL], u.fld f l = 0) ∧
  (s.moduleDark = false → s.expertOpen Reg.LNK_INJ_CW = true → Completes (.lnkInjCw l) s fun u =>
    (u.link l).injCw = some (s.ctl Reg.LNK_INJ_LANE l)) ∧
  (s.moduleDark = false → s.expertOpen Reg.LNK_INJ_CRC = true → Completes (.lnkInjCrc l) s fun u => (u.link l).injCrc = true)

/-- LNK_DOWN and training leave the owner table, the cadastres, the pending entries and the alternate maps installed. (15 R380) -/
def Obligations.LinkDownKeepsTheCadastre : Prop := ∀ (c : Instr) (s t : State),
  (∃ l, c = .lnkDown l) ∨ (∃ l, c = .lnkTrain l) ∨ (∃ l a b p d, c = .trainingComplete l a b p d) → exec c s = .next t →
  t.owners = s.owners ∧ t.cad = s.cad ∧ t.cadOwner = s.cadOwner ∧ t.cadPend = s.cadPend ∧ t.altMap = s.altMap

/-- An expert override of a lane: performed on a free, calibrating or failed lane, or in a direction that is DOWN or TRAINING;
dropped with a register access error otherwise; kept through every change of role, rolling calibration and adaptation. (A
held spare of twelve-lane operation counts as a free lane: the model's reading, log entry 77.) Rests on the model's choices
of log entry 77. (10 R254) -/
def Obligations.LaneOverridesHold : Prop := ∀ (l : LinkId) (s : State),
  let j := s.fld Reg.LNK_SEL_LANE l
  let tx := s.bit Reg.LNK_SEL_TX l
  let st := s.fld (if tx then Reg.LNK_TX_STATE else Reg.LNK_RX_STATE) l
  let may := (s.lane l tx j).role = roleParity ∨ (s.lane l tx j).role = roleSpare ∨ (s.lane l tx j).role = roleCal ∨
    (s.lane l tx j).role = roleFailed ∨ st = lkDown ∨ st = lkTraining
  let settings := fun (x : Lane) => (x.ctle, x.dfe1, x.gain, x.ffe)
  (∀ v : BitVec 64, s.moduleDark = false → s.expertOpen Reg.LNK_OVR_TX_EN = true →
    (may → Completes (.lnkLaneOvr l v) s fun u => (u.lane l tx j).ovrTaps = bitsOf v.toNat 0 48 ∧
      (u.lane l tx j).ovrTx = bitAt v.toNat 48 ∧ (u.lane l tx j).frozen = bitAt v.toNat 49 ∧
      (tx = true → bitAt v.toNat 48 = true → (u.lane l tx j).taps = bitsOf v.toNat 0 48)) ∧
    (¬may → Completes (.lnkLaneOvr l v) s fun u => u.lanes = s.lanes ∧ u.bit Reg.MCB_EVT_REG_ERR 0 = true ∧
      u.fld Reg.MCB_RAE_ADDR 0 = fieldAddr Reg.LNK_OVR_TAPS l)) ∧
  (∀ (c : Instr) (u : State) (dir : Bool) (i : Nat), i < 17 → movesLanes l c = true → exec c s = .next u →
    let x := s.lane l dir i
    let y := u.lane l dir i
    y.ovrTaps = x.ovrTaps ∧ y.ovrTx = x.ovrTx ∧ y.frozen = x.frozen ∧ (x.ovrTx = true → y.taps = x.taps) ∧
      (x.frozen = true → settings y = settings x))

/-- Owned slots: the packet that a forward or an exchange engine has for a slot goes out in it, with its sequence number, and is
kept for replay, where it passes the sender's checks; one that fails is counted and recorded; a detouring direction queues
it; where the slot has no packet-time it becomes late. Without a packet the unit is idle. Slack units, packet-times that hold
no slot: a dark direction sends DARK; otherwise an ACK that is due goes first, then control units, replays and late packets
by age, datum units with their stamp, management packets with a credit, and the unit is idle last. ACK frees the packets it
covers and no other; NAK names a packet for replay, and the fourth replay that failed fails the direction. A failed direction
around which a plat names a detour puts its traffic into it from a tick boundary on, and leaves it when the direction is up
again and the queue empty. Rests on the model's choices of log entries 45, 46, 95, 103. (10 R248, 10 R250, 11 R262, 11 R264,
11 R265, 11 R267) -/
def Obligations.SlotsAndSlackUnitsSend : Prop :=
  (∀ (l : LinkId) (slot t : Nat) (s : State),
      let v := s.at t
      let start := v.slotStart l true v.tickNow slot
      LanesSettled v l → NoneMissed v l → slot < 1280 → start ≤ t → t ≤ start + 3 →
      let free := v.bit Reg.LNK_DET_ACTIVE l = false ∧ lkCarries (v.fld Reg.LNK_TX_STATE l) = true
      (∀ p w, Offered v l slot start p w →
        (v.bit Reg.LNK_DET_ACTIVE l = true →
          ((v.detourOf l p).isSome = true → (v.link l).detQ.length < 2048 → Completes (.slotSend l slot t) s fun u =>
            ∃ q, (u.link l).detQ = (v.link l).detQ ++ [q] ∧ q.dslot = slot ∧ q.dseq = (v.link l).nextSeq % 2 ^ 32 ∧
              q.payload = p.payload ∧ q.isDet = true) ∧
          (v.detourOf l p = none → Completes (.slotSend l slot t) s fun u => (u.link l).detQ = (v.link l).detQ ∧
            u.fld Reg.LNK_LATE_DROP l = satAdd Reg.LNK_LATE_DROP.w (v.fld Reg.LNK_LATE_DROP l) 1)) ∧
        (free → v.slotOpen l true slot = true → v.detourOn l slot = none →
          (PassesChecks v l true p slot → Completes (.slotSend l slot t) s fun u => SentIn v l slot p u) ∧
          (∀ c st, FailsCheck v l true p slot c st → Completes (.slotSend l slot t) s fun u =>
            Recorded v l true slot c st u ∧ (u.link l).replayBuf = (v.link l).replayBuf)) ∧
        (free → v.slotOpen l true slot = false → v.late.length < 512 → Completes (.slotSend l slot t) s fun u =>
          ∃ h, u.late = v.late ++ [h] ∧ h.link = l.val ∧ h.slot = slot ∧ h.pkt.isLate = true ∧ h.pkt.payload = p.payload)) ∧
      ((∀ h ∈ v.held, h.link = l → h.slot ≠ slot) → (∀ x ∈ v.txq, x.link ≠ l) → free → v.slotOpen l true slot = true →
        v.detourOn l slot = none → Completes (.slotSend l slot t) s fun u => (u.link l).replayBuf = (v.link l).replayBuf ∧
          (u.link l).last = sealUnit (ctlUnit {} (v.fld Reg.LNK_VERSION l) (v.takeCredit l).1)) ∧
      (∀ j q, free → v.slotOpen l true slot = true → v.detourOn l slot = some j →
        (v.link j).detQ.find? (v.detourFits j l slot) = some q → Completes (.slotSend l slot t) s fun u =>
          (u.link j).detQ = (v.link j).detQ.erase q ∧
          u.fld Reg.LNK_DET_SENT j = satAdd Reg.LNK_DET_SENT.w (v.fld Reg.LNK_DET_SENT j) 1)) ∧
  (∀ (l : LinkId) (t : Nat) (s : State),
      let v := s.at t
      let x := v.link l
      let last := fun (u : State) => (u.link l).last
      let sends := fun (c : Ctl) (n : Nat) => sealUnit (ctlUnit c (v.fld Reg.LNK_VERSION l) n)
      let due := lkCarries (v.fld Reg.LNK_RX_STATE l) = true ∧ 0 < x.rxNext ∧ x.ackAt + 686 ≤ v.datum
      let late := v.late.find? fun h => h.link == l.val
      let replay := x.replayBuf.find? fun e => x.replayQ.contains e.2.seq
      LanesSettled v l → NoneMissed v l →
      (v.fld Reg.LNK_TX_STATE l = lkDark → Completes (.slackUnitSend l t) s fun u => last u = sends ⟨0x30, []⟩ 0) ∧
      (lkCarries (v.fld Reg.LNK_TX_STATE l) = true → v.slackAt l true t = true →
        (due → Completes (.slackUnitSend l t) s fun u => (u.link l).ackAt = v.datum ∧
          last u = sends ⟨0x01, [(x.rxNext + 2 ^ 32 - 1) % 2 ^ 32]⟩ 0 ∧ (u.link l).ctlQ = x.ctlQ) ∧
        (¬due → ∀ c rest, x.ctlQ = c :: rest → c.kind ≠ 0 → Completes (.slackUnitSend l t) s fun u =>
          (u.link l).ctlQ = rest ∧ last u = sends c 0) ∧
        (¬due → x.ctlQ = [] →
          (∀ r, replay = some r → (∀ h, late = some h → r.1 ≤ h.due) → Completes (.slackUnitSend l t) s fun u =>
            r.2.seq ∉ (u.link l).replayQ ∧ (u.link l).replayBuf = x.replayBuf ∧
            u.fld Reg.LNK_REPLAYS l = satAdd Reg.LNK_REPLAYS.w (v.fld Reg.LNK_REPLAYS l) 1) ∧
          (∀ h, late = some h → (∀ r, replay = some r → h.due < r.1) → PassesChecks v l true h.pkt h.slot →
            Completes (.slackUnitSend l t) s fun u => u.late = v.late.erase h ∧ SentIn v l h.slot h.pkt u ∧
              u.fld Reg.LNK_LATE_FWD l = satAdd Reg.LNK_LATE_FWD.w (v.fld Reg.LNK_LATE_FWD l) 1) ∧
          (late = none → replay = none →
            (∀ b d e rest, x.datumQ = ⟨0x20, [0, b, d, e]⟩ :: rest → Completes (.slackUnitSend l t) s fun u =>
              (u.link l).datumQ = rest ∧ last u = sends ⟨0x20, [v.stampNow, b, d, e]⟩ 0) ∧
            (x.datumQ = [] →
              (∀ p rest, x.mgmtQ = p :: rest → tabGet 0 x.spent p.vc < 8 → 0 < v.ctl Reg.LNK_MGMT_UNITS l →
                (x.mgmtTick = v.tickNow → x.mgmtUsed < v.ctl Reg.LNK_MGMT_UNITS l) →
                (v.fld Reg.LNK_VERSION l = 1 → p.epoch < 2 ^ 32) → Completes (.slackUnitSend l t) s fun u =>
                  (u.link l).mgmtQ = rest ∧ tabGet 0 (u.link l).spent p.vc = tabGet 0 x.spent p.vc + 1 ∧ SentIn v l 0 p u) ∧
              (x.mgmtQ = [] → Completes (.slackUnitSend l t) s fun u => last u = sends {} (v.takeCredit l).1 ∧
                (u.link l).replayBuf = x.replayBuf)))))) ∧
  (∀ (l : LinkId) (s : State),
      let x := s.link l
      (∀ seq, let n := unfoldSeq x.nextSeq (seq % 2 ^ 32)
        Completes (.ack l seq) s fun u => (u.link l).replayBuf =
          if n < x.nextSeq then x.replayBuf.filter fun e => decide (n < e.2.seq) else x.replayBuf) ∧
      (∀ seq, let n := unfoldSeq x.nextSeq (seq % 2 ^ 32)
        (∃ e ∈ x.replayBuf, e.2.seq = n) →
        ((∀ e ∈ x.fails, e.1 ≠ n) → n ∉ x.replayQ → Completes (.nak l [seq]) s fun u =>
          (u.link l).replayQ = x.replayQ ++ [n] ∧ (u.link l).replayBuf = x.replayBuf) ∧
        (∀ k, x.fails = [(n, k)] → 4 ≤ k → Completes (.nak l [seq]) s fun u => u.fld Reg.LNK_TX_STATE l = lkFailed)) ∧
      (∀ t n, let v := s.at t
        (v.link l).detFrom = some n → n ≤ v.tickNow → v.fld Reg.LNK_TX_STATE l = lkFailed →
        ((∃ i : Fin 16, (v.owner l i).detLink ≤ 5) → (∀ h ∈ v.late, h.link ≠ l) →
          (v.link l).detQ.length + (v.link l).replayBuf.length ≤ 2048 → Completes (.detourStart l t) s fun u =>
            u.bit Reg.LNK_DET_ACTIVE l = true ∧ u.bit Reg.LNK_EVT_DETOUR l = true ∧ (u.link l).replayBuf = [] ∧
            (u.link l).detFrom = none ∧ (u.link l).detQ.map (fun q => (q.dslot, q.dseq, q.payload)) =
              (v.link l).detQ.map (fun q => (q.dslot, q.dseq, q.payload)) ++
                (v.link l).replayBuf.map fun e => (e.2.slot, e.2.seq % 2 ^ 32, e.2.payload)) ∧
        ((∀ i : Fin 16, 5 < (v.owner l i).detLink) → Completes (.detourStart l t) s fun u =>
          (u.link l).detFrom = none ∧ u.bit Reg.LNK_DET_ACTIVE l = v.bit Reg.LNK_DET_ACTIVE l ∧
          u.late = v.late.filter fun h => h.link != l.val)) ∧
      (∀ t n, let v := s.at t
        (v.link l).detTo = some n → n ≤ v.tickNow → (v.link l).detQ = [] → lkCarries (v.fld Reg.LNK_TX_STATE l) = true →
        Completes (.detourEnd l t) s fun u => u.bit Reg.LNK_DET_ACTIVE l = false ∧ (u.link l).detTo = none))

/-- A received unit, the next of the stream that the codeword times given and those before leave: one of which a codeword or the
CRC is bad is counted and brings nothing; a duplicate brings nothing; a packet that passes its checks waits for its parcel,
or is held for its onward slot; one that fails is counted and recorded; a lantern-class packet of an owner waits for the
lantern. Lantern replies and management notices for this module are consumed from the link's buffer: an acknowledgement of a
start message marks the child that sent it, and the last module's report of a park move parks its session. Rests on the
model's choices of log entries 22, 51, 92, 97, 102. (10 R237, 10 R238, 11 R263, 11 R264, 11 R275, 12 R297) -/
def Obligations.ReceivedPacketsAreCheckedAndTaken : Prop :=
  (∀ (l : LinkId) (t pt n : Nat) (lanes : List (Fin 17))
        (syms : List (List (List (Fin 1024)))) (s : State),
      let v := (codewordTimes n lanes syms).foldl (fun (w : State) ws => w.codewordTime l ws) (s.at t)
      let unit := (v.link l).rxStream.take unitLen
      let bs := unit.map (·.1)
      let p := parsePkt bs
      let kind := unitField bs 0 1
      let seq := unfoldSeq (v.link l).rxTop p.seq
      let ok := (unit.all fun x => x.2) = true ∧ ((v.link l).injCrc = true → kind < 0x80) ∧ (kind = 0 ∨ crcOk bs = true)
      let inWaits := fun (u : State) => (u.lanternIn, u.arrivals, u.held)
      LanesSettled (s.at t) l → lkCarries ((s.at t).fld Reg.LNK_RX_STATE l) = true → lkCarries (v.fld Reg.LNK_RX_STATE l) = true →
      unit.length = unitLen → v.fillPt l pt = false →
      (¬ok → Completes (.unitReceive l t pt n lanes syms) s fun u => inWaits u = inWaits v ∧
        u.fld Reg.LNK_CRC_FAIL l = satAdd Reg.LNK_CRC_FAIL.w (v.fld Reg.LNK_CRC_FAIL l) 1) ∧
      (ok → kind ≠ 0 → unitField bs 1 1 ≠ v.fld Reg.LNK_VERSION l → Completes (.unitReceive l t pt n lanes syms) s fun u =>
        inWaits u = inWaits v ∧ u.fld Reg.LNK_CRC_FAIL l = satAdd Reg.LNK_CRC_FAIL.w (v.fld Reg.LNK_CRC_FAIL l) 1) ∧
      (ok → unitField bs 1 1 = v.fld Reg.LNK_VERSION l → v.bit Reg.LNK_SAMPLE_EN l = false → 0x80 ≤ kind → kind ≤ 0x86 →
        (v.rxHas l seq = true → Completes (.unitReceive l t pt n lanes syms) s fun u => inWaits u = inWaits v) ∧
        (v.rxHas l seq = false → 0x83 ≤ kind →
          let of := p.job = 0 ∨ ∃ i : Fin 16, (v.owner l i).job = p.job ∧ (v.owner l i).epoch = p.epoch ∧ (v.owner l i).state = ownOwned
          (of → (v.fld Reg.LNK_VERSION l = 1 → p.epoch < 2 ^ 32) → Completes (.unitReceive l t pt n lanes syms) s fun u =>
            u.lanternIn = v.lanternIn ++ [(l.val, p)] ∧ u.rxHas l seq = true) ∧
          (p.job ≠ 0 → (∀ i : Fin 16, (v.owner l i).job = p.job → (v.owner l i).epoch = p.epoch → (v.owner l i).state = ownFree) →
            Completes (.unitReceive l t pt n lanes syms) s fun u => u.lanternIn = v.lanternIn ∧
              u.fld Reg.LNK_VIOL_STATUS l = 0x31 ∧ u.bit Reg.LNK_EVT_EPOCH l = true)) ∧
        (v.rxHas l seq = false → kind ≤ 0x82 → (∀ a, v.slotAt l false pt = some a → a = p.slot) →
          let e := v.cadAt l false p.slot
          (∀ r c, PassesChecks v l false p p.slot → cadAction e = 0 → v.landed p.job p.epoch p.dparcel = some (r, c) →
            Completes (.unitReceive l t pt n lanes syms) s fun u =>
              u.arrivals = v.arrivals ++ [⟨p, r, c, pktNum l seq⟩] ∧ u.rxHas l seq = true) ∧
          (PassesChecks v l false p p.slot → 1 ≤ cadAction e → cadAction e ≤ 6 → (∀ g ∈ (v.link l).gaps, g.1 ≠ seq) →
            let m := cadAction e - 1
            let flight := (v.owner l (tabGet 0 v.cadOwner (cadKey l false p.slot) - 1)).flight
            let due := v.slotFrom m true (v.slotBy l p.slot + flight + 120) (cadOnward e)
            v.datum ≤ due + 2 → Completes (.unitReceive l t pt n lanes syms) s fun u =>
              u.held = v.held ++ [⟨p, l, m, cadOnward e, due, due / 2048⟩] ∧ u.arrivals = v.arrivals) ∧
          (∀ c st, FailsCheck v l false p p.slot c st → Completes (.unitReceive l t pt n lanes syms) s fun u =>
            inWaits u = inWaits v ∧ Recorded v l false p.slot c st u)) ∧
        (∀ a, v.rxHas l seq = false → kind ≤ 0x82 → v.slotAt l false pt = some a → a ≠ p.slot →
          Completes (.unitReceive l t pt n lanes syms) s fun u => inWaits u = inWaits v ∧ Recorded v l false a 1 0x30 u))) ∧
  (∀ (l : LinkId) (s s1 : State) (p : Pkt), p.dest = s.coord →
      s.moduleDark = false →
      (s.takeLantern l (fun p => p.kind == 0x84) = some (p, s1) → p.spec 4 2 = 1 → p.spec 6 1 = 0 →
        Completes (.lanternReply l) s fun u => u.lanternIn = s1.lanternIn ∧ SameMemory s u ∧
          ∀ j : Nat, (s.job j).msg ≠ [] → ∀ c ∈ (u.job j).children, c.coord = p.src → c.trans % 2 ^ 32 = p.spec 0 4 →
            c.sentAt.isSome = true → c.acked = true) ∧
      (∀ (d : Nat) (t : TractId), (s.at d).takeLantern l (fun p => p.kind == 0x85) = some (p, s1) → p.spec 4 2 = opMoved →
        ((List.range 8).find? fun t => bitAt (s1.fld Reg.SRV_FRONT 0) t && (s1.tract t).job == p.job && (s1.tract t).epoch == p.epoch) =
          some t.val →
        let i := leNat (p.payload.take 4)
        (s1.sess i).opDue = 0 → (s1.tract t).members.length ≤ (s1.sess i).reported + 1 → (s1.sess i).state = ssParking →
        (s1.sess i).held = [] → Completes (.managementNotice l d) s fun u => u.lanternIn = s1.lanternIn ∧
          (u.sess i).state = ssParked ∧ (u.sess i).parkedAt = s1.datum))

/-- A change of owner goes from OWNED through draining, the stones and the switch tick to FREE; one that takes too long is stuck,
and is released. Easement grants take effect at the next tick, and LNK_CAD_DATA reads step through the cadastre. Rests on the
model's choices of log entries 22, 48. (11 R261, 11 R270, 11 R271, 11 R272, 11 R273, 11 R274, 11 R286) -/
def Obligations.OwnersChangeByBoundaryStones : Prop := ∀ (l : LinkId) (s : State),
  let idx := s.fld Reg.LNK_OWN_IDX l
  let state := fun (u : State) i => (u.owner l i).state
  let buffered := fun (p : Pkt) stage => s.lanternIn.find? (fun e => e.1 == l.val && (e.2.kind == 0x86 && e.2.stoneStage == stage)) =
    some (l.val, p)
  let lit := s.moduleDark = false
  (lit → state s idx = ownOwned ∨ state s idx = ownPending → Completes (.lnkPass l) s fun u => state u idx = ownDraining ∧
    (u.owner l idx).nextJob = s.fld Reg.LNK_NEXT_JOB l ∧ (u.owner l idx).nextEpoch = s.fld Reg.LNK_NEXT_EPOCH l) ∧
  (lit → state s idx ≠ ownOwned → state s idx ≠ ownPending → Completes (.lnkPass l) s fun u => u.owners = s.owners ∧
    u.bit Reg.MCB_EVT_REG_ERR 0 = true ∧ u.fld Reg.MCB_RAE_ADDR 0 = fieldAddr Reg.LNK_PASS l) ∧
  (∀ i : Fin 16, state s i = ownDraining → Drained s l i →
    ((s.owner l i).farDrained = false → Completes (.ownerDrainComplete l i) s fun u =>
      state u i = ownStoneSent ∧ (u.owner l i).since = s.datum ∧
      ∃ p, (u.link l).mgmtQ = (s.link l).mgmtQ ++ [p] ∧ p.stoneStage = 1) ∧
    ((s.owner l i).farDrained = true → (s.owner l i).farJob = (s.owner l i).nextJob →
      (s.owner l i).farEpoch = (s.owner l i).nextEpoch → Completes (.ownerDrainComplete l i) s fun u =>
      state u i = ownConfirmed ∧ (u.owner l i).myTick = some (s.tickAhead l) ∧
      ∃ p q, (u.link l).mgmtQ = (s.link l).mgmtQ ++ [p, q] ∧ p.stoneStage = 1 ∧ q.stoneStage = 2)) ∧
  (∀ p i, buffered p 1 → s.stoneEntry l p = some i →
    (state s i = ownStoneSent → p.stoneJob = (s.owner l i).nextJob → p.stoneEpoch = (s.owner l i).nextEpoch →
      Completes (.boundaryStoneDrained l) s fun u => state u i = ownConfirmed ∧ (u.owner l i).myTick = some (s.tickAhead l)) ∧
    (state s i = ownStoneSent → p.stoneJob ≠ (s.owner l i).nextJob ∨ p.stoneEpoch ≠ (s.owner l i).nextEpoch →
      Completes (.boundaryStoneDrained l) s fun u => state u i = ownStoneSent ∧ u.fld Reg.LNK_VIOL_STATUS l = 0x31) ∧
    (state s i = ownDraining → Completes (.boundaryStoneDrained l) s fun u =>
      state u i = ownDraining ∧ (u.owner l i).farDrained = true)) ∧
  (∀ p i, buffered p 2 → s.stoneEntry l p = some i →
    p.stoneJob = (s.owner l i).nextJob → p.stoneEpoch = (s.owner l i).nextEpoch →
    Completes (.boundaryStoneConfirm l) s fun u => (u.owner l i).farTick = some p.stoneTick) ∧
  (∀ (i : Fin 16) t a b, (s.owner l i).myTick = some a → (s.owner l i).farTick = some b → state s i = ownConfirmed →
    a ≤ (s.at t).tickNow → b ≤ (s.at t).tickNow → Completes (.ownerSwitchTick l i t) s fun u => state u i = ownFree ∧
      u.bit Reg.LNK_EVT_PASSED l = true ∧ ∀ (dir : Bool) (slot : Fin 1280), tabGet 0 s.cadOwner (cadKey l dir slot) = i + 1 →
        tabGet 0 u.cad (cadKey l dir slot) = tabGet 0 s.cadPend (cadKey l dir slot) ∧ tabGet 0 u.cadPend (cadKey l dir slot) = 0 ∧
        tabGet 0 u.cadOwner (cadKey l dir slot) = tabGet 0 s.cadPendOwner (cadKey l dir slot)) ∧
  (∀ (i : Fin 16) t, state s i = ownStoneSent ∨ state s i = ownConfirmed →
    (s.owner l i).since + 1000000 * (s.at t).ctl Reg.LNK_STONE_MS l < (s.at t).datum → Completes (.stoneTimeout l i t) s fun u =>
      state u i = ownStuck ∧ u.bit Reg.LNK_EVT_STUCK l = true) ∧
  (lit → s.expertOpen Reg.LNK_RELEASE_STUCK = true → state s idx = ownStuck → Completes (.lnkReleaseStuck l) s fun u =>
    state u idx = ownFree) ∧
  (∀ v : BitVec 64, lit → let own := bitsOf v.toNat 4 4; let val := bitAt v.toNat 8
    ((val = true → state s own = ownOwned ∧ s.fld Reg.LNK_VERSION l ≠ 1) → Completes (.lnkEaseWrite l v) s fun u =>
      let x := u.grantRec l (bitsOf v.toNat 0 4)
      x.newOwner = own ∧ x.newValid = val ∧ x.tick = s.tickNow + 1) ∧
    (val = true → state s own ≠ ownOwned ∨ s.fld Reg.LNK_VERSION l = 1 → Completes (.lnkEaseWrite l v) s fun u =>
      u.grants = s.grants ∧ u.bit Reg.MCB_EVT_REG_ERR 0 = true)) ∧
  (lit → Completes (.lnkCadDataRead l) s fun u =>
    let n := s.fld Reg.LNK_CAD_SLOT l
    let dir := s.bit Reg.LNK_CAD_DIR l
    let pend := (tabGet 0 s.cadPend (cadKey l dir n)).toNat
    let shown := if s.fld Reg.LNK_CAD_TAB l = 0 then s.cadAt l dir n
      else if s.fld Reg.LNK_CAD_TAB l = 1 then pend
      else if s.fld Reg.LNK_CAD_TAB l = 2 then (s.altOf l dir n).getD 0x7FF else 0
    u.lastRead = BitVec.ofNat 64 (shown + if pend = 0 then 0 else 2 ^ 32) ∧
    u.fld Reg.LNK_CAD_SLOT l = if s.bit Reg.LNK_CAD_AUTOINC l = true then (if 1279 ≤ n then 0 else n + 1) else n)

/-- A calendar position that its controller serves: a parcel's read position reads its oldest request whose bank is ready, its
write position accepts its oldest write, a scrub position checks the next line or rewrites one, and one of outside agents
writes a sample. A request that only an unplanned refresh window keeps from its position is counted, and freezes its
township. Rests on the model's choices of log entries 14, 37, 88, 89. (07 R158, 07 R159, 07 R160, 07 R169) -/
def Obligations.CalendarPositionsServe : Prop := ∀ (c : CtrlId) (lane pos : Nat) (shown : List Nat) (s : State),
  let v := s.publish fun w => shown.contains w.line && !s.strict w.parcel
  let e := v.calEntry c lane pos
  let p := calOwner e
  let failed := v.fld Reg.XX_STATE_CODE c = xxFailed
  let bad := fun line => failed ∨ (v.tctl c).armUe = true ∨ v.lineBad line 64 = true
  let counts := fun (f : Fld) (u : State) => u.fld f c = satAdd f.w (v.fld f c) 1
  let asks := fun ord line => (∀ r ∈ v.pendingReads c lane, r.parcel = p → r.ord ≠ ord → ord < r.ord) ∧
    (∀ w ∈ v.pendingWrites c lane, w.parcel = p → w.ord ≠ ord → ord < w.ord) ∧ v.rowOpen c lane line = true
  let only := fun (r : TierRead) => ∀ x ∈ v.tierReads, x.ord = r.ord → x = r
  let onlyW := fun (w : TierWrite) => (∀ x ∈ v.tierWrites, x.ord = w.ord → x = w) ∧ ∀ x ∈ v.tierReads, x.ord ≠ w.ord
  let planned := ∀ line, v.refreshUnplanned c line pos = false
  v.xxServes c = true → pos < positionsOf c →
  (∀ r ∈ v.pendingReads c lane, calKind e = 1 → calDir e = 0 → r.parcel = p → only r → asks r.ord r.line →
    (planned → v.refreshBusy c r.line pos = false → Completes (.calendarPosition c lane pos shown) s fun u =>
      (∀ x ∈ u.tierReads, x.ord = r.ord → x.data = some (v.ownLine p r.line r.ord) ∧ (x.bad = true ↔ bad r.line)) ∧
      (bad r.line → counts Reg.XX_UE_COUNT u ∧ u.bit Reg.XX_EVT_UE c = true)) ∧
    (v.refreshUnplanned c r.line pos = true → r.deferred = false → Completes (.calendarPosition c lane pos shown) s fun u =>
      (∀ x ∈ u.tierReads, x.ord = r.ord → x.data = none ∧ x.deferred = true) ∧ counts Reg.XX_STR_LINES u ∧
      u.bit Reg.XX_EVT_REFRESH_OVR c = true ∧ ∃ f ∈ (u.town (p / 16)).freezes, f.cause = 0 ∧ f.key = r.ord)) ∧
  (∀ w ∈ v.pendingWrites c lane, calKind e = 1 → w.parcel = p → onlyW w → asks w.ord w.line → planned →
    v.refreshBusy c w.line pos = false →
    (calDir e = 0 → w.needRead = true → ¬bad w.line → Completes (.calendarPosition c lane pos shown) s fun u =>
      (∃ x ∈ u.tierWrites, x.ord = w.ord) ∧ ∀ x ∈ u.tierWrites, x.ord = w.ord → x.needRead = false ∧ x.bytes = w.bytes) ∧
    (calDir e ≠ 0 → w.needRead = false → ¬failed → v.strict p = false → Completes (.calendarPosition c lane pos shown) s fun u =>
      (∃ x ∈ u.tierWrites, x.ord = w.ord) ∧ ∀ x ∈ u.tierWrites, x.ord = w.ord → x.accepted = true ∧ x.bytes = w.bytes)) ∧
  (calKind e = 3 → calDir e = 0 → v.bit Reg.XX_SCRUB_EN c = true → v.fld Reg.XX_SCRUB_LINE c + 1 < 2 ^ Reg.XX_SCRUB_LINE.w →
    let line := v.scrubAddr c (v.fld Reg.XX_SCRUB_LINE c)
    v.onLane c lane line = true → v.rowOpen c lane line = true → v.refreshBusy c line pos = false →
    Completes (.calendarPosition c lane pos shown) s fun u => let n := v.fld Reg.XX_SCRUB_LINE c + 1
      (n < v.scrubLines c → u.fld Reg.XX_SCRUB_LINE c = n ∧ u.fld Reg.XX_SCRUB_PASSES c = v.fld Reg.XX_SCRUB_PASSES c) ∧
      (v.scrubLines c ≤ n → u.fld Reg.XX_SCRUB_LINE c = 0 ∧ counts Reg.XX_SCRUB_PASSES u) ∧
      (bad line → counts Reg.XX_UE_COUNT u) ∧
      (¬bad line → (v.correc.any fun kv => kv.1 / 8 == line / 64) = true → counts Reg.XX_CE_COUNT u ∧
        line ∈ (u.tctl c).rewrites)) ∧
  (∀ line rest, calKind e = 3 → calDir e ≠ 0 → v.bit Reg.XX_SCRUB_EN c = true → (v.tctl c).rewrites = line :: rest →
    v.onLane c lane line = true → v.bankReady c lane line pos = true → Completes (.calendarPosition c lane pos shown) s fun u =>
      line ∉ (u.tctl c).rewrites ∧ SameMemory v u) ∧
  (∀ x rest, calKind e = 4 → calDir e = 1 → v.samples = x :: rest → inHbm (v.sampleAddr x.link) = true →
    let line := v.sampleAddr x.link / 64 * 64
    v.onLane c lane line = true → v.rowOpen c lane line = true → v.refreshBusy c line pos = false →
    Completes (.calendarPosition c lane pos shown) s fun u => u.samples = rest) ∧
  (calKind e = 0 ∨ calKind e = 2 → exec (.calendarPosition c lane pos shown) s = .next v)

/-- Delivered tier lines, refresh windows, the patrol scrubber and memory temperatures. The commands of a memory controller.
Rests on the model's choices of log entries 37, 38, 94. (07 R162, 07 R163, 07 R164, 07 R165, 07 R168, 07 R170, 07 R179, 07
R180, 07 R428) -/
def Obligations.MemoryControllersServeAndObey : Prop :=
  (∀ (s : State),
      (∀ (p : ParcelId) r i f, (s.tierReads.find? fun r => r.parcel == p.val && r.data != none) = some r →
        s.moveIdx p r.seq = some i → (s.eng p 2).flight[i]? = some f → Completes (.tierReadDelivery p) s fun u =>
          (∃ g, (u.eng p 2).flight[i]? = some g ∧ g.entry = f.entry ∧
            (f.need.erase r.line ≠ [] → g.need = f.need.erase r.line ∧
              g.got = if r.bad = true then f.got else f.got ++ [(r.line, r.data.getD [])]) ∧
            (r.bad = true → g.status ≠ 0 ∧ (f.need.erase r.line = [] → g.need = []))) ∧
          ∀ x ∈ u.tierReads, x.ord ≠ r.ord ∨ x ∉ s.tierReads) ∧
      (∀ (c : CtrlId) (j : Nat), s.moduleDark = false → s.xxServes c = true → j < (if c.val < 8 then 16 else 4) →
        let cyc := (if c.val < 8 then 56 else 256) * j
        Completes (.refreshWindow c j cyc) s fun u => (u.tctl c).refresh = some (j, cyc)) ∧
      (s.moduleDark = false → Completes .patrolScrub s fun u => u.patrolPos = (s.patrolPos + 1) % 2048 ∧ SameMemory s u ∧
        (s.uncorr = [] → s.correc = [] → SameRegisters s u)) ∧
      (∀ (c : CtrlId) (t : Fin 256), t.val < s.ctl Reg.SFM_T_MEM 0 → Completes (.memoryTempRead c t) s fun u =>
        u.fld Reg.XX_TEMP c = t.val ∧ u.fld Reg.XX_REF_NEED c = if t.val ≤ 85 then 0 else if t.val ≤ 95 then 1 else 2) ∧
      (∀ (c : CtrlId) (t : Fin 256), s.ctl Reg.SFM_T_MEM 0 ≤ t.val → s.moduleDark = false → Completes (.memoryTempRead c t) s fun u =>
        u.moduleDark = true ∧ u.fld Reg.SFM_DARK_CAUSE 0 = 7)) ∧
  (∀ (c : CtrlId) (s : State),
      let st := fun (u : State) => u.fld Reg.XX_STATE_CODE c
      let lit := s.moduleDark = false
      (lit → st s = xxReady → Completes (.xxRetire c) s fun u => st u = xxRetiring ∧ u.bit Reg.XX_RETIRE c = true ∧
        u.bit Reg.XX_EVT_STATE c = true ∧ ∀ t : TractId, s.bit Reg.TRC_MODE t = true → s.tractUses t c = true →
          (s.fld Reg.TRC_STATE_CODE t = 3 → (s.tract t).won = none → u.fld Reg.TRC_STATE_CODE t = 4) ∧
          (s.fld Reg.TRC_STATE_CODE t ≠ 3 → (u.tract t).retiring = true)) ∧
      (lit → st s ≠ xxReady → Completes (.xxRetire c) s fun u => st u = st s ∧ u.bit Reg.XX_RETIRE c = true) ∧
      (lit → s.expertOpen Reg.XX_INJECT_CE = true → Completes (.xxInjectCe c) s fun u => (u.tctl c).armCe = true) ∧
      (lit → s.expertOpen Reg.XX_INJECT_UE = true → Completes (.xxInjectUe c) s fun u => (u.tctl c).armUe = true) ∧
      (lit → Completes (.xxCountClr c) s fun u => ∀ f ∈ [Reg.XX_CE_COUNT, Reg.XX_UE_COUNT, Reg.XX_STR_LINES, Reg.XX_STR_CYCLES],
        u.fld f c = 0) ∧
      (lit → let key := calKey c (s.fld Reg.XX_CAL_LANE c) (s.fld Reg.XX_CAL_POS c)
        (Completes (.xxCalDataAccess c none) s fun u => u.lastRead = BitVec.ofNat 64 (s.calShown key) ∧ u.calWrites = s.calWrites) ∧
        (∀ v : BitVec 64, s.calOpen c = true → calKind v.toNat ≤ 4 → Completes (.xxCalDataAccess c (some v)) s fun u =>
          u.calWrites.getLast? = some ⟨key, BitVec.ofNat 16 (v.toNat % 8192), s.tickNow⟩) ∧
        (∀ v : BitVec 64, s.calOpen c = false → Completes (.xxCalDataAccess c (some v)) s fun u =>
          u.calWrites = s.calWrites ∧ u.bit Reg.MCB_EVT_REG_ERR 0 = true)) ∧
      (lit → s.expertOpen Reg.XX_TRAIN_REQ = true → st s = xxOff ∨ st s = xxSelfRefresh → Completes (.xxTrainReq c) s fun u =>
        st u = xxTraining) ∧
      (lit → s.expertOpen Reg.XX_TRAIN_REQ = true → st s ≠ xxOff → st s ≠ xxSelfRefresh → Completes (.xxTrainReq c) s fun u =>
        st u = st s ∧ u.bit Reg.MCB_EVT_REG_ERR 0 = true ∧ u.fld Reg.MCB_RAE_ADDR 0 = fieldAddr Reg.XX_TRAIN_REQ c) ∧
      (∀ ok margin cached, lit → st s = xxTraining → Completes (.memoryTrainingComplete c ok margin cached) s fun u =>
        u.bit Reg.XX_TRAIN_OK c = ok ∧
        st u = if ok = false then (if cached = true then xxTraining else xxFailed)
          else if s.bit Reg.XX_RETIRE c = true then xxRetiring else xxReady) ∧
      (Completes (.memoryControllerFailure c) s fun u => st u = xxFailed))

/-- Once per step the front module composes a record for the next step, and every serve block applies one. (Which data reads as
uncorrectable ends a composition as a failure of the instance instead.) Rests on the model's choices of log entries 64, 65,
70. (12 R288, 12 R289, 12 R293, 12 R297, 12 R312) -/
def Obligations.CompositionAndStepRecords : Prop := ∀ (t : TractId) (s : State), s.moduleDark = false →
  (∀ d, let v := s.at d
    let f := v.outboxFlush (v.srvOf t).outbox.length t
    let step := v.fld Reg.TRC_STEP_NUM t + 1
    let c := Comp.filled (Comp.taken { s := f, t := t, step := f.fld Reg.TRC_STEP_NUM t + 1, w := (f.srvOf t).ops.foldl (f.pageOp t) (f.srvOf t).ps })
    v.bit Reg.TRC_MODE t = true → bitAt (v.fld Reg.SRV_FRONT 0) t = true → v.fld Reg.TRC_STATE_CODE t = 3 ∨ v.fld Reg.TRC_STATE_CODE t = 4 →
    (v.srvOf t).faulted = false → (v.srvOf t).composed ≠ some step →
    (c.bad = false → Completes (.composition t d) s fun u => (u.srvOf c.t).composed = some c.step) ∧
    (Sound v → v.sessions = [] → v.rings = [] → v.accts = [] → (v.srvOf t).stopNow = false → (v.srvOf t).outbox = [] →
      (v.srvOf t).rowsNow = [] → Completes (.composition t d) s fun u =>
        (u.srvOf t).composed = some step ∧ (u.srvOf t).pointer = ((v.srvOf t).pointer + 1) % 1024)) ∧
  (∀ d, ((s.at d).srvOf t).composed = some ((s.at d).fld Reg.TRC_STEP_NUM t + 1) →
    Completes (.composition t d) s fun u => u = s.at d) ∧
  (let b := parcelBase ((s.tract t).landing.getD 0 0) + s.tRecordOff t;
    let next := s.fld Reg.TRC_STEP_NUM t + 1;
    let nops := s.rdNat (b + 12) 4;
    s.bit Reg.TRC_MODE t = true → s.fld Reg.TRC_STATE_CODE t = 3 ∨ s.fld Reg.TRC_STATE_CODE t = 4 → (s.srvOf t).faulted = false →
    (s.srvOf t).applied ≠ some next → s.rdNat b 8 = next → Sound s → b + s.tRecordBytes t ≤ 0x80000000 →
    (∀ w ∈ leWords 8 nops (s.rdBytes (b + 64 + 32 * s.rdNat (b + 10) 2 + 4 * s.tRowsMax t) (8 * nops)),
      1 ≤ (parseOp w).op ∧ (parseOp w).op ≤ 7) →
    Completes (.stepRecordApply t) s fun u => (u.srvOf t).applied = some next ∧ (u.srvOf t).ops = [])

/-- Sessions between steps: a finished move parks or queues a session, a prompt is staged, and idle and parked sessions reach
their time limits. A serve tract whose enable bit is cleared drains, and is drained at once where no request is live;
SRV_STOP_NOW stops the tracts it names. Rests on the model's choices of log entry 70. (12 R297, 12 R303, 12 R304, 12 R306, 12
R318) -/
def Obligations.SessionsAndServeTractsMove : Prop :=
  (∀ (i : Fin 65536) (d : Nat) (s : State), s.moduleDark = false →
      let v := s.at d
      let x := v.sess i
      (∀ (t : TractId) m, ((v.srvOf t).moves.find? fun m => m.1 == i.val) = some m →
        (bitAt (v.fld Reg.SRV_FRONT 0) t = true → x.opDue = 0 → (v.tract t).members.length ≤ x.reported + 1 → x.state = ssUnparking →
          x.req.isSome = true ∨ x.held = [] →
          Completes (.parkMoveComplete t i d) s fun u =>
            (u.sess i).state = (if x.req.isSome then ssQueued else ssIdle) ∧ (u.srvOf t).moves = (v.srvOf t).moves.erase m) ∧
        (bitAt (v.fld Reg.SRV_FRONT 0) t = false → Completes (.parkMoveComplete t i d) s fun u =>
          (u.srvOf t).moves = (v.srvOf t).moves.erase m ∧
          let k := (Config.nextLink v.coord ((v.tract t).members.getD 0 v.coord)).val
          ∃ p, (u.link k).mgmtQ = (v.link k).mgmtQ ++ [p] ∧ p.kind = 0x85 ∧ p.payload = leBytes 4 i.val)) ∧
      (∀ q off, let t := s.sessTract i
        let dst := ((s.srvOf t).seg 3).1 + off
        let n := 4 * q.promptTokens
        (s.sess i).req = some q → q.staged = false → s.stageFit t n = some off →
        (Completes (.promptStaged i) s fun u => (u.sess i).req = some { q with staged := true, bad := true } ∨
          (u.sess i).req = some { q with staged := true, stageOff := off }) ∧
        (Sound s → ServeReaches s q.promptAddr n → ServeReaches s dst n → dst + n ≤ q.promptAddr ∨ q.promptAddr + n ≤ dst →
          Completes (.promptStaged i) s fun u => (u.sess i).req = some { q with staged := true, stageOff := off } ∧
            ∀ k, k < n → u.rd8 (dst + k) = s.rd8 (q.promptAddr + k))) ∧
      (x.state = ssIdle → x.req = none → x.idleAt + (v.ring x.ring).idleTtl * 1000000000 ≤ v.datum →
        (v.srvOf (v.sessTract i)).ps.hbmOwn i ≤ v.parkRoom (v.sessTract i) → Completes (.idleTtlExpiry i d) s fun u =>
          (u.sess i).state = ssParking ∧ (u.sess i).opDue = 4) ∧
      (let ttl := (v.ring x.ring).parkTtl;
        x.state = ssParked → ttl ≠ 0xFFFFFFFF → x.parkedAt + ttl * 1000000000 ≤ v.datum →
        Completes (.parkTtlExpiry i d) s fun u => (u.sess i).expired = true)) ∧
  (∀ (m : Fin 256) (s : State), s.moduleDark = false →
      (Completes (.srvEn m) s fun u => u.fld Reg.SRV_EN 0 = m.val ∧
        ∀ t : TractId, bitAt (s.fld Reg.SRV_EN 0) t = true → bitAt m t = false →
          let quiet := (s.tractSessions t).all fun i => !(s.sess i).live && (s.sess i).held == []
          (quiet = true → u.bit Reg.SRV_EVT_DRAINED 0 = true ∧ (u.srvOf t).draining = false) ∧
          (quiet = false → (u.srvOf t).draining = true)) ∧
      (s.expertOpen Reg.SRV_STOP_NOW = true → Completes (.srvStopNow m) s fun u =>
        ∀ t : TractId, bitAt m t = true → s.frontOf t = true → (u.srvOf t).stopNow = true))

/-- Doorbells move a ring's indices; one for a ring that is not open, or past its size, is dropped and recorded. The commands
that open, close and change rings and accounts; a command while another is in progress is dropped with a register access
error. Rests on the model's choices of log entries 67, 68. (12 R298, 12 R301, 12 R309, 12 R322, 12 R323) -/
def Obligations.RingsAndAccountsOpenAndMove : Prop :=
  (∀ (r : Fin 4096) (v : Fin 65536) (s : State), s.moduleDark = false →
      let x := s.ring r
      let dropped := fun c => Completes c s fun u => u.rings = s.rings ∧ u.fld Reg.SRV_ERR_RING 0 = r.val ∧
        u.fld Reg.SRV_ERR_STATUS 0 = 0x11 ∧ u.bit Reg.SRV_EVT_RING_ERR 0 = true ∧
        u.fld Reg.SRV_ERR_COUNT 0 = satAdd Reg.SRV_ERR_COUNT.w (s.fld Reg.SRV_ERR_COUNT 0) 1
      (x.isOpen = true → v.val < 2 ^ x.sqLog → Completes (.submissionTailDoorbell r v) s fun u =>
        (u.ring r).sqTail % 2 ^ x.sqLog = v.val ∧ x.sqHead ≤ (u.ring r).sqTail ∧ (u.ring r).sqTail < x.sqHead + 2 ^ x.sqLog ∧
        (u.ring r).sqHead = x.sqHead) ∧
      (x.isOpen = false ∨ 2 ^ x.sqLog ≤ v.val → dropped (.submissionTailDoorbell r v)) ∧
      (x.isOpen = true → v.val < 2 ^ x.cqLog → x.waiting = [] → Completes (.completionHeadDoorbell r v) s fun u =>
        (u.ring r).cqHead = min x.cqTail (x.cqHead + (v.val + 2 ^ x.cqLog - x.cqHead % 2 ^ x.cqLog) % 2 ^ x.cqLog) ∧
        (u.ring r).cqTail = x.cqTail) ∧
      (x.isOpen = false ∨ 2 ^ x.cqLog ≤ v.val → dropped (.completionHeadDoorbell r v))) ∧
  (∀ (s : State), s.moduleDark = false →
      let ended := fun (u : State) v => u.fld Reg.SRV_CMD_RESULT 0 = v ∧ u.bit Reg.SRV_EVT_CMD 0 = true ∧ u.bit Reg.SRV_CMD_BUSY 0 = false
      let block := fun (a : BitVec 48) => fieldOf (s.rdBytes a.toNat 64)
      (s.bit Reg.SRV_CMD_BUSY 0 = false →
        (∀ (r : Fin 4096) (a : BitVec 48), ringBlockOk (s.rdBytes a.toNat 64) = true → s.rangeBad a.toNat 64 = false →
          (s.acct (block a 28 2)).isOpen = true → (s.acct (block a 28 2)).closing = false → s.frontOf (s.acct (block a 28 2)).tract = true →
          (s.ring r).isOpen = false → Completes (.openRing r a) s fun u => ended u 0 ∧ (u.ring r).isOpen = true ∧
            (u.ring r).sqBase = block a 0 8 ∧ (u.ring r).cqBase = block a 8 8 ∧ (u.ring r).acct = block a 28 2 ∧
            (u.ring r).idleTtl = block a 32 4 ∧ (u.ring r).parkTtl = block a 36 4) ∧
        (∀ r : Fin 4096, (s.ring r).isOpen = false → Completes (.closeRing r) s fun u => ended u 0x11 ∧ u.rings = s.rings) ∧
        (∀ r : Fin 4096, (s.ring r).isOpen = true → s.frontOf (s.ringTract r) = true → (s.ring r).waiting = [] →
          (∀ x ∈ s.sessions, x.2.ring = r.val → x.2.state = ssFree) → Completes (.closeRing r) s fun u =>
            ended u 0 ∧ (u.ring r).isOpen = false) ∧
        (∀ a : BitVec 48, acctBlockOk (s.rdBytes a.toNat 64) = true → s.rangeBad a.toNat 64 = false → block a 0 1 < 8 →
          block a 1 3 = 0 → block a 16 48 = 0 → s.frontOf (block a 0 1) = true →
          (∀ n, ((List.range 1024).find? fun a => !(s.acct a).isOpen) = some n → Completes (.openAccount a) s fun u => ended u 0 ∧
            u.fld Reg.SRV_CMD_OUT 0 = n ∧ (u.acct n).isOpen = true ∧ (u.acct n).rate = block a 4 4 ∧ (u.acct n).burst = block a 8 4) ∧
          ((∀ n, n < 1024 → (s.acct n).isOpen = true) → Completes (.openAccount a) s fun u => ended u 0x12 ∧ u.accts = s.accts ∧
            u.bit Reg.SRV_EVT_FULL 0 = true)) ∧
        (∀ a : Fin 4096, a.val < 1024 → (s.acct a).isOpen = true → s.frontOf (s.acct a).tract = true →
          (∀ x ∈ s.rings, x.2.acct = a.val → x.2.isOpen = false) → Completes (.closeAccount a) s fun u =>
            ended u 0 ∧ (u.acct a).isOpen = false) ∧
        (∀ (a : Fin 4096) (b : BitVec 48), a.val < 1024 → acctBlockOk (s.rdBytes b.toNat 64) = true → s.rangeBad b.toNat 64 = false →
          block b 0 4 = 0 → block b 12 52 = 0 → (s.acct a).isOpen = true → s.frontOf (s.acct a).tract = true →
          Completes (.setAccount a b) s fun u => ended u 0 ∧ (u.acct a).rate = block b 4 4 ∧ (u.acct a).burst = block b 8 4 ∧
            (u.acct a).bucket = min (s.acct a).bucket (256 * block b 8 4))) ∧
      (s.bit Reg.SRV_CMD_BUSY 0 = true → ∀ c r a b, c ∈ [Instr.openRing r b, .closeRing r, .openAccount b, .closeAccount a, .setAccount a b] →
        Completes c s fun u => u.rings = s.rings ∧ u.accts = s.accts ∧ u.bit Reg.MCB_EVT_REG_ERR 0 = true ∧
          u.fld Reg.MCB_RAE_ADDR 0 = fieldAddr Reg.SRV_CMD_OP 0))

/-- Benchmarks and drills: a sealed slot whose header and data hold becomes valid, another bad; a drill that is due injects its
fault; MCB_DRILL_STOP_NOW ends every drill. Rests on the model's choices of log entry 80. (13 R331, 13 R341, 13 R342, 13
R343) -/
def Obligations.BenchmarksAndDrills : Prop := ∀ (s : State), s.moduleDark = false →
  (∀ (t : TractId) (slot : Fin 2) (mirror : Bool), let c := s.benchCtx t
    let a := c.slot slot mirror
    let n := 512 + c.fm * vmBytes c.layout
    let agrees := s.rdNat a 4 = 0x4B524D42 ∧ s.rdNat (a + 4) 4 = c.job ∧ s.rdNat (a + 8) 8 = c.epoch ∧ s.rdNat (a + 24) 1 = c.fm ∧
      s.rdNat (a + 32) 8 = vmBytes c.layout
    c.layout ≠ [] → (mirror = true → fieldOf c.layout 5 1 ≠ 0) → inHbm a = true → s.rdNat (a + 25) 1 = 1 →
    (∀ o ∈ c.slots, o ≠ (slot.val, mirror) → let b := c.slot o.1 o.2
      s.rdNat (b + 25) 1 ≠ 1 ∨ (o.2 = true ∧ mirror = false) ∨ (o.2 = mirror ∧ s.rdNat (a + 16) 8 ≤ s.rdNat (b + 16) 8)) →
    Sound s → (∀ line ∈ accessLines a n, s.reaches .lantern line = true) →
    Completes (.benchmarkDigestDone t slot mirror) s fun u => (agrees → u.rdNat (a + 25) 1 = 2) ∧ (¬agrees → u.rdNat (a + 25) 1 = 3)) ∧
  (∀ (r : TractId) (c : CtrlId) (l : LinkId) (j : Fin 17) (t : Nat), let v := s.at t
    let due := fun k => bitAt (v.fld Reg.CFG_DRILL_NOW 0) (k - 1) = true ∧
      (tabGet 0 v.boot.drillAt k = 0 ∨ tabGet 0 v.boot.drillAt k - 1 + v.drillInterval k ≤ v.datum)
    (∀ b, due 1 → v.expertOpen Reg.XX_INJECT_UE = true → v.tractUses r c = true → v.drillBench (v.benchCtx r) = some b → v.windowOpenAt r = true →
      v.fld Reg.TRC_STATE_CODE r = 3 → Completes (.drillStart 0 r c l j t) s fun u => (u.tctl c).armUe = true ∧
        u.drills = v.drills ++ [⟨1, r, b.2, v.slotDigests b.1 (v.benchCtx r).fm⟩]) ∧
    (due 2 → v.expertOpen Reg.XX_INJECT_CE = true → Completes (.drillStart 1 r c l j t) s fun u =>
      (u.tctl c).armCe = true ∧ tabGet 0 u.boot.drillAt 2 = v.datum + 1) ∧
    (due 3 → v.expertOpen Reg.LNK_INJ_CRC = true → Completes (.drillStart 2 r c l j t) s fun u => (u.link l).injCrc = true) ∧
    (¬due 2 → Completes (.drillStart 1 r c l j t) s fun u => u = v)) ∧
  (s.expertOpen Reg.MCB_DRILL_STOP_NOW = true → Completes .mcbDrillStopNow s fun u => u.drills = [])

/-- A parcel's known-answer test in its safety slot, once a tick: counted as passed, failed or missed; a failure starts four
reruns, of which one that fails marks the parcel; four passes in consecutive ticks end a re-test. Rests on the model's
choices of log entry 54. (14 R351, 14 R352, 14 R353, 14 R354) -/
def Obligations.KnownAnswerTestsAreCounted : Prop := ∀ (p : ParcelId) (t : Nat) (s : State),
  let v := s.at t
  let w := p.val / 16
  let tick := (v.town w).tick.getD 0
  let last := tabGet 0 v.safety.tested p
  let counted := fun (u : State) f => u.fld f 0 = satAdd f.w (s.fld f 0) 1
  (v.planRuns w = true → 1753 ≤ v.cycleNow w → v.cycleNow w ≤ 1944 →
    (last = tick + 1 → ∀ pass, Completes (.katSlot p t pass) s fun u => u = v) ∧
    (last ≠ tick + 1 → v.boot.retest ≠ some p.val → ∀ n, v.katDue p tick = some n →
      let busy := [0, 1].any fun e => (v.eng p e).flight.any fun f => f.stage == .run
      (busy = true → n = 0 ∨ tabGet 0 v.safety.missed p ≠ n → Completes (.katSlot p t true) s fun u => counted u Reg.SFM_KAT_MISSED) ∧
      (busy = false → Completes (.katSlot p t true) s fun u => counted u Reg.SFM_KAT_PASS) ∧
      (busy = false → s.ptract p = none → Completes (.katSlot p t false) s fun u => counted u Reg.SFM_KAT_FAILS ∧
        tabGet 0 u.safety.reruns p = 4 ∧ u.bit Reg.SFM_EVT_KAT_FAIL 0 = true)) ∧
    (last = tick → v.boot.retest = some p.val → 3 ≤ v.boot.retestPassed → Completes (.katSlot p t true) s fun u => u.pstate p = stOff ∧
      u.fld Reg.MCB_RETEST_STATUS 0 = 0 ∧ u.bit Reg.MCB_EVT_RETEST 0 = true ∧ tabGet false u.safety.marked p = false)) ∧
  (let left := tabGet 0 v.safety.reruns p;
    left ≠ 0 → tabGet 0 v.safety.rerunTick p ≤ v.tickNow →
    (Completes (.katRerun p t true) s fun u => counted u Reg.SFM_KAT_PASS ∧ tabGet 0 u.safety.reruns p = left - 1) ∧
    (Completes (.katRerun p t false) s fun u => counted u Reg.SFM_KAT_FAILS ∧ tabGet false u.safety.hard p = true ∧
      tabGet false u.safety.marked p = true))

/-- What drives the module dark, with its cause: a clock above its limit, the monitor's own faults, the watchdogs, temperatures,
the power stage's trips and SFM_DARK_NOW. A township's clock drives only its tract dark. Rests on the model's choices of log
entries 28, 54, 55. (14 R349, 14 R355, 14 R356, 14 R361, 14 R364, 14 R366, 17 R412) -/
def Obligations.FailuresDriveTheModuleDark : Prop := ∀ (s : State) (t : Nat), s.moduleDark = false →
  let v := s.at t
  let dark := fun (c : Instr) cause => Completes c s fun u => u.moduleDark = true ∧ u.fld Reg.SFM_DARK_CAUSE 0 = cause
  (∀ (i : Fin 38) n, i.val = 37 → s.fld Reg.CLK_REF_STATE 0 ≠ 3 → 6144 < absDiff (n * 100) 204800 → dark (.clockMonitorWindow i n t) 9) ∧
  (∀ (i : Fin 38) n, 32 ≤ i.val → i.val < 37 → v.clockFast i n = true → dark (.clockMonitorWindow i n t) 9) ∧
  (∀ (i : Fin 38) n (r : TractId), i.val < 32 → v.clockFast i n = true → s.tractOf i = some r.val → s.fld Reg.TRC_STATE_CODE r ≠ 7 →
    Completes (.clockMonitorWindow i n t) s fun u => u.fld Reg.TRC_STATE_CODE r = 7 ∧ u.fld Reg.TRC_FAULT_STATUS r = 0xFF ∧
      u.moduleDark = false ∧ u.bit Reg.SFM_EVT_TRACT_DARK 0 = true) ∧
  (∀ (i : Fin 38) n, i.val < 37 → v.clockFast i n = false → Completes (.clockMonitorWindow i n t) s fun u => u = v) ∧
  dark (.lockstepMismatch t) 10 ∧
  (Completes (.heartbeatSend t) s fun u => u.safety.heartbeat = v.datum) ∧
  (v.safety.heartbeat + 1000000 ≤ v.datum → dark (.heartbeatTimeout t) 11) ∧
  (∀ temps : List (Option Nat), let l := (List.range 33).map fun w => temps.getD w none
    let top := min 255 ((l.filterMap id).foldl max 0)
    (s.ctl Reg.SFM_T_DIE 0 ≤ top → dark (.dieSensorRead temps t) 6) ∧
    (top < s.ctl Reg.SFM_T_DIE 0 → l.getD 32 none = none ∨ (List.range 32).any (sensorFaulty l) = true →
      dark (.dieSensorRead temps t) 8) ∧
    (top < s.ctl Reg.SFM_T_DIE 0 → l.getD 32 none ≠ none → (List.range 32).any (sensorFaulty l) = false →
      Completes (.dieSensorRead temps t) s fun u => u.moduleDark = false ∧ u.fld Reg.PWR_T_DIE_MAX 0 = top)) ∧
  (∀ mv, 58000 < mv → dark (.inputOvervoltage mv t) 1) ∧ (∀ ca, 7200 < ca → dark (.inputOvercurrent ca t) 2) ∧
  (∀ rail n, 1100 < n → dark (.railOvervoltage rail n t) 3) ∧
  (∀ mv ca rails, (disagree mv || disagree ca || rails.any disagree) = true → dark (.sensingCompare mv ca rails t) 4) ∧
  (∀ mv ca rails, (disagree mv || disagree ca || rails.any disagree) = false → mv.1 < 65536 → ca.1 < 65536 →
    Completes (.sensingCompare mv ca rails t) s fun u =>
      u.fld Reg.PWR_IN_MV 0 = mv.1 ∧ u.fld Reg.PWR_IN_CA 0 = ca.1 ∧ u.moduleDark = false) ∧
  (∀ ns, 20000 ≤ ns → dark (.inputDip ns t) 5) ∧
  (∀ ns, ns < 20000 → Completes (.inputDip ns t) s fun u => u.bit Reg.PWR_EVT_DIP 0 = true ∧ u.moduleDark = false ∧
    u.fld Reg.PWR_DIPS 0 = satAdd Reg.PWR_DIPS.w (s.fld Reg.PWR_DIPS 0) 1) ∧
  (∀ mv, 42000 ≤ mv → mv < 45000 → Completes (.inputLow mv) s fun u => u.bit Reg.PWR_EVT_INPUT_LOW 0 = true ∧ u.moduleDark = false) ∧
  dark .sfmDarkNow 13

/-- A module that goes dark: every tract and every working parcel is dark, the links are dark, its state is DARK, and an
electrical hazard is latched. (14 R349, 14 R356, 14 R361, 14 R362, 14 R364, 14 R366) -/
def Obligations.DarkReachesEverything : Prop := ∀ (s : State) (t : Nat), s.moduleDark = false →
  let wholly := fun (c : Instr) => Completes c s fun u => u.fld Reg.MCB_STATE_CODE 0 = 5 ∧
    (∀ r : TractId, u.fld Reg.TRC_STATE_CODE r = 7 ∧ u.fld Reg.TRC_FAULT_STATUS r = 0xFF ∧ (u.tract r).armed = false) ∧
    (∀ p : ParcelId, u.pstate p = if s.pstate p = stOff ∨ s.pstate p = stQuarantined then s.pstate p else stDark) ∧
    (∀ w : TownshipId, (u.town w).clocked = false ∧ tabGet false u.windowOpen w = false) ∧
    (∀ l : LinkId, u.fld Reg.LNK_RX_STATE l = lkDark ∧ u.fld Reg.LNK_TX_STATE l = lkDark) ∧ SameMemory s u
  wholly .sfmDarkNow ∧ wholly (.lockstepMismatch t) ∧
  (∀ mv, 58000 < mv → wholly (.inputOvervoltage mv t) ∧ Completes (.inputOvervoltage mv t) s fun u => u.safety.hazard = 1) ∧
  (∀ m : Fin 256, Completes (.sfmTractDarkNow m) s fun u => ∀ r : TractId, bitAt m r = true → s.bit Reg.TRC_CONFIGURED r = true →
    u.fld Reg.TRC_STATE_CODE r = 7)

/-- The lantern watchdogs: a kick counts for each core that is not lost; a core that misses its deadline is lost, and with the
last one the module goes dark with cause 12. Reads and sensors beside the monitor: the safety log's window and the coolant
thermistors. (14 R357, 14 R358, 14 R366, 17 R419) -/
def Obligations.WatchdogsAndSafetyReads : Prop :=
  (∀ (s : State) (t : Nat),
      let v := s.at t
      (∀ m : Fin 16, s.moduleDark = false → Completes (.sfmLwdtKick m t) s fun u => ∀ c : Fin 4, tabGet 0 u.safety.kicks c =
        if bitAt m c = true ∧ bitAt (s.fld Reg.SFM_LWDT_LOST 0) c = false then v.datum + 1 else tabGet 0 s.safety.kicks c) ∧
      (∀ c : Fin 4, v.coreWatched c = true → s.moduleDark = false → s.fld Reg.SFM_LWDT_LOST 0 < 16 →
        tabGet 0 s.safety.kicks c + 1000000 * s.ctl Reg.SFM_LWDT_MS 0 ≤ v.datum →
        Completes (.lanternWatchdogExpiry c t) s fun u => u.fld Reg.SFM_LWDT_LOST 0 = s.fld Reg.SFM_LWDT_LOST 0 + 2 ^ c.val ∧
          bitAt (u.fld Reg.SFM_LWDT_LOST 0) c = true ∧ u.bit Reg.SFM_EVT_LANTERN 0 = true ∧
          (s.fld Reg.SFM_LWDT_LOST 0 + 2 ^ c.val = 15 → u.moduleDark = true ∧ u.fld Reg.SFM_DARK_CAUSE 0 = 12))) ∧
  (∀ (s : State),
      (let r := s.fld Reg.SFM_LOG_REC 0;
        let part := s.fld Reg.SFM_LOG_PART 0;
        s.moduleDark = false → r < 4096 → part < 4 → Completes .sfmLogDataRead s fun u =>
          u.lastRead = BitVec.ofNat 64 (leNat ((((tabGet {} s.safety.log r : SafeRec).bytes).drop (8 * part)).take 8)) ∧
          (s.bit Reg.SFM_LOG_AUTOINC 0 = true → u.fld Reg.SFM_LOG_REC 0 = (4 * r + part + 1) % 16384 / 4 ∧
            u.fld Reg.SFM_LOG_PART 0 = (part + 1) % 4) ∧ u.safety.log = s.safety.log) ∧
      (∀ tin tout : Fin 256, Completes (.coolantInletRead tin tout) s fun u => u.fld Reg.PWR_T_IN 0 = tin.val ∧
        u.fld Reg.PWR_T_OUT 0 = tout.val ∧
        (s.fld Reg.PWR_T_IN 0 ≤ s.fld Reg.PWR_T_COOL_WARN 0 → s.fld Reg.PWR_T_COOL_WARN 0 < tin.val → u.bit Reg.PWR_EVT_COOL 0 = true)))

/-- Power and the steps of a cold start: the module starts only within the input's range and, after an electrical hazard, one
second later; each step that ends leads to the next, a flash that does not hold to RECOVERY, and the last to READY. The
commands that begin a start, from the register block and from the management bus: a cold start keeps memory and resets the
tracts; a warm start needs STANDBY, or DARK with a cause from 5 to 13, and a module that is not suspect. Rests on the model's
choices of log entries 56, 57, 58. (15 R373, 15 R374, 15 R375, 15 R376, 15 R377, 16 R397) -/
def Obligations.ColdStartsBeginAndRun : Prop :=
  (∀ (s : State),
      (∀ mv away, 45000 ≤ mv → mv ≤ 56000 → s.safety.hazard = 0 ∨ 1000000000 ≤ away → Completes (.coldStartPowerOn mv away) s fun u =>
        u.boot.kind = 1 ∧ u.boot.step = 1 ∧ u.regs = [] ∧ u.flash = s.flash ∧ u.safety.hazard = s.safety.hazard ∧
        ∀ a, inAperture a = false → u.rd8 a = 0) ∧
      (∀ mv away, mv < 45000 ∨ 56000 < mv ∨ (s.safety.hazard ≠ 0 ∧ away < 1000000000) →
        Completes (.coldStartPowerOn mv away) s fun u => u = s) ∧
      (∀ (t : Nat) (dimms : List (Nat × Nat)) (failed : List ParcelId), let v := s.at t
        let step := fun (n : Nat) (P : State → Prop) => v.boot.kind = 1 → v.boot.step = n →
          Completes (.startSequenceStepDone t dimms failed) s P
        let goes := fun (n : Nat) (u : State) => u.boot.kind = 1 ∧ u.boot.step = n
        step 2 (fun u => goes 3 u ∧ u.fld Reg.PWR_STAGE 0 = 3 ∧ ∀ w : TownshipId, (u.town w).clocked = true) ∧
        step 3 (fun u => goes 4 u ∧ ∀ a, 0xA0000000 ≤ a → a < 0xA0800000 → u.rd8 a = 0) ∧
        step 4 (fun u => if v.flashReason = 0 then goes 5 u else
          u.fld Reg.MCB_STATE_CODE 0 = 4 ∧ u.bit Reg.MCB_EVT_RECOVERY 0 = true ∧ u.fld Reg.MCB_BOOT_REASON 0 = v.flashReason % 256) ∧
        step 5 (fun u => goes 6 u ∧ ∀ c : CtrlId, c.val < 8 → u.fld Reg.XX_STATE_CODE c = xxTraining) ∧
        (v.memTrained = true → step 6 (goes 7)) ∧
        step 7 (fun u => goes 8 u ∧ (∀ a, a < 0x88000000 → u.rd8 a = 0) ∧ ∀ p w r, u.wreg p w r = 0) ∧
        (v.boot.coordOk = true → v.clk.setAt = none → (∀ l : LinkId, v.fld Reg.LNK_RX_STATE l = 0 ∧ v.fld Reg.LNK_TX_STATE l = 0) →
          step 8 (fun u => goes 9 u ∧ ∀ l : LinkId, u.fld Reg.LNK_RX_STATE l = lkTraining ∧ u.fld Reg.LNK_TX_STATE l = lkTraining)) ∧
        (v.linksTrained = true → step 9 (fun u => u.fld Reg.MCB_STATE_CODE 0 = 2 ∧ u.bit Reg.MCB_EVT_READY 0 = true ∧
          u.fld Reg.MCB_LAST_WARM 0 = 0 ∧ u.boot.kind = 0)))) ∧
  (∀ (s : State),
      let warm := s.bit Reg.SFM_SUSPECT 0 = false ∧ (s.fld Reg.MCB_STATE_CODE 0 = 3 ∨
        (s.fld Reg.MCB_STATE_CODE 0 = 5 ∧ 5 ≤ s.fld Reg.SFM_DARK_CAUSE 0 ∧ s.fld Reg.SFM_DARK_CAUSE 0 ≤ 13))
      let begins := fun (kind step : Nat) (u : State) => u.boot.kind = kind ∧ u.boot.step = step ∧ SameMemory s u ∧ u.moduleDark = false ∧
        ∀ t : TractId, u.fld Reg.TRC_STATE_CODE t = 0
      (s.safety.hazard = 0 → (s.moduleDark = false → Completes .mcbCold s (begins 1 2)) ∧
        Completes (.coldStart true) s fun u => begins 1 2 u ∧ u.mgmt.lastResult = 0) ∧
      (s.safety.hazard ≠ 0 ∨ s.moduleDark = true → Completes .mcbCold s fun u => u = s) ∧
      (s.moduleDark = true → Completes .mcbWarm s fun u => u = s) ∧
      (warm → (s.moduleDark = false → Completes .mcbWarm s (begins 2 1)) ∧
        Completes (.warmStart true) s fun u => begins 2 1 u ∧ u.mgmt.lastResult = 0) ∧
      (¬warm → (s.moduleDark = false → Completes .mcbWarm s fun u => u.bit Reg.MCB_EVT_REG_ERR 0 = true ∧
          u.fld Reg.MCB_RAE_ADDR 0 = fieldAddr Reg.MCB_WARM 0 ∧ u.boot = s.boot) ∧
        Completes (.warmStart true) s fun u => u.mgmt.lastResult = 0x11 ∧ u.boot = s.boot))

/-- In-service change: a section is adopted or refused with its reason, firmware hands over stage by stage or is abandoned, a
recovery image runs, a quarantined parcel is re-tested, and a parcel is marked by hand. Rests on the model's choices of log
entries 59, 60, 62. (14 R359, 15 R371, 15 R372, 15 R378, 15 R379, 15 R381, 15 R383) -/
def Obligations.InServiceChange : Prop := ∀ (s : State), s.moduleDark = false →
  (∀ sect : List Byte, s.fld Reg.MCB_STATE_CODE 0 = 2 → let v : State := { s with flash := putFlash s.flash 0x30000 (sect.take 0x4A4) }
    let b := v.flashSection
    let reason := v.sectionReason b (decide (v.fld Reg.CFG_SEQ_NOW 0 < byteField b 0x10 8)) (!v.adoptClash b)
    Completes (.mcbAdopt sect) s fun u => u.fld Reg.CFG_ADOPT_REASON 0 = reason % 256 ∧ u.bit Reg.CFG_EVT_ADOPT 0 = true ∧
      u.flash = v.flash ∧ (if reason = 0 then u.boot.adopted = b ∧ u.fld Reg.CFG_SEQ_NOW 0 = byteField b 0x10 8 % 2 ^ 64
        else u.boot = s.boot)) ∧
  (3 ≤ s.coresUp → s.boot.handover = 0 → s.firmwareRuns = true → (∀ t : TractId, s.fld Reg.TRC_STATE_CODE t ≠ 1) →
    Completes .mcbFwStage s fun u => u.boot.handover = 1 ∧ u.fld Reg.MCB_HANDOVER 0 = 1) ∧
  (s.coresUp < 3 ∨ s.boot.handover ≠ 0 → Completes .mcbFwStage s fun u => u.boot = s.boot ∧
    u.fld Reg.MCB_RAE_ADDR 0 = fieldAddr Reg.MCB_FW_STAGE 0 ∧ u.bit Reg.MCB_EVT_REG_ERR 0 = true) ∧
  (∀ (t : Nat) (ok : Bool), let v := s.at t
    let gone := fun (u : State) => u.boot.handover = 0 ∧ u.fld Reg.MCB_FW_RESULT 0 = 3 ∧ u.boot.half = v.boot.half ∧ u.flash = v.flash
    (v.boot.handover = 1 → Completes (.fwHandoverStageDone t ok) s fun u => if v.stagedOk = true then u.boot.handover = 2 ∧
      ∀ k, k < v.stagedImage.length → u.rd8 (sramHalf (v.boot.half + 1) + k) = v.stagedImage.getD k 0 else gone u) ∧
    (v.boot.handover = 2 → Completes (.fwHandoverStageDone t ok) s fun u => u.boot.handover = 3) ∧
    (∀ n, n = 3 ∨ n = 4 → v.boot.handover = n → Completes (.fwHandoverStageDone t ok) s fun u =>
      if ok = true then u.boot.handover = n + 1 ∧ u.boot.half = v.boot.half else gone u) ∧
    (v.boot.handover = 5 → Completes (.fwHandoverStageDone t ok) s fun u => u.boot.handover = 6 ∧
      u.boot.half = (v.boot.half + 1) % 2) ∧
    (v.boot.handover = 6 → Completes (.fwHandoverStageDone t ok) s fun u => u.boot.handover = 0 ∧ u.fld Reg.MCB_FW_RESULT 0 = 0 ∧
      u.bit Reg.MCB_EVT_FW 0 = true)) ∧
  (s.fld Reg.MCB_STATE_CODE 0 = 4 → let n := Config.firmwareLength (s.rdBytes 0xA0000000 4096)
    let img := s.rdBytes 0xA0000000 (min 0x300000 n)
    Completes (.mcbRecoveryGo []) s fun u =>
      if n ≤ 0x300000 ∧ s.rangeBad 0xA0000000 img.length = false ∧ Config.firmwareOk s.flash img = true
      then u.boot.recoveryRuns = true ∧ SameMemory s u
      else ∀ k, k < img.length / 8 * 8 → u.rd8 (0xA0000000 + k) = 0) ∧
  (let p := s.fld Reg.MCB_PARCEL 0;
    (s.pstate p = stQuarantined → s.boot.retest = none → Completes .mcbRetest s fun u => u.boot.retest = some p ∧
      u.boot.retestPassed = 0) ∧
    (s.pstate p ≠ stQuarantined ∨ s.boot.retest ≠ none → Completes .mcbRetest s fun u => u.boot = s.boot ∧
      u.fld Reg.MCB_RAE_ADDR 0 = fieldAddr Reg.MCB_RETEST 0) ∧
    Completes .mcbQMark s fun u => tabGet false u.safety.marked p = true ∧ u.bit Reg.SFM_EVT_QUARANTINE 0 = true ∧
      (s.pstate p = stOff → s.ptract p = none → s.disabled p = false → u.pstate p = stQuarantined))

/-- The reads of the management bus return their blocks and change nothing else. The writes of the management bus: discarded with
a wrong PEC; DARK where they lack the main rails; refused where their own conditions do not hold; otherwise they act, and the
result is OK. Rests on the model's choices of log entry 63. (16 R396, 16 R397, 16 R398, 16 R402, 17 R415) -/
def Obligations.ManagementBusCommands : Prop :=
  (∀ (s : State),
      let returns := fun c b => Completes c s fun u => u = { s with mgmt := { s.mgmt with lastBlock := b } }
      returns .identity s.identityBytes ∧ s.identityBytes.length = 64 ∧ returns .lastResult (leBytes 1 s.mgmt.lastResult) ∧
      (Completes .status s fun u => u.mgmt.lastBlock.length = 16 ∧ u.mgmt.lastBlock.take 1 = leBytes 1 (s.fld Reg.MCB_STATE_CODE 0) ∧
        (u.mgmt.lastBlock.drop 3).take 2 = leBytes 1 (s.fld Reg.SFM_DARK_CAUSE 0) ++ leBytes 1 (s.fld Reg.PWR_T_DIE_MAX 0)) ∧
      returns .getCoord (fitBytes 16 s.mgmt.coordBytes) ∧
      returns .powerRead (leBytes 4 (s.fld Reg.PWR_IN_MV 0) ++ leBytes 4 (10 * s.fld Reg.PWR_IN_CA 0)) ∧
      (∀ off : BitVec 16, returns (.attestRead off) ((s.mgmt.attReport.drop off.toNat).take 240)) ∧
      (∀ i : BitVec 16, i.toNat < 4096 → returns (.safetyLog i) (tabGet {} s.safety.log i.toNat : SafeRec).bytes) ∧
      (∀ slot : Fin 8, s.alertN = true → returns (.alertResponse slot) (leBytes 1 (0x80 + 2 * slot.val)))) ∧
  (∀ (s : State),
      let only := fun v c => Completes c s fun u => u = { s with mgmt := { s.mgmt with lastResult := v } }
      let empty := ∀ t : TractId, s.fld Reg.TRC_STATE_CODE t = 0
      let st := s.fld Reg.MCB_STATE_CODE 0
      (∀ b w n c, c ∈ [Instr.setCoord b false, .powerCap w false, .attestNonce n false, .warmStart false, .coldStart false, .standby false] →
        only 0x11 c) ∧
      (∀ b, st = 3 ∨ st = 5 → only 0xFF (.setCoord b true) ∧ only 0xFF (.standby true)) ∧
      (∀ b, st = 2 → empty → coordOk b = true → Completes (.setCoord b true) s fun u => u.mgmt.lastResult = 0 ∧
        u.coord = byteField b 0 3 % 2 ^ 18 ∧ u.fld Reg.IDN_COORD 0 = byteField b 0 3 % 2 ^ 18 ∧ u.fld Reg.IDN_COORD_VALID 0 = 1 ∧
        u.clk.setAt = some (byteField b 4 4 * 1048576)) ∧
      (∀ b, st = 2 → coordOk b = false → only 0x11 (.setCoord b true)) ∧
      (∀ w : BitVec 16, st ≠ 4 → capOk w.toNat = true → Completes (.powerCap w true) s fun u => u.mgmt.lastResult = 0 ∧
        u.fld Reg.PWR_CAP_SMB_W 0 = w.toNat) ∧
      (∀ w : BitVec 16, capOk w.toNat = false → only 0x11 (.powerCap w true)) ∧
      (∀ n, st ≠ 4 → Completes (.attestNonce n true) s fun u => u.mgmt.lastResult = 0 ∧
        ∃ q, u.mgmt.attReqs = s.mgmt.attReqs ++ [q] ∧ q.nonce = fitBytes 32 n ∧ q.viaReg = false) ∧
      (st = 2 → empty → Completes (.standby true) s fun u => u.mgmt.lastResult = 0 ∧ u.fld Reg.MCB_STATE_CODE 0 = 3 ∧
        (∀ w : TownshipId, (u.town w).clocked = false) ∧ SameMemory s u))

/-- Attestation and the power cap: a request is signed in its turn; the lowest cap holds, and each millisecond above it stretches
the clocks a step, each below 98 % of it takes a step back. Rests on the model's choices of log entries 25, 81. (16 R402, 16
R403, 17 R415, 17 R416) -/
def Obligations.AttestationAndPowerCap : Prop := ∀ (s : State),
  (s.bit Reg.IDN_ATT_BUSY 0 = false → s.moduleDark = false → Completes .idnAttReq s fun u => u.bit Reg.IDN_ATT_BUSY 0 = true ∧
    ∃ q, u.mgmt.attReqs = s.mgmt.attReqs ++ [q] ∧ q.viaReg = true) ∧
  (s.bit Reg.IDN_ATT_BUSY 0 = true → s.moduleDark = false → Completes .idnAttReq s fun u => u.mgmt = s.mgmt ∧ u.bit Reg.MCB_EVT_REG_ERR 0 = true) ∧
  (∀ t q rest, let v := s.at t
    let out := s.fld Reg.IDN_ATT_OUT 0
    let lines := accessLines out 352
    s.mgmt.attReqs = q :: rest → s.moduleDark = false →
    (q.viaReg = false → Completes (.attestationSigned t) s fun u => u.mgmt.attReqs = rest ∧ u.mgmt.attReport = v.attReport q.nonce) ∧
    (q.viaReg = true → Sound s → Completes (.attestationSigned t) s fun u =>
      u.mgmt.attReqs = rest ∧ u.bit Reg.IDN_ATT_BUSY 0 = false ∧ u.fld Reg.IDN_ATT_STATUS 0 = 0 ∧
      (0x88000000 ≤ out → (∀ line ∈ lines, s.reaches .lantern line = true) → ∀ k, k < 352 →
        u.rd8 (out + k) = (v.attReport (s.rdBytes (s.fld Reg.IDN_ATT_NONCE 0) 32)).getD k 0) ∧
      ((∃ line ∈ lines, s.reaches .lantern line = false) → SameMemory s u ∧ u.bit Reg.MCB_EVT_ADDR_ERR 0 = true)) ∧
    (q.viaReg = true → s.rangeBad (s.fld Reg.IDN_ATT_NONCE 0) 32 = true → Completes (.attestationSigned t) s fun u =>
      u.mgmt.attReqs = rest ∧ u.bit Reg.IDN_ATT_BUSY 0 = false ∧ u.fld Reg.IDN_ATT_STATUS 0 = 0x40 ∧ SameMemory s u)) ∧
  (let src := fun v => if v = 0 then 3000 else v;
    (∀ v : BitVec 16, capOk v.toNat = true → s.moduleDark = false → Completes (.pwrCapW v) s fun u => u.fld Reg.PWR_CAP_W 0 = v.toNat ∧
      u.fld Reg.PWR_CAP_EFF 0 = min 3000 (min (src v.toNat) (src (s.fld Reg.PWR_CAP_SMB_W 0)))) ∧
    (∀ v : BitVec 16, capOk v.toNat = false → s.moduleDark = false → Completes (.pwrCapW v) s fun u => u.fld Reg.PWR_CAP_W 0 = s.fld Reg.PWR_CAP_W 0 ∧
      u.bit Reg.MCB_EVT_REG_ERR 0 = true)) ∧
  (∀ avg t, s.fld Reg.PWR_STAGE 0 = 3 → avg < 65536 → let cap := s.fld Reg.PWR_CAP_EFF 0
    let now := s.fld Reg.PWR_STRETCH_NOW 0
    let top := s.ctl Reg.PWR_STRETCH_MAX 0
    Completes (.powerAverageUpdate avg t) s fun u => u.fld Reg.PWR_IN_AVG_W 0 = avg ∧
      (cap < avg → now < top → u.fld Reg.PWR_STRETCH_NOW 0 = (now + 1) % 2 ^ Reg.PWR_STRETCH_NOW.w) ∧
      (100 * avg < 98 * cap → 0 < now → u.fld Reg.PWR_STRETCH_NOW 0 = (now - 1) % 2 ^ Reg.PWR_STRETCH_NOW.w) ∧
      (cap < avg → top ≤ now → u.bit Reg.PWR_EVT_CAP_UNMET 0 = true ∧
        u.fld Reg.PWR_CAP_UNMET_MS 0 = satAdd Reg.PWR_CAP_UNMET_MS.w (s.fld Reg.PWR_CAP_UNMET_MS 0) 1))

/-- Messages from the companion: a read is answered by a completion with its tag, a posted write within a writable window stores
what its mask enables, a completion brings lines of companion memory, and IDLE returns credit. Rests on the model's choices
of log entry 72. (16 R388, 16 R389, 16 R390, 16 R391) -/
def Obligations.CompanionMessagesAreServed : Prop := ∀ (s : State), s.attUp = true → s.moduleDark = false →
  let answers := fun (u : State) (P : AttMsg → Prop) => ∃ m, (m ∈ u.att.out ∨ m ∈ u.att.sent) ∧ m.typ = 2 ∧ P m
  (∀ (addr : BitVec 48) (lines : Fin 5) (tag credit : BitVec 16), lines.val ≠ 0 →
    let a := addr.toNat / 64 * 64
    let n := 64 * lines.val
    Completes (.rd addr lines tag credit) s fun u => answers u fun m => m.tag = tag.toNat ∧
      (s.winReason a n false = 0 → Sound s → Reached s .companion a n → m.status = 0 ∧ m.data = s.rdBytes a n) ∧
      (s.winReason a n false = 0 → inRegs a = false → (∃ l ∈ accessLines a n, s.reaches .companion l = false) →
        m.status = 3 ∧ m.data = [] ∧ u.fld Reg.ATT_ERR_REASON 0 = 4) ∧
      (s.winReason a n false ≠ 0 → m.status = 1 ∧ m.data = [] ∧ u.bit Reg.ATT_EVT_REFUSED 0 = true ∧
        u.fld Reg.ATT_ERR_REASON 0 = s.winReason a n false)) ∧
  (∀ (addr : BitVec 48) (data : List Byte) (mask : BitVec 64) (credit : BitVec 16), data.length = 64 →
    let a := addr.toNat / 64 * 64
    (s.winReason a 64 true = 0 → inParcelMem a = true → Reached s .companion a 64 →
      (∀ w, a / 8 ≤ w → w < a / 8 + 8 → tabGet false s.uncorr w = false) →
      Completes (.wr addr data mask credit) s fun u => SameMemoryBut a 64 s u ∧
        ∀ i, i < 64 → u.rd8 (a + i) = if bitAt mask.toNat i = true then data.getD i 0 else s.rd8 (a + i)) ∧
    (s.winReason a 64 true ≠ 0 → Completes (.wr addr data mask credit) s fun u => SameMemory s u ∧
      u.bit Reg.ATT_EVT_REFUSED 0 = true ∧ u.fld Reg.ATT_ERR_REASON 0 = s.winReason a 64 true)) ∧
  (∀ (tag : BitVec 16) (addr : BitVec 48) (data : List Byte) (credit : BitVec 16) (r : AttRead), 1 ≤ data.length → data.length ≤ 256 →
    let a := addr.toNat / 64 * 64
    inAperture a = true → inAperture (a + data.length - 1) = true → (s.att.reads.find? fun x => x.tag == tag.toNat) = some r →
    Completes (.cpl tag addr 0 data credit) s fun u => (∀ i, i < data.length → u.rd8 (a + i) = data.getD i 0) ∧
      SameMemoryBut a data.length s u ∧ u.lastData = u.rdBytes r.addr r.len ∧ ∀ x ∈ u.att.reads, x.tag ≠ tag.toNat) ∧
  (∀ credit : BitVec 16, s.att.out = [] → Completes (.idle credit) s fun u =>
    (∀ v : Fin 4, tabGet 0 u.att.spent v = tabGet 0 s.att.spent v - bitsOf credit.toNat (4 * v) 4) ∧ SameMemory s u)

/-- The attach link, its windows and its doorbells. Rests on the model's choices of log entry 71. (16 R387, 16 R391, 16 R392, 16
R393, 16 R395) -/
def Obligations.AttachLinkAndWindows : Prop := ∀ (s : State), s.moduleDark = false →
  let st := s.fld Reg.ATT_LINK 0
  (st = 0 ∨ st = 4 → Completes .attTrain s fun u => u.fld Reg.ATT_LINK 0 = 1 ∧ u.bit Reg.ATT_EVT_LINK 0 = true) ∧
  (st ≠ 0 → st ≠ 4 → Completes .attTrain s fun u => u = s) ∧
  (∀ mask : Fin 256, st = 1 → Completes (.attachTrainingComplete mask) s fun u => u.fld Reg.ATT_LANES_OK 0 = mask.val ∧
    u.fld Reg.ATT_LINK 0 = if (lanesIn mask).length = 8 then 2 else if 4 ≤ (lanesIn mask).length then 3 else 4) ∧
  (∀ j : Fin 8, (s.attUp = true → s.attLanes.contains j.val = true → Completes (.attachLaneFail j) s fun u =>
      bitAt (u.fld Reg.ATT_LANES_OK 0) j = false ∧ u.fld Reg.ATT_LINK 0 = 1 ∧ u.bit Reg.ATT_EVT_LINK 0 = true) ∧
    (s.attUp = false ∨ s.attLanes.contains j.val = false → Completes (.attachLaneFail j) s fun u =>
      bitAt (u.fld Reg.ATT_LANES_OK 0) j = false ∧ u.fld Reg.ATT_LINK 0 = st)) ∧
  (∀ (w : Fin 16) (base : BitVec 48) (attr : BitVec 14), let v := attr.toNat
    12 ≤ bitsOf v 0 6 → bitsOf v 0 6 ≤ 48 → bitsOf v 10 4 ≤ 8 → base.toNat % 4096 = 0 → Completes (.attWinWrite w base attr) s fun u =>
      u.fld Reg.ATT_WIN_SEL 0 = w.val ∧ u.fld Reg.ATT_WIN_BASE w = base.toNat ∧ u.fld Reg.ATT_WIN_LOG w = bitsOf v 0 6 ∧
      u.bit Reg.ATT_WIN_VALID w = bitAt v 6 ∧ u.bit Reg.ATT_WIN_READ w = bitAt v 7 ∧ u.bit Reg.ATT_WIN_WRITE w = bitAt v 8 ∧
      u.bit Reg.ATT_WIN_SHARED w = bitAt v 9 ∧ u.fld Reg.ATT_WIN_SCOPE w = bitsOf v 10 4) ∧
  (∀ (w : Fin 16) (base : BitVec 48) (attr : BitVec 14), base.toNat % 4096 ≠ 0 → Completes (.attWinWrite w base attr) s fun u =>
    u.fld Reg.ATT_WIN_BASE w = s.fld Reg.ATT_WIN_BASE w ∧ u.bit Reg.MCB_EVT_REG_ERR 0 = true) ∧
  (Completes .attCountClr s fun u => ∀ f ∈ [Reg.ATT_BINV_SENT, Reg.ATT_RPT_DROP, Reg.ATT_RETRAINS], u.fld f 0 = 0) ∧
  (∀ v : Fin 65536, let n := 2 ^ s.fld Reg.ATT_CMDQ_LOG 0
    (v.val < n → Completes (.commandTailDoorbell v) s fun u => u.att.cmdTail % n = v.val ∧ s.att.cmdHead ≤ u.att.cmdTail ∧
      u.att.cmdTail < s.att.cmdHead + n) ∧
    (n ≤ v.val → Completes (.commandTailDoorbell v) s fun u => u.att = s.att ∧ u.bit Reg.ATT_EVT_CMD_ERR 0 = true)) ∧
  (∀ v : Fin 65536, let n := 2 ^ s.fld Reg.ATT_RPTQ_LOG 0
    (v.val < n → s.att.reports = [] → Completes (.reportHeadDoorbell v) s fun u =>
      u.att.rptHead = min s.att.rptTail (s.att.rptHead + (v.val + n - s.att.rptHead % n) % n)) ∧
    (n ≤ v.val → Completes (.reportHeadDoorbell v) s fun u => u.att = s.att ∧ u.bit Reg.ATT_EVT_CMD_ERR 0 = true))

/-- The oldest entry of the companion's command queue acts, and is consumed: a job starts at this module as its root or is
aborted, a drill window opens, a block is exported, an owner passes, an easement is granted. Rests on the model's choices of
log entry 71. (11 R270, 13 R335, 16 R392, 16 R393) -/
def Obligations.CompanionCommandsAct : Prop := ∀ (s : State) (b : List Byte),
  let entry := s.fld Reg.ATT_CMDQ_BASE 0 + 64 * (s.att.cmdHead % 2 ^ s.fld Reg.ATT_CMDQ_LOG 0)
  let next := fun (op : Nat) => s.moduleDark = false ∧ s.att.cmdHead < s.att.cmdTail ∧ Sound s ∧ Reached s .lantern entry 64 ∧
    b = s.rdBytes entry 64 ∧ fieldOf b 0 1 = op ∧ s.rptReady = false
  let head := fun (u : State) => u.att.cmdHead = s.att.cmdHead + 1
  (∀ t, let m := s.rdBytes (fieldOf b 8 8) 1020
    next 1 → Reached s .lantern (fieldOf b 8 8) 1020 → (s.job (msgJob m)).known = false → msgTract m < 8 →
    s.bit Reg.TRC_CONFIGURED (msgTract m) = true → (m.drop 16).take 48 = s.rdBytes (msgMap m + 0x20) 48 →
    (s.tract (msgTract m)).won = none → s.fld Reg.TRC_STATE_CODE (msgTract m) = 0 → s.boot.handover = 0 →
    Completes (.startJob t) s fun u => head u ∧ (u.job (msgJob m)).word = jobStarting ∧
      (u.job (msgJob m)).root = true ∧ u.fld Reg.TRC_STATE_CODE (msgTract m) = 1) ∧
  (∀ t, let v := s.at t
    let j := fieldOf b 8 4
    next 2 → (v.job j).known = true → (v.job j).root = true → (v.job j).wordAt ≠ v.datum → (v.job j).word = jobRunning →
    Completes (.abortJob t) s fun u => head u ∧ (u.job j).word = jobAborted) ∧
  (next 3 → fieldOf b 9 1 < 8 → fieldOf b 8 1 < 2 → Completes .drillWindow s fun u => head u ∧
    tabGet 0 u.drillWindows (fieldOf b 9 1) = if fieldOf b 8 1 = 1 then fieldOf b 10 8 else 0) ∧
  (let c := s.benchCtx (fieldOf b 8 1);
    let a := c.slot (fieldOf b 9 1) (fieldOf b 10 1 == 1);
    let src := a + 512 + fieldOf b 11 1 * vmBytes c.layout;
    let dst := fieldOf b 12 8;
    next 4 → fieldOf b 8 1 < 8 → fieldOf b 9 1 < 2 → fieldOf b 10 1 = 0 → c.layout ≠ [] → fieldOf b 11 1 < c.fm →
    inAperture dst = true → inAperture (dst + 511 + vmBytes c.layout) = true →
    Reached s .lantern a 512 → Reached s .lantern src (vmBytes c.layout) →
    Completes .exportBlock s fun u => head u ∧ (∀ k, k < 512 → u.rd8 (dst + k) = s.rd8 (a + k)) ∧
      ∀ k, k < vmBytes c.layout → u.rd8 (dst + 512 + k) = s.rd8 (src + k)) ∧
  (let k := fieldOf b 8 1;
    let i := fieldOf b 21 1;
    next 5 → k < 6 → i < 16 → (s.owner k i).state = ownOwned ∨ (s.owner k i).state = ownPending →
    Completes .linkPass s fun u => head u ∧ (u.owner k i).state = ownDraining ∧ (u.owner k i).nextJob = fieldOf b 9 4 % 2 ^ Reg.LNK_NEXT_JOB.w) ∧
  (let k := fieldOf b 8 1;
    let i := fieldOf b 10 1;
    let v := fieldOf b 11 1;
    next 6 → k < 6 → fieldOf b 9 1 < 16 → i < 16 → v < 2 → (v = 1 → (s.owner k i).state = ownOwned ∧ s.fld Reg.LNK_VERSION k ≠ 1) →
    Completes .easement s fun u => head u ∧ (u.grantRec k (fieldOf b 9 1)).newOwner = i ∧
      (u.grantRec k (fieldOf b 9 1)).newValid = (v == 1) ∧ (u.grantRec k (fieldOf b 9 1)).tick = s.tickNow + 1)

/-- The instructions of the debug port's TAP: what each captures and drives, and that a locked port answers DTMCS, DMI and DBGACC
as BYPASS. Debug tokens: one that holds opens its scope and a new challenge is drawn; it ends when it runs out, or by
DBG_LOCK. Rests on the model's choices of log entries 29, 75, 76. (16 R405, 16 R406, 16 R409, 16 R410) -/
def Obligations.TapInstructionsAndTokens : Prop :=
  (∀ (s : State),
      let bypassed := fun (u : State) => u.tap.out = 0 ∧ u.tap.bypass = false ∧ u.dm = s.dm ∧ SameMemory s u ∧ SameRegisters s u
      (∀ b, Completes (.bypass b) s fun u => u.tap.ir = 0x3F ∧ u.tap.out = 0 ∧ u.tap.bypass = b ∧ u.tap.pins = none) ∧
      (Completes .idcode s fun u => u.tap.ir = 0x01 ∧ u.tap.out = 0x0AB23A1F ∧ u.tap.pins = none) ∧
      (∀ d, Completes (.samplePreload d) s fun u => u.tap.ir = 0x02 ∧ u.tap.preload = d ∧ u.tap.pins = none) ∧
      (∀ d, s.fld Reg.MCB_STATE_CODE 0 = 3 ∨ s.fld Reg.MCB_STATE_CODE 0 = 4 → Completes (.extest d) s fun u =>
        u.tap.pins = some (d.getD s.tap.preload)) ∧
      (∀ d, s.fld Reg.MCB_STATE_CODE 0 ≠ 3 → s.fld Reg.MCB_STATE_CODE 0 ≠ 4 → Completes (.extest d) s fun u => u.tap.pins = none) ∧
      (s.dbgLocked = true → (∀ v, Completes (.dtmcs v) s bypassed) ∧ (s.moduleDark = false →
        (∀ o a d, Completes (.dmi o a d) s bypassed) ∧ ∀ o a d, Completes (.dbgacc o a d) s bypassed)) ∧
      (s.dbgLocked = false → (∀ v : BitVec 32, Completes (.dtmcs v) s fun u => u.tap.out = 1 + 7 * 16 + s.dm.stat * 2 ^ 10 ∧
          u.dm.stat = if bitAt v.toNat 16 = true ∨ bitAt v.toNat 17 = true then 0 else s.dm.stat) ∧
        (∀ (a : BitVec 48) d, s.moduleDark = false → inRegs a.toNat = false → let x := a.toNat / 8 * 8
          Completes (.dbgacc 1 a d) s fun u => u.tap.out = s.tap.accData * 2 ^ 50 + s.tap.accStatus * 2 ^ 114 ∧
            (s.scopeHolds x 8 = false → u.tap.accStatus = 3 ∧ u.tap.accData = 0) ∧
            (s.scopeHolds x 8 = true → Sound s → Reached s .debug x 8 →
              u.tap.accStatus = 0 ∧ u.tap.accData = leNat (s.rdBytes x 8) % 2 ^ 64) ∧
            (s.scopeHolds x 8 = true → (∃ l ∈ accessLines x 8, s.reaches .debug l = false) → u.tap.accStatus = 2)) ∧
        (s.moduleDark = false → s.inScope 0 = true → s.dm.stat = 0 → bitAt (s.dmReg 0x10) 0 = true →
          (∀ d : BitVec 32, Completes (.dmi 2 0x3D d) s fun u => u.dmReg 0x3D = d.toNat) ∧
          (∀ d : BitVec 32, Completes (.dmi 1 0x3D d) s fun u => u.dm.data = s.dmReg 0x3D) ∧
          (∀ d : BitVec 32, bitAt d.toNat 0 = true → bitAt d.toNat 31 = true → bitsOf d.toNat 16 10 = 0 → bitsOf d.toNat 6 10 = 0 →
            s.hartLost 0 = false → Completes (.dmi 2 0x10 d) s fun u => (u.hart 0).halted = true)))) ∧
  (∀ (s : State),
      let ends := fun (c : Instr) => Completes c s fun u => u.bit Reg.DBG_TOKEN 0 = false ∧ u.bit Reg.DBG_EVT_TOKEN 0 = true ∧
        u.fld Reg.DBG_SCOPE 0 = if s.bit Reg.DBG_OPEN 0 = true ∨ s.bit Reg.DBG_RECOVERY 0 = true then 0x3FF else 0
      (∀ b : List Byte, Completes (.token b) s fun u => u.tap.ir = 0x21 ∧ u.tap.out = leNat s.tap.challenge ∧
        if s.tokenOk b = true then u.bit Reg.DBG_TOKEN 0 = true ∧ u.bit Reg.DBG_EVT_TOKEN 0 = true ∧
          (s.bit Reg.DBG_OPEN 0 = false → s.bit Reg.DBG_RECOVERY 0 = false → u.fld Reg.DBG_SCOPE 0 = fieldOf b 6 2) ∧
          u.tap.challenge = (s.freeBytes 32).1
        else SameRegisters s u ∧ u.tap.challenge = s.tap.challenge) ∧
      (s.bit Reg.DBG_TOKEN 0 = true → s.moduleDark = false → ends .dbgLock) ∧
      (∀ t, s.bit Reg.DBG_TOKEN 0 = true → s.fld Reg.DBG_NOT_AFTER 0 < (s.at t).datum / 1000000000 → ends (.tokenExpiry t)) ∧
      (∀ t, (s.at t).datum / 1000000000 ≤ s.fld Reg.DBG_NOT_AFTER 0 → Completes (.tokenExpiry t) s fun u => u = s.at t))

/-- The debug port halts, resumes and steps a parcel of its scope; a parcel outside it is not touched, and the error is recorded.
A beacon's count is written only where the beacon's tract is loaded and in scope. Rests on the model's choices of log entry
75. (16 R406, 16 R407, 16 R408, 16 R410) -/
def Obligations.DebugPortControlsParcels : Prop := ∀ (s : State), s.moduleDark = false →
  let p := s.fld Reg.DBG_PARCEL 0
  let reach := s.inScope (s.parcelScope p)
  let refused := fun (c : Instr) n => Completes c s fun u => u.fld Reg.DBG_ERR_REASON 0 = n ∧ u.bit Reg.DBG_EVT_ERR 0 = true ∧
    ∀ q : ParcelId, u.pstate q = s.pstate q
  (s.bit Reg.DBG_WIDE 0 = false →
    (reach = true → s.pstate p = stRun → (s.par p).faulted = false → (s.par p).stopNow = false → (s.par p).replayTo = none →
      Completes .dbgHalt s fun u => u.pstate p = stHalted ∧ u.fld Reg.DBG_HALT_CAUSE 0 = 1 ∧ u.bit Reg.PCT_EVT_HALTED p = true) ∧
    (reach = true → s.pstate p = stHalted →
      (Completes .dbgResume s fun u => u.pstate p = stRun ∧ (u.par p).stepping = false) ∧
      (Completes .dbgStep s fun u => u.pstate p = stRun ∧ (u.par p).stepping = true)) ∧
    (reach = true → s.pstate p ≠ stRun → refused .dbgHalt 4) ∧
    (reach = true → s.pstate p ≠ stHalted → refused .dbgResume 4 ∧ refused .dbgStep 4)) ∧
  (reach = false → refused .dbgHalt 3 ∧ refused .dbgResume 3 ∧ refused .dbgStep 3) ∧
  (∀ (b : Fin 32768) (n : Fin 65536), let scope := s.inScope (s.parcelScope (beaconHome b))
    let x := s.beacon b
    (∀ t, x.assigned = true → scope = true → s.ptract (beaconHome b) = some t →
      2 ≤ s.fld Reg.TRC_STATE_CODE t → s.fld Reg.TRC_STATE_CODE t ≤ 4 → Completes (.dbgBeaconSet b n) s fun u =>
        u.fld Reg.DBG_BEACON_NUM 0 = b.val ∧ (u.beacon b).count = (releaseWaiters n.val x.waiters).1 ∧
        (u.beacon b).waiters = (releaseWaiters n.val x.waiters).2.1) ∧
    (x.assigned = false ∨ scope = false ∨ s.ptract (beaconHome b) = none ∨
      (∃ t, s.ptract (beaconHome b) = some t ∧ (s.fld Reg.TRC_STATE_CODE t < 2 ∨ 4 < s.fld Reg.TRC_STATE_CODE t)) → Completes (.dbgBeaconSet b n) s fun u =>
      u.beacons = s.beacons ∧ u.fld Reg.DBG_ERR_REASON 0 = 4 ∧ u.bit Reg.DBG_EVT_ERR 0 = true))

/-- Register space and memory as outside agents access them: a narrower or misaligned register access is not performed and is
recorded; a plain register takes what is written; a read-only one ignores it; memory takes and returns bytes; an address that
is reserved reads as zero, with an address error. Rests on the model's choices of log entries 73, 74, 89, 106. (00 R6, 00 R7,
07 R154) -/
def Obligations.OutsideAgentsAccessTheMap : Prop := ∀ (s : State), s.moduleDark = false →
  let refused := fun (u : State) a => SameMemory s u ∧ u.bit Reg.MCB_EVT_REG_ERR 0 = true ∧ u.fld Reg.MCB_RAE_ADDR 0 = a
  (∀ a size (v : BitVec 64), inRegs a = true → size ≠ 0 → a % 8 ≠ 0 ∨ size ≠ 8 →
    Completes (.registerWrite .lantern a size v) s fun u => refused u a ∧
      SameRegistersBut [(Reg.MCB_RAE_ADDR, 0), (Reg.MCB_RAE_SOURCE, 0), (Reg.MCB_RAE_COUNT, 0), (Reg.MCB_EVT_REG_ERR, 0)] s u) ∧
  (∀ a n, inRegs a = true → n ≠ 0 → a % 8 ≠ 0 ∨ n ≠ 8 → Completes (.outsideAgentAccess .lantern a n none) s fun u =>
    refused u a ∧ u.lastData = List.replicate n 0) ∧
  (∀ v : BitVec 64, Completes (.registerWrite .lantern (fieldAddr Reg.IDN_ATT_NONCE 0) 8 v) s fun u =>
    u.fld Reg.IDN_ATT_NONCE 0 = v.toNat % 2 ^ 48 ∧ SameMemory s u ∧ SameRegistersBut [(Reg.IDN_ATT_NONCE, 0)] s u) ∧
  (∀ v : BitVec 64, Completes (.registerWrite .lantern (fieldAddr Reg.PWR_IN_MV 0) 8 v) s fun u => SameRegisters s u) ∧
  (∀ a bs, bs ≠ [] → inRegs a = false → Reached s .lantern a bs.length → Sound s →
    Completes (.outsideAgentAccess .lantern a bs.length (some bs)) s fun u => SameMemoryBut a bs.length s u ∧
      ∀ i, i < bs.length → u.rd8 (a + i) = bs.getD i 0) ∧
  (∀ a n, n ≠ 0 → a + n ≤ 0x80000000 → Reached s .lantern a n → Sound s →
    Completes (.outsideAgentAccess .lantern a n none) s fun u => u.lastData = s.rdBytes a n ∧ SameMemory s u ∧ SameRegisters s u) ∧
  (∀ a n, n ≠ 0 → inRegs a = false → inAperture a = false → (∃ l ∈ accessLines a n, s.reaches .lantern l = false) →
    Completes (.outsideAgentAccess .lantern a n none) s fun u => u.lastData = List.replicate n 0 ∧ SameMemory s u ∧
      u.bit Reg.MCB_EVT_ADDR_ERR 0 = true ∧ u.fld Reg.MCB_AE_ADDR 0 = a % 2 ^ Reg.MCB_AE_ADDR.w)
end

