-- ==== Sys2Proof/Laws/Tab.lean ====
section
/-!
SUPPORT. The laws of sparse tables: reading after writing, for every table, and the canonical form,
which every table operation keeps.
-/
namespace Sys2Proof.Machine

/-! ### Reading after writing -/

theorem tabGet_tabErase_same {α : Type} (d : α) (t : Tab α) (k : Nat) : tabGet d (tabErase t k) k = d := by
  induction t with
  | nil => rfl
  | cons a t ih =>
    obtain ⟨k', v⟩ := a
    unfold tabErase
    split
    · exact ih
    · next h => rw [tabGet, if_neg h, ih]

theorem tabGet_tabErase_ne {α : Type} (d : α) (t : Tab α) (k j : Nat) (hj : j ≠ k) : tabGet d (tabErase t k) j = tabGet d t j := by
  induction t with
  | nil => rfl
  | cons a t ih =>
    obtain ⟨k', v⟩ := a
    unfold tabErase
    split
    · next h => subst h; rw [ih, tabGet, if_neg (Ne.symm hj)]
    · rw [tabGet, tabGet, ih]

theorem tabGet_tabInsert_same {α : Type} (d : α) (t : Tab α) (k : Nat) (v : α) : tabGet d (tabInsert t k v) k = v := by
  induction t with
  | nil => simp [tabInsert, tabGet]
  | cons a t ih =>
    obtain ⟨k', w⟩ := a
    unfold tabInsert
    split
    · simp [tabGet]
    · split
      · simp [tabGet]
      · next h _ => rw [tabGet, if_neg h, ih]

theorem tabGet_tabInsert_ne {α : Type} (d : α) (t : Tab α) (k j : Nat) (v : α) (hj : j ≠ k) :
    tabGet d (tabInsert t k v) j = tabGet d t j := by
  induction t with
  | nil => simp [tabInsert, tabGet, Ne.symm hj]
  | cons a t ih =>
    obtain ⟨k', w⟩ := a
    unfold tabInsert
    split
    · next h => subst h; simp [tabGet, Ne.symm hj]
    · split
      · rw [tabGet, if_neg (Ne.symm hj)]
      · rw [tabGet, tabGet, ih]

/-- A key reads as what was last written there. -/
theorem tabGet_tabPut_same {α : Type} [DecidableEq α] (d : α) (t : Tab α) (k : Nat) (v : α) : tabGet d (tabPut d t k v) k = v := by
  unfold tabPut
  split
  · next h => rw [tabGet_tabErase_same, h]
  · exact tabGet_tabInsert_same d t k v

/-- Every other key reads as before. -/
theorem tabGet_tabPut_ne {α : Type} [DecidableEq α] (d e : α) (t : Tab α) (k j : Nat) (v : α) (hj : j ≠ k) :
    tabGet d (tabPut e t k v) j = tabGet d t j := by
  unfold tabPut
  split
  · exact tabGet_tabErase_ne d t k j hj
  · exact tabGet_tabInsert_ne d t k j v hj

theorem tabGet_tabPut {α : Type} [DecidableEq α] (d : α) (t : Tab α) (k j : Nat) (v : α) :
    tabGet d (tabPut d t k v) j = if j = k then v else tabGet d t j := by
  split
  · next h => rw [h, tabGet_tabPut_same]
  · next h => exact tabGet_tabPut_ne d d t k j v h

/-! ### The canonical form -/

theorem tabSorted_cons {α : Type} (k : Nat) (v : α) (t : Tab α) :
    tabSorted ((k, v) :: t) = true ↔ (∀ kv, kv ∈ t → k < kv.1) ∧ tabSorted t = true := by
  induction t generalizing k v with
  | nil => simp [tabSorted]
  | cons p t ih =>
    obtain ⟨k', v'⟩ := p
    simp only [tabSorted, Bool.and_eq_true, decide_eq_true_eq, List.mem_cons]
    constructor
    · intro ⟨h1, h2⟩
      refine ⟨?_, h2⟩
      intro kv hkv
      rcases hkv with rfl | hkv
      · exact h1
      · exact Nat.lt_trans h1 (((ih k' v').mp h2).1 kv hkv)
    · intro ⟨h1, h2⟩
      exact ⟨h1 _ (Or.inl rfl), h2⟩

theorem tabWf_iff {α : Type} [DecidableEq α] (d : α) (t : Tab α) :
    tabWf d t = true ↔ tabSorted t = true ∧ ∀ kv, kv ∈ t → kv.2 ≠ d := by
  simp [tabWf, List.all_eq_true]

theorem tabSorted_filter {α : Type} (p : Nat × α → Bool) (t : Tab α) (h : tabSorted t = true) : tabSorted (t.filter p) = true := by
  induction t with
  | nil => exact h
  | cons a t ih =>
    obtain ⟨k, v⟩ := a
    obtain ⟨h1, h2⟩ := (tabSorted_cons k v t).mp h
    rw [List.filter_cons]
    split
    · exact (tabSorted_cons k v _).mpr ⟨fun kv hkv => h1 kv (List.mem_filter.mp hkv).1, ih h2⟩
    · exact ih h2

theorem tabWf_filter {α : Type} [DecidableEq α] (d : α) (p : Nat × α → Bool) (t : Tab α) (h : tabWf d t = true) :
    tabWf d (t.filter p) = true := by
  obtain ⟨h1, h2⟩ := (tabWf_iff d t).mp h
  exact (tabWf_iff d _).mpr ⟨tabSorted_filter p t h1, fun kv hkv => h2 kv (List.mem_filter.mp hkv).1⟩

theorem tabErase_mem {α : Type} (t : Tab α) (k : Nat) (kv : Nat × α) (h : kv ∈ tabErase t k) : kv ∈ t := by
  induction t with
  | nil => exact h
  | cons a t ih =>
    obtain ⟨k', v⟩ := a
    simp only [tabErase] at h
    split at h
    · exact List.mem_cons_of_mem _ (ih h)
    · rcases List.mem_cons.mp h with rfl | h
      · exact List.mem_cons_self
      · exact List.mem_cons_of_mem _ (ih h)

theorem tabErase_sorted {α : Type} (t : Tab α) (k : Nat) (h : tabSorted t = true) : tabSorted (tabErase t k) = true := by
  induction t with
  | nil => exact h
  | cons a t ih =>
    obtain ⟨k', v⟩ := a
    obtain ⟨h1, h2⟩ := (tabSorted_cons k' v t).mp h
    simp only [tabErase]
    split
    · exact ih h2
    · exact (tabSorted_cons k' v _).mpr ⟨fun kv hkv => h1 kv (tabErase_mem t k kv hkv), ih h2⟩

theorem tabInsert_mem {α : Type} (t : Tab α) (k : Nat) (v : α) (kv : Nat × α) (h : kv ∈ tabInsert t k v) : kv = (k, v) ∨ kv ∈ t := by
  induction t with
  | nil => exact Or.inl (List.mem_singleton.mp h)
  | cons a t ih =>
    obtain ⟨k', w⟩ := a
    simp only [tabInsert] at h
    split at h
    · rcases List.mem_cons.mp h with rfl | h
      · exact Or.inl rfl
      · exact Or.inr (List.mem_cons_of_mem _ h)
    · split at h
      · rcases List.mem_cons.mp h with rfl | h
        · exact Or.inl rfl
        · exact Or.inr h
      · rcases List.mem_cons.mp h with rfl | h
        · exact Or.inr List.mem_cons_self
        · rcases ih h with rfl | h
          · exact Or.inl rfl
          · exact Or.inr (List.mem_cons_of_mem _ h)

theorem tabInsert_sorted {α : Type} (t : Tab α) (k : Nat) (v : α) (h : tabSorted t = true) : tabSorted (tabInsert t k v) = true := by
  induction t with
  | nil => rfl
  | cons a t ih =>
    obtain ⟨k', w⟩ := a
    obtain ⟨h1, h2⟩ := (tabSorted_cons k' w t).mp h
    simp only [tabInsert]
    split
    · next e => subst e; exact (tabSorted_cons k' v t).mpr ⟨h1, h2⟩
    · split
      · next hlt =>
        refine (tabSorted_cons k v _).mpr ⟨fun kv hkv => ?_, h⟩
        rcases List.mem_cons.mp hkv with rfl | hkv
        · exact hlt
        · exact Nat.lt_trans hlt (h1 kv hkv)
      · next hne hlt =>
        refine (tabSorted_cons k' w _).mpr ⟨fun kv hkv => ?_, ih h2⟩
        rcases tabInsert_mem t k v kv hkv with rfl | hkv
        · exact Nat.lt_of_le_of_ne (Nat.le_of_not_lt hlt) hne
        · exact h1 kv hkv

theorem tabPut_wf {α : Type} [DecidableEq α] (d : α) (t : Tab α) (k : Nat) (v : α) (h : tabWf d t = true) : tabWf d (tabPut d t k v) = true := by
  obtain ⟨h1, h2⟩ := (tabWf_iff d t).mp h
  refine (tabWf_iff d _).mpr ?_
  unfold tabPut
  split
  · exact ⟨tabErase_sorted t k h1, fun kv hkv => h2 kv (tabErase_mem t k kv hkv)⟩
  · next hv =>
    refine ⟨tabInsert_sorted t k v h1, fun kv hkv => ?_⟩
    rcases tabInsert_mem t k v kv hkv with rfl | hkv
    · exact hv
    · exact h2 kv hkv


end Sys2Proof.Machine
end

