-- ==== Sys2Proof/Laws/Memory.lean ====
section
/-!
SUPPORT. The canonical form of the module's memory under the operations that change it, and how it passes through outcomes,
conditionals and folds. The files Mem… say, definition by definition, what each does to memory.
-/
namespace Sys2Proof.Machine

/-! ### Operations on the table -/

theorem putBytes_memOk (m : Tab Byte) (a : Nat) (bs : List Byte) (h : MemOk m) : MemOk (putBytes m a bs) := by
  induction bs generalizing m a with
  | nil => exact h
  | cons b bs ih => exact ih _ _ (tabPut_wf 0 m a b h)

theorem tabClear_memOk (m : Tab Byte) (lo hi : Nat) (h : MemOk m) : MemOk (tabClear m lo hi) := tabWf_filter 0 _ m h

theorem filter_memOk (m : Tab Byte) (p : Nat × Byte → Bool) (h : MemOk m) : MemOk (m.filter p) := tabWf_filter 0 _ m h

/-! ### Outcomes, conditionals, folds -/

theorem memOf_next (s : State) : memOf (.next s) = s.mem := rfl

theorem memOf_done (s : State) : memOf (done s) = s.mem := rfl

theorem memOf_ite (c : Prop) [Decidable c] (a b : Host.Outcome State Fault Refusal) :
    memOf (if c then a else b) = if c then memOf a else memOf b := by split <;> rfl

theorem mem_ite (c : Prop) [Decidable c] (a b : State) : (if c then a else b).mem = if c then a.mem else b.mem := by
  split <;> rfl

theorem snd_ite {α β : Type} (c : Prop) [Decidable c] (a b : α × β) : (if c then a else b).2 = if c then a.2 else b.2 := by
  split <;> rfl

theorem fst_ite {α β : Type} (c : Prop) [Decidable c] (a b : α × β) : (if c then a else b).1 = if c then a.1 else b.1 := by
  split <;> rfl

theorem memOk_ite (c : Prop) [Decidable c] (a b : Tab Byte) :
    MemOk (if c then a else b) = if c then MemOk a else MemOk b := by split <;> rfl

theorem foldl_mem {α : Type} (l : List α) (g : State → α → State) (h : ∀ s x, (g s x).mem = s.mem) (s : State) :
    (l.foldl g s).mem = s.mem := by
  induction l generalizing s with
  | nil => rfl
  | cons x l ih => rw [List.foldl_cons, ih, h]

theorem foldl_memOk {α : Type} (l : List α) (g : State → α → State) (h : ∀ s x, MemOk s.mem → MemOk (g s x).mem) (s : State)
    (hs : MemOk s.mem) : MemOk (l.foldl g s).mem := by
  induction l generalizing s with
  | nil => exact hs
  | cons x l ih => exact ih _ (h _ _ hs)

theorem foldl_snd_mem {α β : Type} (l : List α) (g : β × State → α → β × State) (h : ∀ a x, (g a x).2.mem = a.2.mem) (a : β × State) :
    (l.foldl g a).2.mem = a.2.mem := by
  induction l generalizing a with
  | nil => rfl
  | cons x l ih => rw [List.foldl_cons, ih, h]

theorem foldl_snd_memOk {α β : Type} (l : List α) (g : β × State → α → β × State) (h : ∀ a x, MemOk a.2.mem → MemOk (g a x).2.mem)
    (a : β × State) (ha : MemOk a.2.mem) : MemOk (l.foldl g a).2.mem := by
  induction l generalizing a with
  | nil => exact ha
  | cons x l ih => exact ih _ (h _ _ ha)

end Sys2Proof.Machine
end

