-- ==== Sys2Proof/Laws/MemCompute.lean ====
section
/-!
SUPPORT. What the definitions of the parcel: issue, engines, taper and parcel control do to the memory of the module: nothing, or a
change that keeps it canonical. One lemma for each, which the next ones cite.
-/
set_option linter.unusedSimpArgs false

namespace Sys2Proof.Machine

/-! ### Ops -/

theorem done_mem (s : State) :
    memOf (done s) = s.mem := by
  simp only [done, memOf_next]

theorem State.setFld_mem (s : State) (f : Fld) (u v : Nat) :
    (State.setFld s f u v).mem = s.mem := by
  simp only [State.setFld]

theorem State.raise_mem (s : State) (f : Fld) (u : Nat) :
    (State.raise s f u).mem = s.mem := by
  simp only [State.raise, State.setFld_mem]

theorem State.count_mem (s : State) (f : Fld) (u n : Nat) :
    (State.count s f u n).mem = s.mem := by
  simp only [State.count, State.setFld_mem]

theorem State.setFlds_mem (s : State) (u : Nat) (l : List (Fld × Nat)) :
    (State.setFlds s u l).mem = s.mem := by
  simp only [State.setFlds, foldl_mem, implies_true, State.setFld_mem]

theorem State.resetFlds_mem (s : State) (u : Nat) (l : List Fld) :
    (State.resetFlds s u l).mem = s.mem := by
  simp only [State.resetFlds, foldl_mem, implies_true, State.setFld_mem]

theorem State.setStart_mem (s : State) (f : Fld) (u v : Nat) :
    (State.setStart s f u v).mem = s.mem := by
  simp only [State.setStart, State.setFld_mem]

theorem State.draw_mem (s : State) :
    (State.draw s).2.mem = s.mem := by
  simp only [State.draw]

theorem State.freeBytes_mem (s : State) (n : Nat) :
    (State.freeBytes s n).2.mem = s.mem := by
  simp only [State.freeBytes]

theorem State.wrBytes_mem (s : State) (a : Nat) (bs : List Byte) (h : MemOk s.mem) : MemOk ((s.wrBytes a bs).mem) :=
  putBytes_memOk _ _ _ h

theorem State.wrNat_mem (s : State) (a n v : Nat) (h : MemOk s.mem) :
    MemOk ((State.wrNat s a n v).mem) := by
  simp only [State.wrNat, State.wrBytes_mem, h]

theorem State.zeroRange_mem (s : State) (lo hi : Nat) (h : MemOk s.mem) : MemOk ((s.zeroRange lo hi).mem) :=
  tabClear_memOk _ _ _ h

theorem State.pmWrite_mem (s : State) (p off : Nat) (bs : List Byte) (h : MemOk s.mem) :
    MemOk ((State.pmWrite s p off bs).mem) := by
  simp only [State.pmWrite, mem_ite, ite_self, memOk_ite, State.wrBytes_mem, h]

theorem State.setPar_mem (s : State) (p : Nat) (x : Parcel) :
    (State.setPar s p x).mem = s.mem := by
  simp only [State.setPar]

theorem State.setEng_mem (s : State) (p e : Nat) (x : Engine) :
    (State.setEng s p e x).mem = s.mem := by
  simp only [State.setEng]

theorem State.setPstate_mem (s : State) (p c : Nat) :
    (State.setPstate s p c).mem = s.mem := by
  simp only [State.setPstate, State.setFld_mem]

theorem State.setWreg_mem (s : State) (p w r v : Nat) :
    (State.setWreg s p w r v).mem = s.mem := by
  simp only [State.setWreg]

theorem State.setPred_mem (s : State) (p w : Nat) (b : Bool) :
    (State.setPred s p w b).mem = s.mem := by
  simp only [State.setPred]

theorem State.setWidx_mem (s : State) (p w v : Nat) :
    (State.setWidx s p w v).mem = s.mem := by
  simp only [State.setWidx]

theorem State.setShadow_mem (s : State) (p n v : Nat) :
    (State.setShadow s p n v).mem = s.mem := by
  simp only [State.setShadow]

theorem State.setTally_mem (s : State) (p t : Nat) (x : Tally) :
    (State.setTally s p t x).mem = s.mem := by
  simp only [State.setTally]

theorem State.setBeacon_mem (s : State) (b : Nat) (x : Beacon) :
    (State.setBeacon s b x).mem = s.mem := by
  simp only [State.setBeacon]

theorem State.showTrim_mem (s : State) :
    (State.showTrim s).mem = s.mem := by
  simp only [State.showTrim, State.setFld_mem]

theorem State.slewTicks_mem (s : State) (n : Nat) :
    (State.slewTicks s n).mem = s.mem := by
  simp only [State.slewTicks, mem_ite, ite_self, State.showTrim_mem]

theorem State.expireSamples_mem (s : State) :
    (State.expireSamples s).mem = s.mem := by
  simp only [State.expireSamples, foldl_mem, implies_true, State.count_mem]

theorem State.at_mem (s : State) (t : Nat) :
    (State.at s t).mem = s.mem := by
  simp only [State.at, mem_ite, ite_self, State.slewTicks_mem, State.expireSamples_mem]

theorem State.keeperCycle_mem (s : State) :
    (State.keeperCycle s).mem = s.mem := by
  simp only [State.keeperCycle, State.slewTicks_mem, State.expireSamples_mem]

theorem State.setTown_mem (s : State) (w : Nat) (x : Town) :
    (State.setTown s w x).mem = s.mem := by
  simp only [State.setTown]

theorem State.setTract_mem (s : State) (t : Nat) (x : Tract) :
    (State.setTract s t x).mem = s.mem := by
  simp only [State.setTract]

theorem State.setLink_mem (s : State) (k : Nat) (x : Link) :
    (State.setLink s k x).mem = s.mem := by
  simp only [State.setLink]

theorem State.setLane_mem (s : State) (k : Nat) (tx : Bool) (j : Nat) (x : Lane) :
    (State.setLane s k tx j x).mem = s.mem := by
  simp only [State.setLane]

theorem State.active_mem (s : State) (p : Nat) :
    (State.active s p).mem = s.mem := by
  simp only [State.active]

theorem State.regError_mem (s : State) (g : Agent) (addr : Nat) :
    (State.regError s g addr).mem = s.mem := by
  simp only [State.regError, State.setFlds_mem, State.count_mem, State.raise_mem]

theorem State.addrError_mem (s : State) (g : Agent) (addr : Nat) :
    (State.addrError s g addr).mem = s.mem := by
  simp only [State.addrError, State.setFlds_mem, State.count_mem, State.raise_mem]

/-! ### AttachOut -/

theorem State.attFlushN_mem (n : Nat) (s : State) : (State.attFlushN n s).mem = s.mem := by
  induction n generalizing s with
  | zero => rfl
  | succ n ih =>
    unfold State.attFlushN
    split
    · rfl
    · dsimp only
      split
      · rw [ih]; split
        · rw [State.count_mem]
        · rfl
      · rfl

theorem State.attFlush_mem (s : State) :
    (State.attFlush s).mem = s.mem := by
  simp only [State.attFlush, State.attFlushN_mem]

theorem State.attSend_mem (s : State) (m : AttMsg) :
    (State.attSend s m).mem = s.mem := by
  simp only [State.attSend, State.attFlush_mem]

theorem State.attLink_mem (s : State) (v : Nat) :
    (State.attLink s v).mem = s.mem := by
  simp only [State.attLink, mem_ite, ite_self, State.setFld_mem, State.raise_mem, State.attFlush_mem]

theorem State.binvLine_mem (s : State) (line : Nat) :
    (State.binvLine s line).mem = s.mem := by
  simp only [State.binvLine, mem_ite, ite_self, State.attSend_mem]

theorem State.binvWindow_mem (s : State) (w : Nat) :
    (State.binvWindow s w).mem = s.mem := by
  simp only [State.binvWindow, mem_ite, ite_self, State.attSend_mem]

theorem State.closeWindows_mem (s : State) (t : Nat) :
    (State.closeWindows s t).mem = s.mem := by
  simp only [State.closeWindows, mem_ite, ite_self, foldl_mem, implies_true, State.binvWindow_mem, State.setFld_mem]

theorem State.attInt_mem (s : State) (v : Nat) :
    (State.attInt s v).mem = s.mem := by
  simp only [State.attInt, mem_ite, ite_self, State.attSend_mem]

theorem State.apertureSend_mem (s : State) (a n : Nat) :
    (State.apertureSend s a n).mem = s.mem := by
  simp only [State.apertureSend, foldl_mem, implies_true, State.attSend_mem]

theorem State.agentWrite_mem (s : State) (a : Nat) (bs : List Byte) (h : MemOk s.mem) :
    MemOk ((State.agentWrite s a bs).mem) := by
  simp only [State.agentWrite, mem_ite, ite_self, foldl_mem, implies_true, State.wrBytes_mem, State.apertureSend_mem, State.binvLine_mem, h]

theorem State.rptFlushN_mem (n : Nat) (s : State) (h : MemOk s.mem) : MemOk ((State.rptFlushN n s).mem) := by
  induction n generalizing s with
  | zero => exact h
  | succ n ih =>
    unfold State.rptFlushN
    split
    · exact h
    · dsimp only
      split
      · exact ih _ (State.agentWrite_mem _ _ _ h)
      · exact h

theorem State.rptFlush_mem (s : State) (h : MemOk s.mem) :
    MemOk ((State.rptFlush s).mem) := by
  simp only [State.rptFlush, mem_ite, ite_self, State.rptFlushN_mem, State.attInt_mem, h]

theorem State.rptTrim_mem (s : State) :
    (State.rptTrim s).mem = s.mem := by
  unfold State.rptTrim
  repeat' (first | (simp only [State.count_mem, State.raise_mem]; done) | split)

theorem State.report_mem (s : State) (r : Report) (h : MemOk s.mem) :
    MemOk ((State.report s r).mem) := by
  simp only [State.report, State.rptFlush_mem, State.rptTrim_mem, h]

theorem State.trcEvent_mem (s : State) (ev : Fld) (t : Nat) (h : MemOk s.mem) :
    MemOk ((State.trcEvent s ev t).mem) := by
  simp only [State.trcEvent, State.raise_mem, State.report_mem, h]

theorem State.sfmEvent_mem (s : State) (ev alert : Fld) :
    (State.sfmEvent s ev alert).mem = s.mem := by
  simp only [State.sfmEvent, mem_ite, ite_self, State.raise_mem, State.attInt_mem]

/-! ### SafetyLog -/

theorem State.safeRec_mem (s : State) (r : SafeRec) :
    (State.safeRec s r).mem = s.mem := by
  simp only [State.safeRec, State.count_mem]

theorem State.pmemServe_mem (s : State) (p n : Nat) :
    (State.pmemServe s p n).mem = s.mem := by
  simp only [State.pmemServe, mem_ite, ite_self]

theorem State.keepMark_mem (s : State) (p : Nat) :
    (State.keepMark s p).mem = s.mem := by
  simp only [State.keepMark]

theorem State.keepMarks_mem (s : State) : s.keepMarks.mem = s.mem := by
  simp only [State.keepMarks, State.draw_mem]

theorem State.markParcel_mem (s : State) (p : Nat) :
    (State.markParcel s p).mem = s.mem := by
  simp only [State.markParcel, State.sfmEvent_mem, State.keepMark_mem]

theorem State.countError_mem (s : State) (p : Nat) :
    (State.countError s p).mem = s.mem := by
  simp only [State.countError, mem_ite, ite_self, State.markParcel_mem]

theorem State.parcelError_mem (s : State) (p kind status tag cmd line load : Nat) :
    (State.parcelError s p kind status tag cmd line load).mem = s.mem := by
  simp only [State.parcelError, mem_ite, ite_self, State.safeRec_mem, State.countError_mem]

/-! ### JobTree -/

theorem State.sendLantern_mem (s : State) (k : Nat) (p : Pkt) :
    (State.sendLantern s k p).mem = s.mem := by
  simp only [State.sendLantern, State.setLink_mem]

theorem State.reserve_mem (s : State) (p : Pkt) :
    (State.reserve s p).mem = s.mem := by
  simp only [State.reserve, mem_ite, ite_self]

theorem State.relayLantern_mem (s : State) (p : Pkt) :
    (State.relayLantern s p).mem = s.mem := by
  simp only [State.relayLantern, State.reserve_mem, State.setLink_mem]

theorem State.request_mem (s : State) (dest op job epoch : Nat) (payload : List Byte) :
    (State.request s dest op job epoch payload).mem = s.mem := by
  simp only [State.request, State.reserve_mem, State.sendLantern_mem]

theorem State.setJob_mem (s : State) (j : Nat) (x : JobRec) :
    (State.setJob s j x).mem = s.mem := by
  simp only [State.setJob]

theorem State.setWord_mem (s : State) (j code : Nat) (h : MemOk s.mem) :
    MemOk ((State.setWord s j code).mem) := by
  simp only [State.setWord, mem_ite, ite_self, memOk_ite, State.setJob_mem, State.report_mem, h]

theorem State.setChild_mem (s : State) (j coord : Nat) (f : Child → Child) :
    (State.setChild s j coord f).mem = s.mem := by
  simp only [State.setChild, State.setJob_mem]

theorem State.goTick_mem (s : State) :
    (State.goTick s).2.mem = s.mem := by
  simp only [State.goTick, State.draw_mem]

theorem State.sendGo_mem (s : State) (j tick : Nat) :
    (State.sendGo s j tick).mem = s.mem := by
  simp only [State.sendGo, foldl_mem, implies_true, State.request_mem, State.setJob_mem]

theorem State.tryReady_mem (s : State) (j : Nat) (h : MemOk s.mem) :
    MemOk ((State.tryReady s j).mem) := by
  simp only [State.tryReady, mem_ite, ite_self, memOk_ite, State.setJob_mem, State.goTick_mem, State.sendGo_mem, State.setWord_mem, State.request_mem, h]

theorem State.jobStarted_mem (s : State) (t : Nat) (h : MemOk s.mem) :
    MemOk ((State.jobStarted s t).mem) := by
  unfold State.jobStarted
  repeat' (first | (simp only [State.setWord_mem, h]; done) | split)

theorem State.tryDone_mem (s : State) (j : Nat) (h : MemOk s.mem) :
    MemOk ((State.tryDone s j).mem) := by
  simp only [State.tryDone, mem_ite, ite_self, memOk_ite, State.setJob_mem, State.setWord_mem, State.request_mem, h]

theorem State.jobStopped_mem (s : State) (t : Nat) (byEnd : Bool) (h : MemOk s.mem) :
    MemOk ((State.jobStopped s t byEnd).mem) := by
  unfold State.jobStopped
  repeat' (first | (simp only [State.tryDone_mem, h]; done) | split)

theorem State.noRecovery_mem (s : State) : s.noRecovery.mem = s.mem := by
  simp only [State.noRecovery]

theorem State.jobFailure_mem (s : State) (t row unit kind : Nat) (h : MemOk s.mem) :
    MemOk ((State.jobFailure s t row unit kind).mem) := by
  unfold State.jobFailure
  repeat' (first | (simp only [State.report_mem, State.setWord_mem, h]; done) | split | (simp only []))

/-! ### Hooks -/

theorem State.setSrv_mem (s : State) (t : Nat) (x : Srv) :
    (State.setSrv s t x).mem = s.mem := by
  simp only [State.setSrv]

theorem State.serveFault_mem (s : State) (t : Nat) :
    (State.serveFault s t).mem = s.mem := by
  simp only [State.serveFault, mem_ite, ite_self, State.setSrv_mem, State.raise_mem]

theorem State.noteParcelFault_mem (s : State) (p status tag cmd : Nat) (h : MemOk s.mem) :
    MemOk ((State.noteParcelFault s p status tag cmd).mem) := by
  unfold State.noteParcelFault
  repeat' (first | (simp only [State.parcelError_mem, State.sfmEvent_mem, State.jobFailure_mem, State.serveFault_mem, h]; done) | split | (simp only [State.parcelError_mem, State.sfmEvent_mem, State.serveFault_mem]))

theorem State.backInvalidate_mem (s : State) (line : Nat) :
    (State.backInvalidate s line).mem = s.mem := by
  simp only [State.backInvalidate, State.binvLine_mem]

theorem State.noteWatchdog_mem (s : State) (t : Nat) (h : MemOk s.mem) :
    MemOk ((State.noteWatchdog s t).mem) := by
  simp only [State.noteWatchdog, State.jobFailure_mem, h]

theorem State.cancelRewrite_mem (s : State) (line : Nat) :
    (State.cancelRewrite s line).mem = s.mem := by
  simp only [State.cancelRewrite]

theorem State.noteMemError_mem (s : State) (unit : Nat) (uncor : Bool) (line load owner : Nat) :
    (State.noteMemError s unit uncor line load owner).mem = s.mem := by
  simp only [State.noteMemError, mem_ite, ite_self, State.parcelError_mem, State.safeRec_mem]

theorem State.noteLines_mem (s : State) (owner : Nat) (l : List Nat) :
    (State.noteLines s owner l).mem = s.mem := by
  simp only [State.noteLines, foldl_mem, implies_true, State.noteMemError_mem]

theorem State.noData_mem (s : State) :
    (State.noData s).mem = s.mem := by
  simp only [State.noData, State.draw_mem]

theorem State.lit_mem (s r : State) : (s.lit r).mem = if s.moduleDark then s.mem else r.mem := by
  unfold State.lit
  split <;> rfl

/-! ### Freeze -/

theorem State.account_mem (s : State) (w : Nat) :
    (State.account s w).mem = s.mem := by
  unfold State.account
  dsimp only
  repeat' (first | (simp only [State.setTown_mem]; done) | split)

theorem State.addFreeze_mem (s : State) (w cause key : Nat) :
    (State.addFreeze s w cause key).mem = s.mem := by
  simp only [State.addFreeze, mem_ite, ite_self, State.account_mem, State.setTown_mem]

theorem State.endFreeze_mem (s : State) (w cause key : Nat) :
    (State.endFreeze s w cause key).mem = s.mem := by
  simp only [State.endFreeze, mem_ite, ite_self, State.account_mem, State.setTown_mem]

/-! ### Beacons -/

theorem State.markBeaconFlight_mem (s : State) (p seq : Nat) (st : Stage) (status : Nat) :
    (State.markBeaconFlight s p seq st status).mem = s.mem := by
  simp only [State.markBeaconFlight, State.setEng_mem]

theorem State.wake_mem (s : State) (ws : List Waiter) :
    (State.wake s ws).mem = s.mem := by
  simp only [State.wake, foldl_mem, implies_true, State.markBeaconFlight_mem]

theorem State.runRelease_mem (s : State) (b : Nat) :
    (State.runRelease s b).mem = s.mem := by
  simp only [State.runRelease, State.setBeacon_mem, State.wake_mem]

theorem State.signal_mem (s : State) (b amount : Nat) :
    (State.signal s b amount).1.mem = s.mem := by
  simp only [State.signal, mem_ite, fst_ite, ite_self, State.setBeacon_mem, State.runRelease_mem]

theorem State.broadcast_mem (s : State) (b : Nat) :
    (State.broadcast s b).mem = s.mem := by
  simp only [State.broadcast, State.setBeacon_mem, State.wake_mem]

theorem State.applyBeaconOp_mem (s : State) (o : BeaconOp) :
    (State.applyBeaconOp s o).mem = s.mem := by
  unfold State.applyBeaconOp
  repeat' (first | (simp only [mem_ite, ite_self, State.markBeaconFlight_mem, State.setBeacon_mem, State.runRelease_mem, State.signal_mem, State.broadcast_mem]; done) | split)

theorem State.withdrawWaits_mem (s : State) (p : Nat) :
    (State.withdrawWaits s p).mem = s.mem := by
  simp only [State.withdrawWaits, mem_ite, ite_self, foldl_mem, implies_true, State.markBeaconFlight_mem, State.setBeacon_mem, State.runRelease_mem]

/-! ### Stream -/

theorem State.standing_mem (s : State) (p cause : Nat) :
    (State.standing s p cause).mem = s.mem := by
  simp only [State.standing, State.setFlds_mem]

theorem State.keepStop_mem (s : State) (p : Nat) :
    (State.keepStop s p).mem = s.mem := by
  simp only [State.keepStop, State.setPar_mem]

theorem State.undoStop_mem (s : State) (p : Nat) :
    (State.undoStop s p).mem = s.mem := by
  unfold State.undoStop
  dsimp only
  repeat' (first | (simp only [foldl_mem, implies_true, State.setFlds_mem, State.setEng_mem, State.setPar_mem]; done) | split)

theorem State.parcelFault_mem (s : State) (p eng tag cmd status : Nat) (h : MemOk s.mem) :
    MemOk ((State.parcelFault s p eng tag cmd status).mem) := by
  simp only [State.parcelFault, mem_ite, ite_self, State.setFlds_mem, State.noteParcelFault_mem, State.setFld_mem, State.undoStop_mem, State.withdrawWaits_mem, State.setPar_mem, State.raise_mem, h]

theorem State.haltNow_mem (s : State) (p cause : Nat) :
    (State.haltNow s p cause).mem = s.mem := by
  simp only [State.haltNow, State.keepStop_mem, State.setPar_mem, State.setPstate_mem, State.standing_mem, State.setFlds_mem, State.raise_mem]

theorem State.stepCheck_mem (s : State) (p : Nat) :
    (State.stepCheck s p).mem = s.mem := by
  unfold State.stepCheck
  repeat' (first | (simp only [State.haltNow_mem]; done) | split)

theorem State.dropHalt_mem (s : State) (p : Nat) :
    (State.dropHalt s p).mem = s.mem := by
  simp only [State.dropHalt, mem_ite, ite_self, State.undoStop_mem]

theorem State.retire_mem (s : State) (p e : Nat) :
    (State.retire s p e).mem = s.mem := by
  simp only [State.retire, mem_ite, ite_self, State.setEng_mem, State.setFld_mem, State.active_mem, State.stepCheck_mem]

theorem State.setFlight_mem (s : State) (p e i : Nat) (f : Flight) :
    (State.setFlight s p e i f).mem = s.mem := by
  simp only [State.setFlight, State.setEng_mem]

theorem State.finishFlight_mem (s : State) (p e i : Nat) (h : MemOk s.mem) :
    MemOk ((State.finishFlight s p e i).mem) := by
  unfold State.finishFlight
  repeat' (first | (simp only [State.setFlight_mem, State.noteLines_mem, State.retire_mem, State.parcelFault_mem, h]; done) | split)

theorem State.advancePc_mem (s : State) (p : Nat) :
    (State.advancePc s p).mem = s.mem := by
  unfold State.advancePc
  dsimp only
  repeat' (first | (simp only [State.setFlds_mem, State.setPar_mem, State.setFld_mem]; done) | split)

theorem State.jump_mem (s : State) (p target : Nat) :
    (State.jump s p target).mem = s.mem := by
  simp only [State.jump, State.setPar_mem]

theorem State.countIssue_mem (s : State) (p w : Nat) :
    (State.countIssue s p w).mem = s.mem := by
  simp only [State.countIssue, State.count_mem, State.setFlds_mem, State.active_mem]

theorem State.stall_mem (s : State) (p w cause : Nat) :
    (State.stall s p w cause).mem = s.mem := by
  simp only [State.stall, State.setFlds_mem]

theorem State.setupLoop_mem (s : State) (p preg start : Nat) :
    (State.setupLoop s p preg start).mem = s.mem := by
  simp only [State.setupLoop, State.setFlds_mem, State.setPar_mem]

theorem State.execControl_mem (s : State) (p w : Nat) (h : MemOk s.mem) :
    MemOk ((State.execControl s p w).mem) := by
  unfold State.execControl
  repeat' (first | (simp only [mem_ite, ite_self, memOk_ite, State.countIssue_mem, State.advancePc_mem, State.setFlds_mem, State.setPar_mem, State.jump_mem, State.stall_mem, State.parcelFault_mem, State.noteLines_mem, State.setupLoop_mem, h]; done) | split)

theorem State.issueNext_mem (s : State) (p : Nat) (h : MemOk s.mem) :
    MemOk ((State.issueNext s p).mem) := by
  unfold State.issueNext
  repeat' (first | (simp only [State.execControl_mem, State.stall_mem, State.setEng_mem, State.countIssue_mem, State.advancePc_mem, h]; done) | split | (simp only [State.stall_mem, State.setEng_mem, State.countIssue_mem, State.advancePc_mem]))

theorem State.afterIssue_mem (s : State) (p : Nat) (before : State) :
    (State.afterIssue s p before).mem = s.mem := by
  unfold State.afterIssue
  repeat' (first | (simp only [mem_ite, ite_self, State.setPar_mem, State.haltNow_mem]; done) | split)

theorem State.issueStage_mem (s : State) (p : Nat) (h : MemOk s.mem) :
    MemOk ((State.issueStage s p).mem) := by
  simp only [State.issueStage, mem_ite, ite_self, memOk_ite, State.haltNow_mem, State.issueNext_mem, State.setPar_mem, State.afterIssue_mem, h]

theorem State.issueIf_mem (s : State) (p op : Nat) (h : MemOk s.mem) :
    MemOk ((State.issueIf s p op).mem) := by
  simp only [State.issueIf, mem_ite, ite_self, memOk_ite, State.issueStage_mem, h]

theorem State.launch_mem (s : State) (p e : Nat) (f : Flight) :
    (State.launch s p e f).mem = s.mem := by
  simp only [State.launch, mem_ite, ite_self, foldl_mem, implies_true, State.pmemServe_mem, State.setEng_mem, State.setPar_mem]

theorem State.mixed_mem (s : State) (l : List (Nat × Byte)) (h : MemOk s.mem) : MemOk ((s.mixed l).mem) := by
  unfold State.mixed
  refine foldl_memOk _ _ (fun s x h => ?_) _ h
  dsimp only
  split
  · exact tabPut_wf 0 _ _ _ h
  · exact h

theorem State.unmixed_mem (r s v : State) (l : List (Nat × Byte)) (h : MemOk r.mem) : MemOk ((r.unmixed s v l).mem) := by
  unfold State.unmixed
  refine foldl_memOk _ _ (fun s x h => ?_) _ h
  split
  · exact tabPut_wf 0 _ _ _ h
  · exact h

theorem State.startEngine_mem (s : State) (p e op : Nat) (locs : State → QEntry → Locs) (eff : State → QEntry → Effect)
    (he : ∀ s q, MemOk s.mem → MemOk (eff s q).st.mem) (h : MemOk s.mem) : MemOk ((s.startEngine p e op locs eff).mem) := by
  unfold State.startEngine
  split
  · exact h
  · dsimp only
    split
    · exact h
    · rw [State.launch_mem]
      exact State.unmixed_mem _ _ _ _ (he _ _ (State.mixed_mem _ _ h))

theorem State.orFlagWord_mem (s : State) (p n flags : Nat) (h : MemOk s.mem) :
    MemOk ((State.orFlagWord s p n flags).1.mem) := by
  simp only [State.orFlagWord, mem_ite, fst_ite, ite_self, memOk_ite, State.wrNat_mem, h]

theorem execIssue_mem (p : ParcelId) (s : State) (h : MemOk s.mem) :
    MemOk (memOf (execIssue p s)) := by
  simp only [execIssue, done_mem, State.issueStage_mem, h]

theorem execNop_mem (p : ParcelId) (s : State) (h : MemOk s.mem) :
    MemOk (memOf (execNop p s)) := by
  simp only [execNop, done_mem, State.issueIf_mem, h]

theorem execReplay_mem (p : ParcelId) (s : State) (h : MemOk s.mem) :
    MemOk (memOf (execReplay p s)) := by
  simp only [execReplay, done_mem, State.issueIf_mem, h]

theorem execBr_mem (p : ParcelId) (s : State) (h : MemOk s.mem) :
    MemOk (memOf (execBr p s)) := by
  simp only [execBr, done_mem, State.issueIf_mem, h]

theorem execBfork_mem (p : ParcelId) (s : State) (h : MemOk s.mem) :
    MemOk (memOf (execBfork p s)) := by
  simp only [execBfork, done_mem, State.issueIf_mem, h]

theorem execBmerge_mem (p : ParcelId) (s : State) (h : MemOk s.mem) :
    MemOk (memOf (execBmerge p s)) := by
  simp only [execBmerge, done_mem, State.issueIf_mem, h]

theorem execLoop_mem (p : ParcelId) (s : State) (h : MemOk s.mem) :
    MemOk (memOf (execLoop p s)) := by
  simp only [execLoop, done_mem, State.issueIf_mem, h]

theorem execEndStream_mem (p : ParcelId) (s : State) (h : MemOk s.mem) :
    MemOk (memOf (execEndStream p s)) := by
  simp only [execEndStream, done_mem, State.issueIf_mem, h]

theorem execTcall_mem (p : ParcelId) (s : State) (h : MemOk s.mem) :
    MemOk (memOf (execTcall p s)) := by
  simp only [execTcall, done_mem, State.issueIf_mem, h]

/-! ### Tier -/

theorem State.setTctl_mem (s : State) (c : Nat) (x : TierCtl) :
    (State.setTctl s c x).mem = s.mem := by
  simp only [State.setTctl]

theorem State.writeCal_mem (s : State) (l : List (Nat × Nat)) :
    (State.writeCal s l).mem = s.mem := by
  simp only [State.writeCal]

theorem State.nextMode_mem (s : State) (c : Nat) (f : State → State) (hf : ∀ s, MemOk s.mem → MemOk (f s).mem) (h : MemOk s.mem) :
    MemOk ((s.nextMode c f).mem) := by
  unfold State.nextMode
  dsimp only
  split
  · exact hf _ h
  · rw [State.setTctl_mem]; exact hf _ h

theorem State.supersede_mem (s : State) (line : Nat) (covers : Nat → Bool) (sel : TierWrite → Bool) :
    (State.supersede s line covers sel).mem = s.mem := by
  simp only [State.supersede]

theorem State.applyTier_mem (s : State) (w : TierWrite) (h : MemOk s.mem) :
    MemOk ((State.applyTier s w).mem) := by
  simp only [State.applyTier, State.wrBytes_mem, State.supersede_mem, State.cancelRewrite_mem, State.backInvalidate_mem, h]

theorem State.outsideWrote_mem (s : State) (a n : Nat) :
    (State.outsideWrote s a n).mem = s.mem := by
  simp only [State.outsideWrote, State.supersede_mem]

theorem State.publish_mem (s : State) (sel : TierWrite → Bool) (h : MemOk s.mem) :
    MemOk ((State.publish s sel).mem) := by
  unfold State.publish
  repeat' (first | (simp only [State.applyTier_mem, h]; done) | (with_reducible refine foldl_memOk _ _ ?_ _ ?_) | (intro _ _ h))

theorem State.releaseStrict_mem (s : State) (p : Nat) (h : MemOk s.mem) :
    MemOk ((State.releaseStrict s p).mem) := by
  simp only [State.releaseStrict, State.publish_mem, h]

theorem State.drainTier_mem (s : State) (p seq : Nat) (h : MemOk s.mem) :
    MemOk ((State.drainTier s p seq).mem) := by
  simp only [State.drainTier, State.publish_mem, h]

/-! ### Tensor -/

theorem State.writeRows_mem (s : State) (p : Nat) (l : List RowWrite) (h : MemOk s.mem) :
    MemOk ((State.writeRows s p l).mem) := by
  unfold State.writeRows
  repeat' (first | (simp only [State.pmWrite_mem, h]; done) | (with_reducible refine foldl_memOk _ _ ?_ _ ?_) | (intro _ _ h))

theorem State.freeRows_mem (s : State) (p : Nat) (l : List RowWrite) (h : MemOk s.mem) :
    MemOk ((State.freeRows s p l).mem) := by
  unfold State.freeRows
  repeat' (first | (simp only [State.freeBytes_mem, State.pmWrite_mem, h]; done) | (with_reducible refine foldl_memOk _ _ ?_ _ ?_) | (intro _ _ h))

theorem State.freeLines_mem (s : State) (p : Nat) (lines : List Nat) (h : MemOk s.mem) : MemOk ((s.freeLines p lines).mem) := by
  unfold State.freeLines
  exact foldl_memOk _ _ (fun _ _ h => putBytes_memOk _ _ _ h) _ h

theorem State.commitRows_mem (s : State) (p flagSel : Nat) (bad : Bool) (rows : List RowWrite) (flags : Nat) (time : Option (Nat × Nat)) (h : MemOk s.mem) :
    MemOk ((State.commitRows s p flagSel bad rows flags time).st.mem) := by
  unfold State.commitRows
  repeat' (first | (simp only [State.freeLines_mem, State.writeRows_mem, State.orFlagWord_mem, h]; done) | split | (simp only []))

theorem State.freeDense_mem (s : State) (p base d : Nat) (h : MemOk s.mem) :
    MemOk ((State.freeDense s p base d).mem) := by
  simp only [State.freeDense, State.freeRows_mem, h]

theorem tmulEffect_mem (p : Nat) (s : State) (q : QEntry) (h : MemOk s.mem) : MemOk ((tmulEffect p s q).st.mem) := by
  unfold tmulEffect
  dsimp only
  split
  · exact State.freeDense_mem _ _ _ _ h
  · exact State.commitRows_mem _ _ _ _ _ _ _ h

theorem tlsaddEffect_mem (p : Nat) (s : State) (q : QEntry) (h : MemOk s.mem) : MemOk ((tlsaddEffect p s q).st.mem) := by
  unfold tlsaddEffect
  dsimp only
  split
  · exact State.freeDense_mem _ _ _ _ h
  · exact State.commitRows_mem _ _ _ _ _ _ _ h

theorem tlscvtEffect_mem (p : Nat) (s : State) (q : QEntry) (h : MemOk s.mem) : MemOk ((tlscvtEffect p s q).st.mem) := by
  unfold tlscvtEffect
  dsimp only
  split
  · split
    · exact State.freeDense_mem _ _ _ _ h
    · exact State.commitRows_mem _ _ _ _ _ _ _ h
  · exact State.freeDense_mem _ _ _ _ h

theorem tlssetEffect_mem (p : Nat) (s : State) (q : QEntry) (h : MemOk s.mem) :
    MemOk ((tlssetEffect p s q).st.mem) := by
  unfold tlssetEffect
  repeat' (first | (simp only [State.freeDense_mem, State.commitRows_mem, h]; done) | split | (simp only []))

theorem State.residueCheck_mem (s : State) (p : Nat) (q : QEntry) (f : Effect) (hf : MemOk f.st.mem) (h : MemOk s.mem) :
    MemOk ((s.residueCheck p q f).st.mem) := by
  unfold State.residueCheck
  split
  · exact State.freeLines_mem _ _ _ h
  · exact hf

theorem execTmul_mem (p : ParcelId) (s : State) (h : MemOk s.mem) :
    MemOk (memOf (execTmul p s)) := by
  unfold execTmul
  rw [memOf_done]
  refine State.startEngine_mem _ _ _ _ _ _ (fun _ _ h => ?_) h
  repeat' (first | exact h | apply State.residueCheck_mem | apply tmulEffect_mem)

theorem execTlsadd_mem (p : ParcelId) (s : State) (h : MemOk s.mem) :
    MemOk (memOf (execTlsadd p s)) := by
  unfold execTlsadd
  rw [memOf_done]
  refine State.startEngine_mem _ _ _ _ _ _ (fun _ _ h => ?_) h
  repeat' (first | exact h | apply State.residueCheck_mem | apply tlsaddEffect_mem)

theorem execTlscvt_mem (p : ParcelId) (s : State) (h : MemOk s.mem) :
    MemOk (memOf (execTlscvt p s)) := by
  unfold execTlscvt
  rw [memOf_done]
  refine State.startEngine_mem _ _ _ _ _ _ (fun _ _ h => ?_) h
  repeat' (first | exact h | apply tlscvtEffect_mem)

theorem execTlsset_mem (p : ParcelId) (s : State) (h : MemOk s.mem) :
    MemOk (memOf (execTlsset p s)) := by
  unfold execTlsset
  rw [memOf_done]
  refine State.startEngine_mem _ _ _ _ _ _ (fun _ _ h => ?_) h
  repeat' (first | exact h | apply tlssetEffect_mem)

/-! ### Move -/

theorem State.pushTier_mem (s : State) (p seq line : Nat) (bs : List (Nat × Byte)) :
    (State.pushTier s p seq line bs).mem = s.mem := by
  simp only [State.pushTier]

theorem State.writeRun_mem (p dst : Nat) (bs : List Byte) (acc : State × TierBytes) (h : MemOk acc.1.mem) :
    MemOk (State.writeRun p dst bs acc).1.mem := by
  unfold State.writeRun
  generalize lineParts dst bs.length = l
  induction l generalizing acc with
  | nil => exact h
  | cons x l ih =>
    rw [List.foldl_cons]
    refine ih _ ?_
    dsimp only
    split
    · exact h
    · split
      · exact State.wrBytes_mem _ _ _ h
      · exact h

theorem State.writeRuns_mem (s : State) (p seq : Nat) (free : Bool) (data : List (Nat × List Byte)) (h : MemOk s.mem) :
    MemOk ((s.writeRuns p seq free data).mem) := by
  unfold State.writeRuns
  dsimp only
  rw [foldl_mem _ _ (fun _ _ => State.pushTier_mem _ _ _ _ _)]
  generalize hi : (s, ([] : TierBytes)) = acc
  have ha : MemOk acc.1.mem := by subst hi; exact h
  clear hi
  induction data generalizing acc with
  | nil => exact ha
  | cons x l ih =>
    rw [List.foldl_cons]
    refine ih _ ?_
    split
    · exact State.writeRun_mem _ _ _ _ (by rw [State.freeBytes_mem]; exact ha)
    · exact State.writeRun_mem _ _ _ _ ha

theorem State.moveData_mem (s : State) (p : Nat) (q : QEntry) (got : List (Nat × List Byte)) (failed : Bool) (h : MemOk s.mem) :
    MemOk (s.moveData p q got failed).1.mem :=
  State.unmixed_mem _ _ _ _ (State.writeRuns_mem _ _ _ _ _ (State.mixed_mem _ _ h))

theorem State.requestLines_mem (s : State) (p seq : Nat) (lines : List Nat) :
    (State.requestLines s p seq lines).mem = s.mem := by
  simp only [State.requestLines, foldl_mem, implies_true]

theorem State.startMove_mem (s : State) (p op : Nat) (h : MemOk s.mem) :
    MemOk ((State.startMove s p op).mem) := by
  unfold State.startMove
  repeat' (first | (simp only [State.launch_mem, State.moveData_mem, State.requestLines_mem, h]; done) | split | (simp only [State.launch_mem, State.requestLines_mem]))

theorem execMcopy_mem (p : ParcelId) (s : State) (h : MemOk s.mem) :
    MemOk (memOf (execMcopy p s)) := by
  simp only [execMcopy, done_mem, State.startMove_mem, h]

theorem execMfill_mem (p : ParcelId) (s : State) (h : MemOk s.mem) :
    MemOk (memOf (execMfill p s)) := by
  simp only [execMfill, done_mem, State.startMove_mem, h]

theorem execMgath_mem (p : ParcelId) (s : State) (h : MemOk s.mem) :
    MemOk (memOf (execMgath p s)) := by
  simp only [execMgath, done_mem, State.startMove_mem, h]

theorem execMscat_mem (p : ParcelId) (s : State) (h : MemOk s.mem) :
    MemOk (memOf (execMscat p s)) := by
  simp only [execMscat, done_mem, State.startMove_mem, h]

/-! ### BeaconUnit -/

theorem State.sendBeaconOp_mem (s : State) (p : Nat) (q : QEntry) (k : BeaconKind) :
    (State.sendBeaconOp s p q k).mem = s.mem := by
  simp only [State.sendBeaconOp, mem_ite, ite_self, State.launch_mem, State.count_mem]

theorem State.releaseDrain_mem (s : State) (p : Nat) (q : QEntry) (h : MemOk s.mem) :
    MemOk ((State.releaseDrain s p q).mem) := by
  simp only [State.releaseDrain, State.drainTier_mem, h]

theorem execBsig_mem (p : ParcelId) (s : State) (h : MemOk s.mem) :
    MemOk (memOf (execBsig p s)) := by
  unfold execBsig
  repeat' (first | (simp only [done_mem, State.releaseDrain_mem, State.sendBeaconOp_mem, h]; done) | split)

theorem execBwait_mem (p : ParcelId) (s : State) :
    memOf (execBwait p s) = s.mem := by
  unfold execBwait
  repeat' (first | (simp only [memOf_ite, ite_self, done_mem, State.sendBeaconOp_mem]; done) | split)

theorem execBbcast_mem (p : ParcelId) (s : State) (h : MemOk s.mem) :
    MemOk (memOf (execBbcast p s)) := by
  unfold execBbcast
  repeat' (first | (simp only [done_mem, State.releaseDrain_mem, State.sendBeaconOp_mem, h]; done) | split)

theorem execBsub_mem (p : ParcelId) (s : State) :
    memOf (execBsub p s) = s.mem := by
  unfold execBsub
  repeat' (first | (simp only [done_mem, State.sendBeaconOp_mem]; done) | split)

theorem execFence_mem (p : ParcelId) (s : State) (h : MemOk s.mem) :
    MemOk (memOf (execFence p s)) := by
  unfold execFence
  repeat' (first | (simp only [done_mem, State.drainTier_mem, State.launch_mem, h]; done) | split)

theorem execBeaconOpArrival_mem (b : Fin 32768) (ps : List ParcelId) (s : State) :
    memOf (execBeaconOpArrival b ps s) = s.mem := by
  simp only [execBeaconOpArrival, memOf_ite, ite_self, foldl_mem, implies_true, done_mem, State.applyBeaconOp_mem]

theorem execBeaconAckReturn_mem (p : ParcelId) (i : Nat) (s : State) (h : MemOk s.mem) :
    MemOk (memOf (execBeaconAckReturn p i s)) := by
  unfold execBeaconAckReturn
  repeat' (first | (simp only [done_mem, State.finishFlight_mem, h]; done) | split)

/-! ### TaperCpu -/

theorem State.setTreg_mem (s : State) (p r v : Nat) :
    (State.setTreg s p r v).mem = s.mem := by
  simp only [State.setTreg, State.setPar_mem]

theorem State.taperDone_mem (s : State) (p : Nat) (h : MemOk s.mem) :
    MemOk ((State.taperDone s p).mem) := by
  simp only [State.taperDone, State.setPar_mem, State.finishFlight_mem, h]

theorem State.tstore_mem (s : State) (p a n v : Nat) (h : MemOk s.mem) (t : State) (e : s.tstore p a n v = .ok t) : MemOk t.mem := by
  unfold State.tstore at e
  dsimp only at e
  repeat' (split at e)
  all_goals first
    | contradiction
    | (cases e; exact h)
    | (cases e; simp only [State.wrNat_mem, State.noteLines_mem, h])
    | (cases e; rw [State.setShadow_mem]; exact h)
    | (cases e; simp only [State.taperDone_mem, h])

theorem State.taperTrap_mem (s : State) (p pc cause : Nat) (h : MemOk s.mem) :
    MemOk ((State.taperTrap s p pc cause).mem) := by
  unfold State.taperTrap
  dsimp only
  split
  · exact State.jobFailure_mem _ _ _ _ _ (by simp only [State.setPar_mem, State.setFlds_mem, State.raise_mem, h])
  · simp only [State.setPar_mem, State.setFlds_mem, State.raise_mem, h]

theorem State.rv32_mem (s : State) (p pc len w : Nat) (h : MemOk s.mem) (npc : Nat) (t : State) (e : s.rv32 p pc len w = .next npc t) :
    MemOk t.mem := by
  unfold State.rv32 State.tset at e
  dsimp only at e
  repeat' (split at e)
  all_goals first
    | contradiction
    | (cases e; exact h)
    | (cases e; rw [State.setTreg_mem]; exact h)
    | (cases e; simp only [State.setTreg_mem, State.noteLines_mem, h])
    | (cases e; exact State.tstore_mem _ _ _ _ _ h _ (by assumption))

theorem State.taperFetch_mem (s : State) (p pc : Nat) (h : MemOk s.mem) (npc : Nat) (t : State) (e : s.taperFetch p pc = .next npc t) :
    MemOk t.mem := by
  unfold State.taperFetch at e
  dsimp only at e
  repeat' (split at e)
  all_goals first
    | contradiction
    | exact State.rv32_mem _ _ _ _ _ h _ _ e

theorem State.taperCycles_mem (s : State) (p n : Nat) :
    (State.taperCycles s p n).mem = s.mem := by
  simp only [State.taperCycles, mem_ite, ite_self, State.setPar_mem]

theorem State.taperZero_mem (s : State) (p : Nat) :
    (State.taperZero s p).mem = s.mem := by
  simp only [State.taperZero, State.setPar_mem, State.setFld_mem]

theorem execTaperTakeCall_mem (p : ParcelId) (s : State) :
    memOf (execTaperTakeCall p s) = s.mem := by
  unfold execTaperTakeCall
  repeat' (first | (simp only [memOf_ite, ite_self, done_mem, State.launch_mem, State.setFld_mem, State.setPar_mem]; done) | split)

theorem State.logTaper_mem (s : State) (p : Nat) (old : List (Nat × Byte)) :
    (State.logTaper s p old).mem = s.mem := by
  unfold State.logTaper
  dsimp only
  repeat' (first | (simp only [State.setFlight_mem]; done) | split)

theorem execTaperInstruction_mem (p : ParcelId) (dt : Nat) (s : State) (h : MemOk s.mem) : MemOk (memOf (execTaperInstruction p dt s)) := by
  unfold execTaperInstruction
  split
  · exact h
  have h' : MemOk (s.taperCycles p dt).mem := by rw [State.taperCycles_mem]; exact h
  revert h'
  generalize s.taperCycles p dt = s
  intro h'
  dsimp only
  split
  · exact h'
  · split
    · next e =>
      rw [memOf_done, State.setFld_mem, State.setPar_mem]
      have hu := State.unmixed_mem _ s (s.mixed (s.unsettled p 5)) (s.unsettled p 5)
        (State.taperFetch_mem _ _ _ (State.mixed_mem _ _ h') _ _ e)
      simp only [State.logTaper_mem, hu]
    · exact h'
    · rw [memOf_done]; exact State.taperTrap_mem _ _ _ _ h'
    · split
      · simp only [memOf_done, State.finishFlight_mem, State.setFlight_mem, State.setPar_mem, h']
      · rw [memOf_done, State.setPar_mem]; exact h'

theorem State.taperReset_mem (s : State) (p : Nat) (v : Bool) :
    (State.taperReset s p v).mem = s.mem := by
  simp only [State.taperReset, mem_ite, ite_self, State.setFld_mem, State.taperZero_mem]

theorem execPctTaperReset_mem (p : ParcelId) (v : Bool) (s : State) :
    memOf (execPctTaperReset p v s) = s.mem := by
  simp only [execPctTaperReset, memOf_ite, ite_self, done_mem, State.taperReset_mem]

/-! ### ParcelCtl -/

theorem State.trcMove_mem (s : State) (t code : Nat) :
    (State.trcMove s t code).mem = s.mem := by
  simp only [State.trcMove, State.setTract_mem, State.setFld_mem]

theorem State.beforeDark_mem (s : State) (t : Nat) (was : Nat × Nat) (f : State → State) (hf : ∀ s, MemOk s.mem → MemOk (f s).mem)
    (h : MemOk s.mem) : MemOk ((s.beforeDark t was f).mem) := by
  unfold State.beforeDark
  dsimp only
  rw [State.setFlds_mem, State.setTract_mem, foldl_mem _ _ (fun _ _ => State.setPstate_mem _ _ _)]
  exact hf _ (by rw [State.setFld_mem, State.setTract_mem]; exact h)

theorem State.tractCheck_mem (s : State) (t : Nat) (h : MemOk s.mem) :
    MemOk ((State.tractCheck s t).mem) := by
  simp only [State.tractCheck, mem_ite, ite_self, memOk_ite, State.trcMove_mem, State.trcEvent_mem, State.jobStopped_mem, h]

theorem State.ptractCheck_mem (s : State) (p : Nat) (h : MemOk s.mem) :
    MemOk ((State.ptractCheck s p).mem) := by
  unfold State.ptractCheck
  repeat' (first | (simp only [State.tractCheck_mem, h]; done) | split)

theorem State.enterStopped_mem (s : State) (p : Nat) :
    (State.enterStopped s p).mem = s.mem := by
  simp only [State.enterStopped, State.setPar_mem, State.setPstate_mem, State.setFld_mem, State.standing_mem]

theorem State.stopWith_mem (s : State) (p status : Nat) (ev : Bool) (h : MemOk s.mem) :
    MemOk ((State.stopWith s p status ev).mem) := by
  simp only [State.stopWith, mem_ite, ite_self, State.enterStopped_mem, State.setFld_mem, State.raise_mem, State.ptractCheck_mem, h]

theorem State.discardAll_mem (s : State) (p : Nat) :
    (State.discardAll s p).mem = s.mem := by
  simp only [State.discardAll, foldl_mem, implies_true, State.withdrawWaits_mem, State.setEng_mem, State.count_mem]

theorem execParcelQuiesced_mem (p : ParcelId) (s : State) (h : MemOk s.mem) :
    MemOk (memOf (execParcelQuiesced p s)) := by
  simp only [execParcelQuiesced, memOf_ite, ite_self, memOk_ite, done_mem, State.enterStopped_mem, State.ptractCheck_mem, State.discardAll_mem, State.stopWith_mem, State.setPar_mem, h]

theorem State.pctStart_mem (s : State) (p : Nat) :
    (State.pctStart s p).mem = s.mem := by
  simp only [State.pctStart, mem_ite, ite_self, State.setPar_mem]

theorem State.pctStop_mem (s : State) (p : Nat) :
    (State.pctStop s p).mem = s.mem := by
  simp only [State.pctStop, mem_ite, ite_self, State.dropHalt_mem, State.keepStop_mem, State.setPar_mem, State.setPstate_mem, State.standing_mem]

theorem State.pctStopNow_mem (s : State) (p : Nat) :
    (State.pctStopNow s p).mem = s.mem := by
  simp only [State.pctStopNow, mem_ite, ite_self, State.dropHalt_mem, State.keepStop_mem, State.discardAll_mem, State.setPar_mem]

theorem execPctStart_mem (p : ParcelId) (s : State) :
    memOf (execPctStart p s) = s.mem := by
  simp only [execPctStart, memOf_ite, ite_self, done_mem, State.pctStart_mem]

theorem execPctStop_mem (p : ParcelId) (s : State) :
    memOf (execPctStop p s) = s.mem := by
  simp only [execPctStop, memOf_ite, ite_self, done_mem, State.pctStop_mem]

theorem execPctStopNow_mem (p : ParcelId) (s : State) :
    memOf (execPctStopNow p s) = s.mem := by
  simp only [execPctStopNow, memOf_ite, ite_self, done_mem, State.pctStopNow_mem]

theorem State.consumeTally_mem (s : State) (p : Nat) (q : QEntry) :
    (State.consumeTally s p q).mem = s.mem := by
  simp only [State.consumeTally, State.setTally_mem]

theorem execEngineCompletion_mem (p : ParcelId) (e : Fin 6) (i : Nat) (s : State) (h : MemOk s.mem) :
    MemOk (memOf (execEngineCompletion p e i s)) := by
  unfold execEngineCompletion
  repeat' (first | (simp only [done_mem, State.finishFlight_mem, State.consumeTally_mem, h]; done) | split)

theorem State.paramWrite_mem (s : State) (p n : Nat) (v : BitVec 64) :
    (State.paramWrite s p n v).mem = s.mem := by
  simp only [State.paramWrite, mem_ite, ite_self, State.setPar_mem, State.setShadow_mem]

theorem State.finishBoundary_mem (s : State) (p target : Nat) :
    (State.finishBoundary s p target).mem = s.mem := by
  simp only [State.finishBoundary, foldl_mem, implies_true, State.setEng_mem, State.setFld_mem, State.setPar_mem, State.setShadow_mem, State.setFlds_mem, State.raise_mem]

theorem State.leadStep_mem (s : State) (p : Nat) :
    (State.leadStep s p).mem = s.mem := by
  unfold State.leadStep
  repeat' (first | (simp only [State.setFld_mem, State.setTract_mem]; done) | split)

theorem execReplayDrainComplete_mem (p : ParcelId) (copied : Bool) (s : State) (h : MemOk s.mem) :
    MemOk (memOf (execReplayDrainComplete p copied s)) := by
  unfold execReplayDrainComplete
  repeat' (first | (simp only [done_mem, State.finishBoundary_mem, State.leadStep_mem, State.active_mem, State.haltNow_mem, State.stopWith_mem, State.setFld_mem, State.standing_mem, h]; done) | split | (simp only [done_mem, State.finishBoundary_mem, State.leadStep_mem, State.active_mem, State.haltNow_mem, State.setFld_mem, State.standing_mem]))

theorem execPctParamWrite_mem (p : ParcelId) (n : Fin 256) (v : BitVec 64) (s : State) :
    memOf (execPctParamWrite p n v s) = s.mem := by
  simp only [execPctParamWrite, memOf_ite, ite_self, done_mem, State.paramWrite_mem]

theorem State.codeStep_mem (s : State) (p : Nat) :
    (State.codeStep s p).mem = s.mem := by
  simp only [State.codeStep, mem_ite, ite_self, State.setFlds_mem]

theorem State.codeData_mem (s : State) (g : Agent) (p : Nat) (wr : Option (BitVec 64)) :
    (State.codeData s g p wr).mem = s.mem := by
  unfold State.codeData
  repeat' (first | (simp only [State.codeStep_mem, State.regError_mem]; done) | split)

theorem State.descStep_mem (s : State) (p : Nat) :
    (State.descStep s p).mem = s.mem := by
  simp only [State.descStep, mem_ite, ite_self, State.setFlds_mem]

theorem State.descData_mem (s : State) (g : Agent) (p : Nat) (wr : Option (BitVec 64)) :
    (State.descData s g p wr).mem = s.mem := by
  unfold State.descData
  repeat' (first | (simp only [State.descStep_mem, State.regError_mem]; done) | split)

theorem execPctCodeDataAccess_mem (p : ParcelId) (wr : Option (BitVec 64)) (s : State) :
    memOf (execPctCodeDataAccess p wr s) = s.mem := by
  simp only [execPctCodeDataAccess, mem_ite, memOf_ite, ite_self, done_mem, State.noData_mem, State.codeData_mem]

theorem execPctDescDataAccess_mem (p : ParcelId) (wr : Option (BitVec 64)) (s : State) :
    memOf (execPctDescDataAccess p wr s) = s.mem := by
  simp only [execPctDescDataAccess, mem_ite, memOf_ite, ite_self, done_mem, State.noData_mem, State.descData_mem]

/-! ### Vector -/

theorem State.writeWicks_mem (s : State) (p r : Nat) (l : List (Nat × Nat)) :
    (State.writeWicks s p r l).mem = s.mem := by
  simp only [State.writeWicks, foldl_mem, implies_true, State.setWreg_mem]

theorem State.orLast_mem (s : State) (p : Nat) (q : QEntry) (flags : Nat) (time : Option (Nat × Nat)) (free : State)
    (h : MemOk s.mem) (hf : MemOk free.mem) : MemOk (s.orLast p q flags time free).st.mem := by
  unfold State.orLast
  split
  · exact h
  · dsimp only
    split
    · exact hf
    · exact State.orFlagWord_mem _ _ _ _ h

theorem State.commitWicks_mem (s : State) (p : Nat) (q : QEntry) (l : List (Nat × Nat)) (flags : Nat) (time : Option (Nat × Nat))
    (h : MemOk s.mem) : MemOk (s.commitWicks p q l flags time).st.mem := by
  refine State.orLast_mem _ _ _ _ _ _ ?_ ?_
  · rw [State.writeWicks_mem]; exact h
  · refine foldl_memOk _ _ (fun s wv h => ?_) _ h
    dsimp only
    rw [State.setWreg_mem, State.draw_mem]; exact h

theorem lanewise_mem (p : Nat) (fp : Bool) (f : Nat → Nat → Nat → Res) (mult lat : Nat) (s : State) (q : QEntry) (h : MemOk s.mem) :
    MemOk ((lanewise p fp f mult lat s q).st.mem) := by
  simp only [lanewise, State.commitWicks_mem, h]

theorem State.writePreds_mem (s : State) (p : Nat) (l : List (Nat × Bool)) :
    (State.writePreds s p l).mem = s.mem := by
  simp only [State.writePreds, foldl_mem, implies_true, State.setPred_mem]

theorem State.commitPreds_mem (s : State) (p : Nat) (q : QEntry) (l : List (Nat × Bool)) (flags : Nat)
    (h : MemOk s.mem) : MemOk (s.commitPreds p q l flags).st.mem := by
  refine State.orLast_mem _ _ _ _ _ _ ?_ ?_
  · rw [State.writePreds_mem]; exact h
  · refine foldl_memOk _ _ (fun s wb h => ?_) _ h
    dsimp only
    rw [State.setPred_mem, State.draw_mem]; exact h

theorem vcmpEffect_mem (p : Nat) (s : State) (q : QEntry) (h : MemOk s.mem) :
    MemOk ((vcmpEffect p s q).st.mem) := by
  simp only [vcmpEffect, State.commitPreds_mem, h]

theorem vsetpEffect_mem (p : Nat) (s : State) (q : QEntry) (h : MemOk s.mem) :
    MemOk ((vsetpEffect p s q).st.mem) := by
  simp only [vsetpEffect, State.commitPreds_mem, h]

theorem vsetidxEffect_mem (p : Nat) (s : State) (q : QEntry) (h : MemOk s.mem) : MemOk (vsetidxEffect p s q).st.mem := by
  unfold vsetidxEffect
  dsimp only
  refine State.orLast_mem _ _ _ _ _ _ ?_ ?_
  · refine foldl_memOk _ _ (fun s wv h => ?_) _ h
    rw [State.setWidx_mem]; exact h
  · refine foldl_memOk _ _ (fun s wv h => ?_) _ h
    rw [State.setWidx_mem, State.draw_mem]; exact h

theorem vselEffect_mem (p : Nat) (s : State) (q : QEntry) (h : MemOk s.mem) :
    MemOk ((vselEffect p s q).st.mem) := by
  simp only [vselEffect, State.commitWicks_mem, h]

theorem vcvtEffect_mem (p : Nat) (s : State) (q : QEntry) (h : MemOk s.mem) :
    MemOk ((vcvtEffect p s q).st.mem) := by
  simp only [vcvtEffect, State.commitWicks_mem, h]

theorem vmxqEffect_mem (p : Nat) (s : State) (q : QEntry) (h : MemOk s.mem) : MemOk (vmxqEffect p s q).st.mem := by
  unfold vmxqEffect
  dsimp only
  refine State.orLast_mem _ _ _ _ _ _ ?_ ?_
  · rw [State.writeWicks_mem, State.writeWicks_mem]; exact h
  · refine foldl_memOk _ _ (fun s wv h => ?_) _ (foldl_memOk _ _ (fun s wv h => ?_) _ h)
    all_goals
      rw [State.setWreg_mem, State.draw_mem]; exact h

theorem vrandEffect_mem (p : Nat) (s : State) (q : QEntry) (h : MemOk s.mem) :
    MemOk ((vrandEffect p s q).st.mem) := by
  simp only [vrandEffect, State.commitWicks_mem, h]

theorem vldEffect_mem (p : Nat) (s : State) (q : QEntry) (h : MemOk s.mem) : MemOk (vldEffect p s q).st.mem := by
  unfold vldEffect
  dsimp only
  split
  · exact h
  · split
    · refine foldl_memOk _ _ (fun s wv h => ?_) _ h
      rw [State.setWreg_mem, State.draw_mem]; exact h
    · exact State.commitWicks_mem _ _ _ _ _ _ h

theorem vstEffect_mem (p : Nat) (s : State) (q : QEntry) (h : MemOk s.mem) :
    MemOk ((vstEffect p s q).st.mem) := by
  simp only [vstEffect, State.commitRows_mem, h]

theorem vshflEffect_mem (p : Nat) (s : State) (q : QEntry) (h : MemOk s.mem) :
    MemOk ((vshflEffect p s q).st.mem) := by
  simp only [vshflEffect, State.commitWicks_mem, h]

theorem vsumredEffect_mem (p : Nat) (s : State) (q : QEntry) (h : MemOk s.mem) :
    MemOk ((vsumredEffect p s q).st.mem) := by
  unfold vsumredEffect
  repeat' (first | (simp only [foldl_mem, implies_true, State.commitRows_mem, State.writeWicks_mem, State.draw_mem, State.setWreg_mem, h]; done) | split | (simp only [foldl_mem, implies_true, State.writeWicks_mem, State.draw_mem, State.setWreg_mem]))

theorem reduceEffect_mem (p : Nat) (f : List Nat → Res) (s : State) (q : QEntry) (h : MemOk s.mem) :
    MemOk ((reduceEffect p f s q).st.mem) := by
  simp only [reduceEffect, State.commitWicks_mem, h]

theorem vscanEffect_mem (p : Nat) (s : State) (q : QEntry) (h : MemOk s.mem) :
    MemOk ((vscanEffect p s q).st.mem) := by
  simp only [vscanEffect, State.commitWicks_mem, h]

theorem execVadd_mem (p : ParcelId) (s : State) (h : MemOk s.mem) :
    MemOk (memOf (execVadd p s)) := by
  unfold execVadd
  rw [memOf_done]
  refine State.startEngine_mem _ _ _ _ _ _ (fun _ _ h => ?_) h
  repeat' (first | exact h | apply lanewise_mem)

theorem execVsub_mem (p : ParcelId) (s : State) (h : MemOk s.mem) :
    MemOk (memOf (execVsub p s)) := by
  unfold execVsub
  rw [memOf_done]
  refine State.startEngine_mem _ _ _ _ _ _ (fun _ _ h => ?_) h
  repeat' (first | exact h | apply lanewise_mem)

theorem execVmul_mem (p : ParcelId) (s : State) (h : MemOk s.mem) :
    MemOk (memOf (execVmul p s)) := by
  unfold execVmul
  rw [memOf_done]
  refine State.startEngine_mem _ _ _ _ _ _ (fun _ _ h => ?_) h
  repeat' (first | exact h | apply lanewise_mem)

theorem execVfma_mem (p : ParcelId) (s : State) (h : MemOk s.mem) :
    MemOk (memOf (execVfma p s)) := by
  unfold execVfma
  rw [memOf_done]
  refine State.startEngine_mem _ _ _ _ _ _ (fun _ _ h => ?_) h
  repeat' (first | exact h | apply lanewise_mem)

theorem execVmax_mem (p : ParcelId) (s : State) (h : MemOk s.mem) :
    MemOk (memOf (execVmax p s)) := by
  unfold execVmax
  rw [memOf_done]
  refine State.startEngine_mem _ _ _ _ _ _ (fun _ _ h => ?_) h
  repeat' (first | exact h | apply lanewise_mem)

theorem execVmin_mem (p : ParcelId) (s : State) (h : MemOk s.mem) :
    MemOk (memOf (execVmin p s)) := by
  unfold execVmin
  rw [memOf_done]
  refine State.startEngine_mem _ _ _ _ _ _ (fun _ _ h => ?_) h
  repeat' (first | exact h | apply lanewise_mem)

theorem execVabs_mem (p : ParcelId) (s : State) (h : MemOk s.mem) :
    MemOk (memOf (execVabs p s)) := by
  unfold execVabs
  rw [memOf_done]
  refine State.startEngine_mem _ _ _ _ _ _ (fun _ _ h => ?_) h
  repeat' (first | exact h | apply lanewise_mem)

theorem execVneg_mem (p : ParcelId) (s : State) (h : MemOk s.mem) :
    MemOk (memOf (execVneg p s)) := by
  unfold execVneg
  rw [memOf_done]
  refine State.startEngine_mem _ _ _ _ _ _ (fun _ _ h => ?_) h
  repeat' (first | exact h | apply lanewise_mem)

theorem execViadd_mem (p : ParcelId) (s : State) (h : MemOk s.mem) :
    MemOk (memOf (execViadd p s)) := by
  unfold execViadd
  rw [memOf_done]
  refine State.startEngine_mem _ _ _ _ _ _ (fun _ _ h => ?_) h
  repeat' (first | exact h | apply lanewise_mem)

theorem execVisub_mem (p : ParcelId) (s : State) (h : MemOk s.mem) :
    MemOk (memOf (execVisub p s)) := by
  unfold execVisub
  rw [memOf_done]
  refine State.startEngine_mem _ _ _ _ _ _ (fun _ _ h => ?_) h
  repeat' (first | exact h | apply lanewise_mem)

theorem execVimul_mem (p : ParcelId) (s : State) (h : MemOk s.mem) :
    MemOk (memOf (execVimul p s)) := by
  unfold execVimul
  rw [memOf_done]
  refine State.startEngine_mem _ _ _ _ _ _ (fun _ _ h => ?_) h
  repeat' (first | exact h | apply lanewise_mem)

theorem execVand_mem (p : ParcelId) (s : State) (h : MemOk s.mem) :
    MemOk (memOf (execVand p s)) := by
  unfold execVand
  rw [memOf_done]
  refine State.startEngine_mem _ _ _ _ _ _ (fun _ _ h => ?_) h
  repeat' (first | exact h | apply lanewise_mem)

theorem execVor_mem (p : ParcelId) (s : State) (h : MemOk s.mem) :
    MemOk (memOf (execVor p s)) := by
  unfold execVor
  rw [memOf_done]
  refine State.startEngine_mem _ _ _ _ _ _ (fun _ _ h => ?_) h
  repeat' (first | exact h | apply lanewise_mem)

theorem execVxor_mem (p : ParcelId) (s : State) (h : MemOk s.mem) :
    MemOk (memOf (execVxor p s)) := by
  unfold execVxor
  rw [memOf_done]
  refine State.startEngine_mem _ _ _ _ _ _ (fun _ _ h => ?_) h
  repeat' (first | exact h | apply lanewise_mem)

theorem execVshl_mem (p : ParcelId) (s : State) (h : MemOk s.mem) :
    MemOk (memOf (execVshl p s)) := by
  unfold execVshl
  rw [memOf_done]
  refine State.startEngine_mem _ _ _ _ _ _ (fun _ _ h => ?_) h
  repeat' (first | exact h | apply lanewise_mem)

theorem execVshr_mem (p : ParcelId) (s : State) (h : MemOk s.mem) :
    MemOk (memOf (execVshr p s)) := by
  unfold execVshr
  rw [memOf_done]
  refine State.startEngine_mem _ _ _ _ _ _ (fun _ _ h => ?_) h
  repeat' (first | exact h | apply lanewise_mem)

theorem execVsra_mem (p : ParcelId) (s : State) (h : MemOk s.mem) :
    MemOk (memOf (execVsra p s)) := by
  unfold execVsra
  rw [memOf_done]
  refine State.startEngine_mem _ _ _ _ _ _ (fun _ _ h => ?_) h
  repeat' (first | exact h | apply lanewise_mem)

theorem execVmov_mem (p : ParcelId) (s : State) (h : MemOk s.mem) :
    MemOk (memOf (execVmov p s)) := by
  unfold execVmov
  rw [memOf_done]
  refine State.startEngine_mem _ _ _ _ _ _ (fun _ _ h => ?_) h
  repeat' (first | exact h | apply lanewise_mem)

theorem execVexp2_mem (p : ParcelId) (s : State) (h : MemOk s.mem) :
    MemOk (memOf (execVexp2 p s)) := by
  unfold execVexp2
  rw [memOf_done]
  refine State.startEngine_mem _ _ _ _ _ _ (fun _ _ h => ?_) h
  repeat' (first | exact h | apply lanewise_mem)

theorem execVlog2_mem (p : ParcelId) (s : State) (h : MemOk s.mem) :
    MemOk (memOf (execVlog2 p s)) := by
  unfold execVlog2
  rw [memOf_done]
  refine State.startEngine_mem _ _ _ _ _ _ (fun _ _ h => ?_) h
  repeat' (first | exact h | apply lanewise_mem)

theorem execVrcp_mem (p : ParcelId) (s : State) (h : MemOk s.mem) :
    MemOk (memOf (execVrcp p s)) := by
  unfold execVrcp
  rw [memOf_done]
  refine State.startEngine_mem _ _ _ _ _ _ (fun _ _ h => ?_) h
  repeat' (first | exact h | apply lanewise_mem)

theorem execVrsqrt_mem (p : ParcelId) (s : State) (h : MemOk s.mem) :
    MemOk (memOf (execVrsqrt p s)) := by
  unfold execVrsqrt
  rw [memOf_done]
  refine State.startEngine_mem _ _ _ _ _ _ (fun _ _ h => ?_) h
  repeat' (first | exact h | apply lanewise_mem)

theorem execVcmp_mem (p : ParcelId) (s : State) (h : MemOk s.mem) :
    MemOk (memOf (execVcmp p s)) := by
  unfold execVcmp
  rw [memOf_done]
  refine State.startEngine_mem _ _ _ _ _ _ (fun _ _ h => ?_) h
  repeat' (first | exact h | apply vcmpEffect_mem)

theorem execVsetp_mem (p : ParcelId) (s : State) (h : MemOk s.mem) :
    MemOk (memOf (execVsetp p s)) := by
  unfold execVsetp
  rw [memOf_done]
  refine State.startEngine_mem _ _ _ _ _ _ (fun _ _ h => ?_) h
  repeat' (first | exact h | apply vsetpEffect_mem)

theorem execVsetidx_mem (p : ParcelId) (s : State) (h : MemOk s.mem) :
    MemOk (memOf (execVsetidx p s)) := by
  unfold execVsetidx
  rw [memOf_done]
  refine State.startEngine_mem _ _ _ _ _ _ (fun _ _ h => ?_) h
  repeat' (first | exact h | apply vsetidxEffect_mem)

theorem execVsel_mem (p : ParcelId) (s : State) (h : MemOk s.mem) :
    MemOk (memOf (execVsel p s)) := by
  unfold execVsel
  rw [memOf_done]
  refine State.startEngine_mem _ _ _ _ _ _ (fun _ _ h => ?_) h
  repeat' (first | exact h | apply vselEffect_mem)

theorem execVcvt_mem (p : ParcelId) (s : State) (h : MemOk s.mem) :
    MemOk (memOf (execVcvt p s)) := by
  unfold execVcvt
  rw [memOf_done]
  refine State.startEngine_mem _ _ _ _ _ _ (fun _ _ h => ?_) h
  repeat' (first | exact h | apply vcvtEffect_mem)

theorem execVmxq_mem (p : ParcelId) (s : State) (h : MemOk s.mem) :
    MemOk (memOf (execVmxq p s)) := by
  unfold execVmxq
  rw [memOf_done]
  refine State.startEngine_mem _ _ _ _ _ _ (fun _ _ h => ?_) h
  repeat' (first | exact h | apply vmxqEffect_mem)

theorem execVrand_mem (p : ParcelId) (s : State) (h : MemOk s.mem) :
    MemOk (memOf (execVrand p s)) := by
  unfold execVrand
  rw [memOf_done]
  refine State.startEngine_mem _ _ _ _ _ _ (fun _ _ h => ?_) h
  repeat' (first | exact h | apply vrandEffect_mem)

theorem execVld_mem (p : ParcelId) (s : State) (h : MemOk s.mem) :
    MemOk (memOf (execVld p s)) := by
  unfold execVld
  rw [memOf_done]
  refine State.startEngine_mem _ _ _ _ _ _ (fun _ _ h => ?_) h
  repeat' (first | exact h | apply vldEffect_mem)

theorem execVst_mem (p : ParcelId) (s : State) (h : MemOk s.mem) :
    MemOk (memOf (execVst p s)) := by
  unfold execVst
  rw [memOf_done]
  refine State.startEngine_mem _ _ _ _ _ _ (fun _ _ h => ?_) h
  repeat' (first | exact h | apply vstEffect_mem)

theorem execVshfl_mem (p : ParcelId) (s : State) (h : MemOk s.mem) :
    MemOk (memOf (execVshfl p s)) := by
  unfold execVshfl
  rw [memOf_done]
  refine State.startEngine_mem _ _ _ _ _ _ (fun _ _ h => ?_) h
  repeat' (first | exact h | apply vshflEffect_mem)

theorem execVsumred_mem (p : ParcelId) (s : State) (h : MemOk s.mem) :
    MemOk (memOf (execVsumred p s)) := by
  unfold execVsumred
  rw [memOf_done]
  refine State.startEngine_mem _ _ _ _ _ _ (fun _ _ h => ?_) h
  repeat' (first | exact h | apply vsumredEffect_mem)

theorem execVmaxred_mem (p : ParcelId) (s : State) (h : MemOk s.mem) :
    MemOk (memOf (execVmaxred p s)) := by
  unfold execVmaxred
  rw [memOf_done]
  refine State.startEngine_mem _ _ _ _ _ _ (fun _ _ h => ?_) h
  repeat' (first | exact h | apply reduceEffect_mem)

theorem execVminred_mem (p : ParcelId) (s : State) (h : MemOk s.mem) :
    MemOk (memOf (execVminred p s)) := by
  unfold execVminred
  rw [memOf_done]
  refine State.startEngine_mem _ _ _ _ _ _ (fun _ _ h => ?_) h
  repeat' (first | exact h | apply reduceEffect_mem)

theorem execVexpmax_mem (p : ParcelId) (s : State) (h : MemOk s.mem) :
    MemOk (memOf (execVexpmax p s)) := by
  unfold execVexpmax
  rw [memOf_done]
  refine State.startEngine_mem _ _ _ _ _ _ (fun _ _ h => ?_) h
  repeat' (first | exact h | apply reduceEffect_mem)

theorem execVscan_mem (p : ParcelId) (s : State) (h : MemOk s.mem) :
    MemOk (memOf (execVscan p s)) := by
  unfold execVscan
  rw [memOf_done]
  refine State.startEngine_mem _ _ _ _ _ _ (fun _ _ h => ?_) h
  repeat' (first | exact h | apply vscanEffect_mem)

end Sys2Proof.Machine
end

