-- ==== Sys2Proof/Laws/MemTract.lean ====
section
/-!
SUPPORT. What the definitions of ticks, the record, tracts and the datum clock do to the memory of the module: nothing, or a
change that keeps it canonical. One lemma for each, which the next ones cite.
-/
set_option linter.unusedSimpArgs false

namespace Sys2Proof.Machine

/-! ### Tick -/

theorem State.parcelGate_mem (s : State) (p : Nat) :
    (State.parcelGate s p).mem = s.mem := by
  simp only [State.parcelGate, mem_ite, ite_self, State.setFld_mem, State.setPar_mem, State.setPstate_mem, State.active_mem]

theorem State.startTract_mem (s : State) (t : Nat) (h : MemOk s.mem) :
    MemOk ((State.startTract s t).mem) := by
  simp (maxDischargeDepth := 20) only [State.startTract, mem_ite, ite_self, foldl_mem, implies_true, State.setPar_mem, State.setPstate_mem, State.active_mem, State.setTract_mem, State.trcMove_mem, State.trcEvent_mem, State.jobStarted_mem, State.setFld_mem, h]

theorem State.showLag_mem (s : State) (t : Nat) :
    (State.showLag s t).mem = s.mem := by
  simp only [State.showLag, State.setFlds_mem]

theorem State.takeStretch_mem (s : State) (w : Nat) :
    (State.takeStretch s w).mem = s.mem := by
  simp only [State.takeStretch, mem_ite, ite_self, State.setTown_mem, State.setFld_mem]

theorem State.countCapTick_mem (s : State) (w n : Nat) :
    (State.countCapTick s w n).mem = s.mem := by
  simp only [State.countCapTick, mem_ite, ite_self, State.count_mem]

theorem execTickGate_mem (w : TownshipId) (t : Nat) (s : State) (h : MemOk s.mem) :
    MemOk (memOf (execTickGate w t s)) := by
  unfold execTickGate
  repeat' (first | (simp only [foldl_mem, implies_true, done_mem, State.at_mem, State.account_mem, State.setTown_mem, State.parcelGate_mem, State.countCapTick_mem, State.showLag_mem, State.startTract_mem, h]; done) | split | (simp only [foldl_mem, implies_true, done_mem, State.at_mem, State.account_mem, State.setTown_mem, State.parcelGate_mem, State.countCapTick_mem, State.showLag_mem]))

theorem State.countOverrun_mem (s : State) (r droop refresh retry : Nat) (h : MemOk s.mem) :
    MemOk ((State.countOverrun s r droop refresh retry).mem) := by
  simp only [State.countOverrun, mem_ite, ite_self, State.count_mem, State.trcEvent_mem, h]

theorem execWindowEnd_mem (w : TownshipId) (t : Nat) (s : State) (h : MemOk s.mem) :
    MemOk (memOf (execWindowEnd w t s)) := by
  unfold execWindowEnd
  repeat' (first | (simp only [done_mem, State.at_mem, State.setTown_mem, State.takeStretch_mem, State.setFld_mem, State.count_mem, State.countOverrun_mem, h]; done) | split | (simp only [done_mem, State.at_mem, State.setTown_mem, State.takeStretch_mem, State.setFld_mem, State.count_mem]))

theorem execTickWatchdogFire_mem (r : TractId) (t : Nat) (s : State) (h : MemOk s.mem) :
    MemOk (memOf (execTickWatchdogFire r t s)) := by
  simp only [execTickWatchdogFire, memOf_ite, ite_self, memOk_ite, State.at_mem, done_mem, State.setFld_mem, State.trcEvent_mem, State.noteWatchdog_mem, h]

/-! ### Clocks -/

theorem State.setTownClk_mem (s : State) (w st period : Nat) :
    (State.setTownClk s w st period).mem = s.mem := by
  simp only [State.setTownClk, mem_ite, ite_self, State.setFld_mem, State.setFlds_mem, State.raise_mem]

theorem State.haltClock_mem (s : State) (w st : Nat) :
    (State.haltClock s w st).mem = s.mem := by
  simp only [State.haltClock, State.setTown_mem, State.setTownClk_mem]

theorem State.stopClock_mem (s : State) (w : Nat) :
    (State.stopClock s w).mem = s.mem := by
  simp only [State.stopClock, State.haltClock_mem]

theorem State.startClock_mem (s : State) (w : Nat) :
    (State.startClock s w).mem = s.mem := by
  simp only [State.startClock, mem_ite, ite_self, State.setTown_mem, State.setTownClk_mem, State.setFld_mem, State.raise_mem]

theorem State.flushedSignals_mem (s : State) (w n : Nat) :
    (State.flushedSignals s w n).mem = s.mem := by
  unfold State.flushedSignals
  repeat' (first | (simp only [State.count_mem]; done) | split)

theorem State.crossReset_mem (s : State) (w : Nat) :
    (State.crossReset s w).mem = s.mem := by
  simp only [State.crossReset, mem_ite, ite_self, foldl_mem, implies_true, State.endFreeze_mem, State.count_mem, State.flushedSignals_mem, State.setFld_mem, State.raise_mem]

theorem State.restartClocks_mem (s : State) (t : Nat) :
    (State.restartClocks s t).mem = s.mem := by
  simp only [State.restartClocks, mem_ite, ite_self, foldl_mem, implies_true, State.startClock_mem, State.setTown_mem, State.setFld_mem]

theorem State.darkParcel_mem (s : State) (p : Nat) :
    (State.darkParcel s p).mem = s.mem := by
  simp only [State.darkParcel, mem_ite, ite_self, State.setPstate_mem]

theorem State.unsure_mem (s : State) :
    (State.unsure s).mem = s.mem := by
  simp only [State.unsure, State.setFld_mem, State.raise_mem]

theorem State.checkSure_mem (s : State) :
    (State.checkSure s).mem = s.mem := by
  simp only [State.checkSure, mem_ite, ite_self, State.unsure_mem]

theorem State.loseParent_mem (s : State) :
    (State.loseParent s).mem = s.mem := by
  simp only [State.loseParent, mem_ite, ite_self, State.setFld_mem, State.raise_mem, State.checkSure_mem]

theorem State.darkLinks_mem (s : State) :
    (State.darkLinks s).mem = s.mem := by
  simp only [State.darkLinks, mem_ite, ite_self, foldl_mem, implies_true, State.setFlds_mem, State.loseParent_mem]

theorem State.selfRefreshAll_mem (s : State) :
    (State.selfRefreshAll s).mem = s.mem := by
  simp only [State.selfRefreshAll, mem_ite, ite_self, foldl_mem, implies_true, State.setFld_mem, State.raise_mem]

theorem State.goDark_mem (s : State) (cause : Nat) :
    (State.goDark s cause).mem = s.mem := by
  simp only [State.goDark, mem_ite, ite_self, foldl_mem, implies_true, State.safeRec_mem, State.noRecovery_mem, State.setFlds_mem, State.setTract_mem, State.haltClock_mem, State.darkParcel_mem, State.darkLinks_mem, State.selfRefreshAll_mem]

/-! ### Record -/

theorem State.putBit_mem (s : State) (f : Fld) (t : Nat) (b : Bool) :
    (State.putBit s f t b).mem = s.mem := by
  simp only [State.putBit, State.setFld_mem]

theorem State.clearEntry_mem (s : State) (t : Nat) :
    (State.clearEntry s t).mem = s.mem := by
  simp only [State.clearEntry, State.setFlds_mem, State.putBit_mem]

theorem State.setEntry_mem (s : State) (t : Nat) (e : List Byte) :
    (State.setEntry s t e).mem = s.mem := by
  simp only [State.setEntry, mem_ite, ite_self, State.clearEntry_mem, State.raise_mem, State.setStart_mem, State.setFlds_mem, State.putBit_mem]

theorem State.fitClocks_mem (s : State) :
    (State.fitClocks s).mem = s.mem := by
  unfold State.fitClocks
  repeat' (first | (simp only [mem_ite, ite_self, State.startClock_mem, State.haltClock_mem, State.crossReset_mem]; done) | (with_reducible refine (foldl_mem _ _ ?_ _).trans ?_; intro _ _) | split)

theorem State.retireIdle_mem (s : State) :
    (State.retireIdle s).mem = s.mem := by
  simp only [State.retireIdle, mem_ite, ite_self, foldl_mem, implies_true, State.setFld_mem, State.raise_mem]

theorem State.leaveTracts_mem (s before : State) :
    (State.leaveTracts s before).mem = s.mem := by
  simp only [State.leaveTracts, mem_ite, ite_self, foldl_mem, implies_true, State.setPstate_mem]

theorem State.takeEntry_mem (s : State) (t : Nat) :
    (State.takeEntry s t).mem = s.mem := by
  simp only [State.takeEntry, mem_ite, ite_self, foldl_mem, implies_true, State.clearEntry_mem, State.setEntry_mem, State.putBit_mem, State.fitClocks_mem, State.retireIdle_mem, State.leaveTracts_mem]

/-! ### Tract -/

theorem State.orphanWaiter_mem (s : State) (w : Waiter) (h : MemOk s.mem) :
    MemOk ((State.orphanWaiter s w).mem) := by
  unfold State.orphanWaiter
  repeat' (first | (simp only [State.markBeaconFlight_mem, State.parcelFault_mem, h]; done) | split)

theorem State.orphanTract_mem (s : State) (t : Nat) (h : MemOk s.mem) :
    MemOk ((State.orphanTract s t).mem) := by
  unfold State.orphanTract
  repeat' (first | (simp only [State.setBeacon_mem, State.orphanWaiter_mem, h]; done) | (with_reducible refine foldl_memOk _ _ ?_ _ ?_) | (intro _ _ h) | with_reducible apply State.trcEvent_mem | split | (simp only [State.setBeacon_mem]))

theorem State.darkTract_mem (s : State) (t : Nat) (h : MemOk s.mem) :
    MemOk ((State.darkTract s t).mem) := by
  simp only [State.darkTract, foldl_mem, implies_true, State.orphanTract_mem, State.haltClock_mem, State.darkParcel_mem, State.setTract_mem, State.setFlds_mem, State.report_mem, State.safeRec_mem, State.sfmEvent_mem, h]

theorem State.resetParcel_mem (s : State) (p : Nat) :
    (State.resetParcel s p).mem = s.mem := by
  simp only [State.resetParcel, mem_ite, ite_self, State.enterStopped_mem, State.setFld_mem]

theorem State.zeroParcel_mem (s : State) (p : Nat) (h : MemOk s.mem) :
    MemOk ((State.zeroParcel s p).mem) := by
  simp only [State.zeroParcel, State.zeroRange_mem, State.setFlds_mem, State.setPar_mem, State.taperZero_mem, h]

theorem State.zeroBut_mem (s : State) (lo hi : Nat) (keep : List (Nat × Nat)) (h : MemOk s.mem) :
    MemOk ((s.zeroBut lo hi keep).mem) := filter_memOk _ _ h

theorem State.zeroRegions_mem (s : State) (t : Nat) (h : MemOk s.mem) :
    MemOk ((State.zeroRegions s t).mem) := by
  unfold State.zeroRegions
  repeat' (first | (simp only [State.zeroBut_mem, h]; done) | (with_reducible refine foldl_memOk _ _ ?_ _ ?_) | (intro _ _ h))

theorem State.unloadTract_mem (s : State) (t : Nat) :
    (State.unloadTract s t).mem = s.mem := by
  simp only [State.unloadTract, State.setFlds_mem, State.setTract_mem]

theorem State.refuse_mem (s : State) (t code secType index fold : Nat) (h : MemOk s.mem) :
    MemOk ((State.refuse s t code secType index fold).mem) := by
  unfold State.refuse
  repeat' (first | (simp only [State.zeroParcel_mem, State.setFlds_mem, State.unloadTract_mem, State.trcMove_mem, h]; done) | (with_reducible refine foldl_memOk _ _ ?_ _ ?_) | (intro _ _ h) | with_reducible apply State.zeroRegions_mem | with_reducible apply State.trcEvent_mem | split | (simp only [State.setFlds_mem, State.unloadTract_mem, State.trcMove_mem]))

theorem State.trcCommand_mem (s : State) (g : Agent) (t : Nat) (accepts : Nat → Bool) (act : State → State)
    (ha : ∀ s, MemOk s.mem → MemOk (act s).mem) (h : MemOk s.mem) : MemOk ((s.trcCommand g t accepts act).mem) := by
  unfold State.trcCommand
  split
  · exact h
  · split
    · rw [State.setFld_mem]; exact h
    · split
      · refine ha _ ?_
        simp only [foldl_mem, State.dropHalt_mem, implies_true, h]
      · split
        · exact State.beforeDark_mem _ _ _ _ ha h
        · rw [State.regError_mem]; exact h

theorem State.trcLoad_mem (s : State) (g : Agent) (t : Nat) (h : MemOk s.mem) :
    MemOk ((State.trcLoad s g t).mem) := by
  unfold State.trcLoad
  repeat' (first | (simp only [mem_ite, ite_self, foldl_mem, memOk_ite, implies_true, State.setTract_mem, State.crossReset_mem, State.orphanTract_mem, State.closeWindows_mem, State.takeEntry_mem, State.unloadTract_mem, State.setFlds_mem, h]; done) | (intro _ h) | with_reducible apply State.trcCommand_mem)

theorem State.freeLoads_mem (s : State) (h : MemOk s.mem) :
    MemOk ((State.freeLoads s).mem) := by
  unfold State.freeLoads
  repeat' (first | (simp only [mem_ite, ite_self, memOk_ite, State.setTract_mem, State.trcLoad_mem, h]; done) | (with_reducible refine foldl_memOk _ _ ?_ _ ?_) | (intro _ _ h))

theorem State.trcStart_mem (s : State) (g : Agent) (t : Nat) (h : MemOk s.mem) :
    MemOk ((State.trcStart s g t).mem) := by
  unfold State.trcStart
  repeat' (first | (simp only [mem_ite, ite_self, memOk_ite, State.setFld_mem, State.setTract_mem, State.trcEvent_mem, h]; done) | (intro _ h) | with_reducible apply State.trcCommand_mem)

theorem State.trcStop_mem (s : State) (g : Agent) (t : Nat) (h : MemOk s.mem) :
    MemOk ((State.trcStop s g t).mem) := by
  unfold State.trcStop
  repeat' (first | (simp only [State.setFlds_mem, h]; done) | (intro _ h) | with_reducible apply State.trcCommand_mem)

theorem State.trcStopNow_mem (s : State) (g : Agent) (t : Nat) (h : MemOk s.mem) :
    MemOk ((State.trcStopNow s g t).mem) := by
  unfold State.trcStopNow
  repeat' (first | (simp only [foldl_mem, implies_true, State.setFlds_mem, State.pctStopNow_mem, h]; done) | (intro _ h) | with_reducible apply State.trcCommand_mem)

theorem State.resetParcels_mem (s : State) (t : Nat) :
    (State.resetParcels s t).mem = s.mem := by
  simp only [State.resetParcels, foldl_mem, implies_true, State.resetParcel_mem]

theorem State.trcReset_mem (s : State) (g : Agent) (t : Nat) (h : MemOk s.mem) :
    MemOk ((State.trcReset s g t).mem) := by
  unfold State.trcReset
  repeat' (first | (simp only [foldl_mem, implies_true, State.trcCommand_mem, State.restartClocks_mem, State.jobFailure_mem, State.closeWindows_mem, State.crossReset_mem, State.orphanTract_mem, State.resetParcels_mem, State.setFlds_mem, State.setTract_mem, h]; done) | (intro _ h) | with_reducible apply State.trcCommand_mem | with_reducible apply State.trcEvent_mem | split | (simp only [foldl_mem, implies_true, State.restartClocks_mem, State.closeWindows_mem, State.crossReset_mem, State.resetParcels_mem, State.setFlds_mem, State.setTract_mem]))

theorem execTrcLoad_mem (t : TractId) (s : State) (h : MemOk s.mem) :
    MemOk (memOf (execTrcLoad t s)) := by
  simp only [execTrcLoad, done_mem, State.trcLoad_mem, h]

theorem execTrcStart_mem (t : TractId) (s : State) (h : MemOk s.mem) :
    MemOk (memOf (execTrcStart t s)) := by
  simp only [execTrcStart, done_mem, State.trcStart_mem, h]

theorem execTrcStop_mem (t : TractId) (s : State) (h : MemOk s.mem) :
    MemOk (memOf (execTrcStop t s)) := by
  simp only [execTrcStop, done_mem, State.trcStop_mem, h]

theorem execTrcStopNow_mem (t : TractId) (s : State) (h : MemOk s.mem) :
    MemOk (memOf (execTrcStopNow t s)) := by
  simp only [execTrcStopNow, memOf_ite, ite_self, memOk_ite, done_mem, State.trcStopNow_mem, h]

theorem execTrcReset_mem (t : TractId) (s : State) (h : MemOk s.mem) :
    MemOk (memOf (execTrcReset t s)) := by
  simp only [execTrcReset, done_mem, State.trcReset_mem, h]

theorem execTractResetComplete_mem (t : TractId) (failed : List TownshipId) (s : State) (h : MemOk s.mem) :
    MemOk (memOf (execTractResetComplete t failed s)) := by
  unfold execTractResetComplete
  repeat' (first | (simp only [foldl_mem, implies_true, done_mem, State.stopClock_mem, State.darkTract_mem, State.zeroParcel_mem, State.setTown_mem, State.unloadTract_mem, State.trcMove_mem, h]; done) | (with_reducible refine foldl_memOk _ _ ?_ _ ?_) | (intro _ _ h) | with_reducible apply State.zeroRegions_mem | split | (simp only [foldl_mem, implies_true, done_mem, State.stopClock_mem, State.setTown_mem, State.unloadTract_mem, State.trcMove_mem]))

theorem State.trcCountClr_mem (s : State) (t : Nat) :
    (State.trcCountClr s t).mem = s.mem := by
  simp only [State.trcCountClr, State.setFlds_mem]

theorem execTrcCountClr_mem (t : TractId) (s : State) :
    memOf (execTrcCountClr t s) = s.mem := by
  simp only [execTrcCountClr, ite_self, done_mem, State.lit_mem, State.trcCountClr_mem]

/-! ### Clock -/

theorem State.townsRef_mem (s : State) (old new : Nat) :
    (State.townsRef s old new).mem = s.mem := by
  simp only [State.townsRef, mem_ite, ite_self, foldl_mem, implies_true, State.setTownClk_mem]

theorem execReferenceLost_mem (t : Nat) (s : State) :
    memOf (execReferenceLost t s) = s.mem := by
  simp only [execReferenceLost, memOf_ite, ite_self, State.at_mem, done_mem, State.setFlds_mem, State.raise_mem, State.townsRef_mem]

theorem execReferenceBack_mem (t : Nat) (s : State) :
    memOf (execReferenceBack t s) = s.mem := by
  simp only [execReferenceBack, memOf_ite, ite_self, State.at_mem, done_mem, State.setFlds_mem, State.raise_mem, State.townsRef_mem]

theorem execHoldLimitExpiry_mem (t : Nat) (s : State) :
    memOf (execHoldLimitExpiry t s) = s.mem := by
  unfold execHoldLimitExpiry
  dsimp only
  repeat' (first | (simp only [State.at_mem, done_mem, State.raise_mem, State.checkSure_mem]; done) | split)

theorem State.setAbove_mem (s : State) (i : Nat) (a : Option Nat) :
    (State.setAbove s i a).mem = s.mem := by
  simp only [State.setAbove, mem_ite, ite_self, State.setTown_mem]

theorem State.droopClock_mem (s : State) (i p : Nat) :
    (State.droopClock s i p).mem = s.mem := by
  simp only [State.droopClock, mem_ite, ite_self, State.count_mem, State.raise_mem, State.setTownClk_mem, State.setFld_mem]

theorem execDroopResponse_mem (i : Fin 33) (droop : Nat) (s : State) :
    memOf (execDroopResponse i droop s) = s.mem := by
  unfold execDroopResponse
  repeat' (first | (simp only [done_mem, State.setAbove_mem, State.droopClock_mem]; done) | split)

theorem execDroopHandback_mem (i : Fin 33) (s : State) :
    memOf (execDroopHandback i s) = s.mem := by
  unfold execDroopHandback
  repeat' (first | (simp only [done_mem, State.setAbove_mem, State.setTownClk_mem]; done) | split)

theorem State.stepDatum_mem (s : State) (v : Nat) :
    (State.stepDatum s v).mem = s.mem := by
  simp only [State.stepDatum, State.raise_mem]

theorem State.drawTrim_mem (s : State) :
    (State.drawTrim s).mem = s.mem := by
  simp only [State.drawTrim, State.draw_mem, State.showTrim_mem]

theorem State.discipline_mem (s : State) (off : Int) (st : Nat) :
    (State.discipline s off st).mem = s.mem := by
  simp only [State.discipline, mem_ite, ite_self, State.drawTrim_mem, State.stepDatum_mem, State.setFld_mem, State.unsure_mem, State.showTrim_mem]

theorem State.toPs_mem (s : State) (x : Int) :
    (State.toPs s x).2.mem = s.mem := by
  simp only [State.toPs, mem_ite, snd_ite, ite_self, State.draw_mem]

theorem execDatumExchangeStart_mem (l : LinkId) (t : Nat) (s : State) :
    memOf (execDatumExchangeStart l t s) = s.mem := by
  simp only [execDatumExchangeStart, memOf_ite, ite_self, State.at_mem, State.setLink_mem, done_mem]

theorem State.datumUnit_mem (s : State) (l t1 t2 t3 t4 now : Nat) :
    (State.datumUnit s l t1 t2 t3 t4 now).mem = s.mem := by
  simp only [State.datumUnit, mem_ite, ite_self, State.setLink_mem, State.toPs_mem, State.setFlds_mem, State.discipline_mem]

theorem execDatumUnit_mem (l : LinkId) (t1 t2 t3 t4 now : Nat) (s : State) :
    memOf (execDatumUnit l t1 t2 t3 t4 now s) = s.mem := by
  simp only [execDatumUnit, done_mem, State.datumUnit_mem]

theorem execDatumPulseEdge_mem (t : Nat) (s : State) :
    memOf (execDatumPulseEdge t s) = s.mem := by
  unfold execDatumPulseEdge
  dsimp only
  repeat' (first | (simp only [State.at_mem, done_mem, State.stepDatum_mem, State.setFld_mem, State.toPs_mem, State.discipline_mem]; done) | split)

theorem State.clkSetNs_mem (s : State) (g : Agent) (v : Nat) :
    (State.clkSetNs s g v).mem = s.mem := by
  simp only [State.clkSetNs, mem_ite, ite_self, State.stepDatum_mem, State.setFld_mem, State.regError_mem]

theorem execClkSetNs_mem (v : BitVec 64) (s : State) :
    memOf (execClkSetNs v s) = s.mem := by
  simp only [execClkSetNs, memOf_ite, ite_self, done_mem, State.clkSetNs_mem]

theorem State.discWritten_mem (s : State) :
    (State.discWritten s).mem = s.mem := by
  simp only [State.discWritten, State.checkSure_mem]

theorem State.clkNsRead_mem (s : State) :
    (State.clkNsRead s).mem = s.mem := by
  simp only [State.clkNsRead, State.setFld_mem]

theorem execClkNsRead_mem (s : State) :
    memOf (execClkNsRead s) = s.mem := by
  simp only [execClkNsRead, ite_self, done_mem, State.lit_mem, State.clkNsRead_mem]

end Sys2Proof.Machine
end

