-- ==== Sys2Proof/Laws/MemLinks.lean ====
section
/-!
SUPPORT. What the definitions of links, the fabric, memory controllers and link owners do to the memory of the module: nothing, or a
change that keeps it canonical. One lemma for each, which the next ones cite.
-/
set_option linter.unusedSimpArgs false

namespace Sys2Proof.Machine

/-! ### LinkPhy -/

theorem State.setRole_mem (s : State) (k : Nat) (tx : Bool) (j role : Nat) :
    (State.setRole s k tx j role).mem = s.mem := by
  simp only [State.setRole, State.setLane_mem]

theorem State.showFailed_mem (s : State) (k : Nat) (tx : Bool) :
    (State.showFailed s k tx).mem = s.mem := by
  simp only [State.showFailed, State.setFld_mem]

theorem State.showFree_mem (s : State) (k : Nat) (tx : Bool) :
    (State.showFree s k tx).mem = s.mem := by
  simp only [State.showFree, State.setFld_mem]

theorem State.showLanes_mem (s : State) (k : Nat) (tx : Bool) :
    (State.showLanes s k tx).mem = s.mem := by
  simp only [State.showLanes, State.showFailed_mem, State.showFree_mem]

theorem State.sendCtl_mem (s : State) (k kind : Nat) (args : List Nat) :
    (State.sendCtl s k kind args).mem = s.mem := by
  simp only [State.sendCtl, State.setLink_mem]

theorem State.txFailed_mem (s : State) (k : Nat) :
    (State.txFailed s k).mem = s.mem := by
  simp only [State.txFailed, State.setLink_mem]

theorem State.setTx_mem (s : State) (k st : Nat) :
    (State.setTx s k st).mem = s.mem := by
  simp only [State.setTx, mem_ite, ite_self, State.setFld_mem, State.txFailed_mem, State.raise_mem, State.setLink_mem]

theorem State.setRx_mem (s : State) (k st : Nat) :
    (State.setRx s k st).mem = s.mem := by
  simp only [State.setRx, mem_ite, ite_self, State.setFld_mem, State.raise_mem, State.loseParent_mem]

theorem State.rxAct_mem (s : State) (k cw : Nat) (op : LaneOp) :
    (State.rxAct s k cw op).mem = s.mem := by
  simp only [State.rxAct, State.setLink_mem]

theorem State.rxOp_mem (s : State) (k : Nat) (op : LaneOp) :
    (State.rxOp s k op).mem = s.mem := by
  unfold State.rxOp
  repeat' (first | (simp only [mem_ite, ite_self, State.setRole_mem, State.showLanes_mem, State.setFld_mem]; done) | split)

theorem State.txOp_mem (s : State) (k : Nat) (op : LaneOp) :
    (State.txOp s k op).mem = s.mem := by
  unfold State.txOp
  repeat' (first | (simp only [mem_ite, ite_self, State.setLane_mem, State.showLanes_mem, State.setRole_mem, State.setTx_mem]; done) | split)

theorem State.settleDir_mem (s : State) (k : Nat) (tx : Bool) :
    (State.settleDir s k tx).mem = s.mem := by
  simp only [State.settleDir, mem_ite, ite_self, foldl_mem, implies_true, State.setLink_mem, State.txOp_mem, State.rxOp_mem]

theorem State.settle_mem (s : State) (k : Nat) :
    (State.settle s k).mem = s.mem := by
  unfold State.settle
  dsimp only
  repeat' (first | (simp only [State.settleDir_mem, State.setFld_mem]; done) | split)

theorem State.startRoll_mem (s : State) (k : Nat) :
    (State.startRoll s k).mem = s.mem := by
  unfold State.startRoll
  repeat' (first | (simp only [mem_ite, ite_self, State.setLink_mem, State.rxAct_mem, State.sendCtl_mem, State.setFlds_mem]; done) | split)

theorem execRollStepStart_mem (l : LinkId) (t : Nat) (s : State) :
    memOf (execRollStepStart l t s) = s.mem := by
  simp only [execRollStepStart, memOf_ite, ite_self, State.at_mem, State.settle_mem, done_mem, State.startRoll_mem]

theorem State.endRoll_mem (s : State) (k status : Nat) (abort : Bool) :
    (State.endRoll s k status abort).mem = s.mem := by
  simp only [State.endRoll, mem_ite, ite_self, State.setLink_mem, State.setFlds_mem, State.count_mem, State.raise_mem, State.showLanes_mem]

theorem execRollVerifyDone_mem (l : LinkId) (pass : Bool) (s : State) :
    memOf (execRollVerifyDone l pass s) = s.mem := by
  unfold execRollVerifyDone
  dsimp only
  repeat' (first | (simp only [State.settle_mem, done_mem, State.setLink_mem, State.setFld_mem, State.rxAct_mem, State.sendCtl_mem, State.endRoll_mem]; done) | split)

theorem execRollLaneSwitch_mem (l : LinkId) (s : State) :
    memOf (execRollLaneSwitch l s) = s.mem := by
  unfold execRollLaneSwitch
  dsimp only
  repeat' (first | (simp only [State.at_mem, State.settle_mem, done_mem, State.setRole_mem, State.rxAct_mem, State.sendCtl_mem, State.setFld_mem, State.showLanes_mem]; done) | split)

theorem State.calibrate_mem (s : State) (k j : Nat) :
    (State.calibrate s k j).mem = s.mem := by
  simp only [State.calibrate, State.draw_mem, State.freeBytes_mem, State.setLane_mem]

theorem execRollCalibrationDone_mem (l : LinkId) (s : State) :
    memOf (execRollCalibrationDone l s) = s.mem := by
  unfold execRollCalibrationDone
  dsimp only
  repeat' (first | (simp only [State.settle_mem, done_mem, State.draw_mem, State.sendCtl_mem, State.calibrate_mem, State.setFld_mem]; done) | split)

theorem State.markFailed_mem (s : State) (k j : Nat) :
    (State.markFailed s k j).mem = s.mem := by
  simp only [State.markFailed, State.setRole_mem, State.raise_mem, State.showLanes_mem]

theorem State.noSpare_mem (s : State) (k : Nat) :
    (State.noSpare s k).mem = s.mem := by
  simp only [State.noSpare, mem_ite, ite_self, State.setRx_mem]

theorem State.tryRestore_mem (s : State) (k : Nat) :
    (State.tryRestore s k).mem = s.mem := by
  simp only [State.tryRestore, mem_ite, ite_self, State.setLink_mem, State.sendCtl_mem]

theorem State.freeFrom_mem (s : State) (k j : Nat) :
    (State.freeFrom s k j).mem = s.mem := by
  simp only [State.freeFrom, State.rxAct_mem, State.sendCtl_mem]

theorem execRollMarginScanDone_mem (l : LinkId) (margin : Fin 64) (s : State) :
    memOf (execRollMarginScanDone l margin s) = s.mem := by
  unfold execRollMarginScanDone
  dsimp only
  repeat' (first | (simp only [State.settle_mem, done_mem, State.setLane_mem, State.setLink_mem, State.setRole_mem, State.showLanes_mem, State.tryRestore_mem, State.freeFrom_mem, State.setRx_mem, State.endRoll_mem, State.setFld_mem, State.markFailed_mem, State.noSpare_mem]; done) | split)

theorem State.rollEn_mem (s : State) (k : Nat) (v : Bool) :
    (State.rollEn s k v).mem = s.mem := by
  simp only [State.rollEn, mem_ite, ite_self, State.setFld_mem]

theorem execLnkRollEn_mem (l : LinkId) (v : Bool) (s : State) :
    memOf (execLnkRollEn l v s) = s.mem := by
  simp only [execLnkRollEn, ite_self, done_mem, State.lit_mem, State.rollEn_mem]

theorem State.rollNow_mem (s : State) (k : Nat) :
    (State.rollNow s k).mem = s.mem := by
  simp only [State.rollNow, mem_ite, ite_self, State.settle_mem, State.startRoll_mem]

theorem State.rollStopNow_mem (s : State) (k : Nat) :
    (State.rollStopNow s k).mem = s.mem := by
  unfold State.rollStopNow
  dsimp only
  repeat' (first | (simp only [State.settle_mem, State.freeFrom_mem, State.endRoll_mem]; done) | split)

theorem execLnkRollNow_mem (l : LinkId) (s : State) :
    memOf (execLnkRollNow l s) = s.mem := by
  simp only [execLnkRollNow, memOf_ite, ite_self, done_mem, State.rollNow_mem]

theorem execLnkRollStopNow_mem (l : LinkId) (s : State) :
    memOf (execLnkRollStopNow l s) = s.mem := by
  simp only [execLnkRollStopNow, memOf_ite, ite_self, done_mem, State.rollStopNow_mem]

theorem State.rxFail_mem (s : State) (k : Nat) :
    (State.rxFail s k).mem = s.mem := by
  simp only [State.rxFail, State.setLink_mem, State.setFlds_mem, State.setRx_mem]

theorem State.failover_mem (s : State) (k i f : Nat) :
    (State.failover s k i f).mem = s.mem := by
  unfold State.failover
  dsimp only
  repeat' (first | (simp only [State.rxAct_mem, State.sendCtl_mem, State.freeFrom_mem]; done) | split)

theorem State.sendDegrade_mem (s : State) (k : Nat) (lanes : List Nat) (parity : Nat) :
    (State.sendDegrade s k lanes parity).mem = s.mem := by
  simp only [State.sendDegrade, State.setLink_mem, State.sendCtl_mem]

theorem State.degrade_mem (s : State) (k : Nat) :
    (State.degrade s k).mem = s.mem := by
  simp only [State.degrade, mem_ite, ite_self, State.rxFail_mem, State.sendDegrade_mem]

theorem State.loseData_mem (s : State) (k i : Nat) :
    (State.loseData s k i).mem = s.mem := by
  unfold State.loseData
  repeat' (first | (simp only [State.degrade_mem, State.failover_mem, State.noSpare_mem, State.rxFail_mem]; done) | split)

theorem State.keepTwelve_mem (s : State) (k : Nat) :
    (State.keepTwelve s k).mem = s.mem := by
  simp only [State.keepTwelve, mem_ite, ite_self, State.sendDegrade_mem]

theorem State.failInRoll_mem (s : State) (k j role : Nat) (r : Roll) :
    (State.failInRoll s k j role r).mem = s.mem := by
  simp only [State.failInRoll, mem_ite, ite_self, State.markFailed_mem, State.setRole_mem, State.sendCtl_mem, State.showLanes_mem, State.failover_mem, State.noSpare_mem, State.endRoll_mem]

theorem State.failLane_mem (s : State) (k j : Nat) :
    (State.failLane s k j).mem = s.mem := by
  unfold State.failLane
  repeat' split
  all_goals ((simp only [mem_ite, ite_self, State.settle_mem, State.markFailed_mem, State.setLink_mem, State.failInRoll_mem, State.loseData_mem, State.showLanes_mem, State.freeFrom_mem, State.noSpare_mem, State.keepTwelve_mem]; repeat' (first | (with_reducible rfl) | (simp only [mem_ite, ite_self, State.settle_mem, State.markFailed_mem, State.setLink_mem, State.failInRoll_mem, State.loseData_mem, State.showLanes_mem, State.freeFrom_mem, State.noSpare_mem, State.keepTwelve_mem]; done) | split)))

theorem execLaneFailDeclared_mem (l : LinkId) (j : Fin 17) (s : State) :
    memOf (execLaneFailDeclared l j s) = s.mem := by
  simp only [execLaneFailDeclared, done_mem, State.failLane_mem]

theorem State.forceFail_mem (s : State) (g : Agent) (k j : Nat) :
    (State.forceFail s g k j).mem = s.mem := by
  simp only [State.forceFail, mem_ite, ite_self, State.failLane_mem, State.regError_mem]

theorem execLnkForceFail_mem (l : LinkId) (j : Fin 32) (s : State) :
    memOf (execLnkForceFail l j s) = s.mem := by
  simp only [execLnkForceFail, memOf_ite, ite_self, done_mem, State.forceFail_mem]

theorem State.retestLane_mem (s : State) (g : Agent) (k j : Nat) :
    (State.retestLane s g k j).mem = s.mem := by
  simp only [State.retestLane, mem_ite, ite_self, State.setLink_mem, State.setRole_mem, State.regError_mem]

theorem execLnkRetest_mem (l : LinkId) (j : Fin 32) (s : State) :
    memOf (execLnkRetest l j s) = s.mem := by
  simp only [execLnkRetest, ite_self, done_mem, State.lit_mem, State.retestLane_mem]

theorem State.putUnit_mem (s : State) (k : Nat) (bs : List Byte) :
    (State.putUnit s k bs).mem = s.mem := by
  simp only [State.putUnit, State.setLink_mem]

theorem State.restripe_mem (s : State) (k : Nat) (tx : Bool) :
    (State.restripe s k tx).mem = s.mem := by
  simp only [State.restripe, State.setLink_mem]

theorem State.noteWord_mem (s : State) (k j : Nat) (bad : Bool) (errs : Nat) :
    (State.noteWord s k j bad errs).2.mem = s.mem := by
  simp only [State.noteWord, State.setLane_mem]

theorem State.laneWord_mem (s : State) (k j : Nat) (w : List Nat) :
    (State.laneWord s k j w).2.mem = s.mem := by
  simp only [State.laneWord, mem_ite, snd_ite, ite_self, State.setLink_mem, State.count_mem, State.noteWord_mem, State.failLane_mem]

theorem State.codewordTime_mem (s : State) (k : Nat) (ws : List (Nat × List Nat)) : (s.codewordTime k ws).mem = s.mem := by
  unfold State.codewordTime
  dsimp only
  rw [State.setLink_mem]
  have h (a : List (Nat × List Nat) × State) (g : List (Nat × List Nat) × State → Nat × List Nat → List (Nat × List Nat))  :
      (ws.foldl (fun acc w => (g acc w, (acc.2.laneWord k w.1 w.2).2)) a).2.mem = a.2.mem :=
    foldl_snd_mem ws (fun acc w => (g acc w, (acc.2.laneWord k w.1 w.2).2)) (fun acc w => State.laneWord_mem acc.2 _ _ _) a
  split
  · exact (h _ _).trans (State.settle_mem _ _)
  · rw [State.raise_mem, State.count_mem]
    exact (h _ _).trans (State.settle_mem _ _)

theorem State.applyChange_mem (s : State) (k : Nat) (tx : Bool) (c : LaneChange) (h : MemOk s.mem) :
    MemOk ((State.applyChange s k tx c).mem) := by
  unfold State.applyChange
  repeat' (first | (with_reducible assumption) | (with_reducible refine foldl_memOk _ _ ?_ _ ?_) | (intro _ _ h) | split | (simp only [State.setRole_mem, State.showLanes_mem]))

theorem execLaneLinkChangeTick_mem (l : LinkId) (tx : Bool) (t : Nat) (s : State) (h : MemOk s.mem) :
    MemOk (memOf (execLaneLinkChangeTick l tx t s)) := by
  unfold execLaneLinkChangeTick
  repeat' (first | (simp only [State.at_mem, State.settle_mem, done_mem, State.setLink_mem, State.applyChange_mem, State.restripe_mem, State.setTx_mem, State.setRx_mem, State.raise_mem, h]; done) | split | (simp only [State.at_mem, State.settle_mem, done_mem, State.setLink_mem, State.restripe_mem, State.setTx_mem, State.setRx_mem, State.raise_mem]))

theorem execLaneAdaptUpdate_mem (l : LinkId) (j : Fin 17) (t : Nat) (s : State) :
    memOf (execLaneAdaptUpdate l j t s) = s.mem := by
  simp only [execLaneAdaptUpdate, memOf_ite, ite_self, State.settle_mem, State.at_mem, done_mem, State.draw_mem, State.freeBytes_mem, State.setLane_mem]

theorem State.idleLanes_mem (s : State) (k : Nat) (tx : Bool) :
    (State.idleLanes s k tx).mem = s.mem := by
  simp only [State.idleLanes, foldl_mem, implies_true, State.setRole_mem, State.showLanes_mem]

theorem State.trainLink_mem (s : State) (g : Agent) (k : Nat) :
    (State.trainLink s g k).mem = s.mem := by
  simp only [State.trainLink, mem_ite, ite_self, State.setLink_mem, State.setRx_mem, State.idleLanes_mem, State.setTx_mem, State.regError_mem]

theorem execLnkTrain_mem (l : LinkId) (s : State) :
    memOf (execLnkTrain l s) = s.mem := by
  simp only [execLnkTrain, ite_self, done_mem, State.lit_mem, State.trainLink_mem]

theorem State.trainLanes_mem (s : State) (k : Nat) (tx : Bool) (mask : Nat) (h : MemOk s.mem) :
    MemOk ((State.trainLanes s k tx mask).mem) := by
  simp only [State.trainLanes, mem_ite, ite_self, foldl_mem, implies_true, State.setRole_mem, State.applyChange_mem, h]

theorem State.trainSettings_mem (s : State) (k : Nat) (tx : Bool) (j : Nat) :
    (State.trainSettings s k tx j).mem = s.mem := by
  simp only [State.trainSettings, mem_ite, ite_self, State.draw_mem, State.setLane_mem, State.calibrate_mem]

theorem State.trainTwelve_mem (s : State) (k : Nat) (tx : Bool) (mask : Nat) :
    (State.trainTwelve s k tx mask).mem = s.mem := by
  simp only [State.trainTwelve, mem_ite, ite_self, foldl_mem, implies_true, State.setRole_mem, State.showLanes_mem, State.setLink_mem, State.sendCtl_mem]

theorem State.trainDirection_mem (s : State) (k : Nat) (tx : Bool) (mask : Nat) (h : MemOk s.mem) :
    MemOk ((State.trainDirection s k tx mask).mem) := by
  simp only [State.trainDirection, mem_ite, ite_self, foldl_mem, memOk_ite, implies_true, State.trainSettings_mem, State.trainTwelve_mem, State.trainLanes_mem, State.setTx_mem, State.setRx_mem, h]

theorem State.freshRx_mem (s : State) (k : Nat) :
    (State.freshRx s k).mem = s.mem := by
  simp only [State.freshRx, State.setFlds_mem, State.setLink_mem]

theorem State.freshTx_mem (s : State) (k : Nat) :
    (State.freshTx s k).mem = s.mem := by
  simp only [State.freshTx, State.setLink_mem]

theorem execTrainingComplete_mem (l : LinkId) (rxMask txMask peer flight : Nat) (s : State) (h : MemOk s.mem) :
    MemOk (memOf (execTrainingComplete l rxMask txMask peer flight s)) := by
  unfold execTrainingComplete
  repeat' (first | (simp only [done_mem, State.setLink_mem, State.setRx_mem, State.setTx_mem, State.freshRx_mem, State.freshTx_mem, State.setFlds_mem, State.trainDirection_mem, State.raise_mem, h]; done) | split | (simp only [done_mem, State.setLink_mem, State.setRx_mem, State.setTx_mem, State.freshRx_mem, State.freshTx_mem, State.setFlds_mem, State.raise_mem]))

theorem State.downLink_mem (s : State) (k : Nat) :
    (State.downLink s k).mem = s.mem := by
  simp only [State.downLink, mem_ite, ite_self, foldl_mem, implies_true, State.setRx_mem, State.setTx_mem, State.setRole_mem, State.setLink_mem, State.setFlds_mem, State.showLanes_mem]

theorem execLnkDown_mem (l : LinkId) (s : State) :
    memOf (execLnkDown l s) = s.mem := by
  simp only [execLnkDown, memOf_ite, ite_self, done_mem, State.downLink_mem]

theorem State.lnkCountClr_mem (s : State) (k : Nat) :
    (State.lnkCountClr s k).mem = s.mem := by
  simp only [State.lnkCountClr, State.setFlds_mem]

theorem execLnkCountClr_mem (l : LinkId) (s : State) :
    memOf (execLnkCountClr l s) = s.mem := by
  simp only [execLnkCountClr, ite_self, done_mem, State.lit_mem, State.lnkCountClr_mem]

theorem State.laneOvr_mem (s : State) (g : Agent) (k v : Nat) :
    (State.laneOvr s g k v).mem = s.mem := by
  simp only [State.laneOvr, mem_ite, ite_self, State.setLane_mem, State.regError_mem]

theorem execLnkLaneOvr_mem (l : LinkId) (v : BitVec 64) (s : State) :
    memOf (execLnkLaneOvr l v s) = s.mem := by
  simp only [execLnkLaneOvr, memOf_ite, ite_self, done_mem, State.laneOvr_mem]

theorem execLnkInjCw_mem (l : LinkId) (s : State) :
    memOf (execLnkInjCw l s) = s.mem := by
  simp only [execLnkInjCw, memOf_ite, ite_self, done_mem, State.setLink_mem]

theorem execLnkInjCrc_mem (l : LinkId) (s : State) :
    memOf (execLnkInjCrc l s) = s.mem := by
  simp only [execLnkInjCrc, memOf_ite, ite_self, done_mem, State.setLink_mem]

theorem State.txAct_mem (s : State) (k cw : Nat) (op : LaneOp) :
    (State.txAct s k cw op).mem = s.mem := by
  simp only [State.txAct, State.setLink_mem, State.settle_mem]

theorem State.ctlCopy_mem (s : State) (k i f cw : Nat) :
    (State.ctlCopy s k i f cw).mem = s.mem := by
  simp only [State.ctlCopy, mem_ite, ite_self, State.txAct_mem]

theorem State.ctlRelease_mem (s : State) (k j cw : Nat) :
    (State.ctlRelease s k j cw).mem = s.mem := by
  unfold State.ctlRelease
  repeat' ((simp only [mem_ite, ite_self, State.txAct_mem]; done))

theorem State.ctlParity_mem (s : State) (k j cw : Nat) :
    (State.ctlParity s k j cw).mem = s.mem := by
  simp only [State.ctlParity, mem_ite, ite_self, State.txAct_mem]

theorem State.ctlTap_mem (s : State) (k j taps : Nat) :
    (State.ctlTap s k j taps).mem = s.mem := by
  simp only [State.ctlTap, mem_ite, ite_self, State.setLane_mem]

theorem State.ctlFailover_mem (s : State) (k i f cw : Nat) :
    (State.ctlFailover s k i f cw).mem = s.mem := by
  unfold State.ctlFailover
  repeat' ((simp only [mem_ite, ite_self, State.txAct_mem]; done))

theorem State.ctlDegrade_mem (s : State) (k : Nat) (lanes : List Nat) (parity tick : Nat) :
    (State.ctlDegrade s k lanes parity tick).mem = s.mem := by
  simp only [State.ctlDegrade, mem_ite, ite_self, foldl_mem, implies_true, State.setRole_mem, State.setLink_mem, State.showLanes_mem]

theorem State.ctlRestore_mem (s : State) (k : Nat) (lanes : List Nat) (free tick : Nat) :
    (State.ctlRestore s k lanes free tick).mem = s.mem := by
  simp only [State.ctlRestore, mem_ite, ite_self, foldl_mem, implies_true, State.setRole_mem, State.setLink_mem]

theorem execCopy_mem (l : LinkId) (i f cw : Nat) (s : State) :
    memOf (execCopy l i f cw s) = s.mem := by
  unfold execCopy
  repeat' split
  all_goals ((simp only [done_mem, State.ctlCopy_mem]; done))

theorem execLinkRelease_mem (l : LinkId) (j cw : Nat) (s : State) :
    memOf (execLinkRelease l j cw s) = s.mem := by
  unfold execLinkRelease
  repeat' split
  all_goals ((simp only [done_mem, State.ctlRelease_mem]; done))

theorem execParity_mem (l : LinkId) (j cw : Nat) (s : State) :
    memOf (execParity l j cw s) = s.mem := by
  unfold execParity
  repeat' split
  all_goals ((simp only [done_mem, State.ctlParity_mem]; done))

theorem execTap_mem (l : LinkId) (j taps : Nat) (s : State) :
    memOf (execTap l j taps s) = s.mem := by
  simp only [execTap, done_mem, State.ctlTap_mem]

theorem execFailover_mem (l : LinkId) (i f cw : Nat) (s : State) :
    memOf (execFailover l i f cw s) = s.mem := by
  unfold execFailover
  repeat' split
  all_goals ((simp only [done_mem, State.ctlFailover_mem]; done))

theorem execDegrade_mem (l : LinkId) (lanes : List Nat) (parity tick : Nat) (s : State) :
    memOf (execDegrade l lanes parity tick s) = s.mem := by
  simp only [execDegrade, done_mem, State.ctlDegrade_mem]

theorem execRestore_mem (l : LinkId) (lanes : List Nat) (free tick : Nat) (s : State) :
    memOf (execRestore l lanes free tick s) = s.mem := by
  simp only [execRestore, done_mem, State.ctlRestore_mem]

theorem State.moduleLost_mem (s : State) (k : Nat) (h : MemOk s.mem) : MemOk ((s.moduleLost k).mem) := by
  unfold State.moduleLost
  refine foldl_memOk _ _ (fun s t h => ?_) _ h
  split
  · exact State.jobFailure_mem _ _ _ _ _ h
  · exact h

theorem execDarkUnit_mem (l : LinkId) (s : State) (h : MemOk s.mem) : MemOk (memOf (execDarkUnit l s)) := by
  rw [execDarkUnit, done_mem, State.raise_mem]
  split
  · exact h
  · exact State.moduleLost_mem _ _ h

/-! ### Fabric -/

theorem State.setOwner_mem (s : State) (k i : Nat) (x : Owner) :
    (State.setOwner s k i x).mem = s.mem := by
  simp only [State.setOwner]

theorem State.violation_mem (s : State) (k : Nat) (tx : Bool) (p : Pkt) (slot check status : Nat) :
    (State.violation s k tx p slot check status).mem = s.mem := by
  simp only [State.violation, mem_ite, ite_self, State.setFlds_mem, State.count_mem, State.raise_mem]

theorem State.setDetQ_mem (s : State) (k : Nat) (q : List Pkt) :
    (State.setDetQ s k q).mem = s.mem := by
  simp only [State.setDetQ, State.setLink_mem, State.setFld_mem]

theorem State.intoDetour_mem (s : State) (k : Nat) (p : Pkt) (slot seq : Nat) :
    (State.intoDetour s k p slot seq).mem = s.mem := by
  simp only [State.intoDetour, mem_ite, ite_self, State.count_mem, State.raise_mem, State.setDetQ_mem]

theorem State.divert_mem (s : State) (k : Nat) (p : Pkt) (slot : Nat) :
    (State.divert s k p slot).mem = s.mem := by
  simp only [State.divert, State.setLink_mem, State.intoDetour_mem]

theorem State.dropLate_mem (s : State) (k : Nat) :
    (State.dropLate s k).mem = s.mem := by
  simp only [State.dropLate, State.count_mem, State.raise_mem]

theorem State.makeLate_mem (s : State) (h : Held) :
    (State.makeLate s h).mem = s.mem := by
  simp only [State.makeLate, mem_ite, ite_self, State.divert_mem, State.dropLate_mem, State.count_mem, State.raise_mem]

theorem State.missed_mem (s : State) (k : Nat) :
    (State.missed s k).mem = s.mem := by
  simp only [State.missed, mem_ite, ite_self, foldl_mem, implies_true, State.makeLate_mem]

theorem State.takeCredit_mem (s : State) (k : Nat) :
    (State.takeCredit s k).2.mem = s.mem := by
  simp only [State.takeCredit, State.setLink_mem]

theorem State.emit_mem (s : State) (k : Nat) (p : Pkt) :
    (State.emit s k p).mem = s.mem := by
  simp only [State.emit, State.takeCredit_mem, State.putUnit_mem]

theorem State.emitCtl_mem (s : State) (k : Nat) (c : Ctl) :
    (State.emitCtl s k c).mem = s.mem := by
  simp only [State.emitCtl, mem_ite, snd_ite, ite_self, State.takeCredit_mem, State.putUnit_mem]

theorem State.transmit_mem (s : State) (k : Nat) (p : Pkt) (slot : Nat) :
    (State.transmit s k p slot).mem = s.mem := by
  simp only [State.transmit, mem_ite, ite_self, State.setTx_mem, State.setLink_mem, State.emit_mem]

theorem State.sendChecked_mem (s : State) (k : Nat) (p : Pkt) (slot : Nat) (late : Bool) :
    (State.sendChecked s k p slot late).mem = s.mem := by
  unfold State.sendChecked
  dsimp only
  repeat' (first | (simp only [State.violation_mem, State.emitCtl_mem, State.transmit_mem]; done) | split)

theorem State.sendDetour_mem (s : State) (k slot j : Nat) :
    (State.sendDetour s k slot j).mem = s.mem := by
  unfold State.sendDetour
  repeat' (first | (simp only [mem_ite, ite_self, State.setDetQ_mem, State.count_mem, State.setLink_mem, State.sendChecked_mem]; done) | split)

theorem State.slotPkt_mem {s : State} {k slot t : Nat} {x : Pkt × State} (e : s.slotPkt k slot t = some x) (h : MemOk s.mem) :
    MemOk x.2.mem := by
  unfold State.slotPkt at e
  repeat' (split at e)
  all_goals first | contradiction | (cases e; exact h)

theorem execSlotSend_mem (l : LinkId) (slot t : Nat) (s : State) (h : MemOk s.mem) : MemOk (memOf (execSlotSend l slot t s)) := by
  unfold execSlotSend
  have h' : MemOk (((s.at t).settle l).missed l).mem := by simp only [State.missed_mem, State.settle_mem, State.at_mem, h]
  revert h'
  generalize ((s.at t).settle l).missed l = s
  intro h'
  have hp {k slot start : Nat} {x : Pkt × State} (e : s.slotPkt k slot start = some x) : MemOk x.2.mem := State.slotPkt_mem e h'
  dsimp only
  split
  · exact h'
  split
  · split
    · next e =>
      have hx := hp e
      rw [memOf_done]
      split
      · simp only [State.divert_mem, hx]
      · simp only [State.dropLate_mem, hx]
    · exact h'
  split
  · exact h'
  split
  · split
    · next e =>
      have hx := hp e
      simp only [memOf_done, State.makeLate_mem, hx]
    · exact h'
  · split
    · simp only [memOf_done, State.sendDetour_mem, h']
    · split
      · next e =>
        have hx := hp e
        simp only [memOf_done, State.sendChecked_mem, hx]
      · simp only [memOf_done, State.emitCtl_mem, h']

theorem State.emitFill_mem (s : State) (k : Nat) :
    (State.emitFill s k).mem = s.mem := by
  simp only [State.emitFill, State.putUnit_mem]

theorem State.sendReplay_mem (s : State) (k : Nat) (p : Pkt) :
    (State.sendReplay s k p).mem = s.mem := by
  simp only [State.sendReplay, State.setLink_mem, State.count_mem, State.emit_mem]

theorem State.sendLate_mem (s : State) (k : Nat) (h : Held) :
    (State.sendLate s k h).mem = s.mem := by
  simp only [State.sendLate, mem_ite, ite_self, State.count_mem, State.sendChecked_mem]

theorem State.sendMgmtPkt_mem (s : State) (k : Nat) (p : Pkt) :
    (State.sendMgmtPkt s k p).mem = s.mem := by
  simp only [State.sendMgmtPkt, mem_ite, ite_self, State.setLink_mem, State.violation_mem, State.transmit_mem]

theorem execSlackUnitSend_mem (l : LinkId) (t : Nat) (s : State) :
    memOf (execSlackUnitSend l t s) = s.mem := by
  unfold execSlackUnitSend
  dsimp only
  repeat' (first | (simp only [State.at_mem, State.settle_mem, State.missed_mem, done_mem, State.emitCtl_mem, State.emitFill_mem, State.setLink_mem, State.sendLate_mem, State.sendReplay_mem, State.sendMgmtPkt_mem]; done) | split)

theorem State.ackUpTo_mem (s : State) (k seq : Nat) :
    (State.ackUpTo s k seq).mem = s.mem := by
  simp only [State.ackUpTo, mem_ite, ite_self, State.setLink_mem]

theorem execAck_mem (l : LinkId) (seq : Nat) (s : State) :
    memOf (execAck l seq s) = s.mem := by
  simp only [execAck, memOf_ite, ite_self, done_mem, State.ackUpTo_mem]

theorem State.nakOne_mem (s : State) (k seq : Nat) :
    (State.nakOne s k seq).mem = s.mem := by
  simp only [State.nakOne, mem_ite, ite_self, State.setTx_mem, State.setLink_mem]

theorem execNak_mem (l : LinkId) (seqs : List Nat) (s : State) :
    memOf (execNak l seqs s) = s.mem := by
  simp only [execNak, foldl_mem, implies_true, done_mem, State.nakOne_mem]

theorem execDetourStart_mem (l : LinkId) (t : Nat) (s : State) :
    memOf (execDetourStart l t s) = s.mem := by
  unfold execDetourStart
  dsimp only
  repeat' (first | (simp only [mem_ite, ite_self, foldl_mem, implies_true, State.at_mem, done_mem, State.dropLate_mem, State.setLink_mem, State.intoDetour_mem, State.divert_mem, State.setFld_mem, State.raise_mem]; done) | split)

theorem execDetourEnd_mem (l : LinkId) (t : Nat) (s : State) :
    memOf (execDetourEnd l t s) = s.mem := by
  unfold execDetourEnd
  dsimp only
  repeat' (first | (simp only [State.at_mem, done_mem, State.setLink_mem, State.setFld_mem, State.raise_mem]; done) | split)

/-! ### MemCtl -/

theorem State.setXx_mem (s : State) (c st : Nat) :
    (State.setXx s c st).mem = s.mem := by
  simp only [State.setXx, mem_ite, ite_self, State.setFld_mem, State.raise_mem]

theorem State.countServed_mem (s : State) (c : Nat) :
    (State.countServed s c).mem = s.mem := by
  simp only [State.countServed, State.setTctl_mem]

theorem State.tierError_mem (s : State) (c line entry : Nat) (uncor scrub : Bool) :
    (State.tierError s c line entry uncor scrub).mem = s.mem := by
  simp only [State.tierError, mem_ite, ite_self, State.setFlds_mem, State.count_mem, State.raise_mem, State.noteMemError_mem]

theorem State.readTierLine_mem (s : State) (c line entry : Nat) (scrub : Bool) :
    (State.readTierLine s c line entry scrub).2.mem = s.mem := by
  simp only [State.readTierLine, mem_ite, snd_ite, ite_self, State.countServed_mem, State.tierError_mem, State.setTctl_mem]

theorem State.failMove_mem (s : State) (p seq : Nat) :
    (State.failMove s p seq).mem = s.mem := by
  unfold State.failMove
  repeat' (first | (simp only [State.setFlight_mem]; done) | split)

theorem State.refreshOverrun_mem (s : State) (c lane line pos entry : Nat) :
    (State.refreshOverrun s c lane line pos entry).mem = s.mem := by
  simp only [State.refreshOverrun, State.count_mem, State.raise_mem]

theorem State.deferReq_mem (s : State) (c lane p pos entry : Nat) (x : Nat × Nat) :
    (State.deferReq s c lane p pos entry x).mem = s.mem := by
  simp only [State.deferReq, mem_ite, ite_self, State.refreshOverrun_mem, State.addFreeze_mem]

theorem State.deferFirst_mem (s : State) (c lane p pos entry : Nat) (l : List (Nat × Nat)) :
    (State.deferFirst s c lane p pos entry l).mem = s.mem := by
  unfold State.deferFirst
  repeat' (first | (simp only [State.deferReq_mem]; done) | split)

theorem State.serveLine_mem (s : State) (c entry : Nat) (r : TierRead) :
    (State.serveLine s c entry r).mem = s.mem := by
  simp only [State.serveLine, State.readTierLine_mem]

theorem State.serveOld_mem (s : State) (c entry : Nat) (w : TierWrite) :
    (State.serveOld s c entry w).mem = s.mem := by
  simp only [State.serveOld, mem_ite, ite_self, State.readTierLine_mem, State.failMove_mem, State.endFreeze_mem]

theorem State.serveRead_mem (s : State) (c lane p pos entry : Nat) :
    (State.serveRead s c lane p pos entry).mem = s.mem := by
  unfold State.serveRead
  dsimp only
  repeat' (first | (simp only [State.deferFirst_mem, State.serveLine_mem, State.serveOld_mem]; done) | split)

theorem State.serveWrite_mem (s : State) (c lane p pos entry : Nat) (h : MemOk s.mem) :
    MemOk ((State.serveWrite s c lane p pos entry).mem) := by
  unfold State.serveWrite
  repeat' (first | (simp only [State.deferFirst_mem, State.countServed_mem, State.cancelRewrite_mem, State.endFreeze_mem, State.releaseStrict_mem, h]; done) | split | (simp only [State.deferFirst_mem, State.countServed_mem, State.cancelRewrite_mem, State.endFreeze_mem]))

theorem State.scrubNext_mem (s : State) (c : Nat) :
    (State.scrubNext s c).mem = s.mem := by
  simp only [State.scrubNext, mem_ite, ite_self, State.setTctl_mem, State.setFld_mem, State.count_mem]

theorem State.serveScrub_mem (s : State) (c lane pos entry : Nat) (h : MemOk s.mem) :
    MemOk ((State.serveScrub s c lane pos entry).mem) := by
  unfold State.serveScrub
  repeat' (first | (simp only [mem_ite, ite_self, State.setTctl_mem, State.refreshOverrun_mem, State.readTierLine_mem, State.scrubNext_mem, State.wrBytes_mem, h]; done) | split)

theorem execTierReadDelivery_mem (p : ParcelId) (s : State) (h : MemOk s.mem) :
    MemOk (memOf (execTierReadDelivery p s)) := by
  unfold execTierReadDelivery
  repeat' (first | (simp only [done_mem, State.endFreeze_mem, State.setFlight_mem, State.requestLines_mem, State.moveData_mem, State.releaseStrict_mem, h]; done) | split | (simp only [done_mem, State.endFreeze_mem, State.setFlight_mem, State.requestLines_mem]))

theorem execRefreshWindow_mem (c : CtrlId) (j cyc : Nat) (s : State) :
    memOf (execRefreshWindow c j cyc s) = s.mem := by
  simp only [execRefreshWindow, memOf_ite, ite_self, done_mem, State.setTctl_mem]

theorem State.patrolError_mem (s : State) (p line : Nat) (uncor : Bool) :
    (State.patrolError s p line uncor).mem = s.mem := by
  simp only [State.patrolError, State.noteMemError_mem]

theorem execPatrolScrub_mem (s : State) :
    memOf (execPatrolScrub s) = s.mem := by
  simp only [execPatrolScrub, mem_ite, memOf_ite, ite_self, foldl_mem, implies_true, done_mem, State.pmemServe_mem, State.patrolError_mem]

theorem State.xxRetire_mem (s : State) (c : Nat) (h : MemOk s.mem) :
    MemOk ((State.xxRetire s c).mem) := by
  unfold State.xxRetire
  repeat' (first | (simp only [State.setFld_mem, State.trcStop_mem, State.setTract_mem, State.setXx_mem, h]; done) | (with_reducible refine foldl_memOk _ _ ?_ _ ?_) | (intro _ _ h) | split | (simp only [State.setFld_mem, State.setTract_mem, State.setXx_mem]))

theorem State.xxCountClr_mem (s : State) (c : Nat) :
    (State.xxCountClr s c).mem = s.mem := by
  simp only [State.xxCountClr, State.setFlds_mem]

theorem State.xxTrainReq_mem (s : State) (g : Agent) (c : Nat) :
    (State.xxTrainReq s g c).mem = s.mem := by
  simp only [State.xxTrainReq, mem_ite, ite_self, State.setXx_mem, State.regError_mem]

theorem execXxRetire_mem (c : CtrlId) (s : State) (h : MemOk s.mem) :
    MemOk (memOf (execXxRetire c s)) := by
  simp only [execXxRetire, ite_self, memOk_ite, done_mem, State.lit_mem, State.xxRetire_mem, h]

theorem execXxInjectCe_mem (c : CtrlId) (s : State) :
    memOf (execXxInjectCe c s) = s.mem := by
  simp only [execXxInjectCe, memOf_ite, ite_self, done_mem, State.setTctl_mem]

theorem execXxInjectUe_mem (c : CtrlId) (s : State) :
    memOf (execXxInjectUe c s) = s.mem := by
  simp only [execXxInjectUe, memOf_ite, ite_self, done_mem, State.setTctl_mem]

theorem execXxCountClr_mem (c : CtrlId) (s : State) :
    memOf (execXxCountClr c s) = s.mem := by
  simp only [execXxCountClr, ite_self, done_mem, State.lit_mem, State.xxCountClr_mem]

theorem execXxTrainReq_mem (c : CtrlId) (s : State) :
    memOf (execXxTrainReq c s) = s.mem := by
  simp only [execXxTrainReq, memOf_ite, ite_self, done_mem, State.xxTrainReq_mem]

theorem State.calStep_mem (s : State) (c : Nat) :
    (State.calStep s c).mem = s.mem := by
  simp only [State.calStep, mem_ite, ite_self, State.setFld_mem, State.setFlds_mem]

theorem State.calData_mem (s : State) (g : Agent) (c : Nat) (wr : Option (BitVec 64)) :
    (State.calData s g c wr).mem = s.mem := by
  unfold State.calData
  repeat' (first | (simp only [mem_ite, ite_self, State.calStep_mem, State.regError_mem, State.writeCal_mem]; done) | split)

theorem execXxCalDataAccess_mem (c : CtrlId) (wr : Option (BitVec 64)) (s : State) :
    memOf (execXxCalDataAccess c wr s) = s.mem := by
  simp only [execXxCalDataAccess, ite_self, done_mem, State.lit_mem, State.calData_mem]

theorem execMemoryTrainingComplete_mem (c : CtrlId) (ok : Bool) (margin : Fin 256) (cached : Bool) (s : State) :
    memOf (execMemoryTrainingComplete c ok margin cached s) = s.mem := by
  simp only [execMemoryTrainingComplete, memOf_ite, ite_self, done_mem, State.setFlds_mem, State.setXx_mem]

theorem execMemoryControllerFailure_mem (c : CtrlId) (s : State) (h : MemOk s.mem) :
    MemOk (memOf (execMemoryControllerFailure c s)) := by
  unfold execMemoryControllerFailure
  split
  · exact h
  · rw [done_mem]
    refine foldl_memOk _ _ (fun s t h => ?_) _ (by rw [State.setXx_mem]; exact h)
    split
    · exact State.jobFailure_mem _ _ _ _ _ h
    · exact h

/-! ### Reach -/

theorem State.servePm_mem (s : State) (line : Nat) :
    (State.servePm s line).mem = s.mem := by
  simp only [State.servePm, mem_ite, ite_self, State.pmemServe_mem]

theorem State.readLine_mem (s : State) (g : Agent) (line : Nat) :
    (State.readLine s g line).2.mem = s.mem := by
  simp only [State.readLine, mem_ite, snd_ite, ite_self, State.readTierLine_mem, State.servePm_mem, State.noteMemError_mem]

theorem State.refuseLines_mem (s : State) (l : List Nat) :
    (State.refuseLines s l).mem = s.mem := by
  simp only [State.refuseLines, foldl_mem, implies_true, State.count_mem]

theorem State.readMem_mem (s : State) (g : Agent) (a n : Nat) : (s.readMem g a n).2.2.mem = s.mem := by
  unfold State.readMem
  have hf := foldl_snd_mem (accessLines a n) (fun (acc : Bool × State) line => (acc.1 || (acc.2.readLine g line).1, (acc.2.readLine g line).2))
    (fun x f => State.readLine_mem _ _ _) (false, s)
  dsimp only
  split
  · exact (State.refuseLines_mem _ _).trans (State.freeBytes_mem _ _)
  · split
    · exact hf
    · exact hf

theorem State.writePart_mem (s : State) (g : Agent) (a : Nat) (bs : List Byte) (h : MemOk s.mem) :
    MemOk ((State.writePart s g a bs).2.mem) := by
  simp only [State.writePart, mem_ite, snd_ite, ite_self, memOk_ite, State.readLine_mem, State.countServed_mem, State.cancelRewrite_mem, State.outsideWrote_mem, State.servePm_mem, State.agentWrite_mem, h]

theorem State.writeMem_mem (s : State) (g : Agent) (a : Nat) (bs : List Byte) (h : MemOk s.mem) : MemOk (s.writeMem g a bs).2.mem := by
  unfold State.writeMem
  refine foldl_snd_memOk _ _ (fun x i h => ?_) _ h
  dsimp only
  split
  · rw [State.refuseLines_mem]; exact h
  · exact State.writePart_mem _ _ _ _ h

theorem State.fetch_mem (s : State) (g : Agent) (a n : Nat) :
    (State.fetch s g a n).2.2.mem = s.mem := by
  simp only [State.fetch, mem_ite, snd_ite, ite_self, State.readMem_mem, State.addrError_mem]

theorem State.put_mem (s : State) (g : Agent) (a : Nat) (bs : List Byte) (h : MemOk s.mem) :
    MemOk ((State.put s g a bs).mem) := by
  simp only [State.put, mem_ite, ite_self, memOk_ite, State.writeMem_mem, State.addrError_mem, h]

theorem State.scan_mem (s : State) (g : Agent) (l : List (Nat × Nat)) : (s.scan g l).2.mem = s.mem := by
  unfold State.scan
  refine foldl_snd_mem _ _ (fun acc e => ?_) _
  exact State.fetch_mem _ _ _ _

theorem State.copyMem_mem (s : State) (g : Agent) (src dst n : Nat) (h : MemOk s.mem) : MemOk (s.copyMem g src dst n).2.mem := by
  unfold State.copyMem
  refine foldl_snd_memOk _ _ (fun x i h => ?_) _ h
  dsimp only
  split
  · exact (State.fetch_mem _ _ _ _).symm ▸ h
  · exact State.put_mem _ _ _ _ ((State.fetch_mem _ _ _ _).symm ▸ h)

theorem State.serveSample_mem (s : State) (c lane pos entry : Nat) (h : MemOk s.mem) :
    MemOk ((State.serveSample s c lane pos entry).mem) := by
  unfold State.serveSample
  repeat' (first | (simp only [State.refreshOverrun_mem, State.writeMem_mem, State.setFld_mem, State.count_mem, h]; done) | split | (simp only [State.refreshOverrun_mem, State.setFld_mem, State.count_mem]))

theorem execCalendarPosition_mem (c : CtrlId) (lane pos : Nat) (shown : List Nat) (s : State) (h : MemOk s.mem) :
    MemOk (memOf (execCalendarPosition c lane pos shown s)) := by
  unfold execCalendarPosition
  repeat' (first | (simp only [State.publish_mem, done_mem, State.serveRead_mem, State.serveWrite_mem, State.serveScrub_mem, State.serveSample_mem, h]; done) | split | (simp only [done_mem, State.serveRead_mem]))

/-! ### Receive -/

theorem State.markRx_mem (s : State) (k seq : Nat) :
    (State.markRx s k seq).mem = s.mem := by
  simp only [State.markRx, State.setLink_mem]

theorem State.nakList_mem (s : State) (k n : Nat) (l : List Nat) : (s.nakList k n l).mem = s.mem := by
  induction n generalizing s l with
  | zero => unfold State.nakList; rfl
  | succ n ih =>
    cases l with
    | nil => rfl
    | cons a l => unfold State.nakList; rw [ih, State.sendCtl_mem]

theorem State.noteGaps_mem (s : State) (k seq : Nat) :
    (State.noteGaps s k seq).mem = s.mem := by
  simp only [State.noteGaps, State.setLink_mem]

theorem State.acceptSeq_mem (s : State) (k seq : Nat) :
    (State.acceptSeq s k seq).mem = s.mem := by
  simp only [State.acceptSeq, mem_ite, ite_self, State.noteGaps_mem, State.markRx_mem, State.nakList_mem]

theorem State.unitFailed_mem (s : State) (k pt : Nat) :
    (State.unitFailed s k pt).mem = s.mem := by
  simp only [State.unitFailed, mem_ite, ite_self, State.count_mem, State.nakList_mem]

theorem State.sampled_mem (s : State) (k : Nat) (p : Pkt) :
    (State.sampled s k p).2.mem = s.mem := by
  simp only [State.sampled, mem_ite, snd_ite, ite_self, State.setLink_mem]

theorem State.sample_mem (s : State) (k pt : Nat) (p : Pkt) (slot outcome late : Nat) (h : MemOk s.mem) :
    MemOk ((State.sample s k pt p slot outcome late).mem) := by
  simp only [State.sample, mem_ite, ite_self, memOk_ite, State.wrBytes_mem, State.setFld_mem, State.count_mem, h]

theorem State.accept_mem (s : State) (p : Pkt) (num : Nat) :
    (State.accept s p num).mem = s.mem := by
  unfold State.accept
  repeat' (first | (simp only [State.count_mem]; done) | split)

theorem State.forward_mem (s : State) (k slot : Nat) (p : Pkt) (entry seq : Nat) (late : Bool) :
    (State.forward s k slot p entry seq late).2.mem = s.mem := by
  simp only [State.forward, mem_ite, snd_ite, ite_self, State.makeLate_mem]

theorem State.actOn_mem (s : State) (k slot : Nat) (p : Pkt) (entry num : Nat) (late : Bool) :
    (State.actOn s k slot p entry num late).2.mem = s.mem := by
  simp only [State.actOn, mem_ite, snd_ite, ite_self, State.accept_mem, State.forward_mem]

theorem State.refusePkt_mem (s : State) (k : Nat) (p : Pkt) (slot check status : Nat) :
    (State.refusePkt s k p slot check status).mem = s.mem := by
  simp only [State.refusePkt, mem_ite, ite_self, State.violation_mem, State.count_mem]

theorem State.rejoin_mem (s : State) (k : Nat) (p : Pkt) :
    (State.rejoin s k p).2.mem = s.mem := by
  unfold State.rejoin
  dsimp only
  repeat' (first | (simp only [State.violation_mem, State.count_mem, State.markRx_mem, State.refusePkt_mem, State.actOn_mem]; done) | split)

theorem State.slotPacket_mem (s : State) (k pt : Nat) (p : Pkt) (seq : Nat) :
    (State.slotPacket s k pt p seq).2.mem = s.mem := by
  unfold State.slotPacket
  dsimp only
  repeat' (first | (simp only [State.refusePkt_mem, State.rejoin_mem, State.actOn_mem]; done) | split)

theorem State.freeCredit_mem (s : State) (k vc : Nat) :
    (State.freeCredit s k vc).mem = s.mem := by
  simp only [State.freeCredit, State.setLink_mem]

theorem State.lanternPacket_mem (s : State) (k : Nat) (p : Pkt) :
    (State.lanternPacket s k p).2.mem = s.mem := by
  simp only [State.lanternPacket, mem_ite, snd_ite, ite_self, State.violation_mem, State.freeCredit_mem, State.sendLantern_mem]

theorem State.takeLantern_mem {s : State} {k : Nat} {want : Pkt → Bool} {x : Pkt × State} (e : s.takeLantern k want = some x)
    (h : MemOk s.mem) : MemOk x.2.mem := by
  unfold State.takeLantern at e
  split at e
  · cases e; rw [State.freeCredit_mem]; exact h
  · contradiction

theorem State.takeBack_mem (s : State) (k credit : Nat) :
    (State.takeBack s k credit).mem = s.mem := by
  simp only [State.takeBack, State.setLink_mem]

theorem State.control_mem (s : State) (k kind : Nat) (a : List Nat) :
    (State.control s k kind a).2.mem = s.mem := by
  unfold State.control
  repeat' (first | (simp only [foldl_mem, implies_true, State.ackUpTo_mem, State.nakOne_mem, State.ctlCopy_mem, State.ctlRelease_mem, State.ctlParity_mem, State.ctlTap_mem, State.ctlFailover_mem, State.ctlDegrade_mem, State.ctlRestore_mem, State.datumUnit_mem, State.raise_mem]; done) | split)

theorem State.packet_mem (s : State) (k pt : Nat) (p : Pkt) (h : MemOk s.mem) :
    MemOk ((State.packet s k pt p).mem) := by
  simp only [State.packet, mem_ite, snd_ite, ite_self, memOk_ite, State.takeBack_mem, State.sampled_mem, State.sample_mem, State.acceptSeq_mem, State.lanternPacket_mem, State.slotPacket_mem, h]

theorem State.nextUnit_mem {s : State} {k : Nat} {x : (List Byte × Bool) × State} (e : s.nextUnit k = some x) : x.2.mem = s.mem := by
  unfold State.nextUnit at e
  dsimp only at e
  split at e
  · contradiction
  · cases e
    rfl

theorem State.unitChecked_mem (s : State) (l : Nat) (bs : List Byte) (good : Bool) :
    (State.unitChecked s l bs good).2.mem = s.mem := by
  simp only [State.unitChecked, mem_ite, ite_self, State.setLink_mem]

theorem State.unitTaken_mem (s : State) (l pt : Nat) (bs : List (BitVec 8)) (h : MemOk s.mem) :
    MemOk ((State.unitTaken s l pt bs).mem) := by
  simp only [State.unitTaken, mem_ite, ite_self, memOk_ite, State.count_mem, State.takeBack_mem, State.packet_mem, State.control_mem, h]

theorem execUnitReceive_mem (l : LinkId) (t pt n : Nat) (lanes : List (Fin 17)) (syms : List (List (List (Fin 1024)))) (s : State)
    (h : MemOk s.mem) : MemOk (memOf (execUnitReceive l t pt n lanes syms s)) := by
  unfold execUnitReceive
  have h' : MemOk ((s.at t).settle l).mem := by simp only [State.settle_mem, State.at_mem, h]
  revert h'
  generalize (s.at t).settle l = s
  intro h'
  dsimp only
  split
  · exact h'
  · split
    · rw [memOf_done, foldl_mem _ _ (fun _ _ => State.codewordTime_mem _ _ _)]
      exact h'
    · next e =>
      have hx := State.nextUnit_mem e
      rw [foldl_mem _ _ (fun _ _ => State.codewordTime_mem _ _ _)] at hx
      have hy := hx.symm ▸ h'
      split
      · exact hy
      · split
        · rw [memOf_done, mem_ite, memOk_ite]
          split
          · exact hy
          · exact hy
        · rw [memOf_done, mem_ite, memOk_ite]
          split
          · simp only [State.unitFailed_mem, State.unitChecked_mem, hy]
          · simp only [State.unitTaken_mem, State.unitChecked_mem, hy]

/-! ### Owners -/

theorem State.passOwner_mem (s : State) (g : Agent) (k : Nat) :
    (State.passOwner s g k).mem = s.mem := by
  simp only [State.passOwner, mem_ite, ite_self, State.setOwner_mem, State.regError_mem]

theorem execLnkPass_mem (l : LinkId) (s : State) :
    memOf (execLnkPass l s) = s.mem := by
  simp only [execLnkPass, ite_self, done_mem, State.lit_mem, State.passOwner_mem]

theorem State.confirm_mem (s : State) (k i : Nat) :
    (State.confirm s k i).mem = s.mem := by
  simp only [State.confirm, mem_ite, ite_self, State.setOwner_mem, State.sendLantern_mem, State.violation_mem]

theorem execOwnerDrainComplete_mem (l : LinkId) (i : Fin 16) (s : State) :
    memOf (execOwnerDrainComplete l i s) = s.mem := by
  simp only [execOwnerDrainComplete, memOf_ite, ite_self, done_mem, State.setOwner_mem, State.sendLantern_mem, State.confirm_mem]

theorem execBoundaryStoneDrained_mem (l : LinkId) (s : State) (h : MemOk s.mem) :
    MemOk (memOf (execBoundaryStoneDrained l s)) := by
  unfold execBoundaryStoneDrained
  repeat' (first | (with_reducible assumption) | (refine State.takeLantern_mem (x := (_, _)) (by assumption) ?_) | split | (simp only [done_mem, State.setOwner_mem, State.confirm_mem]))

theorem execBoundaryStoneConfirm_mem (l : LinkId) (s : State) (h : MemOk s.mem) :
    MemOk (memOf (execBoundaryStoneConfirm l s)) := by
  unfold execBoundaryStoneConfirm
  repeat' (first | (with_reducible assumption) | (refine State.takeLantern_mem (x := (_, _)) (by assumption) ?_) | split | (simp only [memOf_ite, done_mem, State.setOwner_mem, State.violation_mem]))

theorem State.clearSlots_mem (s : State) (k i : Nat) :
    (State.clearSlots s k i).mem = s.mem := by
  simp only [State.clearSlots, mem_ite, ite_self, foldl_mem, implies_true]

theorem State.promoteOwners_mem (s : State) (k : Nat) :
    (State.promoteOwners s k).mem = s.mem := by
  simp only [State.promoteOwners, mem_ite, ite_self, foldl_mem, implies_true, State.setOwner_mem]

theorem State.freeOwner_mem (s : State) (k i : Nat) :
    (State.freeOwner s k i).mem = s.mem := by
  simp only [State.freeOwner, State.clearSlots_mem, State.setOwner_mem, State.promoteOwners_mem]

theorem execOwnerSwitchTick_mem (l : LinkId) (i : Fin 16) (t : Nat) (s : State) (h : MemOk s.mem) :
    MemOk (memOf (execOwnerSwitchTick l i t s)) := by
  unfold execOwnerSwitchTick
  have h1 : MemOk (s.at t).mem := by rw [State.at_mem]; exact h
  generalize s.at t = s1 at h1 ⊢
  dsimp only
  generalize (s1.owner l i).myTick = a
  generalize (s1.owner l i).farTick = b
  cases a with
  | none => exact h1
  | some a =>
    cases b with
    | none => exact h1
    | some b =>
      dsimp only
      rw [memOf_ite, memOk_ite, memOf_done, memOf_done, State.raise_mem, State.freeOwner_mem]
      split
      · exact h1
      · exact h1

theorem execStoneTimeout_mem (l : LinkId) (i : Fin 16) (t : Nat) (s : State) :
    memOf (execStoneTimeout l i t s) = s.mem := by
  simp only [execStoneTimeout, memOf_ite, ite_self, State.at_mem, done_mem, State.setOwner_mem, State.raise_mem]

theorem State.releaseStuck_mem (s : State) (k : Nat) :
    (State.releaseStuck s k).mem = s.mem := by
  simp only [State.releaseStuck, mem_ite, ite_self, State.freeOwner_mem]

theorem execLnkReleaseStuck_mem (l : LinkId) (s : State) :
    memOf (execLnkReleaseStuck l s) = s.mem := by
  simp only [execLnkReleaseStuck, memOf_ite, ite_self, done_mem, State.releaseStuck_mem]

theorem State.easeWrite_mem (s : State) (g : Agent) (k v : Nat) :
    (State.easeWrite s g k v).mem = s.mem := by
  simp only [State.easeWrite, mem_ite, ite_self, State.regError_mem, State.setFld_mem]

theorem execLnkEaseWrite_mem (l : LinkId) (v : BitVec 64) (s : State) :
    memOf (execLnkEaseWrite l v s) = s.mem := by
  simp only [execLnkEaseWrite, ite_self, done_mem, State.lit_mem, State.easeWrite_mem]

theorem State.cadRead_mem (s : State) (k : Nat) :
    (State.cadRead s k).mem = s.mem := by
  simp only [State.cadRead, mem_ite, ite_self, State.setFld_mem]

theorem execLnkCadDataRead_mem (l : LinkId) (s : State) :
    memOf (execLnkCadDataRead l s) = s.mem := by
  simp only [execLnkCadDataRead, ite_self, done_mem, State.lit_mem, State.cadRead_mem]

end Sys2Proof.Machine
end

