-- ==== Sys2Proof/Laws/MemLoad.lean ====
section
/-!
SUPPORT. What the definitions of plat loading and job starts do to the memory of the module: nothing, or a
change that keeps it canonical. One lemma for each, which the next ones cite.
-/
set_option linter.unusedSimpArgs false

namespace Sys2Proof.Machine

/-! ### FabricLoad -/

theorem State.installRow_mem (s : State) (idx alt : Nat) (r : CadRow) :
    (State.installRow s idx alt r).mem = s.mem := by
  unfold State.installRow
  repeat' (first | (with_reducible rfl) | split)

theorem State.installLink_mem (s : State) (t job epoch : Nat) (kb : List Byte) (k : Nat) :
    (State.installLink s t job epoch kb k).mem = s.mem := by
  unfold State.installLink
  repeat' (first | (simp only [foldl_mem, implies_true, State.installRow_mem, State.setOwner_mem]; done) | split)

theorem State.installFabric_mem (s : State) (t job epoch : Nat) (rb cb kb : List Byte) :
    (State.installFabric s t job epoch rb cb kb).mem = s.mem := by
  simp only [State.installFabric, foldl_mem, implies_true, State.installLink_mem, State.setLink_mem, State.setTract_mem]

/-! ### Loader -/

theorem foldl_fst_memOk {α β : Type} (l : List α) (g : State × β → α → State × β) (h : ∀ x a, MemOk x.1.mem → MemOk (g x a).1.mem)
    (x : State × β) (hx : MemOk x.1.mem) : MemOk (l.foldl g x).1.mem := by
  induction l generalizing x with
  | nil => exact hx
  | cons a l ih => exact ih _ (h _ _ hx)

theorem foldl_fst_mem {α β : Type} (l : List α) (g : State × β → α → State × β) (h : ∀ x a, (g x a).1.mem = x.1.mem)
    (x : State × β) : (l.foldl g x).1.mem = x.1.mem := by
  induction l generalizing x with
  | nil => rfl
  | cons a l ih => rw [List.foldl_cons, ih, h]

theorem State.stage3_mem {s : State} {t : Nat} {mapBad bad : Bool} {s2 : State} (e : s.stage3 t mapBad bad = .inl s2) (h : MemOk s.mem) : MemOk s2.mem := by
  unfold State.stage3 at e
  dsimp only at e
  split at e
  · contradiction
  · cases e; rw [State.setTract_mem]; exact h

theorem State.stage4_mem {s : State} {t : Nat} {s2 : State} (e : s.stage4 t = .inl s2) (h : MemOk s.mem) : MemOk s2.mem := by
  unfold State.stage4 at e
  split at e
  · cases e; exact h
  · contradiction

theorem State.writeImage_mem (s : State) (p : Nat) (m : Image) (h : MemOk s.mem) :
    MemOk ((State.writeImage s p m).mem) := by
  unfold State.writeImage
  repeat' (first | (simp only [State.wrBytes_mem, State.setPar_mem, h]; done) | (with_reducible refine foldl_memOk _ _ ?_ _ ?_) | (intro _ _ h) | (simp only [State.setPar_mem]))

theorem State.packBmap_mem (s : State) (t : Nat) : (s.packBmap t).mem = s.mem := by
  unfold State.packBmap
  refine (foldl_fst_mem _ _ ?_ _).trans rfl
  intro x a
  dsimp only
  split
  · rfl
  · rw [State.setFld_mem]

theorem State.writeBmap_mem (s : State) (t : Nat) (phys : List Nat) : (s.writeBmap t phys).mem = s.mem := by
  unfold State.writeBmap
  dsimp only
  rw [State.setTract_mem, State.setFld_mem]
  refine (State.draw_mem _).trans ?_
  split
  · exact State.packBmap_mem _ _
  · rfl

theorem State.stage5_mem {s : State} {t : Nat} {s2 : State} (e : s.stage5 t = .inl s2) (h : MemOk s.mem) : MemOk s2.mem := by
  unfold State.stage5 at e
  dsimp only at e
  repeat' (split at e)
  · contradiction
  · contradiction
  · rw [← Sum.inl.inj e]
    rw [State.setTract_mem, State.writeBmap_mem]
    refine foldl_memOk _ _ (fun s x h => ?_) _ (foldl_memOk _ _ (fun s x h => ?_) _ h)
    · rw [State.setBeacon_mem]; exact h
    · exact State.writeImage_mem _ _ _ h

theorem State.restoreOne_mem {s : State} {t j v : Nat} {s2 : State} (e : s.restoreOne t j v = .inl s2) (h : MemOk s.mem) :
    MemOk s2.mem := by
  unfold State.restoreOne at e
  dsimp only at e
  repeat' (split at e)
  all_goals first
    | contradiction
    | (cases e
       refine foldl_fst_memOk _ _ (fun x i h => ?_) _ h
       dsimp only
       split
       · exact State.put_mem _ _ _ _ h
       · exact h)

theorem State.restoreAll_mem {s : State} {t : Nat} {l : List (Nat × Nat)} {s2 : State} (e : s.restoreAll t l = .inl s2)
    (h : MemOk s.mem) : MemOk s2.mem := by
  induction l generalizing s with
  | nil => cases e; exact h
  | cons a l ih =>
    unfold State.restoreAll at e
    split at e
    · contradiction
    · exact ih e (State.restoreOne_mem (by assumption) h)

theorem State.refuseSheet_mem (s : State) (t : Nat) (r : Refuse) (h : MemOk s.mem) : MemOk (s.refuseSheet t r).mem := by
  unfold State.refuseSheet
  refine State.refuse_mem _ _ _ _ _ _ ?_
  rw [State.setTract_mem]
  exact h

theorem State.scanSheets_mem (s : State) (t : Nat) : (s.scanSheets t).2.mem = s.mem := by
  unfold State.scanSheets
  refine foldl_snd_mem _ _ (fun acc sh => ?_) _
  dsimp only
  split
  · rfl
  · exact State.scan_mem _ _ _

theorem State.stage6_mem {s : State} {t : Nat} {bads : List Bool} {s2 : State} (e : s.stage6 t bads = .inl s2) (h : MemOk s.mem) : MemOk s2.mem := by
  unfold State.stage6 at e
  dsimp only at e
  repeat' (split at e)
  all_goals first
    | contradiction
    | (cases e
       refine foldl_memOk _ _ (fun s x h => ?_) _ (State.zeroRegions_mem _ _ h)
       split
       · exact h
       · exact State.put_mem _ _ _ _ h)
    | (refine State.restoreAll_mem e ?_
       refine foldl_memOk _ _ (fun s x h => ?_) _ (State.zeroRegions_mem _ _ h)
       split
       · exact h
       · exact State.put_mem _ _ _ _ h)

theorem State.installCal_mem (s : State) (landing : List Nat) (rows : List (Nat × Nat × Nat × Nat)) :
    (s.installCal landing rows).mem = s.mem := State.writeCal_mem _ _

theorem State.stage7_mem {s : State} {t : Nat} {s2 : State} (e : s.stage7 t = .inl s2) (h : MemOk s.mem) : MemOk s2.mem := by
  unfold State.stage7 at e
  dsimp only at e
  split at e
  · contradiction
  · cases e
    rw [State.setTract_mem, State.installFabric_mem]
    refine foldl_memOk _ _ (fun s x h => ?_) _ ?_
    · split
      · exact State.nextMode_mem _ _ _ (fun s h => by rw [State.setFld_mem]; exact h) h
      · exact h
    · rw [State.installCal_mem]; exact h

theorem State.stage2_mem {s : State} {t : Nat} {s2 : State} (e : s.stage2 t = .inl s2) (h : MemOk s.mem) : MemOk s2.mem := by
  unfold State.stage2 at e
  rw [← Sum.inl.inj e]
  exact foldl_memOk _ _ (fun s x h => by rw [State.setFlds_mem]; exact State.zeroParcel_mem _ _ h) _ h

theorem State.serveLoaded_mem (s : State) (t : Nat) :
    (State.serveLoaded s t).mem = s.mem := by
  simp only [State.serveLoaded, mem_ite, ite_self, State.putBit_mem, State.setSrv_mem, State.setFlds_mem, State.raise_mem]

theorem State.stage8_mem (s : State) (t : Nat) (h : MemOk s.mem) :
    MemOk ((State.stage8 s t).mem) := by
  unfold State.stage8
  repeat' (first | (simp only [mem_ite, ite_self, foldl_mem, implies_true, State.setPstate_mem, State.setFlds_mem, State.setTract_mem, State.serveLoaded_mem, State.trcMove_mem, State.trcEvent_mem, State.tryReady_mem, h]; done) | split | (simp only [mem_ite, ite_self, foldl_mem, implies_true, State.setPstate_mem, State.setFlds_mem, State.setTract_mem, State.serveLoaded_mem, State.trcMove_mem]))

theorem State.loadSheets_mem (s : State) (t : Nat) (h : MemOk s.mem) : MemOk (s.loadSheets t).mem := by
  unfold State.loadSheets
  have h2 : MemOk (s.scanSheets t).2.mem := by rw [State.scanSheets_mem]; exact h
  dsimp only
  split
  · next e => rw [State.setTract_mem]; exact State.stage6_mem e h2
  · exact State.refuseSheet_mem _ _ _ h2

theorem State.readPlat_mem (s : State) (t : Nat) (h : MemOk s.mem) :
    MemOk (s.readPlat t).1.mem ∧ ∀ u, (s.readPlat t).2 = .inl u → MemOk u.mem := by
  have h2 : MemOk (s.readPlat t).1.mem := by
    unfold State.readPlat
    dsimp only
    rw [State.scan_mem, State.scan_mem]
    exact h
  exact ⟨h2, fun u e => State.stage3_mem e h2⟩

theorem State.loadStage_mem (s : State) (t : Nat) (h : MemOk s.mem) : MemOk ((s.loadStage t).mem) := by
  unfold State.loadStage
  dsimp only
  have go : ∀ (v : State) (o : StageOut), MemOk v.mem → (∀ u, o = .inl u → MemOk u.mem) →
      MemOk ((match o with
        | .inl s => s.setTract t { s.tract t with stage := (s.tract t).stage + 1 }
        | .inr r => v.refuse t r.code r.secType r.index r.fold).mem) := by
    intro v o hv ho
    cases o with
    | inl u => dsimp only; rw [State.setTract_mem]; exact ho u rfl
    | inr r => exact State.refuse_mem _ _ _ _ _ _ hv
  split
  · exact h
  · split
    · exact go s (s.stage2 t) h fun _ e => State.stage2_mem e h
    · split
      · exact go _ _ (State.readPlat_mem s t h).1 (State.readPlat_mem s t h).2
      · exact h
    · exact go s (s.stage4 t) h fun _ e => State.stage4_mem e h
    · exact go s (s.stage5 t) h fun _ e => State.stage5_mem e h
    · refine State.loadSheets_mem _ _ ?_
      rw [State.setTract_mem]
      exact h
    · exact go s (s.stage7 t) h fun _ e => State.stage7_mem e h
    · exact State.stage8_mem _ _ h
    · exact h

theorem execLoadStageComplete_mem (t : TractId) (s : State) (h : MemOk s.mem) :
    MemOk (memOf (execLoadStageComplete t s)) := by
  unfold execLoadStageComplete
  repeat' (first | (simp only [done_mem, State.loadStage_mem, h]; done) | (intro _ h) | with_reducible apply State.beforeDark_mem | split | (simp only [done_mem]))

/-! ### Jobs -/

theorem State.forwardStart_mem (s : State) (j : Nat) :
    (State.forwardStart s j).mem = s.mem := by
  simp only [State.forwardStart, mem_ite, ite_self, foldl_mem, implies_true, State.setChild_mem, State.request_mem, State.setJob_mem]

theorem State.forwardHeld_mem (s : State) :
    (State.forwardHeld s).mem = s.mem := by
  simp only [State.forwardHeld, mem_ite, ite_self, foldl_mem, implies_true, State.forwardStart_mem]

theorem State.acceptStart_mem (s : State) (m : List Byte) (root : Bool) (h : MemOk s.mem) :
    MemOk ((State.acceptStart s m root).mem) := by
  simp only [State.acceptStart, State.setFlds_mem, State.trcLoad_mem, State.setTract_mem, State.setJob_mem, State.forwardStart_mem, h]

theorem State.resetLoading_mem (s : State) (t : Nat) (h : MemOk s.mem) :
    MemOk ((State.resetLoading s t).mem) := by
  simp only [State.resetLoading, mem_ite, ite_self, memOk_ite, State.trcReset_mem, h]

theorem State.reply_mem (s : State) (k : Nat) (p : Pkt) (status : Nat) :
    (State.reply s k p status).mem = s.mem := by
  simp only [State.reply, State.sendLantern_mem]

theorem State.orRelay_mem (s : State) (p : Pkt) (here : State → State) (ha : ∀ s, MemOk s.mem → MemOk (here s).mem)
    (h : MemOk s.mem) : MemOk ((s.orRelay p here).mem) := by
  unfold State.orRelay
  split
  · exact ha _ h
  · rw [State.relayLantern_mem]; exact h

theorem State.startMessage_mem (s : State) (l : Nat) (h : MemOk s.mem) :
    MemOk ((State.startMessage s l).mem) := by
  unfold State.startMessage
  repeat' (first | (with_reducible assumption) | (simp only [State.reply_mem, State.acceptStart_mem, h]; done) | (intro _ h) | with_reducible apply State.orRelay_mem | with_reducible apply State.resetLoading_mem | (refine State.takeLantern_mem (x := (_, _)) (by assumption) ?_) | split | (simp only [State.reply_mem]))

theorem execStartMessage_mem (l : LinkId) (t : Nat) (s : State) (h : MemOk s.mem) :
    MemOk (memOf (execStartMessage l t s)) := by
  simp only [execStartMessage, memOf_ite, ite_self, memOk_ite, done_mem, State.at_mem, State.startMessage_mem, State.forwardHeld_mem, h]

theorem execPlatChunk_mem (l : LinkId) (s : State) (h : MemOk s.mem) :
    MemOk (memOf (execPlatChunk l s)) := by
  unfold execPlatChunk
  repeat' (first | (with_reducible assumption) | (intro _ h) | with_reducible apply State.orRelay_mem | (refine State.takeLantern_mem (x := (_, _)) (by assumption) ?_) | split | (simp only [mem_ite, ite_self, foldl_mem, implies_true, done_mem, State.setTract_mem, State.request_mem, State.reply_mem]))

theorem State.abandon_mem (s : State) (j except' : Nat) (toParent : Bool) (h : MemOk s.mem) :
    MemOk ((State.abandon s j except' toParent).mem) := by
  simp only [State.abandon, mem_ite, ite_self, foldl_mem, memOk_ite, implies_true, State.request_mem, State.resetLoading_mem, State.setJob_mem, State.setWord_mem, h]

theorem execAbandon_mem (l : LinkId) (s : State) (h : MemOk s.mem) :
    MemOk (memOf (execAbandon l s)) := by
  unfold execAbandon
  repeat' (first | (simp only [done_mem, State.abandon_mem, State.reply_mem, h]; done) | (intro _ h) | with_reducible apply State.orRelay_mem | (refine State.takeLantern_mem (x := (_, _)) (by assumption) ?_) | split | (simp only [done_mem, State.reply_mem]))

theorem State.startAbandoned_mem (s : State) (j except' : Nat) (h : MemOk s.mem) :
    MemOk ((State.startAbandoned s j except').mem) := by
  simp only [State.startAbandoned, State.report_mem, State.abandon_mem, h]

theorem execStartAckTimeout_mem (j t : Nat) (s : State) (h : MemOk s.mem) :
    MemOk (memOf (execStartAckTimeout j t s)) := by
  unfold execStartAckTimeout
  repeat' (first | (simp only [State.at_mem, done_mem, State.startAbandoned_mem, h]; done) | split | (simp only [State.at_mem, done_mem]))

theorem execStartHoldExpiry_mem (j t : Nat) (s : State) (h : MemOk s.mem) :
    MemOk (memOf (execStartHoldExpiry j t s)) := by
  unfold execStartHoldExpiry
  repeat' (first | (simp only [State.at_mem, done_mem, State.startAbandoned_mem, h]; done) | split | (simp only [State.at_mem, done_mem]))

theorem execReady_mem (l : LinkId) (s : State) (h : MemOk s.mem) :
    MemOk (memOf (execReady l s)) := by
  unfold execReady
  repeat' (first | (simp only [done_mem, State.setChild_mem, State.tryReady_mem, State.reply_mem, h]; done) | (intro _ h) | with_reducible apply State.orRelay_mem | (refine State.takeLantern_mem (x := (_, _)) (by assumption) ?_) | split | (simp only [done_mem, State.setChild_mem, State.reply_mem]))

theorem State.takeGo_mem (s : State) (j tick : Nat) (h : MemOk s.mem) :
    MemOk ((State.takeGo s j tick).mem) := by
  simp only [State.takeGo, mem_ite, ite_self, memOk_ite, State.setFld_mem, State.trcStart_mem, State.abandon_mem, h]

theorem execGo_mem (l : LinkId) (t : Nat) (s : State) (h : MemOk s.mem) :
    MemOk (memOf (execGo l t s)) := by
  unfold execGo
  repeat' (first | (simp only [State.at_mem, State.takeGo_mem, done_mem, State.sendGo_mem, State.reply_mem, h]; done) | (intro _ h) | with_reducible apply State.orRelay_mem | (refine State.takeLantern_mem (x := (_, _)) (by assumption) ?_) | split | (simp only [State.at_mem, done_mem, State.sendGo_mem, State.reply_mem]))

theorem execDone_mem (l : LinkId) (s : State) (h : MemOk s.mem) :
    MemOk (memOf (execDone l s)) := by
  unfold execDone
  repeat' (first | (simp only [done_mem, State.setChild_mem, State.tryDone_mem, State.reply_mem, h]; done) | (intro _ h) | with_reducible apply State.orRelay_mem | (refine State.takeLantern_mem (x := (_, _)) (by assumption) ?_) | split | (simp only [done_mem, State.setChild_mem, State.reply_mem]))

theorem State.takeAbort_mem (s : State) (j : Nat) (h : MemOk s.mem) :
    MemOk ((State.takeAbort s j).mem) := by
  simp only [State.takeAbort, mem_ite, ite_self, foldl_mem, memOk_ite, implies_true, State.request_mem, State.trcReset_mem, h]

theorem execAbort_mem (l : LinkId) (s : State) (h : MemOk s.mem) :
    MemOk (memOf (execAbort l s)) := by
  unfold execAbort
  repeat' (first | (simp only [done_mem, State.takeAbort_mem, State.reply_mem, h]; done) | (intro _ h) | with_reducible apply State.orRelay_mem | (refine State.takeLantern_mem (x := (_, _)) (by assumption) ?_) | split | (simp only [done_mem, State.reply_mem]))

theorem State.abortAtRoot_mem (s : State) (j : Nat) (h : MemOk s.mem) :
    MemOk ((State.abortAtRoot s j).2.mem) := by
  simp only [State.abortAtRoot, mem_ite, snd_ite, ite_self, memOk_ite, State.setWord_mem, State.takeAbort_mem, h]

theorem State.startAtRoot_mem (s : State) (m : List Byte) (h : MemOk s.mem) :
    MemOk ((State.startAtRoot s m).2.mem) := by
  simp only [State.startAtRoot, mem_ite, snd_ite, ite_self, memOk_ite, State.resetLoading_mem, State.acceptStart_mem, State.setWord_mem, h]

theorem State.lanternReply_mem (s : State) (l : Nat) (freeJournal : Nat → State → State)
    (ha : ∀ j s, MemOk s.mem → MemOk (freeJournal j s).mem) (h : MemOk s.mem) : MemOk ((s.lanternReply l freeJournal).mem) := by
  unfold State.lanternReply
  split
  · exact h
  · refine State.orRelay_mem _ _ _ (fun s h => ?_) (State.takeLantern_mem (x := (_, _)) (by assumption) h)
    dsimp only
    rw [← State.reserve_mem] at h
    split
    · refine foldl_memOk _ _ (fun s j h => ?_) _ h
      rw [State.setJob_mem]; exact h
    · split
      · exact ha _ _ h
      · exact h

theorem State.journalPut_mem (s : State) (t : Nat) (b : List Byte) (h : MemOk s.mem) :
    MemOk ((State.journalPut s t b).mem) := by
  simp only [State.journalPut, mem_ite, ite_self, memOk_ite, State.put_mem, State.setSrv_mem, h]

theorem execJournalEntry_mem (l : LinkId) (s : State) (h : MemOk s.mem) :
    MemOk (memOf (execJournalEntry l s)) := by
  unfold execJournalEntry
  repeat' (first | (simp only [done_mem, State.journalPut_mem, State.reply_mem, h]; done) | (intro _ h) | with_reducible apply State.orRelay_mem | (refine State.takeLantern_mem (x := (_, _)) (by assumption) ?_) | split | (simp only [done_mem, State.reply_mem]))

end Sys2Proof.Machine
end

