-- ==== Sys2Proof/Laws/MemServe.lean ====
section
/-!
SUPPORT. What the definitions of exchange, collectives and serving do to the memory of the module: nothing, or a
change that keeps it canonical. One lemma for each, which the next ones cite.
-/
set_option linter.unusedSimpArgs false

namespace Sys2Proof.Machine

/-! ### ServeData -/

theorem State.setRing_mem (s : State) (r : Nat) (x : Ring) :
    (State.setRing s r x).mem = s.mem := by
  simp only [State.setRing]

theorem State.setAcct_mem (s : State) (a : Nat) (x : Acct) :
    (State.setAcct s a x).mem = s.mem := by
  simp only [State.setAcct]

theorem State.setSess_mem (s : State) (i : Nat) (x : Sess) :
    (State.setSess s i x).mem = s.mem := by
  simp only [State.setSess]

theorem State.ringFlushN_mem (n r : Nat) (s : State) (h : MemOk s.mem) : MemOk ((State.ringFlushN n r s).mem) := by
  induction n generalizing s with
  | zero => exact h
  | succ n ih =>
    unfold State.ringFlushN
    dsimp only
    split
    · exact h
    · split
      · refine ih _ ?_
        rw [State.setRing_mem]
        exact State.put_mem _ _ _ _ h
      · exact h

theorem State.ringFlush_mem (s : State) (r : Nat) (h : MemOk s.mem) :
    MemOk ((State.ringFlush s r).mem) := by
  simp only [State.ringFlush, mem_ite, ite_self, State.ringFlushN_mem, State.attInt_mem, h]

theorem State.deliver_mem (s : State) (d : Delivery) (h : MemOk s.mem) :
    MemOk ((State.deliver s d).mem) := by
  unfold State.deliver
  repeat' (first | (simp only [State.put_mem, State.setRing_mem, State.ringFlush_mem, h]; done) | (with_reducible refine foldl_memOk _ _ ?_ _ ?_) | (intro _ _ h))

/-! ### Exchange -/

theorem execXsend_mem (p : ParcelId) (s : State) :
    memOf (execXsend p s) = s.mem := by
  unfold execXsend
  dsimp only
  repeat' (first | (simp only [done_mem, State.launch_mem]; done) | split)

theorem execXsig_mem (p : ParcelId) (s : State) (h : MemOk s.mem) :
    MemOk (memOf (execXsig p s)) := by
  unfold execXsig
  repeat' (first | (simp only [done_mem, State.drainTier_mem, State.launch_mem, h]; done) | split | (simp only [done_mem, State.launch_mem]))

theorem execXrecv_mem (p : ParcelId) (s : State) :
    memOf (execXrecv p s) = s.mem := by
  unfold execXrecv
  repeat' (first | (simp only [done_mem, State.launch_mem]; done) | split)

theorem State.judge_mem (s : State) (p i : Nat) (h : MemOk s.mem) :
    MemOk ((State.judge s p i).mem) := by
  unfold State.judge
  repeat' (first | (simp only [mem_ite, ite_self, memOk_ite, State.consumeTally_mem, State.finishFlight_mem, State.setFlight_mem, h]; done) | split)

theorem State.judgeAll_mem (s : State) (p : Nat) (h : MemOk s.mem) :
    MemOk ((State.judgeAll s p).mem) := by
  unfold State.judgeAll
  repeat' (first | (simp only [State.judge_mem, h]; done) | (with_reducible refine foldl_memOk _ _ ?_ _ ?_) | (intro _ _ h))

theorem execTransferDeadline_mem (p : ParcelId) (i : Nat) (s : State) (h : MemOk s.mem) :
    MemOk (memOf (execTransferDeadline p i s)) := by
  simp only [execTransferDeadline, done_mem, State.judge_mem, h]

theorem State.deliverBytes_mem (s : State) (p off : Nat) (bs : List Byte) (h : MemOk s.mem) :
    MemOk ((State.deliverBytes s p off bs).2.mem) := by
  unfold State.deliverBytes
  repeat' (first | (simp only [State.noteLines_mem, State.pmWrite_mem, State.noteMemError_mem, h]; done) | (with_reducible refine foldl_memOk _ _ ?_ _ ?_) | (intro _ _ h) | split | (simp only [State.noteLines_mem, State.noteMemError_mem]))

theorem State.deliverSignal_mem (s : State) (a : Arrival) (h : MemOk s.mem) :
    MemOk ((State.deliverSignal s a).mem) := by
  unfold State.deliverSignal
  repeat' (first | (simp only [State.count_mem, State.signal_mem, State.parcelFault_mem, h]; done) | split | (simp only [State.count_mem, State.signal_mem]))

theorem State.endRetryFreeze_mem (s : State) (num : Nat) :
    (State.endRetryFreeze s num).mem = s.mem := by
  simp only [State.endRetryFreeze, foldl_mem, implies_true, State.endFreeze_mem]

theorem State.countTally_mem (s : State) (p : Nat) (k : Pkt) :
    (State.countTally s p k).mem = s.mem := by
  simp only [State.countTally, State.setTally_mem]

theorem execRetryOverrun_mem (l k : LinkId) (seq : Nat) (w : TownshipId) (t : Nat) (s : State) :
    memOf (execRetryOverrun l k seq w t s) = s.mem := by
  simp only [execRetryOverrun, memOf_ite, ite_self, State.at_mem, done_mem, State.addFreeze_mem, State.count_mem, State.raise_mem]

/-! ### Collective -/

theorem State.sendWords_mem (s : State) (p : Nat) (c : Coll) (t : Nat) (e : CollEntry) (peer level form : Nat) (ws : List Int) :
    (State.sendWords s p c t e peer level form ws).mem = s.mem := by
  unfold State.sendWords
  dsimp only
  repeat' (first | (with_reducible rfl) | split)

theorem State.takeMessage_mem {s : State} {c : Coll} {v : Nat} {d : Bool} {f n : Nat} {x : List Int × State}
    (e : s.takeMessage c v d f n = some x) (h : MemOk s.mem) : MemOk x.2.mem := by
  unfold State.takeMessage at e
  dsimp only at e
  split at e
  · contradiction
  · cases e
    dsimp only
    rw [foldl_mem]
    · exact h
    · intro s x; rw [State.setTally_mem]

theorem State.writeResult_mem (s : State) (c : Coll) (q : QEntry) (e : CollEntry) (form : Nat) (ws : List Int) (h : MemOk s.mem) :
    MemOk ((State.writeResult s c q e form ws).mem) := by
  simp only [State.writeResult, State.commitRows_mem, State.setEng_mem, h]

theorem State.finishColl_mem (s : State) (c : Coll) (q : QEntry) (t : Nat) (e : CollEntry) (ws : List Int) (h : MemOk s.mem) :
    MemOk ((State.finishColl s c q t e ws).mem) := by
  simp only [State.finishColl, foldl_mem, implies_true, State.sendWords_mem, State.writeResult_mem, h]

theorem State.setColl_mem (s : State) (c : Coll) :
    (State.setColl s c).mem = s.mem := by
  simp only [State.setColl]

theorem State.collStep_mem (s : State) (c : Coll) (q : QEntry) (t : Nat) (e : CollEntry) (h : MemOk s.mem) :
    MemOk ((State.collStep s c q t e).mem) := by
  unfold State.collStep
  repeat' (first | (with_reducible assumption) | with_reducible apply State.finishColl_mem | (refine State.takeMessage_mem (x := (_, _)) (by assumption) ?_) | split | (simp only [State.setColl_mem, State.sendWords_mem]))

theorem State.collRun_mem (s : State) (p n : Nat) (h : MemOk s.mem) : MemOk ((s.collRun p n).mem) := by
  induction n generalizing s with
  | zero => exact h
  | succ n ih =>
    unfold State.collRun
    refine ih _ (foldl_memOk _ _ (fun s c h => ?_) _ h)
    split
    · exact State.collStep_mem _ _ _ _ _ h
    · exact h

theorem execXcoll_mem (p : ParcelId) (s : State) (h : MemOk s.mem) :
    MemOk (memOf (execXcoll p s)) := by
  unfold execXcoll
  repeat' (first | (simp only [memOf_ite, ite_self, memOk_ite, done_mem, State.launch_mem, State.collRun_mem, h]; done) | split)

theorem State.deliverColl_mem (s : State) (p : Nat) (k : Pkt) (h : MemOk s.mem) :
    MemOk ((State.deliverColl s p k).mem) := by
  simp only [State.deliverColl, State.countTally_mem, State.collRun_mem, h]

theorem execPacketDeliver_mem (p : ParcelId) (s : State) (h : MemOk s.mem) :
    MemOk (memOf (execPacketDeliver p s)) := by
  unfold execPacketDeliver
  repeat' (first | (simp only [mem_ite, memOf_ite, ite_self, memOk_ite, done_mem, State.count_mem, State.endRetryFreeze_mem, State.deliverSignal_mem, State.judgeAll_mem, State.deliverColl_mem, State.deliverBytes_mem, State.countTally_mem, h]; done) | split)

/-! ### Compose -/

theorem compFoldl_mem {α : Type} (l : List α) (g : Comp → α → Comp) (h : ∀ c x, (g c x).s.mem = c.s.mem) (c : Comp) :
    (l.foldl g c).s.mem = c.s.mem := by
  induction l generalizing c with
  | nil => rfl
  | cons x l ih => rw [List.foldl_cons, ih, h]
theorem Comp.s_ite (p : Prop) [Decidable p] (a b : Comp) : (if p then a else b).s = if p then a.s else b.s := by split <;> rfl
theorem compPair_foldl_mem {α β : Type} (l : List α) (g : Comp × β → α → Comp × β) (h : ∀ c x, MemOk c.1.s.mem → MemOk (g c x).1.s.mem)
    (c : Comp × β) (hc : MemOk c.1.s.mem) : MemOk (l.foldl g c).1.s.mem := by
  induction l generalizing c with
  | nil => exact hc
  | cons x l ih => exact ih _ (h _ _ hc)
theorem compPair_foldl_eq {α β : Type} (l : List α) (g : Comp × β → α → Comp × β) (h : ∀ c x, (g c x).1.s.mem = c.1.s.mem)
    (c : Comp × β) : (l.foldl g c).1.s.mem = c.1.s.mem := by
  induction l generalizing c with
  | nil => rfl
  | cons x l ih => rw [List.foldl_cons, ih, h]

theorem Comp.setSess_mem (c : Comp) (i : Nat) (x : Sess) :
    (Comp.setSess c i x).s.mem = c.s.mem := by
  simp only [Comp.setSess, State.setSess_mem]

theorem Comp.entry_mem (c : Comp) (r : Nat) (e : CplEntry) :
    (Comp.entry c r e).s.mem = c.s.mem := by
  simp only [Comp.entry]

theorem Comp.sessEntry_mem (c : Comp) (i kind status n tag total : Nat) :
    (Comp.sessEntry c i kind status n tag total).s.mem = c.s.mem := by
  simp only [Comp.sessEntry, Comp.entry_mem]

theorem Comp.op_mem (c : Comp) (o : PageOp) :
    (Comp.op c o).s.mem = c.s.mem := by
  simp only [Comp.op]

theorem Comp.cancelHeld_mem (c : Comp) (i status : Nat) :
    (Comp.cancelHeld c i status).s.mem = c.s.mem := by
  simp only [Comp.cancelHeld, implies_true, compFoldl_mem, Comp.sessEntry_mem, Comp.setSess_mem]

theorem Comp.free_mem (c : Comp) (i : Nat) :
    (Comp.free c i).s.mem = c.s.mem := by
  simp only [Comp.free, implies_true, compFoldl_mem, Comp.cancelHeld_mem, Comp.sessEntry_mem, State.setSrv_mem, Comp.setSess_mem]

theorem Comp.begin_mem (c : Comp) (i : Nat) (q : SrvReq) :
    (Comp.begin c i q).s.mem = c.s.mem := by
  simp only [Comp.begin, State.draw_mem, State.setSrv_mem, Comp.setSess_mem]

theorem Comp.unhold_mem (c : Comp) (i : Nat) (l : List SrvReq) : (c.unhold i l).s.mem = c.s.mem := by
  induction l generalizing c with
  | nil => unfold Comp.unhold; rw [Comp.setSess_mem]
  | cons q l ih =>
    unfold Comp.unhold
    dsimp only
    split
    · split
      · rw [ih, Comp.sessEntry_mem]
      · rw [Comp.free_mem, Comp.setSess_mem, Comp.sessEntry_mem]
    · rw [Comp.begin_mem, Comp.setSess_mem]

theorem Comp.endReq_mem (c : Comp) (i status n : Nat) :
    (Comp.endReq c i status n).s.mem = c.s.mem := by
  unfold Comp.endReq
  dsimp only
  repeat' (first | (simp only [implies_true, compFoldl_mem, Comp.sessEntry_mem, Comp.setSess_mem, Comp.unhold_mem, Comp.free_mem]; done) | split)

theorem Comp.refund_mem (c : Comp) (a rows : Nat) :
    (Comp.refund c a rows).s.mem = c.s.mem := by
  simp only [Comp.refund, mem_ite, ite_self, State.setAcct_mem, State.count_mem]

theorem Comp.drafts_mem (c : Comp) (i : Nat) (r : RowEnt) (n : Nat) :
    (Comp.drafts c i r n).s.mem = c.s.mem := by
  unfold Comp.drafts
  repeat' ((simp only [mem_ite, ite_self, Comp.s_ite, State.count_mem, Comp.setSess_mem, State.setSess_mem]; done))

theorem Comp.zeroDrafts_mem (c : Comp) :
    (Comp.zeroDrafts c).s.mem = c.s.mem := by
  simp only [Comp.zeroDrafts, mem_ite, ite_self, implies_true, compFoldl_mem, Comp.s_ite, Comp.setSess_mem]

theorem Comp.deliver_mem (c : Comp) (r : RowEnt) (toks : List Nat) :
    (Comp.deliver c r toks).s.mem = c.s.mem := by
  unfold Comp.deliver
  dsimp only
  repeat' (first | (simp only [Comp.drafts_mem, Comp.setSess_mem, Comp.endReq_mem, Comp.refund_mem, Comp.sessEntry_mem]; done) | split)

theorem Comp.dropLeaf_mem {c d : Comp} (e : c.dropLeaf = some d) : d.s.mem = c.s.mem := by
  unfold Comp.dropLeaf at e
  split at e
  · split at e
    · cases e; rw [Comp.op_mem]
    · contradiction
  · contradiction
theorem Comp.dropLeafGetD_mem (c : Comp) : (c.dropLeaf.getD c).s.mem = c.s.mem := by
  cases e : c.dropLeaf with
  | none => rfl
  | some d => exact Comp.dropLeaf_mem e

theorem Comp.nodeRoom_mem (c : Comp) : c.nodeRoom.s.mem = c.s.mem := by
  unfold Comp.nodeRoom
  split
  · rfl
  · exact Comp.dropLeafGetD_mem c

theorem Comp.insertPage_mem (c : Comp) (i page : Nat) : (c.insertPage i page).s.mem = c.s.mem := by
  have h := Comp.nodeRoom_mem c
  unfold Comp.insertPage
  dsimp only
  generalize c.nodeRoom = d at h ⊢
  generalize (c.w.findNode _ _ _).isNone = b
  generalize (!(_ && b)) = q
  cases q with
  | true => rfl
  | false =>
    rw [if_neg Bool.false_ne_true]
    split
    · split
      · simp only [Comp.op_mem, State.draw_mem, h]
      · exact h
    · exact h

theorem Comp.commitRow_mem (c : Comp) (rj : RowEnt × Nat) :
    (Comp.commitRow c rj).s.mem = c.s.mem := by
  simp only [Comp.commitRow, mem_ite, ite_self, implies_true, compFoldl_mem, Comp.s_ite, Comp.refund_mem, Comp.setSess_mem, Comp.insertPage_mem, Comp.deliver_mem,
    Comp.endReq_mem, State.scan_mem]

theorem Comp.snuffRest_mem (c : Comp) (l : List Nat) :
    (Comp.snuffRest c l).s.mem = c.s.mem := by
  simp only [Comp.snuffRest, mem_ite, ite_self, implies_true, compFoldl_mem, Comp.s_ite, Comp.endReq_mem]

theorem Comp.commit_mem (c : Comp) :
    (Comp.commit c).s.mem = c.s.mem := by
  simp only [Comp.commit, mem_ite, ite_self, implies_true, compFoldl_mem, State.scan_mem, State.setFld_mem, State.setSrv_mem, Comp.commitRow_mem, Comp.snuffRest_mem, Comp.zeroDrafts_mem]

theorem Comp.stopNow_mem (c : Comp) :
    (Comp.stopNow c).s.mem = c.s.mem := by
  simp only [Comp.stopNow, mem_ite, ite_self, implies_true, compFoldl_mem, Comp.s_ite, Comp.cancelHeld_mem, Comp.endReq_mem, State.setSrv_mem, State.raise_mem]

theorem Comp.releases_mem (c : Comp) (due : List Nat) :
    (Comp.releases c due).s.mem = c.s.mem := by
  simp only [Comp.releases, mem_ite, ite_self, implies_true, compFoldl_mem, Comp.s_ite, Comp.setSess_mem, Comp.op_mem]

theorem Comp.badPrompts_mem (c : Comp) :
    (Comp.badPrompts c).s.mem = c.s.mem := by
  unfold Comp.badPrompts
  repeat' (first | (simp only [Comp.endReq_mem]; done) | (with_reducible refine (compFoldl_mem _ _ ?_ _).trans ?_; intro _ _) | split)

theorem Comp.sweep_mem (c : Comp) :
    (Comp.sweep c).s.mem = c.s.mem := by
  simp only [Comp.sweep, mem_ite, ite_self, implies_true, compFoldl_mem, Comp.s_ite, Comp.free_mem]

theorem State.freeIndex_mem (s : State) :
    (State.freeIndex s).2.mem = s.mem := by
  simp only [State.freeIndex, State.draw_mem]

theorem Comp.startOn_mem (c : Comp) (i : Nat) (q : SrvReq) :
    (Comp.startOn c i q).s.mem = c.s.mem := by
  simp only [Comp.startOn, Comp.unhold_mem]

theorem Comp.submit_mem (c : Comp) (r : Nat) (q : SrvReq) :
    (Comp.submit c r q).s.mem = c.s.mem := by
  unfold Comp.submit
  dsimp only
  repeat' (first | (simp only [Comp.entry_mem, State.raise_mem, Comp.free_mem, State.freeIndex_mem, State.setSess_mem, Comp.sessEntry_mem, Comp.startOn_mem]; done) | split)

theorem Comp.append_mem (c : Comp) (r h : Nat) (q : SrvReq) :
    (Comp.append c r h q).s.mem = c.s.mem := by
  simp only [Comp.append, mem_ite, ite_self, Comp.s_ite, Comp.entry_mem, Comp.sessEntry_mem, Comp.startOn_mem, Comp.setSess_mem]

theorem Comp.snuff_mem (c : Comp) (i tag : Nat) (rel : Bool) :
    (Comp.snuff c i tag rel).s.mem = c.s.mem := by
  simp only [Comp.snuff, mem_ite, ite_self, Comp.s_ite, Comp.setSess_mem, Comp.endReq_mem]

theorem Comp.endEntry_mem (c : Comp) (r h tag : Nat) (rel : Bool) :
    (Comp.endEntry c r h tag rel).s.mem = c.s.mem := by
  simp only [Comp.endEntry, mem_ite, ite_self, Comp.s_ite, Comp.entry_mem, Comp.snuff_mem, Comp.sessEntry_mem, Comp.setSess_mem, Comp.free_mem]

theorem Comp.takeEntry_mem (c : Comp) (r : Nat) (b : List Byte) :
    (Comp.takeEntry c r b).s.mem = c.s.mem := by
  unfold Comp.takeEntry
  repeat' (first | (simp only [Comp.entry_mem, Comp.submit_mem, Comp.append_mem, Comp.endEntry_mem]; done) | split)

theorem takeRing_mem (n r : Nat) (c : Comp) : (takeRing n r c).1.s.mem = c.s.mem := by
  induction n generalizing c with
  | zero => rfl
  | succ n ih =>
    unfold takeRing
    dsimp only
    split
    · rw [ih, Comp.takeEntry_mem, State.setRing_mem]
      exact State.fetch_mem _ _ _ _
    · rfl

theorem Comp.takeRings_mem (c : Comp) (h : MemOk c.s.mem) : MemOk c.takeRings.s.mem := by
  unfold Comp.takeRings
  refine compPair_foldl_mem _ _ (fun c r h => ?_) _ h
  dsimp only
  split
  · rw [takeRing_mem]; exact h
  · refine State.put_mem _ _ _ _ ?_
    rw [takeRing_mem]; exact h

theorem Comp.refill_mem (c : Comp) :
    (Comp.refill c).s.mem = c.s.mem := by
  simp only [Comp.refill, foldl_mem, implies_true, State.setAcct_mem]

theorem Comp.chooseRatio_mem (c : Comp) :
    (Comp.chooseRatio c).s.mem = c.s.mem := by
  simp only [Comp.chooseRatio, State.setSrv_mem, State.setFld_mem]

theorem Comp.putRow_mem (c : Comp) (r : RowEnt) (pages dl pl : Nat) : (c.putRow r pages dl pl).s.mem = c.s.mem := by
  unfold Comp.putRow
  dsimp only
  rw [Comp.setSess_mem, compFoldl_mem _ _ fun c o => Comp.op_mem c o]

theorem Comp.place_mem {c : Comp} {r : RowEnt} {d : Comp} (e : c.place r = some d) : d.s.mem = c.s.mem := by
  rw [Comp.place] at e
  obtain ⟨_, e⟩ := Option.ite_none_right_eq_some.mp e
  cases e
  rw [Comp.putRow_mem]

theorem Comp.rowOf_mem (c : Comp) (decode : Bool) (i cost : Nat) :
    (Comp.rowOf c decode i cost).2.mem = c.s.mem := by
  unfold Comp.rowOf
  repeat' (first | (simp only [State.draw_mem]; done) | split)

theorem Comp.deferred_mem (c : Comp) (i : Nat) :
    (Comp.deferred c i).s.mem = c.s.mem := by
  unfold Comp.deferred
  dsimp only
  repeat' (first | (simp only [Comp.sessEntry_mem, Comp.setSess_mem, State.count_mem]; done) | split)

theorem Comp.turn_mem (decode : Bool) (cands : List Nat) (c : Comp) (a : Nat) :
    (Comp.turn decode cands c a).1.s.mem = c.s.mem := by
  unfold Comp.turn
  repeat' (first | (refine (Comp.place_mem (by assumption)).trans ?_) | split | simp only [Comp.deferred_mem, Comp.rowOf_mem, Comp.setSess_mem, State.setAcct_mem])

theorem passes_mem (decode : Bool) (cands accts : List Nat) (n : Nat) (c : Comp) : (passes decode cands accts n c).s.mem = c.s.mem := by
  induction n generalizing c with
  | zero => rfl
  | succ n ih =>
    unfold passes
    dsimp only
    have hg := compPair_foldl_eq accts (fun (cm : Comp × Bool) a => ((cm.1.turn decode cands a).1, cm.2 || (cm.1.turn decode cands a).2))
      (fun c a => Comp.turn_mem _ _ _ _) (c, false)
    split
    · rw [ih]; exact hg
    · exact hg

theorem Comp.placeAll_mem (decode : Bool) (cands : List Nat) (c : Comp) :
    (Comp.placeAll decode cands c).s.mem = c.s.mem := by
  simp only [Comp.placeAll, passes_mem]

theorem Comp.park_mem (c : Comp) (i : Nat) :
    (Comp.park c i).s.mem = c.s.mem := by
  unfold Comp.park
  dsimp only
  repeat' (first | (simp only [Comp.op_mem, Comp.setSess_mem, Comp.free_mem]; done) | split)

theorem dropNodes_mem (n need : Nat) (c : Comp) : (dropNodes n need c).s.mem = c.s.mem := by
  induction n generalizing c with
  | zero => rfl
  | succ n ih =>
    unfold dropNodes
    split
    · rfl
    · split
      · rw [ih]; exact Comp.dropLeaf_mem (by assumption)
      · rfl

theorem Comp.makeRoom_mem (c : Comp) (need : Nat) :
    (Comp.makeRoom c need).s.mem = c.s.mem := by
  simp only [Comp.makeRoom, mem_ite, ite_self, implies_true, compFoldl_mem, Comp.s_ite, dropNodes_mem, Comp.park_mem]

theorem Comp.admitOne_mem (c : Comp) (i : Nat) :
    (Comp.admitOne c i).1.s.mem = c.s.mem := by
  unfold Comp.admitOne
  dsimp only
  repeat' (first | (simp only [implies_true, compFoldl_mem, Comp.makeRoom_mem, Comp.op_mem, Comp.setSess_mem]; done) | split)

theorem admitList_mem (l : List Nat) (c : Comp) : (admitList l c).s.mem = c.s.mem := by
  induction l generalizing c with
  | nil => rfl
  | cons i l ih =>
    unfold admitList
    dsimp only
    split
    · rw [ih, Comp.admitOne_mem]
    · rw [Comp.admitOne_mem]

theorem Comp.admission_mem (l : List Nat) (c : Comp) :
    (Comp.admission l c).s.mem = c.s.mem := by
  simp only [Comp.admission, admitList_mem]

theorem Comp.rebuildOne_mem (c : Comp) (i : Nat) (h : MemOk c.s.mem) : MemOk (c.rebuildOne i).s.mem := by
  unfold Comp.rebuildOne
  dsimp only
  split
  · rw [Comp.setSess_mem]; exact h
  · split
    · exact h
    · split
      · exact h
      · dsimp only
        rw [State.setSess_mem]
        refine State.put_mem _ _ _ _ ?_
        rw [Comp.place_mem (by assumption)]; exact h

theorem compFoldl_memOk {α : Type} (l : List α) (g : Comp → α → Comp) (h : ∀ c x, MemOk c.s.mem → MemOk (g c x).s.mem) (c : Comp)
    (hc : MemOk c.s.mem) : MemOk (l.foldl g c).s.mem := by
  induction l generalizing c with
  | nil => exact hc
  | cons x l ih => exact ih _ (h _ _ hc)
theorem Comp.rebuilds_mem (c : Comp) (h : MemOk c.s.mem) : MemOk c.rebuilds.s.mem :=
  compFoldl_memOk _ _ (fun c i h => Comp.rebuildOne_mem c i h) _ h

theorem Comp.parkAndReclaim_mem (c : Comp) :
    (Comp.parkAndReclaim c).s.mem = c.s.mem := by
  simp only [Comp.parkAndReclaim, mem_ite, ite_self, implies_true, compFoldl_mem, Comp.s_ite, Comp.op_mem, Comp.makeRoom_mem, Comp.setSess_mem, Comp.park_mem]

theorem Comp.emit_mem (c : Comp) (h : MemOk c.s.mem) :
    MemOk ((Comp.emit c).s.mem) := by
  simp only [Comp.emit, State.put_mem, State.setSrv_mem, h]

theorem Comp.handOver_mem (c : Comp) (h : MemOk c.s.mem) :
    MemOk ((Comp.handOver c).mem) := by
  simp only [Comp.handOver, mem_ite, ite_self, foldl_mem, memOk_ite, implies_true, State.journalPut_mem, State.deliver_mem, State.request_mem, State.setSrv_mem, h]

theorem State.outboxFlush_mem (n t : Nat) (s : State) (h : MemOk s.mem) : MemOk (State.outboxFlush n t s).mem := by
  induction n generalizing s with
  | zero => exact h
  | succ n ih =>
    unfold State.outboxFlush
    split
    · exact h
    · split
      · refine ih _ (State.deliver_mem _ _ ?_)
        rw [State.setSrv_mem]; exact h
      · exact h

theorem State.journalReply_mem (j : Nat) (s : State) (h : MemOk s.mem) :
    MemOk ((State.journalReply j s).mem) := by
  unfold State.journalReply
  repeat' (first | (simp only [State.outboxFlush_mem, State.setSrv_mem, h]; done) | split)

theorem State.drainCheck_mem (s : State) (t : Nat) :
    (State.drainCheck s t).mem = s.mem := by
  simp only [State.drainCheck, mem_ite, ite_self, State.setSrv_mem, State.raise_mem]

theorem State.closeRings_mem (s : State) :
    (State.closeRings s).mem = s.mem := by
  simp only [State.closeRings, mem_ite, ite_self, foldl_mem, implies_true, State.setRing_mem]

theorem State.closeCheck_mem (s : State) :
    (State.closeCheck s).mem = s.mem := by
  unfold State.closeCheck
  dsimp only
  repeat' (first | (simp only [State.closeRings_mem, State.setFlds_mem, State.raise_mem, State.setAcct_mem]; done) | split)

theorem Comp.taken_mem (c : Comp) (h : MemOk c.s.mem) :
    MemOk ((Comp.taken c).s.mem) := by
  simp only [Comp.taken, Comp.stopNow_mem, Comp.commit_mem, Comp.releases_mem, Comp.refill_mem, Comp.badPrompts_mem, Comp.sweep_mem, Comp.chooseRatio_mem, Comp.takeRings_mem, h]

theorem Comp.filled_mem (c : Comp) (h : MemOk c.s.mem) :
    MemOk ((Comp.filled c).s.mem) := by
  simp only [Comp.filled, Comp.admission_mem, Comp.placeAll_mem, Comp.rebuilds_mem, Comp.emit_mem, Comp.parkAndReclaim_mem, h]

theorem State.compose_mem (s : State) (t : Nat) (h : MemOk s.mem) : MemOk (s.compose t).mem := by
  have h1 : MemOk (s.outboxFlush (s.srvOf t).outbox.length t).mem := State.outboxFlush_mem _ _ _ h
  unfold State.compose
  dsimp only
  split
  · rw [State.serveFault_mem]; exact h1
  · rw [State.closeCheck_mem, State.drainCheck_mem]
    exact Comp.handOver_mem _ (Comp.filled_mem _ (Comp.taken_mem _ h1))

theorem execComposition_mem (t : TractId) (d : Nat) (s : State) (h : MemOk s.mem) :
    MemOk (memOf (execComposition t d s)) := by
  simp only [execComposition, memOf_ite, ite_self, memOk_ite, State.at_mem, done_mem, State.compose_mem, h]

/-! ### ServeCmd -/

theorem State.movePages_mem (s : State) (t i : Nat) (a b : PageState) (h : MemOk s.mem) :
    MemOk ((State.movePages s t i a b).mem) := by
  unfold State.movePages
  repeat' (first | (simp only [mem_ite, ite_self, State.copyMem_mem, State.serveFault_mem, h]; done) | (with_reducible refine foldl_memOk _ _ ?_ _ ?_) | (intro _ _ h))

theorem State.applyOp_mem (s : State) (t : Nat) (o : PageOp) (h : MemOk s.mem) :
    MemOk ((State.applyOp s t o).mem) := by
  simp only [State.applyOp, mem_ite, ite_self, memOk_ite, State.setSrv_mem, State.movePages_mem, h]

theorem State.opsOf_mem (s : State) (t step : Nat) (l : List PageOp) : (s.opsOf t step l).2.mem = s.mem := by
  unfold State.opsOf
  dsimp only
  split
  · rfl
  · refine foldl_snd_mem _ _ (fun acc o => ?_) _
    split
    · rfl
    · split
      · exact State.draw_mem _
      · rfl

theorem State.writeTables_mem (s : State) (t p : Nat) (table words : List Byte) (rows : List RowEnt) (h : MemOk s.mem) :
    MemOk ((State.writeTables s t p table words rows).mem) := by
  unfold State.writeTables
  repeat' (first | (simp only [mem_ite, ite_self, memOk_ite, State.put_mem, h]; done) | (with_reducible refine foldl_memOk _ _ ?_ _ ?_) | (intro _ _ h))

theorem State.applyStepRecord_mem (s : State) (t : Nat) (h : MemOk s.mem) :
    MemOk ((State.applyStepRecord s t).mem) := by
  unfold State.applyStepRecord
  repeat' (first | (simp only [State.scan_mem, State.serveFault_mem, State.opsOf_mem, State.applyOp_mem, State.setSrv_mem, State.writeTables_mem, State.paramWrite_mem, h]; done) | (with_reducible refine foldl_memOk _ _ ?_ _ ?_) | (intro _ _ h) | split | (simp only [State.scan_mem, State.serveFault_mem, State.opsOf_mem, State.setSrv_mem, State.paramWrite_mem]))

theorem execStepRecordApply_mem (t : TractId) (s : State) (h : MemOk s.mem) :
    MemOk (memOf (execStepRecordApply t s)) := by
  simp only [execStepRecordApply, memOf_ite, ite_self, memOk_ite, done_mem, State.applyStepRecord_mem, h]

theorem State.unholdNow_mem (s : State) (t i : Nat) (h : MemOk s.mem) : MemOk ((s.unholdNow t i).mem) := by
  simp only [State.unholdNow, mem_ite, ite_self, memOk_ite, Comp.unhold_mem, State.deliver_mem, h]

theorem State.moved_mem (s : State) (t i : Nat) (h : MemOk s.mem) :
    MemOk ((State.moved s t i).mem) := by
  simp only [State.moved, mem_ite, ite_self, memOk_ite, State.setSess_mem, State.unholdNow_mem, h]

theorem State.moveReported_mem (s : State) (t i : Nat) (h : MemOk s.mem) :
    MemOk ((State.moveReported s t i).mem) := by
  simp only [State.moveReported, mem_ite, ite_self, memOk_ite, State.setSess_mem, State.moved_mem, h]

theorem execParkMoveComplete_mem (t : TractId) (i : Fin 65536) (d : Nat) (s : State) (h : MemOk s.mem) :
    MemOk (memOf (execParkMoveComplete t i d s)) := by
  unfold execParkMoveComplete
  repeat' (first | (simp only [State.at_mem, done_mem, State.setSrv_mem, State.moveReported_mem, State.sendLantern_mem, h]; done) | split | (simp only [State.at_mem, done_mem, State.setSrv_mem, State.sendLantern_mem]))

theorem execManagementNotice_mem (l : LinkId) (d : Nat) (s : State) (h : MemOk s.mem) :
    MemOk (memOf (execManagementNotice l d s)) := by
  unfold execManagementNotice
  repeat' (first | (simp only [State.at_mem, done_mem, State.moveReported_mem, h]; done) | (intro _ h) | with_reducible apply State.orRelay_mem | (refine State.takeLantern_mem (x := (_, _)) (by assumption) ?_) | split | (simp only [State.at_mem, done_mem]))

theorem execLanternReply_mem (l : LinkId) (s : State) (h : MemOk s.mem) :
    MemOk (memOf (execLanternReply l s)) := by
  unfold execLanternReply
  rw [done_mem, State.lit_mem]
  split
  · exact h
  · exact State.lanternReply_mem _ _ _ (fun _ _ h => State.journalReply_mem _ _ h) h

theorem execPromptStaged_mem (i : Fin 65536) (s : State) (h : MemOk s.mem) :
    MemOk (memOf (execPromptStaged i s)) := by
  unfold execPromptStaged
  repeat' (first | (simp only [done_mem, State.copyMem_mem, State.setSess_mem, h]; done) | split | (simp only [done_mem, State.setSess_mem]))

theorem execIdleTtlExpiry_mem (i : Fin 65536) (d : Nat) (s : State) :
    memOf (execIdleTtlExpiry i d s) = s.mem := by
  simp only [execIdleTtlExpiry, memOf_ite, ite_self, State.at_mem, done_mem, State.setSess_mem]

theorem execParkTtlExpiry_mem (i : Fin 65536) (d : Nat) (s : State) :
    memOf (execParkTtlExpiry i d s) = s.mem := by
  simp only [execParkTtlExpiry, memOf_ite, ite_self, State.at_mem, done_mem, State.setSess_mem]

theorem State.ringError_mem (s : State) (r : Nat) :
    (State.ringError s r).mem = s.mem := by
  simp only [State.ringError, State.setFlds_mem, State.count_mem, State.raise_mem]

theorem State.tailBell_mem (s : State) (r v : Nat) :
    (State.tailBell s r v).mem = s.mem := by
  simp only [State.tailBell, mem_ite, ite_self, State.ringError_mem, State.setRing_mem]

theorem State.headBell_mem (s : State) (r v : Nat) (h : MemOk s.mem) :
    MemOk ((State.headBell s r v).mem) := by
  simp only [State.headBell, mem_ite, ite_self, memOk_ite, State.ringError_mem, State.setRing_mem, State.ringFlush_mem, h]

theorem execSubmissionTailDoorbell_mem (r : Fin 4096) (v : Fin 65536) (s : State) :
    memOf (execSubmissionTailDoorbell r v s) = s.mem := by
  simp only [execSubmissionTailDoorbell, ite_self, done_mem, State.lit_mem, State.tailBell_mem]

theorem execCompletionHeadDoorbell_mem (r : Fin 4096) (v : Fin 65536) (s : State) (h : MemOk s.mem) :
    MemOk (memOf (execCompletionHeadDoorbell r v s)) := by
  simp only [execCompletionHeadDoorbell, ite_self, memOk_ite, done_mem, State.lit_mem, State.headBell_mem, h]

theorem State.srvResult_mem (s : State) (v : Nat) :
    (State.srvResult s v).mem = s.mem := by
  simp only [State.srvResult, mem_ite, ite_self, State.setFlds_mem, State.raise_mem]

theorem State.srvCommand_mem (s : State) (g : Agent) (op index block : Nat) (ok : Bool) (act : State → State)
    (ha : ∀ s, MemOk s.mem → MemOk (act s).mem) (h : MemOk s.mem) : MemOk ((s.srvCommand g op index block ok act).mem) := by
  unfold State.srvCommand
  dsimp only
  split
  · rw [State.regError_mem]; exact h
  · split
    · refine ha _ ?_
      rw [State.setFlds_mem]; exact h
    · rw [State.srvResult_mem, State.setFlds_mem]; exact h

theorem State.openRing_mem (s : State) (g : Agent) (r block : Nat) (h : MemOk s.mem) :
    MemOk ((State.openRing s g r block).mem) := by
  unfold State.openRing
  repeat' (first | (simp only [State.setRing_mem, State.srvResult_mem, h]; done) | (intro _ h) | with_reducible apply State.srvCommand_mem)

theorem State.closeRing_mem (s : State) (g : Agent) (r : Nat) (h : MemOk s.mem) :
    MemOk ((State.closeRing s g r).mem) := by
  unfold State.closeRing
  repeat' (first | (simp only [State.setFld_mem, State.setRing_mem, State.closeCheck_mem, h]; done) | (intro _ h) | with_reducible apply State.srvCommand_mem)

theorem State.openAccount_mem (s : State) (g : Agent) (block : Nat) (h : MemOk s.mem) :
    MemOk ((State.openAccount s g block).mem) := by
  unfold State.openAccount
  repeat' (first | (simp only [State.srvResult_mem, State.setAcct_mem, State.setFld_mem, h]; done) | (intro _ h) | with_reducible apply State.srvCommand_mem | split)

theorem State.closeAccount_mem (s : State) (g : Agent) (a : Nat) (h : MemOk s.mem) :
    MemOk ((State.closeAccount s g a).mem) := by
  unfold State.closeAccount
  repeat' (first | (simp only [foldl_mem, implies_true, State.setFld_mem, State.setAcct_mem, State.setRing_mem, State.closeCheck_mem, h]; done) | (intro _ h) | with_reducible apply State.srvCommand_mem)

theorem State.setAccount_mem (s : State) (g : Agent) (a block : Nat) (h : MemOk s.mem) :
    MemOk ((State.setAccount s g a block).mem) := by
  unfold State.setAccount
  repeat' (first | (simp only [State.setAcct_mem, State.srvResult_mem, h]; done) | (intro _ h) | with_reducible apply State.srvCommand_mem)

theorem execOpenRing_mem (r : Fin 4096) (block : BitVec 48) (s : State) (h : MemOk s.mem) :
    MemOk (memOf (execOpenRing r block s)) := by
  simp only [execOpenRing, memOf_ite, ite_self, memOk_ite, done_mem, State.openRing_mem, h]

theorem execCloseRing_mem (r : Fin 4096) (s : State) (h : MemOk s.mem) :
    MemOk (memOf (execCloseRing r s)) := by
  simp only [execCloseRing, memOf_ite, ite_self, memOk_ite, done_mem, State.closeRing_mem, h]

theorem execOpenAccount_mem (block : BitVec 48) (s : State) (h : MemOk s.mem) :
    MemOk (memOf (execOpenAccount block s)) := by
  simp only [execOpenAccount, memOf_ite, ite_self, memOk_ite, done_mem, State.openAccount_mem, h]

theorem execCloseAccount_mem (a : Fin 4096) (s : State) (h : MemOk s.mem) :
    MemOk (memOf (execCloseAccount a s)) := by
  simp only [execCloseAccount, memOf_ite, ite_self, memOk_ite, done_mem, State.closeAccount_mem, h]

theorem execSetAccount_mem (a : Fin 4096) (block : BitVec 48) (s : State) (h : MemOk s.mem) :
    MemOk (memOf (execSetAccount a block s)) := by
  simp only [execSetAccount, ite_self, memOk_ite, done_mem, State.lit_mem, State.setAccount_mem, h]

theorem State.srvEn_mem (s : State) (mask : Nat) :
    (State.srvEn s mask).mem = s.mem := by
  simp only [State.srvEn, mem_ite, ite_self, foldl_mem, implies_true, State.setFld_mem, State.setSrv_mem, State.drainCheck_mem]

theorem State.srvStop_mem (s : State) (mask : Nat) :
    (State.srvStop s mask).mem = s.mem := by
  simp only [State.srvStop, mem_ite, ite_self, foldl_mem, implies_true, State.setSrv_mem]

theorem execSrvEn_mem (mask : Fin 256) (s : State) :
    memOf (execSrvEn mask s) = s.mem := by
  simp only [execSrvEn, ite_self, done_mem, State.lit_mem, State.srvEn_mem]

theorem execSrvStopNow_mem (mask : Fin 256) (s : State) :
    memOf (execSrvStopNow mask s) = s.mem := by
  simp only [execSrvStopNow, memOf_ite, ite_self, done_mem, State.srvStop_mem]

end Sys2Proof.Machine
end

