-- ==== Sys2Proof/Laws/MemModule.lean ====
section
/-!
SUPPORT. What the definitions of the safety monitor, benchmarks, start-up, firmware and management do to the memory of the module: nothing, or a
change that keeps it canonical. One lemma for each, which the next ones cite.
-/
set_option linter.unusedSimpArgs false

namespace Sys2Proof.Machine

/-! ### SafetyMon -/

theorem State.quarantine_mem (s : State) (p : Nat) :
    (State.quarantine s p).mem = s.mem := by
  simp only [State.quarantine, mem_ite, ite_self, State.setPstate_mem]

theorem State.markQuarantine_mem (s : State) (p : Nat) :
    (State.markQuarantine s p).mem = s.mem := by
  simp only [State.markQuarantine, State.markParcel_mem, State.quarantine_mem]

theorem State.quarantineTract_mem (s : State) (t : Nat) :
    (State.quarantineTract s t).mem = s.mem := by
  simp only [State.quarantineTract, foldl_mem, implies_true, State.quarantine_mem]

theorem State.retestEnd_mem (s : State) (p : Nat) (pass : Bool) :
    (State.retestEnd s p pass).mem = s.mem := by
  simp only [State.retestEnd, mem_ite, ite_self, State.setFlds_mem, State.setPstate_mem, State.keepMarks_mem, State.raise_mem]

theorem State.retestSlot_mem (s : State) (p : Nat) (follows pass : Bool) :
    (State.retestSlot s p follows pass).mem = s.mem := by
  simp only [State.retestSlot, mem_ite, ite_self, State.count_mem, State.retestEnd_mem, State.safeRec_mem]

theorem State.resetTractOf_mem (s : State) (p : Nat) (h : MemOk s.mem) :
    MemOk ((State.resetTractOf s p).mem) := by
  unfold State.resetTractOf
  repeat' (first | (simp only [State.trcReset_mem, h]; done) | split)

theorem State.katMissed_mem (s : State) (p period : Nat) (h : MemOk s.mem) :
    MemOk ((State.katMissed s p period).mem) := by
  unfold State.katMissed
  repeat' (first | (simp only [State.count_mem, State.darkTract_mem, h]; done) | split | (simp only [State.count_mem]))

theorem execKatSlot_mem (p : ParcelId) (t : Nat) (pass : Bool) (s : State) (h : MemOk s.mem) :
    MemOk (memOf (execKatSlot p t pass s)) := by
  unfold execKatSlot
  repeat' (first | (simp only [State.at_mem, done_mem, State.retestSlot_mem, State.katMissed_mem, State.count_mem, State.parcelError_mem, State.sfmEvent_mem, State.resetTractOf_mem, h]; done) | split | (simp only [State.at_mem, done_mem, State.retestSlot_mem, State.count_mem, State.parcelError_mem, State.sfmEvent_mem]))

theorem execKatRerun_mem (p : ParcelId) (t : Nat) (pass : Bool) (s : State) :
    memOf (execKatRerun p t pass s) = s.mem := by
  simp only [execKatRerun, memOf_ite, ite_self, State.at_mem, done_mem, State.count_mem, State.quarantine_mem, State.parcelError_mem, State.markQuarantine_mem]

theorem State.townClockFault_mem (s : State) (w : Nat) (h : MemOk s.mem) :
    MemOk ((State.townClockFault s w).mem) := by
  unfold State.townClockFault
  repeat' (first | (simp only [State.draw_mem, State.safeRec_mem, State.setTown_mem, State.darkTract_mem, State.stopClock_mem, h]; done) | split | (simp only [State.draw_mem, State.safeRec_mem, State.setTown_mem, State.stopClock_mem]))

theorem execClockMonitorWindow_mem (i : Fin 38) (cycles t : Nat) (s : State) (h : MemOk s.mem) :
    MemOk (memOf (execClockMonitorWindow i cycles t s)) := by
  simp only [execClockMonitorWindow, memOf_ite, ite_self, memOk_ite, State.at_mem, done_mem, State.goDark_mem, State.townClockFault_mem, State.draw_mem, State.safeRec_mem, h]

theorem execLockstepMismatch_mem (t : Nat) (s : State) :
    memOf (execLockstepMismatch t s) = s.mem := by
  simp only [execLockstepMismatch, done_mem, State.at_mem, State.goDark_mem]

theorem execHeartbeatSend_mem (t : Nat) (s : State) :
    memOf (execHeartbeatSend t s) = s.mem := by
  simp only [execHeartbeatSend, State.at_mem, done_mem]

theorem execHeartbeatTimeout_mem (t : Nat) (s : State) :
    memOf (execHeartbeatTimeout t s) = s.mem := by
  simp only [execHeartbeatTimeout, memOf_ite, ite_self, State.at_mem, done_mem, State.goDark_mem]

theorem State.lwdtKick_mem (s : State) (mask : Nat) :
    (State.lwdtKick s mask).mem = s.mem := by
  simp only [State.lwdtKick, mem_ite, ite_self, foldl_mem, implies_true]

theorem execSfmLwdtKick_mem (mask : Fin 16) (t : Nat) (s : State) :
    memOf (execSfmLwdtKick mask t s) = s.mem := by
  simp only [execSfmLwdtKick, ite_self, done_mem, State.lit_mem, State.at_mem, State.lwdtKick_mem]

theorem State.abandonHandover_mem (s : State) (h : MemOk s.mem) :
    MemOk ((State.abandonHandover s).mem) := by
  simp only [State.abandonHandover, mem_ite, ite_self, memOk_ite, State.setFlds_mem, State.raise_mem, State.freeLoads_mem, h]

theorem execLanternWatchdogExpiry_mem (c : Fin 4) (t : Nat) (s : State) (h : MemOk s.mem) :
    MemOk (memOf (execLanternWatchdogExpiry c t s)) := by
  simp only [execLanternWatchdogExpiry, memOf_ite, ite_self, memOk_ite, State.at_mem, State.setFld_mem, State.safeRec_mem, State.sfmEvent_mem, State.abandonHandover_mem, done_mem, State.goDark_mem, h]

theorem execDieSensorRead_mem (temps : List (Option Nat)) (t : Nat) (s : State) :
    memOf (execDieSensorRead temps t s) = s.mem := by
  simp only [execDieSensorRead, mem_ite, memOf_ite, ite_self, State.at_mem, State.setFld_mem, State.raise_mem, State.goDark_mem, done_mem]

theorem execCoolantInletRead_mem (tin tout : Fin 256) (s : State) :
    memOf (execCoolantInletRead tin tout s) = s.mem := by
  simp only [execCoolantInletRead, mem_ite, ite_self, State.draw_mem, State.setFlds_mem, done_mem, State.raise_mem]

theorem execInputOvervoltage_mem (mv t : Nat) (s : State) :
    memOf (execInputOvervoltage mv t s) = s.mem := by
  simp only [execInputOvervoltage, memOf_ite, ite_self, State.at_mem, done_mem, State.goDark_mem]

theorem execInputOvercurrent_mem (ca t : Nat) (s : State) :
    memOf (execInputOvercurrent ca t s) = s.mem := by
  simp only [execInputOvercurrent, memOf_ite, ite_self, State.at_mem, done_mem, State.goDark_mem]

theorem execRailOvervoltage_mem (rail : Fin 6) (permille t : Nat) (s : State) :
    memOf (execRailOvervoltage rail permille t s) = s.mem := by
  simp only [execRailOvervoltage, memOf_ite, ite_self, State.at_mem, done_mem, State.goDark_mem]

theorem execSensingCompare_mem (mv ca : Nat × Nat) (rails : List (Nat × Nat)) (t : Nat) (s : State) :
    memOf (execSensingCompare mv ca rails t s) = s.mem := by
  simp only [execSensingCompare, memOf_ite, ite_self, State.at_mem, State.setFlds_mem, done_mem, State.goDark_mem]

theorem execInputDip_mem (ns t : Nat) (s : State) :
    memOf (execInputDip ns t s) = s.mem := by
  simp only [execInputDip, memOf_ite, ite_self, State.at_mem, done_mem, State.count_mem, State.raise_mem, State.goDark_mem]

theorem execInputLow_mem (mv : Nat) (s : State) :
    memOf (execInputLow mv s) = s.mem := by
  simp only [execInputLow, memOf_ite, ite_self, done_mem, State.raise_mem]

theorem State.tractsDarkNow_mem (s : State) (mask : Nat) (h : MemOk s.mem) :
    MemOk ((State.tractsDarkNow s mask).mem) := by
  unfold State.tractsDarkNow
  repeat' (first | (simp only [mem_ite, ite_self, memOk_ite, State.darkTract_mem, h]; done) | (with_reducible refine foldl_memOk _ _ ?_ _ ?_) | (intro _ _ h))

theorem execSfmDarkNow_mem (s : State) :
    memOf (execSfmDarkNow s) = s.mem := by
  simp only [execSfmDarkNow, ite_self, done_mem, State.lit_mem, State.goDark_mem]

theorem execSfmTractDarkNow_mem (mask : Fin 256) (s : State) (h : MemOk s.mem) :
    MemOk (memOf (execSfmTractDarkNow mask s)) := by
  simp only [execSfmTractDarkNow, ite_self, memOk_ite, done_mem, State.lit_mem, State.tractsDarkNow_mem, h]

theorem State.logRead_mem (s : State) :
    (State.logRead s).mem = s.mem := by
  simp only [State.logRead, mem_ite, ite_self, State.setFlds_mem]

theorem execSfmLogDataRead_mem (s : State) :
    memOf (execSfmLogDataRead s) = s.mem := by
  simp only [execSfmLogDataRead, ite_self, done_mem, State.lit_mem, State.logRead_mem]

/-! ### Bench -/

theorem State.writeDigests_mem (s : State) (c : BenchCtx) (a : Nat) (h : MemOk s.mem) :
    MemOk ((State.writeDigests s c a).mem) := by
  unfold State.writeDigests
  repeat' (first | (simp only [State.put_mem, h]; done) | (with_reducible refine foldl_memOk _ _ ?_ _ ?_) | (intro _ _ h))

theorem State.benchReport_mem (s : State) (t : Nat) (c : BenchCtx) (slot : Nat) (mirror : Bool) (st : Nat) (h : MemOk s.mem) :
    MemOk ((State.benchReport s t c slot mirror st).mem) := by
  simp only [State.benchReport, State.report_mem, h]

theorem State.determinismFailure_mem (s : State) (t : Nat) :
    (State.determinismFailure s t).mem = s.mem := by
  simp only [State.determinismFailure, State.safeRec_mem, State.sfmEvent_mem, State.setFld_mem]

theorem State.endDrillMarks_mem (s : State) (t : Nat) :
    (State.endDrillMarks s t).mem = s.mem := by
  simp only [State.endDrillMarks]

theorem State.drillCheck_mem (s : State) (t a fm : Nat) :
    (State.drillCheck s t a fm).mem = s.mem := by
  unfold State.drillCheck
  repeat' (first | (simp only [State.endDrillMarks_mem, State.determinismFailure_mem]; done) | split)

theorem State.atBenchmark_mem (s : State) (t : Nat) (h : MemOk s.mem) :
    MemOk ((State.atBenchmark s t).mem) := by
  have hf (row unit : Nat) : MemOk (((s.jobFailure t row unit 0).trcStop .lantern t).mem) :=
    State.trcStop_mem _ _ _ (State.jobFailure_mem _ _ _ _ _ h)
  unfold State.atBenchmark
  rw [State.quarantineTract_mem]
  repeat' (first | exact h | exact hf _ _ | split)

theorem execBenchmarkDigestDone_mem (t : TractId) (slot : Fin 2) (mirror : Bool) (s : State) (h : MemOk s.mem) :
    MemOk (memOf (execBenchmarkDigestDone t slot mirror s)) := by
  simp (maxDischargeDepth := 20) only [execBenchmarkDigestDone, mem_ite, memOf_ite, ite_self, memOk_ite, done_mem, State.scan_mem, State.put_mem, State.benchReport_mem, State.writeDigests_mem, State.drillCheck_mem, State.atBenchmark_mem, h]

theorem State.drillStart_mem (s : State) (k : Nat) (r c l j : Nat) (h : MemOk s.mem) :
    MemOk ((State.drillStart s k r c l j).mem) := by
  unfold State.drillStart
  dsimp only
  repeat' (first | (simp only [State.setTctl_mem, State.setLink_mem, State.forceFail_mem, State.retestLane_mem, State.trcReset_mem, h]; done) | split)

theorem execDrillStart_mem (k : Fin 5) (r : TractId) (c : CtrlId) (l : LinkId) (j : Fin 17) (t : Nat) (s : State) (h : MemOk s.mem) :
    MemOk (memOf (execDrillStart k r c l j t s)) := by
  simp only [execDrillStart, done_mem, State.at_mem, State.drillStart_mem, h]

theorem State.drillStopNow_mem (s : State) (h : MemOk s.mem) :
    MemOk ((State.drillStopNow s).mem) := by
  unfold State.drillStopNow
  repeat' (first | (simp only [State.report_mem, State.endDrillMarks_mem, h]; done) | (with_reducible refine foldl_memOk _ _ ?_ _ ?_) | (intro _ _ h))

theorem execMcbDrillStopNow_mem (s : State) (h : MemOk s.mem) :
    MemOk (memOf (execMcbDrillStopNow s)) := by
  simp only [execMcbDrillStopNow, memOf_ite, ite_self, memOk_ite, done_mem, State.drillStopNow_mem, h]

theorem State.exportBlock_mem (s : State) (t slot : Nat) (mirror : Bool) (j addr : Nat) (h : MemOk s.mem) :
    MemOk ((State.exportBlock s t slot mirror j addr).2.mem) := by
  simp only [State.exportBlock, mem_ite, snd_ite, ite_self, memOk_ite, State.scan_mem, State.put_mem, h]

/-! ### AttachIn -/

theorem State.attTrain_mem (s : State) :
    (State.attTrain s).mem = s.mem := by
  simp only [State.attTrain, mem_ite, ite_self, State.count_mem, State.attLink_mem]

theorem execAttTrain_mem (s : State) :
    memOf (execAttTrain s) = s.mem := by
  simp only [execAttTrain, ite_self, done_mem, State.lit_mem, State.attTrain_mem]

theorem execAttachTrainingComplete_mem (mask : Fin 256) (s : State) :
    memOf (execAttachTrainingComplete mask s) = s.mem := by
  simp only [execAttachTrainingComplete, memOf_ite, ite_self, done_mem, State.setFld_mem, State.attLink_mem]

theorem execAttachLaneFail_mem (j : Fin 8) (s : State) :
    memOf (execAttachLaneFail j s) = s.mem := by
  simp only [execAttachLaneFail, mem_ite, ite_self, State.setFld_mem, done_mem, State.attLink_mem, State.attTrain_mem]

theorem State.attCountClr_mem (s : State) :
    (State.attCountClr s).mem = s.mem := by
  simp only [State.attCountClr, State.setFlds_mem]

theorem execAttCountClr_mem (s : State) :
    memOf (execAttCountClr s) = s.mem := by
  simp only [execAttCountClr, ite_self, done_mem, State.lit_mem, State.attCountClr_mem]

theorem State.winBase_mem (s : State) (g : Agent) (w v : Nat) :
    (State.winBase s g w v).mem = s.mem := by
  simp only [State.winBase, mem_ite, ite_self, State.setFld_mem, State.regError_mem]

theorem State.winAttr_mem (s : State) (g : Agent) (w v : Nat) :
    (State.winAttr s g w v).mem = s.mem := by
  simp only [State.winAttr, mem_ite, ite_self, State.binvWindow_mem, State.setFlds_mem, State.setFld_mem, State.regError_mem]

theorem execAttWinWrite_mem (w : Fin 16) (base : BitVec 48) (attr : BitVec 14) (s : State) :
    memOf (execAttWinWrite w base attr s) = s.mem := by
  simp only [execAttWinWrite, ite_self, done_mem, State.lit_mem, State.setFld_mem, State.winBase_mem, State.winAttr_mem]

theorem State.attBellError_mem (s : State) :
    (State.attBellError s).mem = s.mem := by
  simp only [State.attBellError, State.raise_mem]

theorem State.cmdTail_mem (s : State) (v : Nat) :
    (State.cmdTail s v).mem = s.mem := by
  simp only [State.cmdTail, mem_ite, ite_self, State.attBellError_mem]

theorem State.rptHead_mem (s : State) (v : Nat) (h : MemOk s.mem) :
    MemOk ((State.rptHead s v).mem) := by
  simp only [State.rptHead, mem_ite, ite_self, memOk_ite, State.attBellError_mem, State.rptFlush_mem, h]

theorem execCommandTailDoorbell_mem (v : Fin 65536) (s : State) :
    memOf (execCommandTailDoorbell v s) = s.mem := by
  simp only [execCommandTailDoorbell, ite_self, done_mem, State.lit_mem, State.cmdTail_mem]

theorem execReportHeadDoorbell_mem (v : Fin 65536) (s : State) (h : MemOk s.mem) :
    MemOk (memOf (execReportHeadDoorbell v s)) := by
  simp only [execReportHeadDoorbell, ite_self, memOk_ite, done_mem, State.lit_mem, State.rptHead_mem, h]

theorem State.cmdEntry_mem {s : State} {b : List Byte} {bad : Bool} {r : State} (e : s.cmdEntry = some (b, bad, r)) : r.mem = s.mem := by
  unfold State.cmdEntry at e
  dsimp only at e
  split at e
  · cases e
    exact State.fetch_mem _ _ _ _
  · contradiction

theorem State.cmdResult_mem (s : State) (tag status : Nat) (h : MemOk s.mem) :
    MemOk ((State.cmdResult s tag status).mem) := by
  simp only [State.cmdResult, State.report_mem, h]

theorem State.cmdPop_mem (s : State) :
    (State.cmdPop s).mem = s.mem := by
  simp only [State.cmdPop]

theorem State.cmdRefuse_mem (n : Nat) (s : State) (h : MemOk s.mem) : MemOk (State.cmdRefuse n s).mem := by
  induction n generalizing s with
  | zero => exact h
  | succ n ih =>
    unfold State.cmdRefuse
    split
    · exact h
    · next e =>
      rw [← State.cmdEntry_mem e] at h
      split
      · refine ih _ (State.cmdResult_mem _ _ _ ?_)
        rw [State.cmdPop_mem]; exact h
      · split
        · refine ih _ (State.cmdResult_mem _ _ _ ?_)
          rw [State.cmdPop_mem]; exact h
        · rw [← State.cmdEntry_mem e]; exact h

theorem State.attCommand_mem (s : State) (op : Nat) (act : List Byte → State → Nat × State)
    (ha : ∀ b s, MemOk s.mem → MemOk (act b s).2.mem) (h : MemOk s.mem) : MemOk ((s.attCommand op act).mem) := by
  unfold State.attCommand
  have h1 := State.cmdRefuse_mem (s.att.cmdTail - s.att.cmdHead) s h
  dsimp only
  split
  · exact h1
  · next e =>
    split
    · refine State.cmdResult_mem _ _ _ (ha _ _ ?_)
      rw [State.cmdPop_mem, State.cmdEntry_mem e]; exact h1
    · exact h1

theorem execStartJob_mem (t : Nat) (s : State) (h : MemOk s.mem) :
    MemOk (memOf (execStartJob t s)) := by
  unfold execStartJob
  repeat' (first | (simp only [done_mem, State.at_mem, State.fetch_mem, State.startAtRoot_mem, h]; done) | (intro _ _ h) | with_reducible apply State.attCommand_mem | split | (simp only [done_mem, State.at_mem, State.fetch_mem]))

theorem execAbortJob_mem (t : Nat) (s : State) (h : MemOk s.mem) :
    MemOk (memOf (execAbortJob t s)) := by
  unfold execAbortJob
  repeat' (first | (simp only [done_mem, State.lit_mem, State.at_mem, State.abortAtRoot_mem, h]; done) | (intro _ _ h) | with_reducible apply State.attCommand_mem | split | (simp only [done_mem, State.lit_mem, State.at_mem]))

theorem execDrillWindow_mem (s : State) (h : MemOk s.mem) :
    MemOk (memOf (execDrillWindow s)) := by
  unfold execDrillWindow
  repeat' (first | (with_reducible assumption) | (intro _ _ h) | with_reducible apply State.attCommand_mem | split | (simp only [done_mem]))

theorem execExportBlock_mem (s : State) (h : MemOk s.mem) :
    MemOk (memOf (execExportBlock s)) := by
  unfold execExportBlock
  repeat' (first | (simp only [done_mem, State.exportBlock_mem, h]; done) | (intro _ _ h) | with_reducible apply State.attCommand_mem | split | (simp only [done_mem]))

theorem execLinkPass_mem (s : State) (h : MemOk s.mem) :
    MemOk (memOf (execLinkPass s)) := by
  unfold execLinkPass
  repeat' (first | (with_reducible assumption) | (intro _ _ h) | with_reducible apply State.attCommand_mem | split | (simp only [done_mem, State.setFlds_mem, State.passOwner_mem]))

theorem execEasement_mem (s : State) (h : MemOk s.mem) :
    MemOk (memOf (execEasement s)) := by
  unfold execEasement
  repeat' (first | (with_reducible assumption) | (intro _ _ h) | with_reducible apply State.attCommand_mem | split | (simp only [done_mem, State.easeWrite_mem]))

/-! ### Start -/

theorem State.moduleReset_mem (s : State) (kind : Nat) :
    (State.moduleReset s kind).mem = s.mem := by
  simp only [State.moduleReset, mem_ite, ite_self, foldl_mem, implies_true, State.setFld_mem, State.count_mem, State.flushedSignals_mem, State.setFlds_mem]

theorem State.showCap_mem (s : State) :
    (State.showCap s).mem = s.mem := by
  simp only [State.showCap, State.setFld_mem]

theorem State.beginStart_mem (s : State) (kind : Nat) :
    (State.beginStart s kind).mem = s.mem := by
  simp only [State.beginStart, State.moduleReset_mem, State.showCap_mem]

theorem State.bootStep_mem (s : State) (n : Nat) :
    (State.bootStep s n).mem = s.mem := by
  simp only [State.bootStep]

theorem State.railsUp_mem (s : State) :
    (State.railsUp s).mem = s.mem := by
  simp only [State.railsUp, mem_ite, ite_self, foldl_mem, implies_true, State.setFld_mem, State.startClock_mem]

theorem State.newChallenge_mem (s : State) :
    (State.newChallenge s).mem = s.mem := by
  simp only [State.newChallenge, State.freeBytes_mem]

theorem State.deriveKey_mem (s : State) (h : MemOk s.mem) :
    MemOk ((State.deriveKey s).mem) := by
  simp only [State.deriveKey, State.setFlds_mem, State.zeroRange_mem, State.newChallenge_mem, h]

theorem State.recoveryBoot_mem (s : State) (reason : Nat) :
    (State.recoveryBoot s reason).mem = s.mem := by
  simp only [State.recoveryBoot, mem_ite, ite_self, foldl_mem, implies_true, State.haltClock_mem, State.setFlds_mem, State.raise_mem, State.attLink_mem]

theorem State.applyRecord_mem (s : State) :
    (State.applyRecord s).mem = s.mem := by
  simp only [State.applyRecord, mem_ite, ite_self, foldl_mem, implies_true, State.setFlds_mem, State.setFld_mem, State.raise_mem, State.setEntry_mem]

theorem State.trainCold_mem (s : State) (dimms : List (Nat × Nat)) (h : MemOk s.mem) :
    MemOk ((State.trainCold s dimms).mem) := by
  simp only [State.trainCold, mem_ite, ite_self, foldl_mem, implies_true, State.zeroRange_mem, State.setFlds_mem, State.setXx_mem, h]

theorem State.trainWarm_mem (s : State) :
    (State.trainWarm s).mem = s.mem := by
  simp only [State.trainWarm, mem_ite, ite_self, foldl_mem, implies_true, State.setXx_mem]

theorem State.startFail_mem (s : State) (p : Nat) :
    (State.startFail s p).mem = s.mem := by
  simp only [State.startFail, foldl_mem, implies_true, State.draw_mem, State.count_mem, State.parcelError_mem, State.markQuarantine_mem]

theorem State.startTests_mem (s : State) (failed : List Nat) (h : MemOk s.mem) :
    MemOk ((State.startTests s failed).mem) := by
  simp only [State.startTests, mem_ite, ite_self, foldl_mem, implies_true, State.zeroRange_mem, State.count_mem, State.startFail_mem, State.quarantine_mem, h]

theorem State.trainLinks_mem (s : State) :
    (State.trainLinks s).mem = s.mem := by
  simp only [State.trainLinks, foldl_mem, implies_true, State.trainLink_mem]

theorem State.startEnd_mem (s : State) (h : MemOk s.mem) :
    MemOk ((State.startEnd s).mem) := by
  simp only [State.startEnd, mem_ite, ite_self, memOk_ite, State.setFlds_mem, State.raise_mem, State.fitClocks_mem, State.report_mem, h]

theorem State.coldStep_mem (s : State) (dimms : List (Nat × Nat)) (failed : List Nat) (h : MemOk s.mem) :
    MemOk ((State.coldStep s dimms failed).mem) := by
  unfold State.coldStep
  repeat' (first | (simp only [mem_ite, ite_self, State.setFlds_mem, State.beginStart_mem, State.bootStep_mem, State.railsUp_mem, State.deriveKey_mem, State.recoveryBoot_mem, State.trainCold_mem, State.applyRecord_mem, State.keepMarks_mem, State.startTests_mem, State.trainLinks_mem, State.startEnd_mem, h]; done) | split)

theorem State.warmStep_mem (s : State) (failed : List Nat) (h : MemOk s.mem) :
    MemOk ((State.warmStep s failed).mem) := by
  unfold State.warmStep
  repeat' (first | (simp only [State.railsUp_mem, State.zeroRange_mem, State.bootStep_mem, State.recoveryBoot_mem, State.trainWarm_mem, State.applyRecord_mem, State.startTests_mem, State.trainLinks_mem, State.startEnd_mem, h]; done) | split)

theorem execStartSequenceStepDone_mem (t : Nat) (dimms : List (Nat × Nat)) (failed : List ParcelId) (s : State) (h : MemOk s.mem) :
    MemOk (memOf (execStartSequenceStepDone t dimms failed s)) := by
  simp only [execStartSequenceStepDone, mem_ite, ite_self, memOk_ite, State.at_mem, done_mem, State.coldStep_mem, State.warmStep_mem, h]

theorem execColdStartPowerOn_mem (mv away : Nat) (s : State) (h : MemOk s.mem) : MemOk (memOf (execColdStartPowerOn mv away s)) := by
  unfold execColdStartPowerOn
  split
  · exact h
  · exact filter_memOk _ _ h

theorem State.coldStart_mem (s : State) :
    (State.coldStart s).mem = s.mem := by
  simp only [State.coldStart, mem_ite, ite_self, State.beginStart_mem, State.bootStep_mem]

theorem execMcbCold_mem (s : State) :
    memOf (execMcbCold s) = s.mem := by
  simp only [execMcbCold, ite_self, done_mem, State.lit_mem, State.coldStart_mem]

theorem State.warmStart_mem (s : State) (g : Agent) :
    (State.warmStart s g).mem = s.mem := by
  simp only [State.warmStart, mem_ite, ite_self, State.beginStart_mem, State.regError_mem]

theorem execMcbWarm_mem (s : State) :
    memOf (execMcbWarm s) = s.mem := by
  simp only [execMcbWarm, ite_self, done_mem, State.lit_mem, State.warmStart_mem]

/-! ### DebugCtl -/

theorem State.dbgError_mem (s : State) (reason addr : Nat) :
    (State.dbgError s reason addr).mem = s.mem := by
  simp only [State.dbgError, State.setFlds_mem, State.count_mem, State.raise_mem]

theorem State.dbgAct_mem (s : State) (state : Nat → Bool) (act : State → Nat → State)
    (ha : ∀ s p, MemOk s.mem → MemOk (act s p).mem) (h : MemOk s.mem) : MemOk ((s.dbgAct state act).mem) := by
  unfold State.dbgAct
  dsimp only
  split
  · rw [State.dbgError_mem]; exact h
  · split
    · rw [State.dbgError_mem]; exact h
    · exact foldl_memOk _ _ ha _ h

theorem State.haltParcel_mem (s : State) (p : Nat) :
    (State.haltParcel s p).mem = s.mem := by
  simp only [State.haltParcel, mem_ite, ite_self, State.setPar_mem, State.haltNow_mem]

theorem State.dbgHalt_mem (s : State) (h : MemOk s.mem) :
    MemOk ((State.dbgHalt s).mem) := by
  unfold State.dbgHalt
  repeat' (first | (simp only [State.dbgAct_mem, State.haltParcel_mem, h]; done) | (intro _ _ h) | with_reducible apply State.dbgAct_mem)

theorem State.resumeParcel_mem (s : State) (step : Bool) (p : Nat) :
    (State.resumeParcel s step p).mem = s.mem := by
  simp only [State.resumeParcel, State.setPar_mem, State.setPstate_mem, State.setFlds_mem, State.active_mem]

theorem State.dbgResume_mem (s : State) (h : MemOk s.mem) :
    MemOk ((State.dbgResume s).mem) := by
  unfold State.dbgResume
  repeat' (first | (simp only [State.resumeParcel_mem, h]; done) | (intro _ _ h) | with_reducible apply State.dbgAct_mem)

theorem State.dbgStep_mem (s : State) (h : MemOk s.mem) :
    MemOk ((State.dbgStep s).mem) := by
  unfold State.dbgStep
  repeat' (first | (simp only [State.resumeParcel_mem, h]; done) | (intro _ _ h) | with_reducible apply State.dbgAct_mem)

theorem execDbgHalt_mem (s : State) (h : MemOk s.mem) :
    MemOk (memOf (execDbgHalt s)) := by
  simp only [execDbgHalt, memOf_ite, ite_self, memOk_ite, done_mem, State.dbgHalt_mem, h]

theorem execDbgResume_mem (s : State) (h : MemOk s.mem) :
    MemOk (memOf (execDbgResume s)) := by
  simp only [execDbgResume, memOf_ite, ite_self, memOk_ite, done_mem, State.dbgResume_mem, h]

theorem execDbgStep_mem (s : State) (h : MemOk s.mem) :
    MemOk (memOf (execDbgStep s)) := by
  simp only [execDbgStep, ite_self, memOk_ite, done_mem, State.lit_mem, State.dbgStep_mem, h]

theorem State.endToken_mem (s : State) :
    (State.endToken s).mem = s.mem := by
  simp only [State.endToken, mem_ite, ite_self, State.setFlds_mem, State.raise_mem]

theorem execDbgLock_mem (s : State) :
    memOf (execDbgLock s) = s.mem := by
  simp only [execDbgLock, ite_self, done_mem, State.lit_mem, State.endToken_mem]

theorem execTokenExpiry_mem (t : Nat) (s : State) :
    memOf (execTokenExpiry t s) = s.mem := by
  simp only [execTokenExpiry, mem_ite, ite_self, State.at_mem, done_mem, State.endToken_mem]

theorem State.offerToken_mem (s : State) (b : List Byte) :
    (State.offerToken s b).mem = s.mem := by
  simp only [State.offerToken, mem_ite, ite_self, State.setFlds_mem, State.raise_mem, State.newChallenge_mem]

theorem State.dbgBeacon_mem (s : State) (b n : Nat) :
    (State.dbgBeacon s b n).mem = s.mem := by
  simp only [State.dbgBeacon, mem_ite, ite_self, State.setBeacon_mem, State.runRelease_mem, State.dbgError_mem]

theorem execDbgBeaconSet_mem (b : Fin 32768) (n : Fin 65536) (s : State) :
    memOf (execDbgBeaconSet b n s) = s.mem := by
  simp only [execDbgBeaconSet, ite_self, done_mem, State.lit_mem, State.setFld_mem, State.dbgBeacon_mem]

/-! ### Firmware -/

theorem State.adopt_mem (s : State) :
    (State.adopt s).mem = s.mem := by
  simp only [State.adopt, mem_ite, ite_self, State.setFld_mem, State.raise_mem, State.setFlds_mem]

theorem execMcbAdopt_mem (sect : List Byte) (s : State) :
    memOf (execMcbAdopt sect s) = s.mem := by
  simp only [execMcbAdopt, memOf_ite, ite_self, done_mem, State.adopt_mem]

theorem State.fwStage_mem (s : State) (g : Agent) :
    (State.fwStage s g).mem = s.mem := by
  simp only [State.fwStage, mem_ite, ite_self, State.setFld_mem, State.regError_mem]

theorem execMcbFwStage_mem (s : State) :
    memOf (execMcbFwStage s) = s.mem := by
  simp only [execMcbFwStage, ite_self, done_mem, State.lit_mem, State.fwStage_mem]

theorem State.suspendKick_mem (s : State) (c : Nat) (h : MemOk s.mem) :
    MemOk ((State.suspendKick s c).mem) := by
  unfold State.suspendKick
  dsimp only
  repeat' ((with_reducible assumption))

theorem State.handoverStep_mem (s : State) (n : Nat) :
    (State.handoverStep s n).mem = s.mem := by
  simp only [State.handoverStep]

theorem State.handoverStage_mem (s : State) (ok : Bool) (h : MemOk s.mem) :
    MemOk ((State.handoverStage s ok).mem) := by
  unfold State.handoverStage
  repeat' (first | (simp only [State.zeroRange_mem, State.wrBytes_mem, State.handoverStep_mem, State.abandonHandover_mem, State.suspendKick_mem, State.setFlds_mem, State.raise_mem, State.freeLoads_mem, h]; done) | (with_reducible refine foldl_memOk _ _ ?_ _ ?_) | (intro _ _ h) | split | (simp only [State.handoverStep_mem, State.setFlds_mem, State.raise_mem]))

theorem execFwHandoverStageDone_mem (t : Nat) (ok : Bool) (s : State) (h : MemOk s.mem) :
    MemOk (memOf (execFwHandoverStageDone t ok s)) := by
  simp only [execFwHandoverStageDone, ite_self, memOk_ite, done_mem, State.lit_mem, State.at_mem, State.handoverStage_mem, h]

theorem State.recoveryWrite_mem (s : State) (w : Nat × List Byte) :
    (State.recoveryWrite s w).mem = s.mem := by
  simp only [State.recoveryWrite, mem_ite, ite_self]

theorem State.recoveryGo_mem (s : State) (writes : List (Nat × List Byte)) (h : MemOk s.mem) :
    MemOk ((State.recoveryGo s writes).mem) := by
  simp only [State.recoveryGo, mem_ite, ite_self, foldl_mem, memOk_ite, implies_true, State.recoveryWrite_mem, State.zeroRange_mem, h]

theorem execMcbRecoveryGo_mem (writes : List (Nat × List Byte)) (s : State) (h : MemOk s.mem) :
    MemOk (memOf (execMcbRecoveryGo writes s)) := by
  simp only [execMcbRecoveryGo, ite_self, memOk_ite, done_mem, State.lit_mem, State.recoveryGo_mem, h]

theorem State.retest_mem (s : State) (g : Agent) :
    (State.retest s g).mem = s.mem := by
  simp only [State.retest, mem_ite, ite_self, State.regError_mem]

theorem execMcbRetest_mem (s : State) :
    memOf (execMcbRetest s) = s.mem := by
  simp only [execMcbRetest, ite_self, done_mem, State.lit_mem, State.retest_mem]

theorem execMcbQMark_mem (s : State) :
    memOf (execMcbQMark s) = s.mem := by
  simp only [execMcbQMark, ite_self, done_mem, State.lit_mem, State.markQuarantine_mem]

/-! ### Mgmt -/

theorem State.mgmtBlock_mem (s : State) (b : List Byte) :
    (State.mgmtBlock s b).mem = s.mem := by
  simp only [State.mgmtBlock]

theorem State.mgmtResult_mem (s : State) (v : Nat) :
    (State.mgmtResult s v).mem = s.mem := by
  simp only [State.mgmtResult]

theorem State.mgmtWrite_mem (s : State) (pec ok rails : Bool) (act : State → State)
    (ha : ∀ s, MemOk s.mem → MemOk (act s).mem) (h : MemOk s.mem) : MemOk ((s.mgmtWrite pec ok rails act).mem) := by
  unfold State.mgmtWrite
  split
  · rw [State.mgmtResult_mem]; exact h
  · split
    · rw [State.mgmtResult_mem]; exact h
    · split
      · rw [State.mgmtResult_mem]; exact h
      · rw [State.mgmtResult_mem]; exact ha _ h

theorem State.attRequest_mem (s : State) (q : AttReq) :
    (State.attRequest s q).mem = s.mem := by
  simp only [State.attRequest]

theorem execAttestationSigned_mem (t : Nat) (s : State) (h : MemOk s.mem) :
    MemOk (memOf (execAttestationSigned t s)) := by
  unfold execAttestationSigned
  repeat' (first | (simp only [done_mem, State.at_mem, State.setFld_mem, State.put_mem, h]; done) | split | (simp only [done_mem, State.at_mem, State.setFld_mem]))

theorem State.idnAttReq_mem (s : State) (g : Agent) :
    (State.idnAttReq s g).mem = s.mem := by
  simp only [State.idnAttReq, mem_ite, ite_self, State.regError_mem, State.setFld_mem, State.attRequest_mem]

theorem execIdnAttReq_mem (s : State) :
    memOf (execIdnAttReq s) = s.mem := by
  simp only [execIdnAttReq, ite_self, done_mem, State.lit_mem, State.idnAttReq_mem]

theorem execIdentity_mem (s : State) :
    memOf (execIdentity s) = s.mem := by
  simp only [execIdentity, done_mem, State.mgmtBlock_mem]

theorem execStatus_mem (s : State) :
    memOf (execStatus s) = s.mem := by
  simp only [execStatus, done_mem, State.mgmtBlock_mem]

theorem execLastResult_mem (s : State) :
    memOf (execLastResult s) = s.mem := by
  simp only [execLastResult, done_mem, State.mgmtBlock_mem]

theorem State.setCoord_mem (s : State) (b : List Byte) :
    (State.setCoord s b).mem = s.mem := by
  simp only [State.setCoord, State.setFlds_mem]

theorem execSetCoord_mem (b : List Byte) (pec : Bool) (s : State) (h : MemOk s.mem) :
    MemOk (memOf (execSetCoord b pec s)) := by
  unfold execSetCoord
  repeat' (first | (with_reducible assumption) | (intro _ h) | with_reducible apply State.mgmtWrite_mem | (simp only [done_mem, State.setCoord_mem]))

theorem execGetCoord_mem (s : State) :
    memOf (execGetCoord s) = s.mem := by
  simp only [execGetCoord, done_mem, State.mgmtBlock_mem]

theorem execPowerCap_mem (w : BitVec 16) (pec : Bool) (s : State) (h : MemOk s.mem) :
    MemOk (memOf (execPowerCap w pec s)) := by
  unfold execPowerCap
  repeat' (first | (with_reducible assumption) | (intro _ h) | with_reducible apply State.mgmtWrite_mem | (simp only [done_mem, State.setFld_mem, State.showCap_mem]))

theorem execPowerRead_mem (s : State) :
    memOf (execPowerRead s) = s.mem := by
  simp only [execPowerRead, done_mem, State.mgmtBlock_mem]

theorem execAttestNonce_mem (nonce : List Byte) (pec : Bool) (s : State) (h : MemOk s.mem) :
    MemOk (memOf (execAttestNonce nonce pec s)) := by
  unfold execAttestNonce
  repeat' (first | (with_reducible assumption) | (intro _ h) | with_reducible apply State.mgmtWrite_mem | (simp only [done_mem, State.attRequest_mem]))

theorem execAttestRead_mem (off : BitVec 16) (s : State) :
    memOf (execAttestRead off s) = s.mem := by
  simp only [execAttestRead, done_mem, State.mgmtBlock_mem]

theorem execWarmStart_mem (pec : Bool) (s : State) :
    memOf (execWarmStart pec s) = s.mem := by
  simp only [execWarmStart, memOf_ite, ite_self, done_mem, State.warmStart_mem, State.mgmtResult_mem]

theorem execColdStart_mem (pec : Bool) (s : State) (h : MemOk s.mem) :
    MemOk (memOf (execColdStart pec s)) := by
  unfold execColdStart
  repeat' (first | (with_reducible assumption) | (intro _ h) | with_reducible apply State.mgmtWrite_mem | (simp only [done_mem, State.coldStart_mem]))

theorem State.enterStandby_mem (s : State) :
    (State.enterStandby s).mem = s.mem := by
  simp only [State.enterStandby, mem_ite, ite_self, foldl_mem, implies_true, State.haltClock_mem, State.setFlds_mem, State.selfRefreshAll_mem, State.attLink_mem]

theorem execStandby_mem (pec : Bool) (s : State) (h : MemOk s.mem) :
    MemOk (memOf (execStandby pec s)) := by
  unfold execStandby
  repeat' (first | (with_reducible assumption) | (intro _ h) | with_reducible apply State.mgmtWrite_mem | (simp only [done_mem, State.enterStandby_mem]))

theorem execSafetyLog_mem (i : BitVec 16) (s : State) :
    memOf (execSafetyLog i s) = s.mem := by
  simp only [execSafetyLog, done_mem, State.mgmtBlock_mem]

theorem execAlertResponse_mem (slot : Fin 8) (s : State) :
    memOf (execAlertResponse slot s) = s.mem := by
  simp only [execAlertResponse, memOf_ite, ite_self, done_mem, State.mgmtBlock_mem]

theorem State.pwrCapW_mem (s : State) (g : Agent) (v : Nat) :
    (State.pwrCapW s g v).mem = s.mem := by
  simp only [State.pwrCapW, mem_ite, ite_self, State.setFld_mem, State.showCap_mem, State.regError_mem]

theorem execPwrCapW_mem (v : BitVec 16) (s : State) :
    memOf (execPwrCapW v s) = s.mem := by
  simp only [execPwrCapW, ite_self, done_mem, State.lit_mem, State.pwrCapW_mem]

theorem State.setStretch_mem (s : State) (n : Nat) :
    (State.setStretch s n).mem = s.mem := by
  simp only [State.setStretch, mem_ite, ite_self, foldl_mem, implies_true, State.setFld_mem, State.raise_mem, State.takeStretch_mem]

theorem execPowerAverageUpdate_mem (avg t : Nat) (s : State) :
    memOf (execPowerAverageUpdate avg t s) = s.mem := by
  simp only [execPowerAverageUpdate, mem_ite, memOf_ite, ite_self, State.at_mem, State.setFlds_mem, done_mem, State.count_mem, State.raise_mem, State.setStretch_mem]

/-! ### MemTemp -/

theorem execMemoryTempRead_mem (c : CtrlId) (t : Fin 256) (s : State) :
    memOf (execMemoryTempRead c t s) = s.mem := by
  simp only [execMemoryTempRead, mem_ite, memOf_ite, ite_self, State.setFlds_mem, State.raise_mem, State.setFld_mem, done_mem, State.goDark_mem]

end Sys2Proof.Machine
end

