-- ==== Sys2Proof/Laws/MemAccess.lean ====
section
/-!
SUPPORT. What the definitions of register and outside accesses, the attach and the debug port do to the memory of the module: nothing, or a
change that keeps it canonical. One lemma for each, which the next ones cite.
-/
set_option linter.unusedSimpArgs false

namespace Sys2Proof.Machine

/-! ### RegAccess -/

theorem foldl_thd_memOk {α β γ : Type} (l : List α) (g : β × γ × State → α → β × γ × State)
    (h : ∀ x a, MemOk x.2.2.mem → MemOk (g x a).2.2.mem)
    (x : β × γ × State) (hx : MemOk x.2.2.mem) : MemOk (l.foldl g x).2.2.mem := by
  induction l generalizing x with
  | nil => exact hx
  | cons a l ih => exact ih _ (h _ _ hx)

theorem State.regLoad_mem (s : State) (g : Agent) (b : Blk) (u off : Nat) :
    (State.regLoad s g b u off).mem = s.mem := by
  unfold State.regLoad
  repeat' (first | (simp only [mem_ite, ite_self, State.settle_mem, State.noData_mem, State.codeData_mem, State.descData_mem, State.calData_mem, State.clkNsRead_mem, State.cadRead_mem, State.logRead_mem]; done) | split)

theorem State.storeField_mem (s : State) (u v : Nat) (f : Fld) :
    (State.storeField s u v f).1.mem = s.mem := by
  unfold State.storeField
  repeat' (first | (simp only [mem_ite, fst_ite, ite_self, State.setFld_mem]; done) | split)

theorem State.storeFields_mem (s : State) (g : Agent) (addr u v : Nat) (l : List Fld) : (s.storeFields g addr u v l).mem = s.mem := by
  unfold State.storeFields
  have hf := foldl_fst_mem l (fun (acc : State × Bool) f => ((acc.1.storeField u v f).1, acc.2 || (acc.1.storeField u v f).2))
    (fun x f => State.storeField_mem _ _ _ _) (s, false)
  dsimp only
  split
  · rw [State.regError_mem]; exact hf
  · exact hf

theorem State.when_mem (s : State) (c : Bool) (act : State → State)
    (ha : ∀ s, MemOk s.mem → MemOk (act s).mem) (h : MemOk s.mem) : MemOk ((s.when c act).mem) := by
  unfold State.when
  split
  · exact ha _ h
  · exact h

theorem State.pctCommands_mem (s : State) (g : Agent) (p off v : Nat) (h : MemOk s.mem) :
    MemOk ((State.pctCommands s g p off v).mem) := by
  unfold State.pctCommands
  repeat' (first | (with_reducible assumption) | (intro _ h) | with_reducible apply State.when_mem | split | (simp only [State.pctStart_mem, State.pctStop_mem, State.pctStopNow_mem, State.taperReset_mem, State.codeData_mem, State.descData_mem, State.paramWrite_mem]))

theorem State.xxCommands_mem (s : State) (g : Agent) (c off v : Nat) (h : MemOk s.mem) :
    MemOk ((State.xxCommands s g c off v).mem) := by
  unfold State.xxCommands
  repeat' (first | (simp only [State.xxRetire_mem, State.setTctl_mem, State.xxCountClr_mem, State.calData_mem, State.xxTrainReq_mem, h]; done) | (intro _ h) | with_reducible apply State.when_mem | split)

theorem State.trcCommands_mem (s : State) (g : Agent) (t off v : Nat) (h : MemOk s.mem) :
    MemOk ((State.trcCommands s g t off v).mem) := by
  unfold State.trcCommands
  repeat' (first | (simp only [State.trcLoad_mem, State.trcStart_mem, State.trcStop_mem, State.trcStopNow_mem, State.trcReset_mem, State.trcCountClr_mem, h]; done) | (intro _ h) | with_reducible apply State.when_mem | split)

theorem State.lnkCommands_mem (s : State) (g : Agent) (k off v : Nat) (h : MemOk s.mem) :
    MemOk ((State.lnkCommands s g k off v).mem) := by
  unfold State.lnkCommands
  repeat' (first | (with_reducible assumption) | (intro _ h) | with_reducible apply State.when_mem | split | (simp only [State.trainLink_mem, State.rollEn_mem, State.rollNow_mem, State.rollStopNow_mem, State.downLink_mem, State.forceFail_mem, State.retestLane_mem, State.lnkCountClr_mem, State.laneOvr_mem, State.setLink_mem, State.passOwner_mem, State.releaseStuck_mem, State.easeWrite_mem, State.setFld_mem]))

theorem State.srvCmdWrite_mem (s : State) (g : Agent) (v : Nat) (h : MemOk s.mem) :
    MemOk ((State.srvCmdWrite s g v).mem) := by
  unfold State.srvCmdWrite
  repeat' (first | (simp only [State.openRing_mem, State.closeRing_mem, State.openAccount_mem, State.closeAccount_mem, State.setAccount_mem, State.regError_mem, h]; done) | split)

theorem State.srvCommands_mem (s : State) (g : Agent) (off v : Nat) (h : MemOk s.mem) :
    MemOk ((State.srvCommands s g off v).mem) := by
  unfold State.srvCommands
  repeat' (first | (simp only [State.srvEn_mem, State.srvStop_mem, State.srvCmdWrite_mem, State.headBell_mem, State.tailBell_mem, h]; done) | (intro _ h) | with_reducible apply State.when_mem | split)

theorem State.attCommands_mem (s : State) (g : Agent) (off v : Nat) (h : MemOk s.mem) :
    MemOk ((State.attCommands s g off v).mem) := by
  unfold State.attCommands
  repeat' (first | (simp only [State.attTrain_mem, State.attCountClr_mem, State.winBase_mem, State.winAttr_mem, State.rptHead_mem, State.cmdTail_mem, h]; done) | (intro _ h) | with_reducible apply State.when_mem | split)

theorem State.mcbCommands_mem (s : State) (g : Agent) (off v : Nat) (h : MemOk s.mem) :
    MemOk ((State.mcbCommands s g off v).mem) := by
  unfold State.mcbCommands
  repeat' (first | (simp only [State.coldStart_mem, State.warmStart_mem, State.adopt_mem, State.fwStage_mem, State.recoveryGo_mem, State.retest_mem, State.markQuarantine_mem, State.drillStopNow_mem, h]; done) | (intro _ h) | with_reducible apply State.when_mem | split)

theorem State.sfmCommands_mem (s : State) (off v : Nat) (h : MemOk s.mem) :
    MemOk ((State.sfmCommands s off v).mem) := by
  unfold State.sfmCommands
  repeat' (first | (simp only [State.goDark_mem, State.lwdtKick_mem, h]; done) | (intro _ h) | with_reducible apply State.when_mem | with_reducible apply State.tractsDarkNow_mem | split)

theorem State.dbgCommands_mem (s : State) (off v : Nat) (h : MemOk s.mem) :
    MemOk ((State.dbgCommands s off v).mem) := by
  unfold State.dbgCommands
  repeat' (first | (simp only [State.dbgHalt_mem, State.dbgResume_mem, State.dbgStep_mem, State.endToken_mem, State.dbgBeacon_mem, h]; done) | (intro _ h) | with_reducible apply State.when_mem | split)

theorem State.regCommands_mem (s : State) (g : Agent) (b : Blk) (u off v : Nat) (h : MemOk s.mem) :
    MemOk ((State.regCommands s g b u off v).mem) := by
  unfold State.regCommands
  repeat' (first | (simp only [State.pctCommands_mem, State.xxCommands_mem, State.trcCommands_mem, State.lnkCommands_mem, State.srvCommands_mem, State.attCommands_mem, State.mcbCommands_mem, State.sfmCommands_mem, State.dbgCommands_mem, State.clkSetNs_mem, State.discWritten_mem, State.pwrCapW_mem, State.idnAttReq_mem, h]; done) | (intro _ h) | with_reducible apply State.when_mem | split | (simp only [State.clkSetNs_mem, State.discWritten_mem, State.pwrCapW_mem, State.idnAttReq_mem]))

theorem State.regStore_mem (s : State) (g : Agent) (addr : Nat) (b : Blk) (u off v : Nat) (h : MemOk s.mem) :
    MemOk ((State.regStore s g addr b u off v).mem) := by
  unfold State.regStore
  repeat' (first | (simp only [State.regError_mem, State.storeFields_mem, State.nextMode_mem, h]; done) | (intro _ h) | with_reducible apply State.nextMode_mem | with_reducible apply State.regCommands_mem | split)

/-! ### Access -/

theorem State.readReg_mem (s : State) (g : Agent) (a : Nat) :
    (State.readReg s g a).2.mem = s.mem := by
  unfold State.readReg
  repeat' (first | (simp only [State.regLoad_mem, State.addrError_mem]; done) | split)

theorem State.writeReg_mem (s : State) (g : Agent) (a v : Nat) (h : MemOk s.mem) :
    MemOk ((State.writeReg s g a v).2.mem) := by
  unfold State.writeReg
  repeat' (first | (simp only [State.regStore_mem, State.addrError_mem, h]; done) | split)

theorem State.readRegs_mem (s : State) (g : Agent) (a n : Nat) (h : MemOk s.mem) : MemOk (s.readRegs g a n).2.2.mem := by
  unfold State.readRegs
  split
  · simp only [State.readReg_mem, h]
  · split
    · exact foldl_thd_memOk _ _ (fun x i h => by simp only [State.readReg_mem, h]) _ h
    · simp only [State.regError_mem, h]

theorem State.writeRegs_mem (s : State) (g : Agent) (a : Nat) (bs : List Byte) (h : MemOk s.mem) :
    MemOk ((State.writeRegs s g a bs).2.mem) := by
  simp only [State.writeRegs, mem_ite, snd_ite, ite_self, memOk_ite, State.writeReg_mem, State.regError_mem, h]

theorem State.attRefuse_mem (s : State) (reason addr : Nat) :
    (State.attRefuse s reason addr).mem = s.mem := by
  simp only [State.attRefuse, State.setFlds_mem, State.count_mem, State.raise_mem]

theorem State.admits_mem {s : State} {g : Agent} {a n : Nat} {wr : Bool} {t : State} (e : s.admits g a n wr = some t) (h : MemOk s.mem) :
    MemOk t.mem := by
  unfold State.admits at e
  cases g <;> dsimp only at e
  all_goals try contradiction
  all_goals
    split at e
    · contradiction
    · cases e
      first
        | exact h
        | (rw [State.dbgError_mem]; exact h)
        | (rw [State.attRefuse_mem]; exact h)

theorem State.noteStatus_mem (s : State) (g : Agent) (a st : Nat) :
    (State.noteStatus s g a st).mem = s.mem := by
  unfold State.noteStatus
  repeat' (first | (simp only [State.attRefuse_mem, State.dbgError_mem, State.serveFault_mem]; done) | split)

theorem State.result_mem (s : State) (bs : List Byte) :
    (State.result s bs).mem = s.mem := by
  simp only [State.result]

theorem State.perform_mem (s : State) (g : Agent) (a n : Nat) (wr : Option (List Byte)) (h : MemOk s.mem) :
    MemOk (s.perform g a n wr).2.mem := by
  unfold State.perform
  split
  · split
    · dsimp only; rw [State.result_mem]; exact State.readRegs_mem _ _ _ _ h
    · exact State.writeRegs_mem _ _ _ _ h
  · split
    · dsimp only; rw [State.result_mem, State.fetch_mem]; exact h
    · split
      · exact State.writeMem_mem _ _ _ _ h
      · dsimp only; rw [State.addrError_mem]; exact h

theorem State.access_mem (s : State) (g : Agent) (a n : Nat) (wr : Option (List Byte)) (h : MemOk s.mem) :
    MemOk (s.access g a n wr).2.mem := by
  unfold State.access
  split
  · have h1 := State.admits_mem (by assumption) h
    dsimp only
    split
    · rw [State.result_mem]; exact h1
    · exact h1
  · dsimp only
    rw [State.noteStatus_mem]
    exact State.perform_mem _ _ _ _ _ h

theorem State.apertureRead_mem (s : State) (a n : Nat) :
    (State.apertureRead s a n).mem = s.mem := by
  simp only [State.apertureRead, foldl_mem, implies_true, State.attSend_mem]

theorem execOutsideAgentAccess_mem (g : Agent) (addr len : Nat) (wr : Option (List Byte)) (s : State) (h : MemOk s.mem) :
    MemOk (memOf (execOutsideAgentAccess g addr len wr s)) := by
  unfold execOutsideAgentAccess
  split
  · exact h
  · cases wr <;> dsimp only
    all_goals
      split
      · exact h
      · split
        · rw [memOf_done, State.apertureRead_mem]; exact h
        · exact State.access_mem _ _ _ _ _ h

theorem execRegisterWrite_mem (g : Agent) (addr size : Nat) (v : BitVec 64) (s : State) (h : MemOk s.mem) :
    MemOk (memOf (execRegisterWrite g addr size v s)) := by
  unfold execRegisterWrite
  split
  · exact h
  · split
    · exact State.access_mem _ _ _ _ _ h
    · exact h

/-! ### AttachMsg -/

theorem State.creditBack_mem (s : State) (credit : Nat) :
    (State.creditBack s credit).mem = s.mem := by
  simp only [State.creditBack, State.attFlush_mem]

theorem State.freeVc_mem (s : State) (v : Nat) :
    (State.freeVc s v).mem = s.mem := by
  simp only [State.freeVc]

theorem State.attArrive_mem (s : State) (v credit : Nat) (act : State → State)
    (ha : ∀ s, MemOk s.mem → MemOk (act s).mem) (h : MemOk s.mem) : MemOk ((s.attArrive v credit act).mem) := by
  unfold State.attArrive
  split
  · rw [State.creditBack_mem]
    refine ha _ ?_
    rw [State.freeVc_mem]; exact h
  · exact h

theorem execIdle_mem (credit : BitVec 16) (s : State) :
    memOf (execIdle credit s) = s.mem := by
  simp only [execIdle, mem_ite, ite_self, done_mem, State.lit_mem, State.creditBack_mem]

theorem State.serveRd_mem (s : State) (a lines tag : Nat) (h : MemOk s.mem) :
    MemOk ((State.serveRd s a lines tag).mem) := by
  simp only [State.serveRd, State.access_mem, State.attSend_mem, h]

theorem execRd_mem (addr : BitVec 48) (lines : Fin 5) (tag : BitVec 16) (credit : BitVec 16) (s : State) (h : MemOk s.mem) :
    MemOk (memOf (execRd addr lines tag credit s)) := by
  unfold execRd
  repeat' (first | (simp only [done_mem, State.attSend_mem, State.serveRd_mem, h]; done) | (intro _ h) | with_reducible apply State.attArrive_mem | split | (simp only [done_mem, State.attSend_mem]))

theorem execCpl_mem (tag : BitVec 16) (addr : BitVec 48) (status : Fin 256) (data : List Byte) (credit : BitVec 16) (s : State)
    (h : MemOk s.mem) : MemOk (memOf (execCpl tag addr status data credit s)) := by
  unfold execCpl
  split
  · exact h
  rw [memOf_done]
  refine State.attArrive_mem _ _ _ _ (fun s h => ?_) h
  dsimp only
  split
  · split
    · rw [State.result_mem]
      split
      · exact State.wrBytes_mem _ _ _ h
      · exact h
    · split
      · exact State.wrBytes_mem _ _ _ h
      · exact h
  · split
    · rw [State.result_mem]
      refine foldl_memOk _ _ (fun s x h => ?_) _ h
      exact h
    · exact h

theorem State.writeWord_mem (s : State) (a en : Nat) (bs : List Byte) (h : MemOk s.mem) :
    MemOk ((State.writeWord s a en bs).2.mem) := by
  simp only [State.writeWord, mem_ite, snd_ite, ite_self, memOk_ite, State.noteMemError_mem, State.noteLines_mem, State.wrBytes_mem, h]

theorem State.writeMasked_mem (s : State) (line mask : Nat) (bs : List Byte) (h : MemOk s.mem) :
    MemOk (s.writeMasked line mask bs).2.mem := by
  unfold State.writeMasked
  split
  · rw [State.refuseLines_mem]; exact h
  split
  · exact State.writePart_mem _ _ _ _ h
  · split
    · dsimp only
      split
      · rw [State.readLine_mem]; exact h
      · refine State.agentWrite_mem _ _ _ ?_
        rw [State.outsideWrote_mem, State.cancelRewrite_mem, State.countServed_mem, State.readLine_mem]; exact h
    · dsimp only
      rw [State.binvLine_mem]
      refine foldl_snd_memOk _ _ (fun x i h => ?_) _ h
      exact State.writeWord_mem _ _ _ _ h

theorem State.writeRegLine_mem (s : State) (line mask : Nat) (bs : List Byte) (h : MemOk s.mem) :
    MemOk (s.writeRegLine line mask bs).2.mem := by
  unfold State.writeRegLine
  refine foldl_snd_memOk _ _ (fun x i h => ?_) _ h
  dsimp only
  split
  · exact h
  · split
    · exact State.writeReg_mem _ _ _ _ h
    · rw [State.regError_mem]; exact h

theorem State.eachLine_mem (s : State) (a mask : Nat) (bs : List Byte) (f : State → Nat → Nat → List Byte → Nat × State)
    (ha : ∀ s a m bs, MemOk s.mem → MemOk (f s a m bs).2.mem) (h : MemOk s.mem) : MemOk (s.eachLine a mask bs f).2.mem := by
  unfold State.eachLine
  refine foldl_snd_memOk _ _ (fun x i h => ?_) _ h
  exact ha _ _ _ _ h

theorem State.serveWr_mem (s : State) (a mask : Nat) (bs : List Byte) (h : MemOk s.mem) : MemOk (s.serveWr a mask bs).mem := by
  unfold State.serveWr
  dsimp only
  split
  · exact State.admits_mem (by assumption) h
  · rw [State.noteStatus_mem]
    split
    · exact State.eachLine_mem _ _ _ _ _ State.writeRegLine_mem h
    · split
      · exact State.eachLine_mem _ _ _ _ _ State.writeMasked_mem h
      · rw [State.addrError_mem]; exact h

theorem execWr_mem (addr : BitVec 48) (data : List Byte) (mask : BitVec 64) (credit : BitVec 16) (s : State) (h : MemOk s.mem) :
    MemOk (memOf (execWr addr data mask credit s)) := by
  unfold execWr
  repeat' (first | (simp only [done_mem, State.serveWr_mem, h]; done) | (intro _ h) | with_reducible apply State.attArrive_mem | split | (simp only [done_mem]))

/-! ### DebugPort -/

theorem State.tapScan_mem (s : State) (ir out : Nat) :
    (State.tapScan s ir out).mem = s.mem := by
  simp only [State.tapScan]

theorem State.tapBypass_mem (s : State) (ir : Nat) (b : Bool) :
    (State.tapBypass s ir b).mem = s.mem := by
  simp only [State.tapBypass, State.tapScan_mem]

theorem State.tapSample_mem (s : State) (ir : Nat) :
    (State.tapSample s ir).mem = s.mem := by
  simp only [State.tapSample, State.draw_mem, State.tapScan_mem]

theorem execBypass_mem (b : Bool) (s : State) :
    memOf (execBypass b s) = s.mem := by
  simp only [execBypass, done_mem, State.tapBypass_mem]

theorem execIdcode_mem (s : State) :
    memOf (execIdcode s) = s.mem := by
  simp only [execIdcode, done_mem, State.tapScan_mem]

theorem execSamplePreload_mem (d : List Bool) (s : State) :
    memOf (execSamplePreload d s) = s.mem := by
  simp only [execSamplePreload, State.tapSample_mem, done_mem]

theorem execExtest_mem (d : Option (List Bool)) (s : State) :
    memOf (execExtest d s) = s.mem := by
  simp only [execExtest, memOf_ite, ite_self, State.tapSample_mem, done_mem, State.tapBypass_mem]

theorem execToken_mem (b : List Byte) (s : State) :
    memOf (execToken b s) = s.mem := by
  simp only [execToken, done_mem, State.tapScan_mem, State.offerToken_mem]

theorem State.dbgAccess_mem (s : State) (a : Nat) (wr : Option Nat) (h : MemOk s.mem) :
    MemOk ((State.dbgAccess s a wr).mem) := by
  simp only [State.dbgAccess, State.access_mem, h]

theorem execDbgacc_mem (op : Fin 4) (addr : BitVec 48) (data : BitVec 64) (s : State) (h : MemOk s.mem) :
    MemOk (memOf (execDbgacc op addr data s)) := by
  unfold execDbgacc
  repeat' (first | (simp only [done_mem, State.tapBypass_mem, State.tapScan_mem, State.dbgAccess_mem, h]; done) | split)

theorem State.setDm_mem (s : State) (a v : Nat) :
    (State.setDm s a v).mem = s.mem := by
  simp only [State.setDm]

theorem State.setHart_mem (s : State) (h : Nat) (x : Hart) :
    (State.setHart s h x).mem = s.mem := by
  simp only [State.setHart]

theorem State.haltHart_mem (s : State) (i : Nat) (h : MemOk s.mem) : MemOk ((s.haltHart i).mem) := by
  unfold State.haltHart
  split
  · exact h
  · refine foldl_memOk _ _ (fun s t h => ?_) _ h
    split
    · exact State.trcStop_mem _ _ _ h
    · exact h

theorem State.resumeHart_mem (s : State) (h : Nat) :
    (State.resumeHart s h).mem = s.mem := by
  simp only [State.resumeHart, mem_ite, ite_self, State.setHart_mem, State.lwdtKick_mem]

theorem State.dmControl_mem (s : State) (v : Nat) (h : MemOk s.mem) :
    MemOk ((State.dmControl s v).mem) := by
  unfold State.dmControl
  repeat' (first | (with_reducible assumption) | (intro _ h) | with_reducible apply State.when_mem | with_reducible apply State.haltHart_mem | split | (simp only [State.setDm_mem, State.setHart_mem, State.resumeHart_mem]))

theorem State.setCmdErr_mem (s : State) (e : Nat) :
    (State.setCmdErr s e).mem = s.mem := by
  simp only [State.setCmdErr, mem_ite, ite_self, State.setDm_mem]

theorem State.hartWrite_mem (s : State) (h regno v : Nat) :
    (State.hartWrite s h regno v).mem = s.mem := by
  unfold State.hartWrite
  dsimp only
  repeat' (first | (simp only [State.setHart_mem]; done) | split)

theorem State.hartRead_mem (s : State) (h regno : Nat) :
    (State.hartRead s h regno).2.mem = s.mem := by
  unfold State.hartRead
  dsimp only
  repeat' (first | (simp only [State.draw_mem, State.setHart_mem]; done) | split)

theorem State.runBuffer_mem (s : State) (h : Nat) :
    (State.runBuffer s h).mem = s.mem := by
  simp only [State.runBuffer, mem_ite, ite_self, State.draw_mem, State.setHart_mem, State.setCmdErr_mem]

theorem State.abstract_mem (s : State) (c : Nat) :
    (State.abstract s c).mem = s.mem := by
  simp only [State.abstract, mem_ite, ite_self, State.setDm_mem, State.setCmdErr_mem, State.hartWrite_mem, State.hartRead_mem, State.runBuffer_mem]

theorem State.sbError_mem (s : State) (e : Nat) :
    (State.sbError s e).mem = s.mem := by
  simp only [State.sbError, State.setDm_mem]

theorem State.sbAccess_mem (s : State) (wr : Bool) (h : MemOk s.mem) :
    MemOk ((State.sbAccess s wr).mem) := by
  simp only [State.sbAccess, mem_ite, ite_self, memOk_ite, State.sbError_mem, State.perform_mem, State.setDm_mem, h]

theorem State.sbWrite_mem (s : State) (v : Nat) :
    (State.sbWrite s v).mem = s.mem := by
  simp only [State.sbWrite, State.setDm_mem]

theorem State.autoExec_mem (s : State) (a : Nat) :
    (State.autoExec s a).mem = s.mem := by
  simp only [State.autoExec, mem_ite, ite_self, State.abstract_mem]

theorem State.dmRead_mem (s : State) (a : Nat) (h : MemOk s.mem) :
    MemOk ((State.dmRead s a).2.mem) := by
  unfold State.dmRead
  repeat' (first | (simp only [State.draw_mem, State.sbAccess_mem, State.autoExec_mem, h]; done) | (intro _ h) | with_reducible apply State.when_mem | split)

theorem State.dmWrite_mem (s : State) (a v : Nat) (h : MemOk s.mem) :
    MemOk ((State.dmWrite s a v).mem) := by
  unfold State.dmWrite
  repeat' (first | (simp only [State.dmControl_mem, State.setDm_mem, State.abstract_mem, State.sbWrite_mem, State.sbAccess_mem, State.autoExec_mem, h]; done) | (intro _ h) | with_reducible apply State.when_mem | split)

theorem execDmi_mem (op : Fin 4) (addr : BitVec 7) (data : BitVec 32) (s : State) (h : MemOk s.mem) :
    MemOk (memOf (execDmi op addr data s)) := by
  simp only [execDmi, memOf_ite, ite_self, memOk_ite, done_mem, State.tapBypass_mem, State.tapScan_mem, State.dbgError_mem, State.dmRead_mem, State.dmWrite_mem, h]

theorem execDtmcs_mem (v : BitVec 32) (s : State) :
    memOf (execDtmcs v s) = s.mem := by
  simp only [execDtmcs, memOf_ite, ite_self, done_mem, State.tapBypass_mem, State.tapScan_mem]

end Sys2Proof.Machine
end

