-- ==== Sys2Proof/Laws/State.lean ====
section
/-!
SUPPORT. What each named update of State does to each named reading of it: one lemma per pair, true by
rfl where the update leaves the reading alone, and the read-after-write laws.
-/
namespace Sys2Proof.Machine

/-! ### setFld -/

@[simp] theorem State.setFld_par (s : State) (f : Fld) (u v : Nat) (y : Nat) :
    (s.setFld f u v).par y = s.par y := rfl
@[simp] theorem State.setFld_eng (s : State) (f : Fld) (u v : Nat) (y z : Nat) :
    (s.setFld f u v).eng y z = s.eng y z := rfl
@[simp] theorem State.setFld_town (s : State) (f : Fld) (u v : Nat) (y : Nat) :
    (s.setFld f u v).town y = s.town y := rfl
@[simp] theorem State.setFld_tract (s : State) (f : Fld) (u v : Nat) (y : Nat) :
    (s.setFld f u v).tract y = s.tract y := rfl
@[simp] theorem State.setFld_link (s : State) (f : Fld) (u v : Nat) (y : Nat) :
    (s.setFld f u v).link y = s.link y := rfl
@[simp] theorem State.setFld_lane (s : State) (f : Fld) (u v : Nat) (y : Nat) (d : Bool) (z : Nat) :
    (s.setFld f u v).lane y d z = s.lane y d z := rfl
@[simp] theorem State.setFld_wreg (s : State) (f : Fld) (u v : Nat) (y z m : Nat) :
    (s.setFld f u v).wreg y z m = s.wreg y z m := rfl
@[simp] theorem State.setFld_pred (s : State) (f : Fld) (u v : Nat) (y z : Nat) :
    (s.setFld f u v).pred y z = s.pred y z := rfl
@[simp] theorem State.setFld_widx (s : State) (f : Fld) (u v : Nat) (y z : Nat) :
    (s.setFld f u v).widx' y z = s.widx' y z := rfl
@[simp] theorem State.setFld_liveP (s : State) (f : Fld) (u v : Nat) (y z : Nat) :
    (s.setFld f u v).liveP y z = s.liveP y z := rfl
@[simp] theorem State.setFld_shadowP (s : State) (f : Fld) (u v : Nat) (y z : Nat) :
    (s.setFld f u v).shadowP y z = s.shadowP y z := rfl
@[simp] theorem State.setFld_tally (s : State) (f : Fld) (u v : Nat) (y z : Nat) :
    (s.setFld f u v).tally y z = s.tally y z := rfl
@[simp] theorem State.setFld_beacon (s : State) (f : Fld) (u v : Nat) (y : Nat) :
    (s.setFld f u v).beacon y = s.beacon y := rfl
@[simp] theorem State.setFld_rd8 (s : State) (f : Fld) (u v : Nat) (y : Nat) :
    (s.setFld f u v).rd8 y = s.rd8 y := rfl
@[simp] theorem State.setFld_datum (s : State) (f : Fld) (u v : Nat) : (s.setFld f u v).datum = s.datum := rfl
@[simp] theorem State.setFld_pending (s : State) (f : Fld) (u v : Nat) : (s.setFld f u v).pending = s.pending := rfl
@[simp] theorem State.setFld_uncorr (s : State) (f : Fld) (u v : Nat) : (s.setFld f u v).uncorr = s.uncorr := rfl

/-! ### setPar -/

@[simp] theorem State.setPar_fld (s : State) (p : Nat) (x : Parcel) (g : Fld) (y : Nat) :
    (s.setPar p x).fld g y = s.fld g y := rfl
@[simp] theorem State.setPar_eng (s : State) (p : Nat) (x : Parcel) (y z : Nat) :
    (s.setPar p x).eng y z = s.eng y z := rfl
@[simp] theorem State.setPar_town (s : State) (p : Nat) (x : Parcel) (y : Nat) :
    (s.setPar p x).town y = s.town y := rfl
@[simp] theorem State.setPar_tract (s : State) (p : Nat) (x : Parcel) (y : Nat) :
    (s.setPar p x).tract y = s.tract y := rfl
@[simp] theorem State.setPar_link (s : State) (p : Nat) (x : Parcel) (y : Nat) :
    (s.setPar p x).link y = s.link y := rfl
@[simp] theorem State.setPar_lane (s : State) (p : Nat) (x : Parcel) (y : Nat) (d : Bool) (z : Nat) :
    (s.setPar p x).lane y d z = s.lane y d z := rfl
@[simp] theorem State.setPar_wreg (s : State) (p : Nat) (x : Parcel) (y z m : Nat) :
    (s.setPar p x).wreg y z m = s.wreg y z m := rfl
@[simp] theorem State.setPar_pred (s : State) (p : Nat) (x : Parcel) (y z : Nat) :
    (s.setPar p x).pred y z = s.pred y z := rfl
@[simp] theorem State.setPar_widx (s : State) (p : Nat) (x : Parcel) (y z : Nat) :
    (s.setPar p x).widx' y z = s.widx' y z := rfl
@[simp] theorem State.setPar_liveP (s : State) (p : Nat) (x : Parcel) (y z : Nat) :
    (s.setPar p x).liveP y z = s.liveP y z := rfl
@[simp] theorem State.setPar_shadowP (s : State) (p : Nat) (x : Parcel) (y z : Nat) :
    (s.setPar p x).shadowP y z = s.shadowP y z := rfl
@[simp] theorem State.setPar_tally (s : State) (p : Nat) (x : Parcel) (y z : Nat) :
    (s.setPar p x).tally y z = s.tally y z := rfl
@[simp] theorem State.setPar_beacon (s : State) (p : Nat) (x : Parcel) (y : Nat) :
    (s.setPar p x).beacon y = s.beacon y := rfl
@[simp] theorem State.setPar_rd8 (s : State) (p : Nat) (x : Parcel) (y : Nat) :
    (s.setPar p x).rd8 y = s.rd8 y := rfl
@[simp] theorem State.setPar_datum (s : State) (p : Nat) (x : Parcel) : (s.setPar p x).datum = s.datum := rfl
@[simp] theorem State.setPar_pending (s : State) (p : Nat) (x : Parcel) : (s.setPar p x).pending = s.pending := rfl
@[simp] theorem State.setPar_uncorr (s : State) (p : Nat) (x : Parcel) : (s.setPar p x).uncorr = s.uncorr := rfl

/-! ### setEng -/

@[simp] theorem State.setEng_fld (s : State) (p e : Nat) (x : Engine) (g : Fld) (y : Nat) :
    (s.setEng p e x).fld g y = s.fld g y := rfl
@[simp] theorem State.setEng_par (s : State) (p e : Nat) (x : Engine) (y : Nat) :
    (s.setEng p e x).par y = s.par y := rfl
@[simp] theorem State.setEng_town (s : State) (p e : Nat) (x : Engine) (y : Nat) :
    (s.setEng p e x).town y = s.town y := rfl
@[simp] theorem State.setEng_tract (s : State) (p e : Nat) (x : Engine) (y : Nat) :
    (s.setEng p e x).tract y = s.tract y := rfl
@[simp] theorem State.setEng_link (s : State) (p e : Nat) (x : Engine) (y : Nat) :
    (s.setEng p e x).link y = s.link y := rfl
@[simp] theorem State.setEng_lane (s : State) (p e : Nat) (x : Engine) (y : Nat) (d : Bool) (z : Nat) :
    (s.setEng p e x).lane y d z = s.lane y d z := rfl
@[simp] theorem State.setEng_wreg (s : State) (p e : Nat) (x : Engine) (y z m : Nat) :
    (s.setEng p e x).wreg y z m = s.wreg y z m := rfl
@[simp] theorem State.setEng_pred (s : State) (p e : Nat) (x : Engine) (y z : Nat) :
    (s.setEng p e x).pred y z = s.pred y z := rfl
@[simp] theorem State.setEng_widx (s : State) (p e : Nat) (x : Engine) (y z : Nat) :
    (s.setEng p e x).widx' y z = s.widx' y z := rfl
@[simp] theorem State.setEng_liveP (s : State) (p e : Nat) (x : Engine) (y z : Nat) :
    (s.setEng p e x).liveP y z = s.liveP y z := rfl
@[simp] theorem State.setEng_shadowP (s : State) (p e : Nat) (x : Engine) (y z : Nat) :
    (s.setEng p e x).shadowP y z = s.shadowP y z := rfl
@[simp] theorem State.setEng_tally (s : State) (p e : Nat) (x : Engine) (y z : Nat) :
    (s.setEng p e x).tally y z = s.tally y z := rfl
@[simp] theorem State.setEng_beacon (s : State) (p e : Nat) (x : Engine) (y : Nat) :
    (s.setEng p e x).beacon y = s.beacon y := rfl
@[simp] theorem State.setEng_rd8 (s : State) (p e : Nat) (x : Engine) (y : Nat) :
    (s.setEng p e x).rd8 y = s.rd8 y := rfl
@[simp] theorem State.setEng_datum (s : State) (p e : Nat) (x : Engine) : (s.setEng p e x).datum = s.datum := rfl
@[simp] theorem State.setEng_pending (s : State) (p e : Nat) (x : Engine) : (s.setEng p e x).pending = s.pending := rfl
@[simp] theorem State.setEng_uncorr (s : State) (p e : Nat) (x : Engine) : (s.setEng p e x).uncorr = s.uncorr := rfl

/-! ### setTown -/

@[simp] theorem State.setTown_fld (s : State) (w : Nat) (x : Town) (g : Fld) (y : Nat) :
    (s.setTown w x).fld g y = s.fld g y := rfl
@[simp] theorem State.setTown_par (s : State) (w : Nat) (x : Town) (y : Nat) :
    (s.setTown w x).par y = s.par y := rfl
@[simp] theorem State.setTown_eng (s : State) (w : Nat) (x : Town) (y z : Nat) :
    (s.setTown w x).eng y z = s.eng y z := rfl
@[simp] theorem State.setTown_tract (s : State) (w : Nat) (x : Town) (y : Nat) :
    (s.setTown w x).tract y = s.tract y := rfl
@[simp] theorem State.setTown_link (s : State) (w : Nat) (x : Town) (y : Nat) :
    (s.setTown w x).link y = s.link y := rfl
@[simp] theorem State.setTown_lane (s : State) (w : Nat) (x : Town) (y : Nat) (d : Bool) (z : Nat) :
    (s.setTown w x).lane y d z = s.lane y d z := rfl
@[simp] theorem State.setTown_wreg (s : State) (w : Nat) (x : Town) (y z m : Nat) :
    (s.setTown w x).wreg y z m = s.wreg y z m := rfl
@[simp] theorem State.setTown_pred (s : State) (w : Nat) (x : Town) (y z : Nat) :
    (s.setTown w x).pred y z = s.pred y z := rfl
@[simp] theorem State.setTown_widx (s : State) (w : Nat) (x : Town) (y z : Nat) :
    (s.setTown w x).widx' y z = s.widx' y z := rfl
@[simp] theorem State.setTown_liveP (s : State) (w : Nat) (x : Town) (y z : Nat) :
    (s.setTown w x).liveP y z = s.liveP y z := rfl
@[simp] theorem State.setTown_shadowP (s : State) (w : Nat) (x : Town) (y z : Nat) :
    (s.setTown w x).shadowP y z = s.shadowP y z := rfl
@[simp] theorem State.setTown_tally (s : State) (w : Nat) (x : Town) (y z : Nat) :
    (s.setTown w x).tally y z = s.tally y z := rfl
@[simp] theorem State.setTown_beacon (s : State) (w : Nat) (x : Town) (y : Nat) :
    (s.setTown w x).beacon y = s.beacon y := rfl
@[simp] theorem State.setTown_rd8 (s : State) (w : Nat) (x : Town) (y : Nat) :
    (s.setTown w x).rd8 y = s.rd8 y := rfl
@[simp] theorem State.setTown_datum (s : State) (w : Nat) (x : Town) : (s.setTown w x).datum = s.datum := rfl
@[simp] theorem State.setTown_pending (s : State) (w : Nat) (x : Town) : (s.setTown w x).pending = s.pending := rfl
@[simp] theorem State.setTown_uncorr (s : State) (w : Nat) (x : Town) : (s.setTown w x).uncorr = s.uncorr := rfl

/-! ### setTract -/

@[simp] theorem State.setTract_fld (s : State) (t : Nat) (x : Tract) (g : Fld) (y : Nat) :
    (s.setTract t x).fld g y = s.fld g y := rfl
@[simp] theorem State.setTract_par (s : State) (t : Nat) (x : Tract) (y : Nat) :
    (s.setTract t x).par y = s.par y := rfl
@[simp] theorem State.setTract_eng (s : State) (t : Nat) (x : Tract) (y z : Nat) :
    (s.setTract t x).eng y z = s.eng y z := rfl
@[simp] theorem State.setTract_town (s : State) (t : Nat) (x : Tract) (y : Nat) :
    (s.setTract t x).town y = s.town y := rfl
@[simp] theorem State.setTract_link (s : State) (t : Nat) (x : Tract) (y : Nat) :
    (s.setTract t x).link y = s.link y := rfl
@[simp] theorem State.setTract_lane (s : State) (t : Nat) (x : Tract) (y : Nat) (d : Bool) (z : Nat) :
    (s.setTract t x).lane y d z = s.lane y d z := rfl
@[simp] theorem State.setTract_wreg (s : State) (t : Nat) (x : Tract) (y z m : Nat) :
    (s.setTract t x).wreg y z m = s.wreg y z m := rfl
@[simp] theorem State.setTract_pred (s : State) (t : Nat) (x : Tract) (y z : Nat) :
    (s.setTract t x).pred y z = s.pred y z := rfl
@[simp] theorem State.setTract_widx (s : State) (t : Nat) (x : Tract) (y z : Nat) :
    (s.setTract t x).widx' y z = s.widx' y z := rfl
@[simp] theorem State.setTract_liveP (s : State) (t : Nat) (x : Tract) (y z : Nat) :
    (s.setTract t x).liveP y z = s.liveP y z := rfl
@[simp] theorem State.setTract_shadowP (s : State) (t : Nat) (x : Tract) (y z : Nat) :
    (s.setTract t x).shadowP y z = s.shadowP y z := rfl
@[simp] theorem State.setTract_tally (s : State) (t : Nat) (x : Tract) (y z : Nat) :
    (s.setTract t x).tally y z = s.tally y z := rfl
@[simp] theorem State.setTract_beacon (s : State) (t : Nat) (x : Tract) (y : Nat) :
    (s.setTract t x).beacon y = s.beacon y := rfl
@[simp] theorem State.setTract_rd8 (s : State) (t : Nat) (x : Tract) (y : Nat) :
    (s.setTract t x).rd8 y = s.rd8 y := rfl
@[simp] theorem State.setTract_datum (s : State) (t : Nat) (x : Tract) : (s.setTract t x).datum = s.datum := rfl
@[simp] theorem State.setTract_pending (s : State) (t : Nat) (x : Tract) : (s.setTract t x).pending = s.pending := rfl
@[simp] theorem State.setTract_uncorr (s : State) (t : Nat) (x : Tract) : (s.setTract t x).uncorr = s.uncorr := rfl

/-! ### setLink -/

@[simp] theorem State.setLink_fld (s : State) (k : Nat) (x : Link) (g : Fld) (y : Nat) :
    (s.setLink k x).fld g y = s.fld g y := rfl
@[simp] theorem State.setLink_par (s : State) (k : Nat) (x : Link) (y : Nat) :
    (s.setLink k x).par y = s.par y := rfl
@[simp] theorem State.setLink_eng (s : State) (k : Nat) (x : Link) (y z : Nat) :
    (s.setLink k x).eng y z = s.eng y z := rfl
@[simp] theorem State.setLink_town (s : State) (k : Nat) (x : Link) (y : Nat) :
    (s.setLink k x).town y = s.town y := rfl
@[simp] theorem State.setLink_tract (s : State) (k : Nat) (x : Link) (y : Nat) :
    (s.setLink k x).tract y = s.tract y := rfl
@[simp] theorem State.setLink_lane (s : State) (k : Nat) (x : Link) (y : Nat) (d : Bool) (z : Nat) :
    (s.setLink k x).lane y d z = s.lane y d z := rfl
@[simp] theorem State.setLink_wreg (s : State) (k : Nat) (x : Link) (y z m : Nat) :
    (s.setLink k x).wreg y z m = s.wreg y z m := rfl
@[simp] theorem State.setLink_pred (s : State) (k : Nat) (x : Link) (y z : Nat) :
    (s.setLink k x).pred y z = s.pred y z := rfl
@[simp] theorem State.setLink_widx (s : State) (k : Nat) (x : Link) (y z : Nat) :
    (s.setLink k x).widx' y z = s.widx' y z := rfl
@[simp] theorem State.setLink_liveP (s : State) (k : Nat) (x : Link) (y z : Nat) :
    (s.setLink k x).liveP y z = s.liveP y z := rfl
@[simp] theorem State.setLink_shadowP (s : State) (k : Nat) (x : Link) (y z : Nat) :
    (s.setLink k x).shadowP y z = s.shadowP y z := rfl
@[simp] theorem State.setLink_tally (s : State) (k : Nat) (x : Link) (y z : Nat) :
    (s.setLink k x).tally y z = s.tally y z := rfl
@[simp] theorem State.setLink_beacon (s : State) (k : Nat) (x : Link) (y : Nat) :
    (s.setLink k x).beacon y = s.beacon y := rfl
@[simp] theorem State.setLink_rd8 (s : State) (k : Nat) (x : Link) (y : Nat) :
    (s.setLink k x).rd8 y = s.rd8 y := rfl
@[simp] theorem State.setLink_datum (s : State) (k : Nat) (x : Link) : (s.setLink k x).datum = s.datum := rfl
@[simp] theorem State.setLink_pending (s : State) (k : Nat) (x : Link) : (s.setLink k x).pending = s.pending := rfl
@[simp] theorem State.setLink_uncorr (s : State) (k : Nat) (x : Link) : (s.setLink k x).uncorr = s.uncorr := rfl

/-! ### setLane -/

@[simp] theorem State.setLane_fld (s : State) (k : Nat) (tx : Bool) (j : Nat) (x : Lane) (g : Fld) (y : Nat) :
    (s.setLane k tx j x).fld g y = s.fld g y := rfl
@[simp] theorem State.setLane_par (s : State) (k : Nat) (tx : Bool) (j : Nat) (x : Lane) (y : Nat) :
    (s.setLane k tx j x).par y = s.par y := rfl
@[simp] theorem State.setLane_eng (s : State) (k : Nat) (tx : Bool) (j : Nat) (x : Lane) (y z : Nat) :
    (s.setLane k tx j x).eng y z = s.eng y z := rfl
@[simp] theorem State.setLane_town (s : State) (k : Nat) (tx : Bool) (j : Nat) (x : Lane) (y : Nat) :
    (s.setLane k tx j x).town y = s.town y := rfl
@[simp] theorem State.setLane_tract (s : State) (k : Nat) (tx : Bool) (j : Nat) (x : Lane) (y : Nat) :
    (s.setLane k tx j x).tract y = s.tract y := rfl
@[simp] theorem State.setLane_link (s : State) (k : Nat) (tx : Bool) (j : Nat) (x : Lane) (y : Nat) :
    (s.setLane k tx j x).link y = s.link y := rfl
@[simp] theorem State.setLane_wreg (s : State) (k : Nat) (tx : Bool) (j : Nat) (x : Lane) (y z m : Nat) :
    (s.setLane k tx j x).wreg y z m = s.wreg y z m := rfl
@[simp] theorem State.setLane_pred (s : State) (k : Nat) (tx : Bool) (j : Nat) (x : Lane) (y z : Nat) :
    (s.setLane k tx j x).pred y z = s.pred y z := rfl
@[simp] theorem State.setLane_widx (s : State) (k : Nat) (tx : Bool) (j : Nat) (x : Lane) (y z : Nat) :
    (s.setLane k tx j x).widx' y z = s.widx' y z := rfl
@[simp] theorem State.setLane_liveP (s : State) (k : Nat) (tx : Bool) (j : Nat) (x : Lane) (y z : Nat) :
    (s.setLane k tx j x).liveP y z = s.liveP y z := rfl
@[simp] theorem State.setLane_shadowP (s : State) (k : Nat) (tx : Bool) (j : Nat) (x : Lane) (y z : Nat) :
    (s.setLane k tx j x).shadowP y z = s.shadowP y z := rfl
@[simp] theorem State.setLane_tally (s : State) (k : Nat) (tx : Bool) (j : Nat) (x : Lane) (y z : Nat) :
    (s.setLane k tx j x).tally y z = s.tally y z := rfl
@[simp] theorem State.setLane_beacon (s : State) (k : Nat) (tx : Bool) (j : Nat) (x : Lane) (y : Nat) :
    (s.setLane k tx j x).beacon y = s.beacon y := rfl
@[simp] theorem State.setLane_rd8 (s : State) (k : Nat) (tx : Bool) (j : Nat) (x : Lane) (y : Nat) :
    (s.setLane k tx j x).rd8 y = s.rd8 y := rfl
@[simp] theorem State.setLane_datum (s : State) (k : Nat) (tx : Bool) (j : Nat) (x : Lane) : (s.setLane k tx j x).datum = s.datum := rfl
@[simp] theorem State.setLane_pending (s : State) (k : Nat) (tx : Bool) (j : Nat) (x : Lane) : (s.setLane k tx j x).pending = s.pending := rfl
@[simp] theorem State.setLane_uncorr (s : State) (k : Nat) (tx : Bool) (j : Nat) (x : Lane) : (s.setLane k tx j x).uncorr = s.uncorr := rfl

/-! ### setWreg -/

@[simp] theorem State.setWreg_fld (s : State) (p w r v : Nat) (g : Fld) (y : Nat) :
    (s.setWreg p w r v).fld g y = s.fld g y := rfl
@[simp] theorem State.setWreg_par (s : State) (p w r v : Nat) (y : Nat) :
    (s.setWreg p w r v).par y = s.par y := rfl
@[simp] theorem State.setWreg_eng (s : State) (p w r v : Nat) (y z : Nat) :
    (s.setWreg p w r v).eng y z = s.eng y z := rfl
@[simp] theorem State.setWreg_town (s : State) (p w r v : Nat) (y : Nat) :
    (s.setWreg p w r v).town y = s.town y := rfl
@[simp] theorem State.setWreg_tract (s : State) (p w r v : Nat) (y : Nat) :
    (s.setWreg p w r v).tract y = s.tract y := rfl
@[simp] theorem State.setWreg_link (s : State) (p w r v : Nat) (y : Nat) :
    (s.setWreg p w r v).link y = s.link y := rfl
@[simp] theorem State.setWreg_lane (s : State) (p w r v : Nat) (y : Nat) (d : Bool) (z : Nat) :
    (s.setWreg p w r v).lane y d z = s.lane y d z := rfl
@[simp] theorem State.setWreg_pred (s : State) (p w r v : Nat) (y z : Nat) :
    (s.setWreg p w r v).pred y z = s.pred y z := rfl
@[simp] theorem State.setWreg_widx (s : State) (p w r v : Nat) (y z : Nat) :
    (s.setWreg p w r v).widx' y z = s.widx' y z := rfl
@[simp] theorem State.setWreg_liveP (s : State) (p w r v : Nat) (y z : Nat) :
    (s.setWreg p w r v).liveP y z = s.liveP y z := rfl
@[simp] theorem State.setWreg_shadowP (s : State) (p w r v : Nat) (y z : Nat) :
    (s.setWreg p w r v).shadowP y z = s.shadowP y z := rfl
@[simp] theorem State.setWreg_tally (s : State) (p w r v : Nat) (y z : Nat) :
    (s.setWreg p w r v).tally y z = s.tally y z := rfl
@[simp] theorem State.setWreg_beacon (s : State) (p w r v : Nat) (y : Nat) :
    (s.setWreg p w r v).beacon y = s.beacon y := rfl
@[simp] theorem State.setWreg_rd8 (s : State) (p w r v : Nat) (y : Nat) :
    (s.setWreg p w r v).rd8 y = s.rd8 y := rfl
@[simp] theorem State.setWreg_datum (s : State) (p w r v : Nat) : (s.setWreg p w r v).datum = s.datum := rfl
@[simp] theorem State.setWreg_pending (s : State) (p w r v : Nat) : (s.setWreg p w r v).pending = s.pending := rfl
@[simp] theorem State.setWreg_uncorr (s : State) (p w r v : Nat) : (s.setWreg p w r v).uncorr = s.uncorr := rfl

/-! ### setPred -/

@[simp] theorem State.setPred_fld (s : State) (p w : Nat) (b : Bool) (g : Fld) (y : Nat) :
    (s.setPred p w b).fld g y = s.fld g y := rfl
@[simp] theorem State.setPred_par (s : State) (p w : Nat) (b : Bool) (y : Nat) :
    (s.setPred p w b).par y = s.par y := rfl
@[simp] theorem State.setPred_eng (s : State) (p w : Nat) (b : Bool) (y z : Nat) :
    (s.setPred p w b).eng y z = s.eng y z := rfl
@[simp] theorem State.setPred_town (s : State) (p w : Nat) (b : Bool) (y : Nat) :
    (s.setPred p w b).town y = s.town y := rfl
@[simp] theorem State.setPred_tract (s : State) (p w : Nat) (b : Bool) (y : Nat) :
    (s.setPred p w b).tract y = s.tract y := rfl
@[simp] theorem State.setPred_link (s : State) (p w : Nat) (b : Bool) (y : Nat) :
    (s.setPred p w b).link y = s.link y := rfl
@[simp] theorem State.setPred_lane (s : State) (p w : Nat) (b : Bool) (y : Nat) (d : Bool) (z : Nat) :
    (s.setPred p w b).lane y d z = s.lane y d z := rfl
@[simp] theorem State.setPred_wreg (s : State) (p w : Nat) (b : Bool) (y z m : Nat) :
    (s.setPred p w b).wreg y z m = s.wreg y z m := rfl
@[simp] theorem State.setPred_widx (s : State) (p w : Nat) (b : Bool) (y z : Nat) :
    (s.setPred p w b).widx' y z = s.widx' y z := rfl
@[simp] theorem State.setPred_liveP (s : State) (p w : Nat) (b : Bool) (y z : Nat) :
    (s.setPred p w b).liveP y z = s.liveP y z := rfl
@[simp] theorem State.setPred_shadowP (s : State) (p w : Nat) (b : Bool) (y z : Nat) :
    (s.setPred p w b).shadowP y z = s.shadowP y z := rfl
@[simp] theorem State.setPred_tally (s : State) (p w : Nat) (b : Bool) (y z : Nat) :
    (s.setPred p w b).tally y z = s.tally y z := rfl
@[simp] theorem State.setPred_beacon (s : State) (p w : Nat) (b : Bool) (y : Nat) :
    (s.setPred p w b).beacon y = s.beacon y := rfl
@[simp] theorem State.setPred_rd8 (s : State) (p w : Nat) (b : Bool) (y : Nat) :
    (s.setPred p w b).rd8 y = s.rd8 y := rfl
@[simp] theorem State.setPred_datum (s : State) (p w : Nat) (b : Bool) : (s.setPred p w b).datum = s.datum := rfl
@[simp] theorem State.setPred_pending (s : State) (p w : Nat) (b : Bool) : (s.setPred p w b).pending = s.pending := rfl
@[simp] theorem State.setPred_uncorr (s : State) (p w : Nat) (b : Bool) : (s.setPred p w b).uncorr = s.uncorr := rfl

/-! ### setWidx -/

@[simp] theorem State.setWidx_fld (s : State) (p w v : Nat) (g : Fld) (y : Nat) :
    (s.setWidx p w v).fld g y = s.fld g y := rfl
@[simp] theorem State.setWidx_par (s : State) (p w v : Nat) (y : Nat) :
    (s.setWidx p w v).par y = s.par y := rfl
@[simp] theorem State.setWidx_eng (s : State) (p w v : Nat) (y z : Nat) :
    (s.setWidx p w v).eng y z = s.eng y z := rfl
@[simp] theorem State.setWidx_town (s : State) (p w v : Nat) (y : Nat) :
    (s.setWidx p w v).town y = s.town y := rfl
@[simp] theorem State.setWidx_tract (s : State) (p w v : Nat) (y : Nat) :
    (s.setWidx p w v).tract y = s.tract y := rfl
@[simp] theorem State.setWidx_link (s : State) (p w v : Nat) (y : Nat) :
    (s.setWidx p w v).link y = s.link y := rfl
@[simp] theorem State.setWidx_lane (s : State) (p w v : Nat) (y : Nat) (d : Bool) (z : Nat) :
    (s.setWidx p w v).lane y d z = s.lane y d z := rfl
@[simp] theorem State.setWidx_wreg (s : State) (p w v : Nat) (y z m : Nat) :
    (s.setWidx p w v).wreg y z m = s.wreg y z m := rfl
@[simp] theorem State.setWidx_pred (s : State) (p w v : Nat) (y z : Nat) :
    (s.setWidx p w v).pred y z = s.pred y z := rfl
@[simp] theorem State.setWidx_liveP (s : State) (p w v : Nat) (y z : Nat) :
    (s.setWidx p w v).liveP y z = s.liveP y z := rfl
@[simp] theorem State.setWidx_shadowP (s : State) (p w v : Nat) (y z : Nat) :
    (s.setWidx p w v).shadowP y z = s.shadowP y z := rfl
@[simp] theorem State.setWidx_tally (s : State) (p w v : Nat) (y z : Nat) :
    (s.setWidx p w v).tally y z = s.tally y z := rfl
@[simp] theorem State.setWidx_beacon (s : State) (p w v : Nat) (y : Nat) :
    (s.setWidx p w v).beacon y = s.beacon y := rfl
@[simp] theorem State.setWidx_rd8 (s : State) (p w v : Nat) (y : Nat) :
    (s.setWidx p w v).rd8 y = s.rd8 y := rfl
@[simp] theorem State.setWidx_datum (s : State) (p w v : Nat) : (s.setWidx p w v).datum = s.datum := rfl
@[simp] theorem State.setWidx_pending (s : State) (p w v : Nat) : (s.setWidx p w v).pending = s.pending := rfl
@[simp] theorem State.setWidx_uncorr (s : State) (p w v : Nat) : (s.setWidx p w v).uncorr = s.uncorr := rfl

/-! ### setTally -/

@[simp] theorem State.setTally_fld (s : State) (p n : Nat) (x : Tally) (g : Fld) (y : Nat) :
    (s.setTally p n x).fld g y = s.fld g y := rfl
@[simp] theorem State.setTally_par (s : State) (p n : Nat) (x : Tally) (y : Nat) :
    (s.setTally p n x).par y = s.par y := rfl
@[simp] theorem State.setTally_eng (s : State) (p n : Nat) (x : Tally) (y z : Nat) :
    (s.setTally p n x).eng y z = s.eng y z := rfl
@[simp] theorem State.setTally_town (s : State) (p n : Nat) (x : Tally) (y : Nat) :
    (s.setTally p n x).town y = s.town y := rfl
@[simp] theorem State.setTally_tract (s : State) (p n : Nat) (x : Tally) (y : Nat) :
    (s.setTally p n x).tract y = s.tract y := rfl
@[simp] theorem State.setTally_link (s : State) (p n : Nat) (x : Tally) (y : Nat) :
    (s.setTally p n x).link y = s.link y := rfl
@[simp] theorem State.setTally_lane (s : State) (p n : Nat) (x : Tally) (y : Nat) (d : Bool) (z : Nat) :
    (s.setTally p n x).lane y d z = s.lane y d z := rfl
@[simp] theorem State.setTally_wreg (s : State) (p n : Nat) (x : Tally) (y z m : Nat) :
    (s.setTally p n x).wreg y z m = s.wreg y z m := rfl
@[simp] theorem State.setTally_pred (s : State) (p n : Nat) (x : Tally) (y z : Nat) :
    (s.setTally p n x).pred y z = s.pred y z := rfl
@[simp] theorem State.setTally_widx (s : State) (p n : Nat) (x : Tally) (y z : Nat) :
    (s.setTally p n x).widx' y z = s.widx' y z := rfl
@[simp] theorem State.setTally_liveP (s : State) (p n : Nat) (x : Tally) (y z : Nat) :
    (s.setTally p n x).liveP y z = s.liveP y z := rfl
@[simp] theorem State.setTally_shadowP (s : State) (p n : Nat) (x : Tally) (y z : Nat) :
    (s.setTally p n x).shadowP y z = s.shadowP y z := rfl
@[simp] theorem State.setTally_beacon (s : State) (p n : Nat) (x : Tally) (y : Nat) :
    (s.setTally p n x).beacon y = s.beacon y := rfl
@[simp] theorem State.setTally_rd8 (s : State) (p n : Nat) (x : Tally) (y : Nat) :
    (s.setTally p n x).rd8 y = s.rd8 y := rfl
@[simp] theorem State.setTally_datum (s : State) (p n : Nat) (x : Tally) : (s.setTally p n x).datum = s.datum := rfl
@[simp] theorem State.setTally_pending (s : State) (p n : Nat) (x : Tally) : (s.setTally p n x).pending = s.pending := rfl
@[simp] theorem State.setTally_uncorr (s : State) (p n : Nat) (x : Tally) : (s.setTally p n x).uncorr = s.uncorr := rfl

/-! ### setBeacon -/

@[simp] theorem State.setBeacon_fld (s : State) (b : Nat) (x : Beacon) (g : Fld) (y : Nat) :
    (s.setBeacon b x).fld g y = s.fld g y := rfl
@[simp] theorem State.setBeacon_par (s : State) (b : Nat) (x : Beacon) (y : Nat) :
    (s.setBeacon b x).par y = s.par y := rfl
@[simp] theorem State.setBeacon_eng (s : State) (b : Nat) (x : Beacon) (y z : Nat) :
    (s.setBeacon b x).eng y z = s.eng y z := rfl
@[simp] theorem State.setBeacon_town (s : State) (b : Nat) (x : Beacon) (y : Nat) :
    (s.setBeacon b x).town y = s.town y := rfl
@[simp] theorem State.setBeacon_tract (s : State) (b : Nat) (x : Beacon) (y : Nat) :
    (s.setBeacon b x).tract y = s.tract y := rfl
@[simp] theorem State.setBeacon_link (s : State) (b : Nat) (x : Beacon) (y : Nat) :
    (s.setBeacon b x).link y = s.link y := rfl
@[simp] theorem State.setBeacon_lane (s : State) (b : Nat) (x : Beacon) (y : Nat) (d : Bool) (z : Nat) :
    (s.setBeacon b x).lane y d z = s.lane y d z := rfl
@[simp] theorem State.setBeacon_wreg (s : State) (b : Nat) (x : Beacon) (y z m : Nat) :
    (s.setBeacon b x).wreg y z m = s.wreg y z m := rfl
@[simp] theorem State.setBeacon_pred (s : State) (b : Nat) (x : Beacon) (y z : Nat) :
    (s.setBeacon b x).pred y z = s.pred y z := rfl
@[simp] theorem State.setBeacon_widx (s : State) (b : Nat) (x : Beacon) (y z : Nat) :
    (s.setBeacon b x).widx' y z = s.widx' y z := rfl
@[simp] theorem State.setBeacon_liveP (s : State) (b : Nat) (x : Beacon) (y z : Nat) :
    (s.setBeacon b x).liveP y z = s.liveP y z := rfl
@[simp] theorem State.setBeacon_shadowP (s : State) (b : Nat) (x : Beacon) (y z : Nat) :
    (s.setBeacon b x).shadowP y z = s.shadowP y z := rfl
@[simp] theorem State.setBeacon_tally (s : State) (b : Nat) (x : Beacon) (y z : Nat) :
    (s.setBeacon b x).tally y z = s.tally y z := rfl
@[simp] theorem State.setBeacon_rd8 (s : State) (b : Nat) (x : Beacon) (y : Nat) :
    (s.setBeacon b x).rd8 y = s.rd8 y := rfl
@[simp] theorem State.setBeacon_datum (s : State) (b : Nat) (x : Beacon) : (s.setBeacon b x).datum = s.datum := rfl
@[simp] theorem State.setBeacon_pending (s : State) (b : Nat) (x : Beacon) : (s.setBeacon b x).pending = s.pending := rfl
@[simp] theorem State.setBeacon_uncorr (s : State) (b : Nat) (x : Beacon) : (s.setBeacon b x).uncorr = s.uncorr := rfl

/-! ### setShadow -/

@[simp] theorem State.setShadow_fld (s : State) (p n v : Nat) (g : Fld) (y : Nat) :
    (s.setShadow p n v).fld g y = s.fld g y := rfl
@[simp] theorem State.setShadow_par (s : State) (p n v : Nat) (y : Nat) :
    (s.setShadow p n v).par y = s.par y := rfl
@[simp] theorem State.setShadow_eng (s : State) (p n v : Nat) (y z : Nat) :
    (s.setShadow p n v).eng y z = s.eng y z := rfl
@[simp] theorem State.setShadow_town (s : State) (p n v : Nat) (y : Nat) :
    (s.setShadow p n v).town y = s.town y := rfl
@[simp] theorem State.setShadow_tract (s : State) (p n v : Nat) (y : Nat) :
    (s.setShadow p n v).tract y = s.tract y := rfl
@[simp] theorem State.setShadow_link (s : State) (p n v : Nat) (y : Nat) :
    (s.setShadow p n v).link y = s.link y := rfl
@[simp] theorem State.setShadow_lane (s : State) (p n v : Nat) (y : Nat) (d : Bool) (z : Nat) :
    (s.setShadow p n v).lane y d z = s.lane y d z := rfl
@[simp] theorem State.setShadow_wreg (s : State) (p n v : Nat) (y z m : Nat) :
    (s.setShadow p n v).wreg y z m = s.wreg y z m := rfl
@[simp] theorem State.setShadow_pred (s : State) (p n v : Nat) (y z : Nat) :
    (s.setShadow p n v).pred y z = s.pred y z := rfl
@[simp] theorem State.setShadow_widx (s : State) (p n v : Nat) (y z : Nat) :
    (s.setShadow p n v).widx' y z = s.widx' y z := rfl
@[simp] theorem State.setShadow_liveP (s : State) (p n v : Nat) (y z : Nat) :
    (s.setShadow p n v).liveP y z = s.liveP y z := rfl
@[simp] theorem State.setShadow_tally (s : State) (p n v : Nat) (y z : Nat) :
    (s.setShadow p n v).tally y z = s.tally y z := rfl
@[simp] theorem State.setShadow_beacon (s : State) (p n v : Nat) (y : Nat) :
    (s.setShadow p n v).beacon y = s.beacon y := rfl
@[simp] theorem State.setShadow_rd8 (s : State) (p n v : Nat) (y : Nat) :
    (s.setShadow p n v).rd8 y = s.rd8 y := rfl
@[simp] theorem State.setShadow_datum (s : State) (p n v : Nat) : (s.setShadow p n v).datum = s.datum := rfl
@[simp] theorem State.setShadow_pending (s : State) (p n v : Nat) : (s.setShadow p n v).pending = s.pending := rfl
@[simp] theorem State.setShadow_uncorr (s : State) (p n v : Nat) : (s.setShadow p n v).uncorr = s.uncorr := rfl

/-! ### wrBytes -/

@[simp] theorem State.wrBytes_fld (s : State) (a : Nat) (bs : List Byte) (g : Fld) (y : Nat) :
    (s.wrBytes a bs).fld g y = s.fld g y := rfl
@[simp] theorem State.wrBytes_par (s : State) (a : Nat) (bs : List Byte) (y : Nat) :
    (s.wrBytes a bs).par y = s.par y := rfl
@[simp] theorem State.wrBytes_eng (s : State) (a : Nat) (bs : List Byte) (y z : Nat) :
    (s.wrBytes a bs).eng y z = s.eng y z := rfl
@[simp] theorem State.wrBytes_town (s : State) (a : Nat) (bs : List Byte) (y : Nat) :
    (s.wrBytes a bs).town y = s.town y := rfl
@[simp] theorem State.wrBytes_tract (s : State) (a : Nat) (bs : List Byte) (y : Nat) :
    (s.wrBytes a bs).tract y = s.tract y := rfl
@[simp] theorem State.wrBytes_link (s : State) (a : Nat) (bs : List Byte) (y : Nat) :
    (s.wrBytes a bs).link y = s.link y := rfl
@[simp] theorem State.wrBytes_lane (s : State) (a : Nat) (bs : List Byte) (y : Nat) (d : Bool) (z : Nat) :
    (s.wrBytes a bs).lane y d z = s.lane y d z := rfl
@[simp] theorem State.wrBytes_wreg (s : State) (a : Nat) (bs : List Byte) (y z m : Nat) :
    (s.wrBytes a bs).wreg y z m = s.wreg y z m := rfl
@[simp] theorem State.wrBytes_pred (s : State) (a : Nat) (bs : List Byte) (y z : Nat) :
    (s.wrBytes a bs).pred y z = s.pred y z := rfl
@[simp] theorem State.wrBytes_widx (s : State) (a : Nat) (bs : List Byte) (y z : Nat) :
    (s.wrBytes a bs).widx' y z = s.widx' y z := rfl
@[simp] theorem State.wrBytes_liveP (s : State) (a : Nat) (bs : List Byte) (y z : Nat) :
    (s.wrBytes a bs).liveP y z = s.liveP y z := rfl
@[simp] theorem State.wrBytes_shadowP (s : State) (a : Nat) (bs : List Byte) (y z : Nat) :
    (s.wrBytes a bs).shadowP y z = s.shadowP y z := rfl
@[simp] theorem State.wrBytes_tally (s : State) (a : Nat) (bs : List Byte) (y z : Nat) :
    (s.wrBytes a bs).tally y z = s.tally y z := rfl
@[simp] theorem State.wrBytes_beacon (s : State) (a : Nat) (bs : List Byte) (y : Nat) :
    (s.wrBytes a bs).beacon y = s.beacon y := rfl
@[simp] theorem State.wrBytes_datum (s : State) (a : Nat) (bs : List Byte) : (s.wrBytes a bs).datum = s.datum := rfl
@[simp] theorem State.wrBytes_pending (s : State) (a : Nat) (bs : List Byte) : (s.wrBytes a bs).pending = s.pending := rfl

/-! ### count -/

@[simp] theorem State.count_par (s : State) (f : Fld) (u n : Nat) (y : Nat) :
    (s.count f u n).par y = s.par y := rfl
@[simp] theorem State.count_eng (s : State) (f : Fld) (u n : Nat) (y z : Nat) :
    (s.count f u n).eng y z = s.eng y z := rfl
@[simp] theorem State.count_town (s : State) (f : Fld) (u n : Nat) (y : Nat) :
    (s.count f u n).town y = s.town y := rfl
@[simp] theorem State.count_tract (s : State) (f : Fld) (u n : Nat) (y : Nat) :
    (s.count f u n).tract y = s.tract y := rfl
@[simp] theorem State.count_link (s : State) (f : Fld) (u n : Nat) (y : Nat) :
    (s.count f u n).link y = s.link y := rfl
@[simp] theorem State.count_lane (s : State) (f : Fld) (u n : Nat) (y : Nat) (d : Bool) (z : Nat) :
    (s.count f u n).lane y d z = s.lane y d z := rfl
@[simp] theorem State.count_wreg (s : State) (f : Fld) (u n : Nat) (y z m : Nat) :
    (s.count f u n).wreg y z m = s.wreg y z m := rfl
@[simp] theorem State.count_pred (s : State) (f : Fld) (u n : Nat) (y z : Nat) :
    (s.count f u n).pred y z = s.pred y z := rfl
@[simp] theorem State.count_widx (s : State) (f : Fld) (u n : Nat) (y z : Nat) :
    (s.count f u n).widx' y z = s.widx' y z := rfl
@[simp] theorem State.count_liveP (s : State) (f : Fld) (u n : Nat) (y z : Nat) :
    (s.count f u n).liveP y z = s.liveP y z := rfl
@[simp] theorem State.count_shadowP (s : State) (f : Fld) (u n : Nat) (y z : Nat) :
    (s.count f u n).shadowP y z = s.shadowP y z := rfl
@[simp] theorem State.count_tally (s : State) (f : Fld) (u n : Nat) (y z : Nat) :
    (s.count f u n).tally y z = s.tally y z := rfl
@[simp] theorem State.count_beacon (s : State) (f : Fld) (u n : Nat) (y : Nat) :
    (s.count f u n).beacon y = s.beacon y := rfl
@[simp] theorem State.count_rd8 (s : State) (f : Fld) (u n : Nat) (y : Nat) :
    (s.count f u n).rd8 y = s.rd8 y := rfl
@[simp] theorem State.count_datum (s : State) (f : Fld) (u n : Nat) : (s.count f u n).datum = s.datum := rfl
@[simp] theorem State.count_pending (s : State) (f : Fld) (u n : Nat) : (s.count f u n).pending = s.pending := rfl
@[simp] theorem State.count_uncorr (s : State) (f : Fld) (u n : Nat) : (s.count f u n).uncorr = s.uncorr := rfl

/-! ### raise -/

@[simp] theorem State.raise_par (s : State) (f : Fld) (u : Nat) (y : Nat) :
    (s.raise f u).par y = s.par y := rfl
@[simp] theorem State.raise_eng (s : State) (f : Fld) (u : Nat) (y z : Nat) :
    (s.raise f u).eng y z = s.eng y z := rfl
@[simp] theorem State.raise_town (s : State) (f : Fld) (u : Nat) (y : Nat) :
    (s.raise f u).town y = s.town y := rfl
@[simp] theorem State.raise_tract (s : State) (f : Fld) (u : Nat) (y : Nat) :
    (s.raise f u).tract y = s.tract y := rfl
@[simp] theorem State.raise_link (s : State) (f : Fld) (u : Nat) (y : Nat) :
    (s.raise f u).link y = s.link y := rfl
@[simp] theorem State.raise_lane (s : State) (f : Fld) (u : Nat) (y : Nat) (d : Bool) (z : Nat) :
    (s.raise f u).lane y d z = s.lane y d z := rfl
@[simp] theorem State.raise_wreg (s : State) (f : Fld) (u : Nat) (y z m : Nat) :
    (s.raise f u).wreg y z m = s.wreg y z m := rfl
@[simp] theorem State.raise_pred (s : State) (f : Fld) (u : Nat) (y z : Nat) :
    (s.raise f u).pred y z = s.pred y z := rfl
@[simp] theorem State.raise_widx (s : State) (f : Fld) (u : Nat) (y z : Nat) :
    (s.raise f u).widx' y z = s.widx' y z := rfl
@[simp] theorem State.raise_liveP (s : State) (f : Fld) (u : Nat) (y z : Nat) :
    (s.raise f u).liveP y z = s.liveP y z := rfl
@[simp] theorem State.raise_shadowP (s : State) (f : Fld) (u : Nat) (y z : Nat) :
    (s.raise f u).shadowP y z = s.shadowP y z := rfl
@[simp] theorem State.raise_tally (s : State) (f : Fld) (u : Nat) (y z : Nat) :
    (s.raise f u).tally y z = s.tally y z := rfl
@[simp] theorem State.raise_beacon (s : State) (f : Fld) (u : Nat) (y : Nat) :
    (s.raise f u).beacon y = s.beacon y := rfl
@[simp] theorem State.raise_rd8 (s : State) (f : Fld) (u : Nat) (y : Nat) :
    (s.raise f u).rd8 y = s.rd8 y := rfl
@[simp] theorem State.raise_datum (s : State) (f : Fld) (u : Nat) : (s.raise f u).datum = s.datum := rfl
@[simp] theorem State.raise_pending (s : State) (f : Fld) (u : Nat) : (s.raise f u).pending = s.pending := rfl
@[simp] theorem State.raise_uncorr (s : State) (f : Fld) (u : Nat) : (s.raise f u).uncorr = s.uncorr := rfl

/-! ### setPstate -/

@[simp] theorem State.setPstate_par (s : State) (p c : Nat) (y : Nat) :
    (s.setPstate p c).par y = s.par y := rfl
@[simp] theorem State.setPstate_eng (s : State) (p c : Nat) (y z : Nat) :
    (s.setPstate p c).eng y z = s.eng y z := rfl
@[simp] theorem State.setPstate_town (s : State) (p c : Nat) (y : Nat) :
    (s.setPstate p c).town y = s.town y := rfl
@[simp] theorem State.setPstate_tract (s : State) (p c : Nat) (y : Nat) :
    (s.setPstate p c).tract y = s.tract y := rfl
@[simp] theorem State.setPstate_link (s : State) (p c : Nat) (y : Nat) :
    (s.setPstate p c).link y = s.link y := rfl
@[simp] theorem State.setPstate_lane (s : State) (p c : Nat) (y : Nat) (d : Bool) (z : Nat) :
    (s.setPstate p c).lane y d z = s.lane y d z := rfl
@[simp] theorem State.setPstate_wreg (s : State) (p c : Nat) (y z m : Nat) :
    (s.setPstate p c).wreg y z m = s.wreg y z m := rfl
@[simp] theorem State.setPstate_pred (s : State) (p c : Nat) (y z : Nat) :
    (s.setPstate p c).pred y z = s.pred y z := rfl
@[simp] theorem State.setPstate_widx (s : State) (p c : Nat) (y z : Nat) :
    (s.setPstate p c).widx' y z = s.widx' y z := rfl
@[simp] theorem State.setPstate_liveP (s : State) (p c : Nat) (y z : Nat) :
    (s.setPstate p c).liveP y z = s.liveP y z := rfl
@[simp] theorem State.setPstate_shadowP (s : State) (p c : Nat) (y z : Nat) :
    (s.setPstate p c).shadowP y z = s.shadowP y z := rfl
@[simp] theorem State.setPstate_tally (s : State) (p c : Nat) (y z : Nat) :
    (s.setPstate p c).tally y z = s.tally y z := rfl
@[simp] theorem State.setPstate_beacon (s : State) (p c : Nat) (y : Nat) :
    (s.setPstate p c).beacon y = s.beacon y := rfl
@[simp] theorem State.setPstate_rd8 (s : State) (p c : Nat) (y : Nat) :
    (s.setPstate p c).rd8 y = s.rd8 y := rfl
@[simp] theorem State.setPstate_datum (s : State) (p c : Nat) : (s.setPstate p c).datum = s.datum := rfl
@[simp] theorem State.setPstate_pending (s : State) (p c : Nat) : (s.setPstate p c).pending = s.pending := rfl
@[simp] theorem State.setPstate_uncorr (s : State) (p c : Nat) : (s.setPstate p c).uncorr = s.uncorr := rfl

/-! ### active -/

@[simp] theorem State.active_fld (s : State) (p : Nat) (g : Fld) (y : Nat) :
    (s.active p).fld g y = s.fld g y := rfl
@[simp] theorem State.active_par (s : State) (p : Nat) (y : Nat) :
    (s.active p).par y = s.par y := rfl
@[simp] theorem State.active_eng (s : State) (p : Nat) (y z : Nat) :
    (s.active p).eng y z = s.eng y z := rfl
@[simp] theorem State.active_town (s : State) (p : Nat) (y : Nat) :
    (s.active p).town y = s.town y := rfl
@[simp] theorem State.active_tract (s : State) (p : Nat) (y : Nat) :
    (s.active p).tract y = s.tract y := rfl
@[simp] theorem State.active_link (s : State) (p : Nat) (y : Nat) :
    (s.active p).link y = s.link y := rfl
@[simp] theorem State.active_lane (s : State) (p : Nat) (y : Nat) (d : Bool) (z : Nat) :
    (s.active p).lane y d z = s.lane y d z := rfl
@[simp] theorem State.active_wreg (s : State) (p : Nat) (y z m : Nat) :
    (s.active p).wreg y z m = s.wreg y z m := rfl
@[simp] theorem State.active_pred (s : State) (p : Nat) (y z : Nat) :
    (s.active p).pred y z = s.pred y z := rfl
@[simp] theorem State.active_widx (s : State) (p : Nat) (y z : Nat) :
    (s.active p).widx' y z = s.widx' y z := rfl
@[simp] theorem State.active_liveP (s : State) (p : Nat) (y z : Nat) :
    (s.active p).liveP y z = s.liveP y z := rfl
@[simp] theorem State.active_shadowP (s : State) (p : Nat) (y z : Nat) :
    (s.active p).shadowP y z = s.shadowP y z := rfl
@[simp] theorem State.active_tally (s : State) (p : Nat) (y z : Nat) :
    (s.active p).tally y z = s.tally y z := rfl
@[simp] theorem State.active_beacon (s : State) (p : Nat) (y : Nat) :
    (s.active p).beacon y = s.beacon y := rfl
@[simp] theorem State.active_rd8 (s : State) (p : Nat) (y : Nat) :
    (s.active p).rd8 y = s.rd8 y := rfl
@[simp] theorem State.active_datum (s : State) (p : Nat) : (s.active p).datum = s.datum := rfl
@[simp] theorem State.active_pending (s : State) (p : Nat) : (s.active p).pending = s.pending := rfl
@[simp] theorem State.active_uncorr (s : State) (p : Nat) : (s.active p).uncorr = s.uncorr := rfl

/-! ### setFlds -/

@[simp] theorem State.setFlds_par (s : State) (u : Nat) (l : List (Fld × Nat)) (y : Nat) :
    (s.setFlds u l).par y = s.par y := by
  induction l generalizing s with
  | nil => rfl
  | cons x l ih => exact ih _
@[simp] theorem State.setFlds_eng (s : State) (u : Nat) (l : List (Fld × Nat)) (y z : Nat) :
    (s.setFlds u l).eng y z = s.eng y z := by
  induction l generalizing s with
  | nil => rfl
  | cons x l ih => exact ih _
@[simp] theorem State.setFlds_town (s : State) (u : Nat) (l : List (Fld × Nat)) (y : Nat) :
    (s.setFlds u l).town y = s.town y := by
  induction l generalizing s with
  | nil => rfl
  | cons x l ih => exact ih _
@[simp] theorem State.setFlds_tract (s : State) (u : Nat) (l : List (Fld × Nat)) (y : Nat) :
    (s.setFlds u l).tract y = s.tract y := by
  induction l generalizing s with
  | nil => rfl
  | cons x l ih => exact ih _
@[simp] theorem State.setFlds_link (s : State) (u : Nat) (l : List (Fld × Nat)) (y : Nat) :
    (s.setFlds u l).link y = s.link y := by
  induction l generalizing s with
  | nil => rfl
  | cons x l ih => exact ih _
@[simp] theorem State.setFlds_lane (s : State) (u : Nat) (l : List (Fld × Nat)) (y : Nat) (d : Bool) (z : Nat) :
    (s.setFlds u l).lane y d z = s.lane y d z := by
  induction l generalizing s with
  | nil => rfl
  | cons x l ih => exact ih _
@[simp] theorem State.setFlds_wreg (s : State) (u : Nat) (l : List (Fld × Nat)) (y z m : Nat) :
    (s.setFlds u l).wreg y z m = s.wreg y z m := by
  induction l generalizing s with
  | nil => rfl
  | cons x l ih => exact ih _
@[simp] theorem State.setFlds_pred (s : State) (u : Nat) (l : List (Fld × Nat)) (y z : Nat) :
    (s.setFlds u l).pred y z = s.pred y z := by
  induction l generalizing s with
  | nil => rfl
  | cons x l ih => exact ih _
@[simp] theorem State.setFlds_widx (s : State) (u : Nat) (l : List (Fld × Nat)) (y z : Nat) :
    (s.setFlds u l).widx' y z = s.widx' y z := by
  induction l generalizing s with
  | nil => rfl
  | cons x l ih => exact ih _
@[simp] theorem State.setFlds_liveP (s : State) (u : Nat) (l : List (Fld × Nat)) (y z : Nat) :
    (s.setFlds u l).liveP y z = s.liveP y z := by
  induction l generalizing s with
  | nil => rfl
  | cons x l ih => exact ih _
@[simp] theorem State.setFlds_shadowP (s : State) (u : Nat) (l : List (Fld × Nat)) (y z : Nat) :
    (s.setFlds u l).shadowP y z = s.shadowP y z := by
  induction l generalizing s with
  | nil => rfl
  | cons x l ih => exact ih _
@[simp] theorem State.setFlds_tally (s : State) (u : Nat) (l : List (Fld × Nat)) (y z : Nat) :
    (s.setFlds u l).tally y z = s.tally y z := by
  induction l generalizing s with
  | nil => rfl
  | cons x l ih => exact ih _
@[simp] theorem State.setFlds_beacon (s : State) (u : Nat) (l : List (Fld × Nat)) (y : Nat) :
    (s.setFlds u l).beacon y = s.beacon y := by
  induction l generalizing s with
  | nil => rfl
  | cons x l ih => exact ih _
@[simp] theorem State.setFlds_rd8 (s : State) (u : Nat) (l : List (Fld × Nat)) (y : Nat) :
    (s.setFlds u l).rd8 y = s.rd8 y := by
  induction l generalizing s with
  | nil => rfl
  | cons x l ih => exact ih _
@[simp] theorem State.setFlds_datum (s : State) (u : Nat) (l : List (Fld × Nat)) : (s.setFlds u l).datum = s.datum := by
  induction l generalizing s with
  | nil => rfl
  | cons x l ih => exact ih _
@[simp] theorem State.setFlds_pending (s : State) (u : Nat) (l : List (Fld × Nat)) : (s.setFlds u l).pending = s.pending := by
  induction l generalizing s with
  | nil => rfl
  | cons x l ih => exact ih _
@[simp] theorem State.setFlds_uncorr (s : State) (u : Nat) (l : List (Fld × Nat)) : (s.setFlds u l).uncorr = s.uncorr := by
  induction l generalizing s with
  | nil => rfl
  | cons x l ih => exact ih _

/-! ### Reading back -/

theorem fkey_ne {f g : Fld} (u v : Nat) (h : f.idn ≠ g.idn) : fkey f u ≠ fkey g v := by
  unfold fkey
  omega

/-- A register field reads as the low bits of what was last written there. -/
@[simp] theorem State.setFld_fld_same (s : State) (f : Fld) (u v : Nat) : (s.setFld f u v).fld f u = v % 2 ^ f.w :=
  tabGet_tabPut_same _ _ _ _

/-- Every other register field reads as before. -/
theorem State.setFld_fld_ne (s : State) (f g : Fld) (u v j : Nat) (h : g.idn ≠ f.idn) : (s.setFld f u v).fld g j = s.fld g j :=
  tabGet_tabPut_ne _ _ _ _ _ _ (fkey_ne _ _ h)

/-- The same field of every other unit reads as before. -/
theorem State.setFld_fld_unit (s : State) (f : Fld) (u v j : Nat) (h : j % 1024 ≠ u % 1024) : (s.setFld f u v).fld f j = s.fld f j :=
  tabGet_tabPut_ne _ _ _ _ _ _ (by unfold fkey; omega)

@[simp] theorem State.setPar_par_same (s : State) (p : Nat) (x : Parcel) : (s.setPar p x).par p = x := tabGet_tabPut_same _ _ _ _
theorem State.setPar_par_ne (s : State) (p j : Nat) (x : Parcel) (h : j ≠ p) : (s.setPar p x).par j = s.par j :=
  tabGet_tabPut_ne _ _ _ _ _ _ h
@[simp] theorem State.setEng_eng_same (s : State) (p e : Nat) (x : Engine) : (s.setEng p e x).eng p e = x := tabGet_tabPut_same _ _ _ _
theorem State.setEng_eng_ne (s : State) (p e i j : Nat) (x : Engine) (h : i * 8 + j ≠ p * 8 + e) : (s.setEng p e x).eng i j = s.eng i j :=
  tabGet_tabPut_ne _ _ _ _ _ _ h
@[simp] theorem State.setTown_town_same (s : State) (w : Nat) (x : Town) : (s.setTown w x).town w = x := tabGet_tabPut_same _ _ _ _
theorem State.setTown_town_ne (s : State) (w j : Nat) (x : Town) (h : j ≠ w) : (s.setTown w x).town j = s.town j :=
  tabGet_tabPut_ne _ _ _ _ _ _ h
@[simp] theorem State.setTract_tract_same (s : State) (t : Nat) (x : Tract) : (s.setTract t x).tract t = x := tabGet_tabPut_same _ _ _ _
theorem State.setTract_tract_ne (s : State) (t j : Nat) (x : Tract) (h : j ≠ t) : (s.setTract t x).tract j = s.tract j :=
  tabGet_tabPut_ne _ _ _ _ _ _ h
@[simp] theorem State.setLink_link_same (s : State) (k : Nat) (x : Link) : (s.setLink k x).link k = x := tabGet_tabPut_same _ _ _ _
theorem State.setLink_link_ne (s : State) (k j : Nat) (x : Link) (h : j ≠ k) : (s.setLink k x).link j = s.link j :=
  tabGet_tabPut_ne _ _ _ _ _ _ h
@[simp] theorem State.setLane_lane_same (s : State) (k : Nat) (tx : Bool) (j : Nat) (x : Lane) : (s.setLane k tx j x).lane k tx j = x :=
  tabGet_tabPut_same _ _ _ _
@[simp] theorem State.setTally_tally_same (s : State) (p n : Nat) (x : Tally) : (s.setTally p n x).tally p n = x := tabGet_tabPut_same _ _ _ _
@[simp] theorem State.setBeacon_beacon_same (s : State) (b : Nat) (x : Beacon) : (s.setBeacon b x).beacon b = x := tabGet_tabPut_same _ _ _ _
theorem State.setBeacon_beacon_ne (s : State) (b j : Nat) (x : Beacon) (h : j ≠ b) : (s.setBeacon b x).beacon j = s.beacon j :=
  tabGet_tabPut_ne _ _ _ _ _ _ h
@[simp] theorem State.setWreg_wreg_same (s : State) (p w r v : Nat) : (s.setWreg p w r v).wreg p w r = v % 2 ^ 32 := by
  unfold State.wreg State.setWreg
  rw [tabGet_tabPut_same, BitVec.toNat_ofNat]
theorem State.setWreg_wreg_ne (s : State) (p w r v i j k : Nat) (h : (i * 4096 + j) * 32 + k ≠ (p * 4096 + w) * 32 + r) :
    (s.setWreg p w r v).wreg i j k = s.wreg i j k :=
  congrArg BitVec.toNat (tabGet_tabPut_ne _ _ _ _ _ _ h)

/-! ### Several fields of one unit -/

/-- Of the registers an event sets its own bit. -/
@[simp] theorem State.raise_fld (s : State) (f g : Fld) (u j : Nat) : (s.raise f u).fld g j = (s.setFld f u 1).fld g j := rfl
theorem State.count_eq (s : State) (f : Fld) (u n : Nat) : s.count f u n = s.setFld f u (satAdd f.w (s.fld f u) n) := rfl
theorem State.setPstate_eq (s : State) (p c : Nat) : s.setPstate p c = s.setFld Reg.PCT_STATE_CODE p c := rfl

@[simp] theorem State.setFlds_nil (s : State) (u : Nat) : s.setFlds u [] = s := rfl
@[simp] theorem State.setFlds_cons (s : State) (u : Nat) (x : Fld × Nat) (l : List (Fld × Nat)) :
    s.setFlds u (x :: l) = (s.setFld x.1 u x.2).setFlds u l := rfl

/-! ### Bytes -/

theorem putBytes_get (m : Tab Byte) (a : Nat) (bs : List Byte) (i : Nat) :
    tabGet 0 (putBytes m a bs) i = if a ≤ i ∧ i < a + bs.length then bs.getD (i - a) 0 else tabGet 0 m i := by
  induction bs generalizing m a with
  | nil => rw [putBytes, if_neg (by simp)]
  | cons b bs ih =>
    rw [putBytes, ih, tabGet_tabPut, List.length_cons]
    by_cases h : i = a
    · subst h
      rw [if_neg (by omega), if_pos rfl, if_pos (by omega), Nat.sub_self]
      rfl
    · by_cases h2 : a + 1 ≤ i ∧ i < a + 1 + bs.length
      · rw [if_pos h2, if_pos (by omega), show i - a = (i - (a + 1)) + 1 by omega]
        rfl
      · rw [if_neg h2, if_neg h, if_neg (by omega)]

/-- A byte reads as what was written there, and every byte outside the written range as before. -/
theorem State.wrBytes_rd8 (s : State) (a : Nat) (bs : List Byte) (i : Nat) :
    (s.wrBytes a bs).rd8 i = if a ≤ i ∧ i < a + bs.length then bs.getD (i - a) 0 else s.rd8 i :=
  putBytes_get _ _ _ _

end Sys2Proof.Machine
end

