-- ==== Sys2Proof/WellFormed.lean ====
section
/-!
DEFINITION. Which commands are well formed: operands within what the spec's formats can carry.
-/
namespace Sys2Proof

/-- A module address has 48 bits (07 R153). -/
def wfAddr (a : Nat) : Bool := decide (a < 2 ^ 48)
/-- A register write carries one to eight bytes (00 R6 says which are performed). -/
def wfSize (n : Nat) : Bool := decide (1 ≤ n ∧ n ≤ 8)
/-- An access reads or writes at least one byte; what it writes has its length. -/
def wfAccess (n : Nat) : Option (List Byte) → Bool
  | none => decide (1 ≤ n)
  | some bs => decide (1 ≤ n) && bs.length == n
/-- Data of an attach message: at most four whole lines (16 R388). -/
def wfLines (bs : List Byte) : Bool := bs.length % 64 == 0 && decide (bs.length ≤ 256)
/-- A token has 160 bytes; none are scanned in where only the challenge is read (16 R406). -/
def wfToken (b : List Byte) : Bool := b.length == 160 || b.length == 0
/-- The codewords of n codeword times on the lanes listed: 544 symbols each, a lane listed once (10 R234). -/
def wfWords (n : Nat) (lanes : List (Fin 17)) (syms : List (List (List (Fin 1024)))) : Bool :=
  syms.length == n && lanes.eraseDups.length == lanes.length &&
    syms.all fun row => row.length == lanes.length && row.all fun w => w.length == 544
/-- A cadastre slot is 0 to 1,279 (11 R257). -/
def wfSlot (n : Nat) : Bool := decide (n < 1280)
/-- A NAK names 1 to 64 packets (10 R248). -/
def wfNak (l : List Nat) : Bool := decide (1 ≤ l.length ∧ l.length ≤ 64)
/-- A physical lane is 0 to 16 (10 R233). -/
def wfLane (j : Nat) : Bool := decide (j < 17)
/-- Twelve to sixteen data lanes (10 R246). -/
def wfLanes (l : List Nat) : Bool := l.all wfLane && decide (12 ≤ l.length ∧ l.length ≤ 16)
/-- A mask of 17 lanes. -/
def wfMask (m : Nat) : Bool := decide (m < 2 ^ 17)
/-- A pseudo-channel or subchannel, and a position of a tick (07 R157). -/
def wfPosition (c lane pos : Nat) : Bool := if c < 8 then decide (lane < 64 ∧ pos < 1280) else decide (lane < 2 ∧ pos < 1126)
/-- A reading per township and one of the spine (14 R349). -/
def wfSensors (l : List (Option Nat)) : Bool := l.length == 33
/-- Up to eight sockets, each with a capacity in GiB and a rank count (07 R166). -/
def wfDimms (l : List (Nat × Nat)) : Bool := decide (l.length ≤ 8) && l.all fun d => decide (d.1 ≤ 256 ∧ d.2 ≤ 4)
/-- A configuration section has 0x4A4 bytes; none are written where the section in flash stands (15 R369). -/
def wfSection (b : List Byte) : Bool := b.length == 0x4A4 || b.length == 0
/-- Writes within the 128 MiB of the flash (15 R367). -/
def wfFlash (l : List (Nat × List Byte)) : Bool := l.all fun w => decide (w.1 + w.2.length ≤ 2 ^ 27)
/-- SET_COORD carries 16 bytes (16 R398). -/
def wfCoord (b : List Byte) : Bool := b.length == 16
/-- A nonce has 32 bytes (16 R402). -/
def wfNonce (b : List Byte) : Bool := b.length == 32

/-- The command is well formed. -/
def Instr.wf : Instr → Bool
  | .issue _ => true
  | .engineCompletion _ _ _ => true
  | .nop _ => true
  | .replay _ => true
  | .replayDrainComplete _ _ => true
  | .br _ => true
  | .bfork _ => true
  | .bmerge _ => true
  | .loop _ => true
  | .endStream _ => true
  | .tmul _ => true
  | .tlsadd _ => true
  | .tlscvt _ => true
  | .tlsset _ => true
  | .vadd _ => true
  | .vsub _ => true
  | .vmul _ => true
  | .vfma _ => true
  | .vmax _ => true
  | .vmin _ => true
  | .vabs _ => true
  | .vneg _ => true
  | .viadd _ => true
  | .visub _ => true
  | .vimul _ => true
  | .vand _ => true
  | .vor _ => true
  | .vxor _ => true
  | .vshl _ => true
  | .vshr _ => true
  | .vsra _ => true
  | .vmov _ => true
  | .vexp2 _ => true
  | .vlog2 _ => true
  | .vrcp _ => true
  | .vrsqrt _ => true
  | .vcmp _ => true
  | .vsetp _ => true
  | .vsetidx _ => true
  | .vsel _ => true
  | .vcvt _ => true
  | .vmxq _ => true
  | .vrand _ => true
  | .vld _ => true
  | .vst _ => true
  | .vshfl _ => true
  | .vsumred _ => true
  | .vmaxred _ => true
  | .vminred _ => true
  | .vexpmax _ => true
  | .vscan _ => true
  | .tcall _ => true
  | .taperTakeCall _ => true
  | .taperInstruction _ _ => true
  | .mcopy _ => true
  | .mfill _ => true
  | .mgath _ => true
  | .mscat _ => true
  | .xsend _ => true
  | .xrecv _ => true
  | .xsig _ => true
  | .xcoll _ => true
  | .bsig _ => true
  | .bwait _ => true
  | .bbcast _ => true
  | .bsub _ => true
  | .fence _ => true
  | .beaconOpArrival _ _ => true
  | .beaconAckReturn _ _ => true
  | .parcelQuiesced _ => true
  | .pctStart _ => true
  | .pctStop _ => true
  | .pctStopNow _ => true
  | .pctTaperReset _ _ => true
  | .pctCodeDataAccess _ _ => true
  | .pctDescDataAccess _ _ => true
  | .pctParamWrite _ _ _ => true
  | .registerWrite _ addr size _ => wfAddr addr && wfSize size
  | .outsideAgentAccess _ addr len bytes => wfAddr addr && wfAccess len bytes
  | .tickGate _ _ => true
  | .windowEnd _ _ => true
  | .tickWatchdogFire _ _ => true
  | .trcLoad _ => true
  | .loadStageComplete _ => true
  | .trcStart _ => true
  | .trcStop _ => true
  | .trcStopNow _ => true
  | .trcReset _ => true
  | .tractResetComplete _ _ => true
  | .trcCountClr _ => true
  | .slotSend _ slot _ => wfSlot slot
  | .slackUnitSend _ _ => true
  | .unitReceive _ _ _ n lanes syms => wfWords n lanes syms
  | .packetDeliver _ => true
  | .transferDeadline _ _ => true
  | .retryOverrun _ _ _ _ _ => true
  | .ack _ _ => true
  | .nak _ seqs => wfNak seqs
  | .copy _ i f _ => wfLane i && wfLane f
  | .linkRelease _ j _ => wfLane j
  | .parity _ j _ => wfLane j
  | .tap _ j _ => wfLane j
  | .failover _ i f _ => wfLane i && wfLane f
  | .degrade _ lanes _ _ => wfLanes lanes
  | .restore _ lanes _ _ => wfLanes lanes
  | .datumUnit _ _ _ _ _ _ => true
  | .darkUnit _ => true
  | .laneLinkChangeTick _ _ _ => true
  | .laneFailDeclared _ _ => true
  | .laneAdaptUpdate _ _ _ => true
  | .rollStepStart _ _ => true
  | .rollVerifyDone _ _ => true
  | .rollLaneSwitch _ => true
  | .rollCalibrationDone _ => true
  | .rollMarginScanDone _ _ => true
  | .lnkTrain _ => true
  | .trainingComplete _ rxMask txMask _ _ => wfMask rxMask && wfMask txMask
  | .lnkRollEn _ _ => true
  | .lnkRollNow _ => true
  | .lnkRollStopNow _ => true
  | .lnkDown _ => true
  | .lnkForceFail _ _ => true
  | .lnkRetest _ _ => true
  | .lnkCountClr _ => true
  | .lnkLaneOvr _ _ => true
  | .lnkInjCw _ => true
  | .lnkInjCrc _ => true
  | .lnkPass _ => true
  | .ownerDrainComplete _ _ => true
  | .boundaryStoneDrained _ => true
  | .boundaryStoneConfirm _ => true
  | .ownerSwitchTick _ _ _ => true
  | .stoneTimeout _ _ _ => true
  | .lnkReleaseStuck _ => true
  | .lnkEaseWrite _ _ => true
  | .lnkCadDataRead _ => true
  | .detourStart _ _ => true
  | .detourEnd _ _ => true
  | .lanternReply _ => true
  | .managementNotice _ _ => true
  | .startMessage _ _ => true
  | .platChunk _ => true
  | .abandon _ => true
  | .startAckTimeout _ _ => true
  | .startHoldExpiry _ _ => true
  | .ready _ => true
  | .go _ _ => true
  | .done _ => true
  | .abort _ => true
  | .journalEntry _ => true
  | .datumExchangeStart _ _ => true
  | .datumPulseEdge _ => true
  | .referenceLost _ => true
  | .referenceBack _ => true
  | .holdLimitExpiry _ => true
  | .clkSetNs _ => true
  | .clkNsRead => true
  | .droopResponse _ _ => true
  | .droopHandback _ => true
  | .calendarPosition c lane pos _ => wfPosition c.val lane pos
  | .tierReadDelivery _ => true
  | .refreshWindow _ _ _ => true
  | .patrolScrub => true
  | .memoryTempRead _ _ => true
  | .xxRetire _ => true
  | .xxInjectCe _ => true
  | .xxInjectUe _ => true
  | .xxCountClr _ => true
  | .xxCalDataAccess _ _ => true
  | .xxTrainReq _ => true
  | .composition _ _ => true
  | .stepRecordApply _ => true
  | .parkMoveComplete _ _ _ => true
  | .promptStaged _ => true
  | .idleTtlExpiry _ _ => true
  | .parkTtlExpiry _ _ => true
  | .submissionTailDoorbell _ _ => true
  | .completionHeadDoorbell _ _ => true
  | .openRing _ _ => true
  | .closeRing _ => true
  | .openAccount _ => true
  | .closeAccount _ => true
  | .setAccount _ _ => true
  | .srvEn _ => true
  | .srvStopNow _ => true
  | .benchmarkDigestDone _ _ _ => true
  | .drillStart _ _ _ _ _ _ => true
  | .mcbDrillStopNow => true
  | .katSlot _ _ _ => true
  | .katRerun _ _ _ => true
  | .clockMonitorWindow _ _ _ => true
  | .lockstepMismatch _ => true
  | .heartbeatSend _ => true
  | .heartbeatTimeout _ => true
  | .sfmLwdtKick _ _ => true
  | .lanternWatchdogExpiry _ _ => true
  | .dieSensorRead temps _ => wfSensors temps
  | .inputOvervoltage _ _ => true
  | .inputOvercurrent _ _ => true
  | .railOvervoltage _ _ _ => true
  | .sensingCompare _ _ _ _ => true
  | .inputDip _ _ => true
  | .inputLow _ => true
  | .sfmDarkNow => true
  | .sfmTractDarkNow _ => true
  | .coldStartPowerOn _ _ => true
  | .startSequenceStepDone _ dimms _ => wfDimms dimms
  | .mcbCold => true
  | .mcbWarm => true
  | .mcbAdopt sect => wfSection sect
  | .mcbFwStage => true
  | .fwHandoverStageDone _ _ => true
  | .mcbRecoveryGo writes => wfFlash writes
  | .mcbRetest => true
  | .mcbQMark => true
  | .identity => true
  | .status => true
  | .lastResult => true
  | .setCoord b _ => wfCoord b
  | .getCoord => true
  | .powerCap _ _ => true
  | .powerRead => true
  | .attestNonce nonce _ => wfNonce nonce
  | .attestRead _ => true
  | .warmStart _ => true
  | .coldStart _ => true
  | .standby _ => true
  | .safetyLog _ => true
  | .alertResponse _ => true
  | .idnAttReq => true
  | .attestationSigned _ => true
  | .powerAverageUpdate _ _ => true
  | .pwrCapW _ => true
  | .rd _ _ _ _ => true
  | .cpl _ _ _ data _ => wfLines data
  | .wr _ data _ _ => wfLines data && data != []
  | .idle _ => true
  | .attachLaneFail _ => true
  | .attTrain => true
  | .attWinWrite _ _ _ => true
  | .attCountClr => true
  | .commandTailDoorbell _ => true
  | .reportHeadDoorbell _ => true
  | .startJob _ => true
  | .abortJob _ => true
  | .drillWindow => true
  | .exportBlock => true
  | .linkPass => true
  | .easement => true
  | .extest _ => true
  | .idcode => true
  | .samplePreload _ => true
  | .dtmcs _ => true
  | .dmi _ _ _ => true
  | .dbgacc _ _ _ => true
  | .token b => wfToken b
  | .bypass _ => true
  | .tokenExpiry _ => true
  | .dbgHalt => true
  | .dbgResume => true
  | .dbgStep => true
  | .dbgLock => true
  | .dbgBeaconSet _ _ => true
  | .sfmLogDataRead => true
  | .attachTrainingComplete _ => true
  | .memoryTrainingComplete _ _ _ _ => true
  | .memoryControllerFailure _ => true
  | .coolantInletRead _ _ => true

end Sys2Proof
end

