-- ==== Sys2Proof/Tests/Slice0.lean ====
section
/-!
SUPPORT. Tests of the model: what the checks of WellFormed refuse, words the spec gives, and for the statements of
Certificates/Slice0 concrete states that meet their hypotheses.
-/
set_option Elab.async false
set_option linter.unusedVariables false

namespace Sys2Proof.Tests
open Sys2Proof Sys2Proof.Machine

/-- Set fields of a state. -/
def put (l : List (Fld × Nat × Nat)) (s : State) : State := l.foldl (fun s x => s.setFld x.1 x.2.1 x.2.2) s

/-- The state after a command. -/
def after (c : Instr) (s : State) : State := match exec c s with
  | .next t => t
  | _ => s

theorem bitsOf_shifted (x : Nat) (h : x < 2 ^ 16) : bitsOf (x * 2 ^ 32) (8 * 4) (8 * 2) = x := by
  rw [bitsOf, Nat.mul_div_cancel x (by decide)]
  exact Nat.mod_eq_of_lt h

/-! ### Well-formed commands -/

theorem test_wfAddr : (Instr.registerWrite .lantern (2 ^ 48) 8 0).wf = false ∧ (Instr.registerWrite .lantern 0x90000000 8 0).wf = true := by decide
theorem test_wfSize : (Instr.registerWrite .lantern 0x90000000 9 0).wf = false := by decide
theorem test_wfAccess : (Instr.outsideAgentAccess .lantern 0 2 (some [1])).wf = false ∧ (Instr.outsideAgentAccess .lantern 0 0 none).wf = false := by decide
theorem test_wfLines : (Instr.cpl 0 0 0 [1] 0).wf = false ∧ (Instr.wr 0 [] 0 0).wf = false := by decide
theorem test_wfToken : (Instr.token [1]).wf = false ∧ (Instr.token []).wf = true := by decide
theorem test_wfUnit : (Instr.unitReceive 0 0 0 1 [0] [[[1]]]).wf = false ∧ (Instr.unitReceive 0 0 0 0 [] []).wf = true := by decide
theorem test_wfSlot : (Instr.slotSend 0 1280 0).wf = false ∧ (Instr.slotSend 0 1279 0).wf = true := by decide
theorem test_wfNak : (Instr.nak 0 []).wf = false ∧ (Instr.nak 0 (List.replicate 65 0)).wf = false := by decide
theorem test_wfLane : (Instr.copy 0 17 0 0).wf = false ∧ (Instr.linkRelease 0 17 0).wf = false ∧ (Instr.tap 0 16 0).wf = true := by decide
theorem test_wfLanes : (Instr.degrade 0 (List.range 11) 0 0).wf = false ∧ (Instr.restore 0 (List.range 17) 0 0).wf = false ∧
    (Instr.degrade 0 (List.range 12) 0 0).wf = true := by decide
theorem test_wfMask : (Instr.trainingComplete 0 (2 ^ 17) 0 1 0).wf = false := by decide
theorem test_wfPosition : (Instr.calendarPosition 8 0 1126 []).wf = false ∧ (Instr.calendarPosition 7 63 1279 []).wf = true := by decide
theorem test_wfSensors : (Instr.dieSensorRead [] 0).wf = false := by decide
theorem test_wfDimms : (Instr.startSequenceStepDone 0 [(257, 1)] []).wf = false := by decide
theorem test_wfSection : (Instr.mcbAdopt [1]).wf = false ∧ (Instr.mcbAdopt []).wf = true := by decide
theorem test_wfFlash : (Instr.mcbRecoveryGo [(2 ^ 27, [1])]).wf = false := by decide
theorem test_wfCoord : (Instr.setCoord [] true).wf = false := by decide
theorem test_wfNonce : (Instr.attestNonce [] true).wf = false := by decide

/-- No row of the opcode table gives bits, so no word spells a command. -/
theorem test_noWords (n w : Nat) : decodeTableWord n w = none := rfl

/-- Every command answers at reset with a next state; these three families show it. -/
theorem test_resetAnswers : (match exec (.nop 0) State.reset, exec (.trcLoad 0) State.reset, exec .identity State.reset with
    | .next _, .next _, .next _ => true
    | _, _, _ => false) = true := by decide +kernel

/-! ### The queue of commands, and parcel 0 running (02) -/

theorem test_stepFront : step { State.reset with pending := [.nop 0, .tcall 0] } = exec (.nop 0) { State.reset with pending := [.tcall 0] } := rfl

theorem wit_idleStep : State.reset.pending = [] ∧ 0 ≤ (State.reset.datumFrac : Int) + 65536 + State.reset.clk.freqTrim + slewPart State.reset.clk.slew ∧
    (match step State.reset with | .next t => t.datum | _ => 0) = 1 := by decide +kernel

theorem wit_memoryCanonical : Memory.wf State.reset.mem = true ∧ Memory.wf (State.reset.wrBytes 8 [1, 0, 2]).mem = true ∧
    ((State.reset.wrBytes 8 [1, 0, 2]).wrBytes 8 [0, 0, 0]).mem = [] := by decide +kernel

/-- Parcel 0 runs in its plan window. -/
def running : State := { put [(Reg.PCT_STATE_CODE, 0, 2)] State.reset with windowOpen := [(0, true)] }

/-- Parcel 0 runs and word w is next. -/
def nextIs (w : Nat) : State := { running with code := [(0, BitVec.ofNat 128 w)] }

/-- A command that keeps memory, and one that does not. -/
theorem wit_keepsMemory : keepsMemory .mcbCold = true ∧ keepsMemory (.vst 0) = false ∧
    ∃ t, exec .mcbCold running = .next t ∧ t.mem = running.mem := ⟨by decide, by decide, _, rfl, rfl⟩

/-! ### Parcel issue and engines -/

/-- The issue stage of parcel 0 reaches a well-formed word that may issue. -/
def mayIssue (s : State) : Bool :=
  s.canIssue 0 && wordOk (s.nextWord 0) && !s.breakMatch 0 (s.nextWord 0) 0 && !s.breakMatch 0 (s.nextWord 0) 1 && !(s.par 0).stepping &&
    s.waitsHold 0 (s.wordWaits 0 (s.nextWord 0))

theorem wit_nop : mayIssue (nextIs 0x00) = true ∧ wOpcode ((nextIs 0).nextWord 0) = 0 ∧ (nextIs 0).bit Reg.PCT_LOOP_ACTIVE 0 = false ∧
    ((after (.nop 0) (nextIs 0)).par 0).pc = 1 ∧ (after (.nop 0) (nextIs 0)).fld Reg.PCT_CMD 0 = 1 := by decide +kernel

theorem wit_replay : mayIssue (nextIs (0x01 + 77 * 2 ^ 16)) = true ∧ wOpcode ((nextIs (0x01 + 77 * 2 ^ 16)).nextWord 0) = 1 ∧
    ((after (.replay 0) (nextIs (0x01 + 77 * 2 ^ 16))).par 0).replayTo = some 77 := by decide +kernel

/-- BR with its condition, to word 100: parameter register 3 against 7. -/
def branch (cond : Nat) : State := { nextIs (0x02 + cond * 2 ^ 11 + 100 * 2 ^ 16 + 3 * 2 ^ 29 + 7 * 2 ^ 37) with live := [(3, 0xFFFFFFFF)] }

theorem wit_br : mayIssue (branch 4) = true ∧ brTaken 4 0xFFFFFFFF 7 = true ∧ ((after (.br 0) (branch 4)).par 0).pc = 100 ∧
    mayIssue (branch 2) = true ∧ brTaken 2 0xFFFFFFFF 7 = false ∧ ((after (.br 0) (branch 2)).par 0).pc = 1 := by decide +kernel

/-- BFORK, in a plan cycle that the wheel gives owner 5, on the count at parcel memory 8, with thresholds 1, 4 and 9 in parameter registers 10 and 11 and words 20, 30, 40, 50. -/
def fork (count : BitVec 8) : State := { nextIs (0x03 + 20 * 2 ^ 16 + 30 * 2 ^ 29 + 40 * 2 ^ 42 + 50 * 2 ^ 55 + 10 * 2 ^ 68 + 2 * 2 ^ 76) with
  live := [(10, 0x400000001), (11, 9)], mem := [(pmAddr 0 8, count)] } |> put [(Reg.PCT_WHEEL_NOW, 0, 5)]

theorem wit_bfork : mayIssue (fork 4) = true ∧ ((fork 4).par 0).forkOpen = false ∧
    wheelOwner ((fork 4).wheel 0) ((fork 4).cycleNow 0) = 5 ∧ (fork 4).pmBad 0 (4 * bitsOf ((fork 4).nextWord 0) 76 20) 4 = false ∧
    ((after (.bfork 0) (fork 4)).par 0).pc = 30 ∧ ((after (.bfork 0) (fork 5)).par 0).pc = 40 ∧ ((after (.bfork 0) (fork 10)).par 0).pc = 50 ∧
    ((after (.bfork 0) (fork 1)).par 0).pc = 20 := by decide +kernel

/-- In another owner's phase the fork waits; a count that reads uncorrectable stops the parcel. -/
theorem wit_bforkWaits : let s := put [(Reg.PCT_WHEEL_NOW, 0, 8)] (fork 4)
    mayIssue s = true ∧ wheelOwner (s.wheel 0) (s.cycleNow 0) ≠ 5 ∧ (after (.bfork 0) s).fld Reg.PCT_STALL_CAUSE 0 = 2 ∧
    ((after (.bfork 0) s).par 0).pc = 0 ∧ ((after (.bfork 0) { fork 4 with uncorr := [(pmAddr 0 8 / 8, true)] }).par 0).faulted = true := by
  decide +kernel

theorem wit_bmerge : mayIssue (nextIs (0x04 + 9 * 2 ^ 16)) = true ∧ ((after (.bmerge 0) (nextIs (0x04 + 9 * 2 ^ 16))).par 0).pc = 9 := by decide +kernel

/-- LOOP over two words, three times, with generator 0 from 1000 in steps of 16. -/
def looped : State := { nextIs (0x05 + 20 * 2 ^ 16) with live := [(20, 2), (21, 1 * 2 ^ 32), (22, 1000), (23, 16)] }

theorem wit_loop : mayIssue looped = true ∧ (after (.loop 0) looped).bit Reg.PCT_LOOP_ACTIVE 0 = true ∧
    ((after (.loop 0) looped).par 0).loop.len = 2 ∧ ((after (.loop 0) looped).par 0).loop.counts = [3, 1, 1, 1, 1, 1] ∧
    ((after (.nop 0) (after (.nop 0) (after (.loop 0) looped))).par 0).pc = 1 ∧
    ((after (.nop 0) (after (.nop 0) (after (.loop 0) looped))).par 0).loop.ags.head? = some 1016 := by decide +kernel

theorem wit_endStream : mayIssue (nextIs 0x06) = true ∧ ((after (.endStream 0) (nextIs 0x06)).par 0).ended = true := by decide +kernel

theorem wit_issue : mayIssue (nextIs (0x60 + 2 ^ 45)) = true ∧ opUnit (wOpcode ((nextIs (0x60 + 2 ^ 45)).nextWord 0)) = .engine 5 ∧
    ((after (.issue 0) (nextIs (0x60 + 2 ^ 45))).eng 0 5).queue.length = 1 ∧ ((after (.tcall 0) (nextIs (0x60 + 2 ^ 45))).eng 0 5).issued = 1 := by
  decide +kernel

theorem wit_issueStalls : let s := (nextIs (0x60 + 2 ^ 45)).setEng 0 5 { queue := List.replicate 16 {} }
    mayIssue s = true ∧ queueDepth 5 ≤ (s.eng 0 5).queue.length ∧ (after (.issue 0) s).fld Reg.PCT_STALL_CAUSE 0 = 1 ∧ ((after (.issue 0) s).par 0).pc = 0 := by
  decide +kernel

/-! ### Vector instructions -/

/-- A vector word: opcode, register 1 as VD, three slots, wicks 0 to n - 1, and the bits from 11 up (PRED, SUB, INT). -/
def vword (op sa sb sc n m : Nat) : Nat :=
  op + m * 2 ^ 11 + 1 * 2 ^ 16 + sa * 2 ^ 21 + sb * 2 ^ 37 + sc * 2 ^ 53 + (n - 1) * 2 ^ 81
/-- A slot with an immediate, a parameter register, a wick register. -/
def im (i : Nat) : Nat := 3 * 2 ^ 13 + i
def pr (n : Nat) : Nat := 2 * 2 ^ 13 + n
def wr (n : Nat) : Nat := 4 * 2 ^ 13 + n

/-- The word waits at the head of the vector engine's queue. -/
def atHead (e w : Nat) (s : State) : State := s.setEng 0 e { queue := [s.makeEntry 0 e w] }

/-- Parameter registers 0 and 1 hold 1.0 and 2.0, wick register 4 of wick w the number w, and the predicates of odd wicks are set. -/
def values : State :=
  [0, 1, 2, 3].foldl (fun s w => (s.setWreg 0 w 4 w).setPred 0 w (w % 2 == 1))
    { running with live := [(0, 0x3F800000), (1, 0x40000000)] }

/-- The head of the vector engine's queue may start, and depends on nothing in flight. -/
def ready1 (op : Nat) (s : State) : Bool := match s.readyHead 0 1 op with
  | some q => !s.dependsOn 0 1 (vectorLocs 0 s q)
  | none => false

/-- Nothing unsettles what an engine reads, and the wheel gives it a phase. -/
def settled (e : Nat) (s : State) : Bool := s.uncorr.isEmpty && (s.unsettled 0 e).isEmpty && s.hasPhase 0 e

/-- The instruction may start, and VD of wick w after it. -/
def vec (c : Instr) (op sa sb sc n m : Nat) (w : Nat := 0) : Bool × Nat :=
  let x := vword op sa sb sc n m
  let s := atHead 1 x values
  (wordOk x && ready1 op s, (after c s).wreg 0 w 1)

theorem wit_vadd : vec (.vadd 0) 0x20 (pr 0) (pr 1) 0 1 0 = (true, 0x40400000) := by decide +kernel
theorem wit_vsub : vec (.vsub 0) 0x21 (pr 0) (pr 1) 0 1 0 = (true, 0xBF800000) := by decide +kernel
theorem wit_vmul : vec (.vmul 0) 0x22 (pr 1) (im 3) 0 1 0 = (true, 0x40C00000) := by decide +kernel
theorem wit_vfma : vec (.vfma 0) 0x23 (pr 1) (im 3) (pr 0) 1 0 = (true, 0x40E00000) := by decide +kernel
theorem wit_vmax : vec (.vmax 0) 0x24 (pr 0) (pr 1) 0 1 0 = (true, 0x40000000) := by decide +kernel
theorem wit_vmin : vec (.vmin 0) 0x25 (pr 0) (pr 1) 0 1 0 = (true, 0x3F800000) := by decide +kernel
theorem wit_vabs : vec (.vabs 0) 0x26 (im 0x1FFF) 0 0 1 0 = (true, 0x3F800000) := by decide +kernel
theorem wit_vneg : vec (.vneg 0) 0x27 (pr 0) 0 0 1 0 = (true, 0xBF800000) := by decide +kernel
theorem wit_vexp2 : (vec (.vexp2 0) 0x34 (im 3) 0 0 1 0).1 = true := by decide +kernel
theorem wit_vlog2 : (vec (.vlog2 0) 0x35 (im 8) 0 0 1 0).1 = true := by decide +kernel
theorem wit_vrcp : (vec (.vrcp 0) 0x36 (pr 1) 0 0 1 0).1 = true := by decide +kernel
theorem wit_vrsqrt : (vec (.vrsqrt 0) 0x37 (im 4) 0 0 1 0).1 = true := by decide +kernel

theorem wit_viadd : vec (.viadd 0) 0x28 (im 5) (im 0x1FF9) 0 1 0 = (true, 0xFFFFFFFE) := by decide +kernel
theorem wit_visub : vec (.visub 0) 0x29 (im 5) (im 7) 0 1 0 = (true, 0xFFFFFFFE) := by decide +kernel
theorem wit_vimul : vec (.vimul 0) 0x2A (im 5) (im 0x1FFF) 0 1 0 = (true, 0xFFFFFFFB) := by decide +kernel
theorem wit_vand : vec (.vand 0) 0x2B (im 12) (im 10) 0 1 0 = (true, 8) := by decide +kernel
theorem wit_vor : vec (.vor 0) 0x2C (im 12) (im 10) 0 1 0 = (true, 14) := by decide +kernel
theorem wit_vxor : vec (.vxor 0) 0x2D (im 12) (im 10) 0 1 0 = (true, 6) := by decide +kernel
theorem wit_vshl : vec (.vshl 0) 0x2E (im 1) (im 33) 0 1 0 = (true, 2) := by decide +kernel
theorem wit_vshr : vec (.vshr 0) 0x2F (im 0x1FFF) (im 28) 0 1 0 = (true, 15) := by decide +kernel
theorem wit_vsra : vec (.vsra 0) 0x30 (im 0x1FF0) (im 2) 0 1 0 = (true, 0xFFFFFFFC) := by decide +kernel
theorem wit_vmov : vec (.vmov 0) 0x31 (wr 4) 0 0 4 0 3 = (true, 3) := by decide +kernel

/-- A predicated instruction leaves the wicks whose predicate is clear. -/
theorem test_predicated : vec (.vmov 0) 0x31 (im 9) 0 0 4 1 3 = (true, 9) ∧ vec (.vmov 0) 0x31 (im 9) 0 0 4 1 2 = (true, 0) := by decide +kernel

/-- The instruction may start, and the predicates of wicks 0 to 3 after it. -/
def preds (c : Instr) (op sa sb m : Nat) : Bool × List Bool :=
  let x := vword op sa sb 0 4 m - 2 ^ 16
  let s := atHead 1 x values
  (wordOk x && ready1 op s, [0, 1, 2, 3].map ((after c s).pred 0))

theorem wit_vcmpInt : preds (.vcmp 0) 0x38 (wr 4) (im 2) (16 + 2 * 2) = (true, [true, true, false, false]) := by decide +kernel
theorem wit_vcmpFp : preds (.vcmp 0) 0x38 (pr 0) (pr 1) (2 * 2) = (true, [true, true, true, true]) := by decide +kernel
theorem wit_vsetp : preds (.vsetp 0) 0x39 (wr 4) 0 0 = (true, [false, true, true, true]) := by decide +kernel
theorem wit_vsetpAnd : preds (.vsetp 0) 0x39 (wr 4) 0 2 = (true, [false, true, false, true]) := by decide +kernel
theorem wit_vsetpOr : preds (.vsetp 0) 0x39 (wr 4) 0 4 = (true, [false, true, true, true]) := by decide +kernel
theorem wit_vsetpXor : preds (.vsetp 0) 0x39 (wr 4) 0 6 = (true, [false, false, true, false]) := by decide +kernel

theorem wit_vsetidx : let x := vword 0x3A (wr 4) 0 0 4 0 - 2 ^ 16
    let s := atHead 1 x values
    wordOk x = true ∧ ready1 0x3A s = true ∧ (after (.vsetidx 0) s).widx' 0 3 = 3 := by decide +kernel

theorem wit_vsel : vec (.vsel 0) 0x3B (im 5) (im 6) 0 4 0 3 = (true, 5) ∧ vec (.vsel 0) 0x3B (im 5) (im 6) 0 4 0 2 = (true, 6) := by decide +kernel

theorem wit_vcvt : vec (.vcvt 0) 0x3C (pr 1) (im 1) 0 1 0 = (true, 0x4000) := by decide +kernel

theorem wit_vmxq : (vec (.vmxq 0) 0x3D (pr 1) (im 5) 0 32 0).1 = fmtIsMx 5 := by decide +kernel

theorem wit_vrand : (vec (.vrand 0) 0x3E 0 0 (pr 0) 1 0).1 = true := by decide +kernel
theorem wit_vshfl : vec (.vshfl 0) 0x48 (wr 4) (im 3) 0 4 0 1 = (true, 2) := by decide +kernel
theorem wit_vmaxred : vec (.vmaxred 0) 0x4A (pr 1) 0 0 4 0 2 = (true, 0x40000000) := by decide +kernel
theorem wit_vminred : vec (.vminred 0) 0x4B (pr 1) 0 0 4 0 2 = (true, 0x40000000) := by decide +kernel
theorem wit_vexpmax : (vec (.vexpmax 0) 0x4C (pr 1) 0 0 4 0 2).1 = true := by decide +kernel
theorem wit_vscan : vec (.vscan 0) 0x4D (pr 1) 0 0 4 0 2 = (true, 0x40C00000) := by decide +kernel

theorem wit_vsumred : vec (.vsumred 0) 0x49 (pr 1) 0 0 4 0 2 = (true, 0x41000000) ∧
    settled 1 (atHead 1 (vword 0x49 (pr 1) 0 0 4 0) values) = true := by decide +kernel

/-- With SUB = 1 the long sum of four 2.0s goes to parcel memory too. -/
theorem wit_vsumredStores : let s := atHead 1 (vword 0x49 (pr 1) (im 64) 0 4 2) values
    ready1 0x49 s = true ∧ settled 1 s = true ∧ s.rdNat (pmAddr 0 64) 20 = 0 ∧ (after (.vsumred 0) s).rdNat (pmAddr 0 64) 20 ≠ 0 := by
  decide +kernel

/-- A byte of parcel memory, 0xFE at offset 67. -/
def oneByte : State := { values with mem := [(pmAddr 0 67, 0xFE)] }

theorem wit_vld : let x := vword 0x40 0 (im 67) 0 2 16
    let s := atHead 1 x oneByte
    wordOk x = true ∧ ready1 0x40 s = true ∧ settled 1 s = true ∧
    (after (.vld 0) s).wreg 0 1 1 = 0xFFFFFFFE ∧ (after (.vld 0) (atHead 1 (vword 0x40 0 (im 67) 0 2 0) oneByte)).wreg 0 1 1 = 0xFE := by decide +kernel

theorem wit_vst : let x := vword 0x41 (wr 4) (im 66) 0 4 (2 * 1) - 2 ^ 16
    let s := atHead 1 x values
    wordOk x = true ∧ ready1 0x41 s = true ∧ settled 1 s = true ∧
    (after (.vst 0) s).pmRead 0 66 2 = [3, 0] ∧ (after (.vst 0) s).pmRead 0 64 2 = [0, 0] := by decide +kernel

/-- A special function of the code x in parameter register 0, with flag word 1 selected: it may start, VD of wick 0 after it, and
the flag word. -/
def special (c : Instr) (op x : Nat) : Bool × Nat × Nat :=
  let w := vword op (pr 0) 0 0 1 0 + 2 ^ 8
  let s := atHead 1 w { values with live := [(0, x)] }
  (wordOk w && ready1 op s && s.hasPhase 0 1 && !tabGet false s.uncorr (pmAddr 0 0x3FFFC8 / 8),
    (after c s).wreg 0 0 1, (after c s).rdNat (pmAddr 0 0x3FFFC8) 8)

theorem wit_special : special (.vrcp 0) 0x36 0x80000000 = (true, 0xFF800000, 32) ∧
    special (.vrsqrt 0) 0x37 0xBF800000 = (true, 0x7FC00000, 16) ∧ special (.vlog2 0) 0x35 0x7F800000 = (true, 0x7F800000, 0) ∧
    special (.vexp2 0) 0x34 0x7F800001 = (true, 0x7FC00000, 64) ∧ special (.vexp2 0) 0x34 0xC3160000 = (true, 0, 12) ∧
    specialInput 0x34 0xC3160000 = some (0, some 2) ∧ specialInput 0x36 0x80000000 = some (0xFF800000, some 5) := by decide +kernel

/-! ### Tensor, move and beacon instructions (03, 04) -/

/-- A dense descriptor of rank 2: base, columns, rows, row stride, format. -/
def dense (base cols rows stride fmt : Nat) : BitVec 256 :=
  BitVec.ofNat 256 (base + (cols - 1) * 2 ^ 64 + (rows - 1) * 2 ^ 80 + stride * 2 ^ 128 + fmt * 2 ^ 224 + 1 * 2 ^ 229)

/-- A slot naming descriptor n. -/
def ds (n : Nat) : Nat := 1 * 2 ^ 13 + n

/-- A slot-form word. -/
def sword (op a b c d e m : Nat) : Nat := op + m * 2 ^ 11 + a * 2 ^ 16 + b * 2 ^ 32 + c * 2 ^ 48 + d * 2 ^ 64 + e * 2 ^ 80

/-- Tract 0 has township 0, where parcel 0 runs. -/
def inTract : State := put [(Reg.TRC_CONFIGURED, 0, 1), (Reg.TRC_TOWNSHIPS, 0, 1)] running

/-- Descriptors: 0 an FP32 row of 16 at 0x1000, 1 one row of 32 E4M3 activations at 0x2000, 2 weights of 16 columns at 0x3000, 3 and
4 long sums with their grid word at 0x800 from the base. The first activations are 1.0, 1.0, the first weights 1.0, 2.0. -/
def tensors : State := { inTract with
  descs := [(0, dense 0x1000 16 1 64 0), (1, dense 0x2000 32 1 32 2), (2, dense 0x3000 32 16 32 2),
            (3, dense 0x4000 16 1 320 14 + 0x800 <<< 232), (4, dense 0x5000 16 1 320 14 + 0x800 <<< 232)]
  mem := [(0x2000, 0x38), (0x2001, 0x38), (0x3000, 0x38), (0x3001, 0x40), (0x4000, 5), (0x4014, 7)] }

/-- Whether the head of engine e is an instruction of the opcode that may start. -/
def starts (e op : Nat) (s : State) : Bool := (s.readyHead 0 e op).isSome

/-- The tensor engine may start an instruction of the opcode on settled memory, in a phase of its own, and its descriptors are sound. -/
def tensorOk (op : Nat) (s : State) : Bool := settled 0 s &&
  match s.readyHead 0 0 op with
  | some q => !s.dependsOn 0 0 (tensorLocs 0 s q) && !(q.op 0).broken && !(q.op 1).broken && !(q.op 2).broken &&
      (op != 0x10 || !State.tmulBroken (q.op 0) (q.op 1) (q.op 2) q)
  | none => false

theorem wit_tmul : let x := sword 0x10 (ds 0) (ds 1) (ds 2) (im 1) 0 0
    let s := atHead 0 x tensors
    wordOk x = true ∧ tensorOk 0x10 s = true ∧ tabGet false s.residueArmed 0 = false ∧
    (after (.tmul 0) s).pmRead 0 0x1000 8 = [0, 0, 0x40, 0x40, 0, 0, 0, 0] := by decide +kernel

theorem wit_tlsadd : let x := sword 0x11 (ds 4) (ds 3) (ds 3) 0 0 0
    let s := atHead 0 x tensors
    wordOk x = true ∧ tensorOk 0x11 s = true ∧ tabGet false s.residueArmed 0 = false ∧
    ((after (.tlsadd 0) s).pmRead 0 0x5000 2, (after (.tlsadd 0) s).pmRead 0 0x5014 2) = ([10, 0], [14, 0]) := by decide +kernel

theorem wit_tlscvt : let x := sword 0x12 (ds 0) (ds 3) 0 0 0 0
    let s := atHead 0 x tensors
    wordOk x = true ∧ tensorOk 0x12 s = true ∧
    (after (.tlscvt 0) s).pmRead 0 0x1000 8 = [0, 0, 0xA0, 0x40, 0, 0, 0xE0, 0x40] := by decide +kernel

theorem wit_tlsset : let x := sword 0x13 (ds 3) 0 0 0 (im 0x1FF0) 0
    let s := atHead 0 x tensors
    wordOk x = true ∧ tensorOk 0x13 s = true ∧ ((s.readyHead 0 0 0x13).map fun q => (dFmt (q.op 0).bits, dForm (q.op 0).bits)) = some (14, 0) ∧
    (after (.tlsset 0) s).pmRead 0 0x4000 1 = [0] ∧ (after (.tlsset 0) s).pmRead 0 0x4800 8 = [0xF0, 0xFF, 0xFF, 0xFF, 0xFF, 0xFF, 0xFF, 0xFF] := by decide +kernel

theorem wit_residue : let s := atHead 0 (sword 0x11 (ds 4) (ds 3) (ds 3) 0 0 0) { tensors with residueArmed := [(0, true)] }
    tensorOk 0x11 s = true ∧ ((after (.tlsadd 0) s).eng 0 0).flight.map (·.status) = [0x41] ∧ (after (.tlsadd 0) s).residueArmed = [] := by
  decide +kernel

/-- Descriptors of bytes: 0 four at 0x100, 1 four at 0x200, 2 two rows of four at 0x300, 3 indices 1 and none, at 0x400. -/
def bytes : State := { inTract with
  descs := [(0, dense 0x100 8 1 8 2), (1, dense 0x200 8 1 8 2), (2, dense 0x300 8 2 8 2),
            (3, BitVec.ofNat 256 (0x400 + 2 * 2 ^ 58 + 0 * 2 ^ 64 + 15 * 2 ^ 224)), (4, dense 0x10000000000 8 1 8 2)]
  mem := [(0x200, 1), (0x203, 4), (0x300, 8), (0x308, 9), (0x400, 1)] }

/-- The move may start, touches lines of its own parcel alone, and its descriptors agree. -/
def moveOk (op : Nat) (s : State) : Bool := settled 2 s &&
  match s.readyHead 0 2 op with
  | some q => !s.dependsOn 0 2 (moveLocs (movesLines s 0 q)) && (movesLines s 0 q).all (fun x => decide (x.1 < 65536)) && (s.linesLeft 0 q []).isEmpty &&
      !moveBroken q && !runsOverlap (s.moveRuns 0 [] q)
  | none => false

theorem wit_mcopy : let x := sword 0x80 (ds 0) (ds 1) 0 0 0 0
    wordOk x = true ∧ moveOk 0x80 (atHead 2 x bytes) = true ∧ (after (.mcopy 0) (atHead 2 x bytes)).pmRead 0 0x100 4 = [1, 0, 0, 4] := by decide +kernel

theorem wit_mfill : let x := sword 0x81 (ds 0) (im 0x1FFE) 0 0 0 0
    wordOk x = true ∧ moveOk 0x81 (atHead 2 x bytes) = true ∧ (after (.mfill 0) (atHead 2 x bytes)).pmRead 0 0x100 2 = [0xFE, 0xFF] := by decide +kernel

theorem wit_mgath : let x := sword 0x82 (ds 0) (ds 2) (ds 3) 0 0 0
    wordOk x = true ∧ moveOk 0x82 (atHead 2 x bytes) = true ∧ (after (.mgath 0) (atHead 2 x bytes)).pmRead 0 0x100 2 = [9, 0] := by decide +kernel

theorem wit_mscat : let x := sword 0x83 (ds 2) (ds 1) (ds 3) 0 0 0
    wordOk x = true ∧ moveOk 0x83 (atHead 2 x bytes) = true ∧ (after (.mscat 0) (atHead 2 x bytes)).pmRead 0 0x308 4 = [1, 0, 0, 4] := by decide +kernel

/-- Two beacon operations of parcel 0 in its queue's head, beacon 7 with amount 5. -/
def bword (op : Nat) : Nat := op + 7 * 2 ^ 16 + (if op = 0xC2 then 0 else 5) * 2 ^ 32

theorem wit_beacons : [(Instr.bsig 0, 0xC0), (.bwait 0, 0xC1), (.bbcast 0, 0xC2), (.bsub 0, 0xC3)].all (fun x =>
    wordOk (bword x.2) && starts 4 x.2 (atHead 4 (bword x.2) inTract) && !(atHead 4 (bword x.2) inTract).crossFull 0 7 &&
    (after x.1 (atHead 4 (bword x.2) inTract)).beaconOps.map (fun o => (o.beacon, o.parcel)) == [(7, 0)]) = true := by decide +kernel

/-- A signal to a beacon of township 1 whose crossings are under reset is counted there. -/
theorem wit_beaconRefused : let s := put [(Reg.TWN_XRST, 1, 1)] (atHead 4 (0xC0 + 1024 * 2 ^ 16 + 5 * 2 ^ 32) inTract)
    starts 4 0xC0 s = true ∧ beaconHome (wBeacon (0xC0 + 1024 * 2 ^ 16 + 5 * 2 ^ 32)) / 16 = 1 ∧ s.crossFull 0 1024 = false ∧
    (after (.bsig 0) s).beaconOps = [] ∧ (after (.bsig 0) s).fld Reg.TWN_FLUSHED 1 = 1 := by decide +kernel

theorem wit_bwaitWaits : let s := inTract.setEng 0 4 { queue := [inTract.makeEntry 0 4 (bword 0xC1)], flight := List.replicate 8 { entry := { word := 0xC1 } } }
    starts 4 0xC1 s = true ∧ (s.eng 0 4).flight.countP (fun f => wOpcode f.entry.w == 0xC1 && (f.stage == .held || f.stage == .run)) = 8 := by
  decide +kernel

theorem wit_fence : wordOk 0xC8 = true ∧ starts 4 0xC8 (atHead 4 0xC8 inTract) = true ∧ ((after (.fence 0) (atHead 4 0xC8 inTract)).eng 0 4).flight.length = 1 := by
  decide +kernel

theorem test_release : releaseWaiters 10 [⟨1, 0, 4⟩, ⟨2, 0, 7⟩, ⟨3, 0, 1⟩] = (6, [⟨2, 0, 7⟩, ⟨3, 0, 1⟩], [⟨1, 0, 4⟩]) := by decide +kernel

/-- Beacon 0 of parcel 0 with count 3 and a waiter needing 8, and an operation of parcel 1 under way to it. -/
def beaconState (k : BeaconKind) (n : Nat) : State := { inTract with
  beacons := [(0, { count := 3, waiters := [⟨2, 0, 8⟩], assigned := true })], beaconOps := [{ kind := k, parcel := 1, amount := n }] }

theorem wit_beaconOps : let s := beaconState .sig 5
    ((s.oldestOp 0 1).map fun o => s.behind [o] o) = some false ∧ s.planRuns 0 = true ∧ s.disabled (beaconHome 0) = false ∧ s.beaconLive 0 = true ∧ s.ptract 1 = some 0 ∧ s.ptract (beaconHome 0) = some 0 ∧
    ((after (.beaconOpArrival 0 [1]) s).beacon 0).waiters = [] ∧ ((after (.beaconOpArrival 0 [1]) s).beacon 0).count = 0 ∧
    ((after (.beaconOpArrival 0 [1]) (beaconState .sig 65533)).beacon 0).count = 3 ∧ ((after (.beaconOpArrival 0 [1]) (beaconState .sub 3)).beacon 0).count = 0 ∧
    ((after (.beaconOpArrival 0 [1]) (beaconState .sub 4)).beacon 0).count = 3 ∧ ((after (.beaconOpArrival 0 [1]) (beaconState .bcast 0)).beacon 0).waiters = [] ∧
    ((after (.beaconOpArrival 0 [1]) (beaconState .wait 9)).beacon 0).waiters = [⟨2, 0, 8⟩, ⟨1, 0, 9⟩] := by decide +kernel

/-- An instruction of each engine in flight, and a second behind it. -/
def flying (e op status : Nat) : State := inTract.setEng 0 e { flight := [{ entry := { word := op }, status := status }, { entry := { word := op } }] }

theorem wit_completion : inTract.planRuns 0 = true ∧
    ((after (.engineCompletion 0 0 0) (flying 0 0x10 0)).fld (cntFld 0) 0, (after (.engineCompletion 0 0 1) (flying 0 0x10 0)).fld (cntFld 0) 0) = (1, 0) ∧
    (after (.engineCompletion 0 2 0) (flying 2 0x80 0)).fld (cntFld 2) 0 = 1 ∧ (after (.engineCompletion 0 3 0) (flying 3 0xA0 0)).fld (cntFld 3) 0 = 1 ∧
    (after (.engineCompletion 0 4 0) (flying 4 0xC8 0)).fld (cntFld 4) 0 = 1 ∧ (after (.beaconAckReturn 0 0) (flying 4 0xC0 0)).fld (cntFld 4) 0 = 1 := by
  decide +kernel

theorem wit_moveReady : (flying 2 0x80 0).moveReady 0 { entry := { word := 0x80 } } = true := by decide +kernel

theorem wit_failure : ((flying 1 0x41 0x40).par 0).faulted = false ∧ ((after (.engineCompletion 0 1 0) (flying 1 0x41 0x40)).par 0).faulted = true ∧
    (after (.engineCompletion 0 1 0) (flying 1 0x41 0x40)).fld Reg.PCT_FAULT_STATUS 0 = 0x40 := by decide +kernel

/-- A move that reads HBM asks for its line, in a calendar that grants its parcel reads. -/
theorem wit_moveReadsTier : let x := sword 0x80 (ds 0) (ds 4) 0 0 0 0
    let s := { atHead 2 x bytes with cal := [(0, 1 <<< 9)] }
    starts 2 0x80 s = true ∧ ((s.readyHead 0 2 0x80).map fun q => (s.linesLeft 0 q [], s.dependsOn 0 2 (moveLocs (movesLines s 0 q)), s.hasPhase 0 2))
      = some ([0x10000000000], false, true) ∧ 0 < s.grant 0 true 0 ∧
    (after (.mcopy 0) s).tierReads.map (fun r => (r.parcel, r.line)) = [(0, 0x10000000000)] := by decide +kernel

/-- The BWAIT of a released waiter may complete. -/
theorem wit_waiterReleased : let s := (beaconState .sig 5).setEng 2 4 { flight := [{ stage := .held }] }
    ((after (.beaconOpArrival 0 [1]) s).eng 2 4).flight.map (·.stage) = [.run] ∧
    ((after (.beaconOpArrival 0 [1]) ((beaconState .sig 4).setEng 2 4 { flight := [{ stage := .held }] })).eng 2 4).flight.map (·.stage) = [.held] := by
  decide +kernel

/-! ### Exchange instructions, packets and the taper (04, 02) -/

/-- Tract 0 is landed on parcels 0 and 1, with one route entry and two collective entries: alone, and first of two in a ring. -/
def exchange : State := { bytes with
  tracts := [(0, { job := 3, epoch := 1, landing := [0, 1], routes := [{ srcFold := 0, link := 2, dest := 9, destFold := 1, slots := [4] }],
                   colls := [{}, { parts := 2, pos := 1, ring := true, deadline := 7 }] })]
  descs := [(0, dense 0x100 16 1 64 0), (1, dense 0x200 16 1 64 0)]
  towns := [(0, { clocked := true })] }

theorem wit_xsend : let x := sword 0xA0 (ds 1) (im 0) (im 5) (pr 7) (im 4) 1
    let s := atHead 3 x exchange
    wordOk x = true ∧ starts 3 0xA0 s = true ∧ (s.routeFor 0 0).isSome = true ∧
    s.hasPhase 0 3 = true ∧ s.uncorr = [] ∧
    (after (.xsend 0) s).txq.map (fun t => (t.link, t.pkt.kind, t.pkt.dest, t.pkt.tally, t.pkt.job, t.pkt.isLast)) = [(2, 0x80, 9, 5, 3, true)] ∧
    ((after (.xsend 0) s).txq.map fun t => t.pkt.payload.take 4) = [[1, 0, 0, 4]] := by decide +kernel

theorem wit_xsendUnrouted : let s := atHead 3 (sword 0xA0 (ds 1) (im 1) (im 5) (pr 7) (im 4) 0) exchange
    starts 3 0xA0 s = true ∧ s.routeFor 0 1 = none ∧ (after (.xsend 0) s).txq = [] ∧ ((after (.xsend 0) s).eng 0 3).flight.length = 1 := by decide +kernel

theorem wit_xsig : let x := 0xA2 + 7 * 2 ^ 16 + 5 * 2 ^ 32
    let s := atHead 3 x exchange
    wordOk x = true ∧ starts 3 0xA2 s = true ∧ (after (.xsig 0) s).txq.map (fun t => (t.pkt.kind, t.pkt.sp, t.pkt.epoch)) = [(0x81, 7 + 5 * 2 ^ 16, 1)] := by
  decide +kernel

theorem wit_xrecv : let x := sword 0xA1 (im 5) (im 2) (im 9) 0 0 0
    let s := atHead 3 x exchange
    wordOk x = true ∧ starts 3 0xA1 s = true ∧ ((s.readyHead 0 3 0xA1).map (s.tallyBusy 0)) = some false ∧
    ((after (.xrecv 0) s).eng 0 3).flight.map (fun f => (f.stage, f.deadline)) = [(.held, 9)] := by decide +kernel

theorem wit_xrecvBusy : let x := sword 0xA1 (im 5) (im 2) (im 9) 0 0 0
    let s := exchange.setEng 0 3 { queue := [exchange.makeEntry 0 3 x], flight := [{ entry := exchange.makeEntry 0 3 x, stage := .held }] }
    starts 3 0xA1 s = true ∧ ((s.readyHead 0 3 0xA1).map (s.tallyBusy 0)) = some true := by decide +kernel

/-- XCOLL kind k of collective entry n. -/
def collective (k n : Nat) : State := atHead 3 (sword 0xA8 (ds 0) (ds 1) (im n) 0 0 k) exchange

theorem wit_xcoll : wordOk (sword 0xA8 (ds 0) (ds 1) (im 0) 0 0 0) = true ∧ starts 3 0xA8 (collective 0 0) = true ∧
    (collective 0 0).uncorr = [] ∧ ((collective 0 0).collEntry 0 0).isSome = true ∧ (collective 0 5).collEntry 0 5 = none ∧
    (((collective 0 0).readyHead 0 3 0xA8).map fun q => (collective 0 0).hasPhase 0 3 && descShape (q.op 1).bits &&
      (collective 0 0).collRx.isEmpty && (collective 0 0).colls.isEmpty && ((collective 0 0).eng 0 3).flight.isEmpty && upForm 0 (dFmt (q.op 1).bits) == 1) = some true ∧
    ((after (.xcoll 0) (collective 0 0)).eng 0 3).flight.map (fun f => (f.stage, f.status)) = [(.run, 0)] ∧
    ((after (.xcoll 0) (collective 0 5)).eng 0 3).flight.length = 1 ∧ (after (.xcoll 0) (collective 0 5)).colls = [] := by decide +kernel

/-- A data packet waits for parcel 0, and an XRECV on its tally. -/
def arriving : State := { exchange with arrivals := [⟨{ kind := 0x80, flags := 1, tally := 5, offset := 0x300, payload := [7, 8] }, 0, 0, 1⟩] }

theorem wit_packetDeliver : arriving.uncorr = [] ∧ (arriving.town 0).clocked = true ∧ arriving.hasPhase 0 3 = true ∧ (after (.packetDeliver 0) arriving).pmRead 0 0x300 2 = [7, 8] ∧
    (after (.packetDeliver 0) arriving).tally 0 5 = ⟨1, true⟩ ∧ (after (.packetDeliver 0) arriving).arrivals = [] ∧
    (after (.packetDeliver 0) { arriving with towns := [] }).fld Reg.TWN_FLUSHED 0 = 1 := by decide +kernel

/-- An XRECV that expects two packets on tally 5 until tick 9. -/
def receiving (n : Nat) : State :=
  { exchange.setEng 0 3 { flight := [{ entry := exchange.makeEntry 0 3 (sword 0xA1 (im 5) (im 2) (im 9) 0 0 0), stage := .held, deadline := 9 }] } with
    tallies := [(5, { count := n, last := true })], towns := [(0, { clocked := true, tick := some 9 })] }

theorem wit_xrecvDone : ((receiving 3).eng 0 3).flight.map (fun f => (receiving 3).tallyMet 0 f.entry) = [true] ∧ (receiving 3).planRuns 0 = true ∧
    (after (.engineCompletion 0 3 0) (receiving 3)).tally 0 5 = ⟨1, false⟩ := by decide +kernel

theorem wit_transferDeadline : ((receiving 1).eng 0 3).flight.map (fun f => (receiving 1).tallyMet 0 f.entry) = [false] ∧ (receiving 1).planTick 0 = 9 ∧
    (after (.transferDeadline 0 0) (receiving 1)).fld Reg.PCT_FAULT_STATUS 0 = 0x33 ∧ (after (.transferDeadline 0 0) (receiving 1)).tally 0 5 = ⟨1, true⟩ := by
  decide +kernel

/-- A packet missing on link 1, number 77, whose original slot lies in tick 0. -/
def missing : State := exchange.setLink 1 { gaps := [(77, 0, 0)] }

theorem wit_retryOverrun : missing.datum ≤ 2046 ∧ (missing.link 1).gaps.find? (fun g => g.1 == 77) = some (77, 0, 0) ∧ missing.rxHas 1 77 = false ∧
    missing.arrivals = [] ∧ (missing.town 0).freezes = [] ∧ (after (.retryOverrun 0 1 77 0 2046) missing).fld Reg.LNK_RETRY_OVR 0 = 1 ∧
    missing.planRuns 0 = true ∧ (after (.retryOverrun 0 1 77 0 2046) missing).planRuns 0 = false := by decide +kernel

/-- A call of the routine at 0x200 with argument 77. -/
def called : State := atHead 5 (0x60 + 0x100 * 2 ^ 16 + im 77 * 2 ^ 32) (put [(Reg.PCT_TAPER_RESET, 0, 0)] inTract)

theorem wit_taperTakeCall : wordOk (0x60 + 0x100 * 2 ^ 16 + im 77 * 2 ^ 32) = true ∧ starts 5 0x60 called = true ∧ called.bit Reg.PCT_TAPER_RESET 0 = false ∧
    called.bit Reg.PCT_TAPER_TRAPPED 0 = false ∧ (called.par 0).taper.running = false ∧
    (after (.taperTakeCall 0) called).fld Reg.PCT_TAPER_PC 0 = 0x200 ∧ (after (.taperTakeCall 0) called).treg 0 10 = 77 := by decide +kernel

/-- The taper runs an instruction word at 0. -/
def taperAt (w : Nat) : State := { (put [(Reg.PCT_TAPER_RESET, 0, 0)] inTract).setPar 0 { taper := { running := true } } with
  towns := [(0, { clocked := true })]
  imem := ((leBytes 4 w).zipIdx.filter fun b => b.1 != 0).map fun b => (b.2, b.1) }

/-- ADDI a0, x0, -3. -/
theorem wit_taperInstruction : (∃ npc t, (taperAt 0xFFD00513).taperFetch 0 0 = .next npc t) ∧ (after (.taperInstruction 0 1) (taperAt 0xFFD00513)).treg 0 10 = 0xFFFFFFFD ∧
    (after (.taperInstruction 0 1) (taperAt 0xFFD00513)).fld Reg.PCT_TAPER_PC 0 = 4 ∧ (taperAt 0xFFD00513).bit Reg.PCT_TAPER_RESET 0 = false ∧
    (taperAt 0xFFD00513).planRuns 0 = true ∧ (taperAt 0xFFD00513).shut 0 = false ∧ (taperAt 0xFFD00513).imemRead 0 0 4 = 0xFFD00513 :=
  ⟨⟨_, _, rfl⟩, by decide +kernel⟩

/-- An all-zero halfword traps as an illegal instruction. -/
theorem wit_taperTraps : (match (taperAt 0).taperFetch 0 0 with | .trap c => c == 2 | _ => false) = true ∧
    (after (.taperInstruction 0 1) (taperAt 0)).bit Reg.PCT_TAPER_TRAPPED 0 = true ∧ (after (.taperInstruction 0 1) (taperAt 0)).fld Reg.PCT_TAPER_CAUSE 0 = 2 := by
  decide +kernel

/-- The result in rd of a register-register instruction over a0 and a1. -/
def aluOut (f7 f3 a b : Nat) : Option Nat :=
  match ((inTract.setTreg 0 10 a).setTreg 0 11 b).rv32 0 0 4 (f7 * 2 ^ 25 + 11 * 2 ^ 20 + 10 * 2 ^ 15 + f3 * 2 ^ 12 + 12 * 2 ^ 7 + 0x33) with
  | .next _ t => some (t.treg 0 12)
  | _ => none

theorem test_taperAlu : [aluOut 0 0 5 7, aluOut 0x20 0 5 7, aluOut 0x20 5 0xFFFFFFF0 34, aluOut 0 2 0xFFFFFFFF 1, aluOut 0 3 0xFFFFFFFF 1, aluOut 1 0 0x10001 0x10001,
    aluOut 1 5 9 0, aluOut 1 7 9 0, aluOut 1 4 0x80000000 0xFFFFFFFF] =
    [some 12, some 0xFFFFFFFE, some 0xFFFFFFFC, some 1, some 0, some 0x20001, some 0xFFFFFFFF, some 9, some 0x80000000] := by decide +kernel

/-- The cause of the trap of the instruction word w at pc. -/
def trapOf (pc w : Nat) : Bool × Nat := let t := after (.taperInstruction 0 1) (put [(Reg.PCT_TAPER_PC, 0, pc)] (taperAt w))
  (t.bit Reg.PCT_TAPER_TRAPPED 0, t.fld Reg.PCT_TAPER_CAUSE 0)

theorem wit_taperTrapCauses : [trapOf 0x10000 0, trapOf 0 0x00100073, trapOf 0 0x00000073] = [(true, 1), (true, 3), (true, 11)] := by decide +kernel

/-- The pc after the instruction word w at 0, and x12. -/
def taperGoes (w : Nat) : Nat × Nat :=
  let t := after (.taperInstruction 0 1) (((taperAt w).setTreg 0 10 0x10000010).setTreg 0 11 0x10000010)
  (t.fld Reg.PCT_TAPER_PC 0, t.treg 0 12)

/-- LUI and AUIPC of x12, JAL to 8, BEQ and BNE over equal registers to 16, and C.LI x12, -1. -/
theorem wit_taperControl : [taperGoes 0x12345637, taperGoes 0x12345617, taperGoes 0x0080066F, taperGoes 0x00B50863, taperGoes 0x00B51863, taperGoes 0x567D] =
    [(4, 0x12345000), (4, 0x12345000), (8, 4), (16, 0), (4, 0), (2, 0xFFFFFFFF)] ∧ expandC 0x567D = some 0xFFF00613 := by decide +kernel

/-- SW x11, 0(x10), and LW x12, 0(x10) after it. -/
theorem wit_taperMemory : let s := ((taperAt 0x00B52023).setTreg 0 10 0x10000010).setTreg 0 11 0x89ABCDEF
    settled 5 s = true ∧ (after (.taperInstruction 0 1) s).rdNat (taperBase 0 + 16) 4 = 0x89ABCDEF ∧
    taperGoes 0x00052603 = (4, 0) ∧ (after (.taperInstruction 0 1) { (taperAt 0x00052603).setTreg 0 10 0x10000010 with
      mem := [(taperBase 0 + 16, 7)] }).treg 0 12 = 7 := by decide +kernel

theorem wit_pctTaperReset : (taperAt 0).disabled 0 = false ∧ (taperAt 0).shut 0 = false ∧ (after (.pctTaperReset 0 true) (taperAt 0)).bit Reg.PCT_TAPER_RESET 0 = true ∧
    ((after (.pctTaperReset 0 true) (taperAt 0)).par 0).taper.running = false ∧
    (after (.pctTaperReset 0 false) (after (.pctTaperReset 0 true) (taperAt 0))).bit Reg.PCT_TAPER_RESET 0 = false := by decide +kernel

theorem wit_xcollWaits : starts 3 0xA8 (collective 0 1) = true ∧ ({ parts := 2, pos := 1, ring := true } : CollEntry).children 0 = [(0, 1)] ∧
    ((after (.xcoll 0) (collective 0 1)).eng 0 3).flight.map (fun f => (f.stage, f.deadline)) = [(.held, 7)] ∧
    (after (.xcoll 0) (collective 0 1)).colls.map (fun c => (c.parcel, c.entry, c.kind)) = [(0, 1, 0)] := by decide +kernel

/-! ### Parcels (02) -/

/-- Tract 0 with township 0 clocked. -/
def clocked : State := { inTract with towns := [(0, { clocked := true })] }
/-- Parcel 0 in a state. -/
def inState (st : Nat) : State := put [(Reg.PCT_STATE_CODE, 0, st)] clocked
/-- With expert control of everything. -/
def expert (s : State) : State := put [(Reg.CFG_EXPERT_NOW, 0, 0xFFFFFFFF)] s

theorem wit_pctStart : clocked.disabled 0 = false ∧ clocked.shut 0 = false ∧ (inState stIdle).pstate 0 = stIdle ∧ ((after (.pctStart 0) (inState stIdle)).par 0).armed = true ∧
    ((after (.pctStart 0) (inState stRun)).par 0).armed = false := by decide +kernel

theorem wit_pctStop : (inState stRun).pstate 0 = stRun ∧ ((inState stRun).par 0).faulted = false ∧ (after (.pctStop 0) (inState stRun)).pstate 0 = stDraining := by
  decide +kernel

theorem wit_pctStopNow : let s := expert (atHead 4 (bword 0xC0) clocked)
    s.expertOpen Reg.PCT_STOP_NOW = true ∧ s.pstate 0 = stRun ∧ ((after (.pctStopNow 0) s).eng 0 4).queue = [] ∧
    (after (.pctStopNow 0) s).fld Reg.PCT_FAULT_DISCARDS 0 = 1 ∧ inTract.expertOpen Reg.PCT_STOP_NOW = false := by decide +kernel

theorem wit_parcelQuiesced : let faulted := (put [(Reg.PCT_FAULT_STATUS, 0, 0x40)] inTract).setPar 0 { faulted := true }
    let stopping := inTract.setPar 0 { stopNow := true }
    faulted.quiet 0 = true ∧ (after (.parcelQuiesced 0) faulted).pstate 0 = stStopped ∧ (after (.parcelQuiesced 0) faulted).fld Reg.PCT_FAULT_STATUS 0 = 0x40 ∧
    stopping.quiet 0 = true ∧ (after (.parcelQuiesced 0) stopping).fld Reg.PCT_FAULT_STATUS 0 = 3 ∧
    (inState stDraining).drainComplete 0 = true ∧ (inState stDraining).bit Reg.PCT_COPYING 0 = false ∧ (after (.parcelQuiesced 0) (inState stDraining)).pstate 0 = stStopped := by
  decide +kernel

/-- A REPLAY to word 9 is draining; the shadow bank has a new parameter 3. -/
def replaying (s : State) : State := { s.setPar 0 { replayTo := some 9 } with shadow := [(3, 77)] }

theorem wit_replayDrain : let s := replaying running
    (s.par 0).replayTo = some 9 ∧ s.planRuns 0 = true ∧ s.ptract 0 = none ∧ s.drainComplete 0 = true ∧
    (after (.replayDrainComplete 0 false) s).bit Reg.PCT_COPYING 0 = true := by decide +kernel

theorem wit_replayDrainInTract : let s := put [(Reg.TRC_STATE_CODE, 0, 3)] (replaying inTract)
    s.ptract 0 = some 0 ∧ (s.tract 0).stopStep = none ∧ (after (.replayDrainComplete 0 false) s).bit Reg.PCT_COPYING 0 = true ∧
    (after (.replayDrainComplete 0 false) (put [(Reg.TRC_STATE_CODE, 0, 4)] s)).pstate 0 = stStopped := by decide +kernel

theorem wit_replayCopyEnds : let s := put [(Reg.PCT_COPYING, 0, 1), (cntFld 2, 0, 5), (Reg.PCT_REPLAYS, 0, 6)] (replaying inTract)
    s.bit Reg.PCT_COPYING 0 = true ∧ (after (.replayDrainComplete 0 true) s).liveP 0 3 = 77 ∧ (after (.replayDrainComplete 0 true) s).fld (cntFld 2) 0 = 0 ∧
    (after (.replayDrainComplete 0 true) s).fld Reg.PCT_REPLAYS 0 = 7 ∧ ((after (.replayDrainComplete 0 true) s).par 0).pc = 9 := by decide +kernel

theorem wit_pctParam : (after (.pctParamWrite 0 3 78) clocked).shadowP 0 3 = 78 ∧ (after (.pctParamWrite 0 3 78) clocked).liveP 0 3 = 0 ∧
    ((after (.pctParamWrite 0 3 78) (put [(Reg.PCT_COPYING, 0, 1)] clocked)).par 0).held = [(3, 78)] := by decide +kernel

theorem wit_pctData : let s := put [(Reg.PCT_CODE_WORD, 0, 8191), (Reg.PCT_CODE_HALF, 0, 1), (Reg.PCT_DESC_INDEX, 0, 1023), (Reg.PCT_DESC_PART, 0, 3)] (inState stIdle)
    s.dataOpen 0 = true ∧ (after (.pctCodeDataAccess 0 (some 5)) s).codeWord 0 8191 = 5 * 2 ^ 64 ∧
    (after (.pctDescDataAccess 0 (some 5)) s).descWord 0 1023 = 5 * 2 ^ 192 ∧
    (after (.pctCodeDataAccess 0 none) (after (.pctCodeDataAccess 0 (some 5)) s)).lastRead ∈ [0, 5] ∧
    (inState stRun).dataOpen 0 = false ∧ (after (.pctCodeDataAccess 0 (some 5)) (inState stRun)).bit Reg.MCB_EVT_REG_ERR 0 = true := by decide +kernel

theorem wit_pctDataDropped : let s := put [(Reg.PCT_DESC_INDEX, 0, 1023), (Reg.PCT_DESC_PART, 0, 3), (Reg.PCT_DESC_AUTOINC, 0, 1)] (inState stRun)
    (after (.pctDescDataAccess 0 (some 5)) s).descs = s.descs ∧ (after (.pctDescDataAccess 0 (some 5)) s).bit Reg.MCB_EVT_REG_ERR 0 = true ∧
    (after (.pctDescDataAccess 0 (some 5)) s).fld Reg.PCT_DESC_INDEX 0 = 0 ∧ (after (.pctDescDataAccess 0 none) s).fld Reg.PCT_DESC_PART 0 = 0 := by
  decide +kernel

/-! ### Plan time, tracts and datum time (08, 09) -/

/-- Township 0 of tract 0 is clocked and its window is closed; parcel 0 is armed, and the tract starts at tick 3. -/
def closed : State :=
  { (put [(Reg.TRC_STATE_CODE, 0, 2), (Reg.TRC_START_TICK_NUM, 0, 3)] (inState stIdle)).setPar 0 { armed := true } with
    windowOpen := [], towns := [(0, { clocked := true, tick := some 2 })], tracts := [(0, { armed := true, landing := [0, 1] })] }

theorem wit_tickGate : (closed.town 0).clocked = true ∧ tabGet false closed.windowOpen 0 = false ∧ 2048 * closed.nextTick 0 6200 ≤ 6200 ∧
    (after (.tickGate 0 6200) closed).pstate 0 = stRun ∧ (after (.tickGate 0 6200) closed).fld Reg.TRC_STATE_CODE 0 = 3 ∧
    ((after (.tickGate 0 6200) closed).town 0).lag = 56 ∧ (after (.tickGate 0 6200) closed).planRuns 0 = true := by decide +kernel

/-- The window of tick 3 opened 56 cycles late. -/
def opened : State := after (.tickGate 0 6200) closed

theorem wit_windowEnd : opened.tractOf 0 = some 0 ∧ tabGet false opened.windowOpen 0 = true ∧ tabGet 0 opened.gateAt 0 + 1945 + (opened.town 0).inWindow = 8145 ∧
    (after (.windowEnd 0 8145) opened).planRuns 0 = false ∧ (after (.windowEnd 0 8145) opened).fld Reg.TRC_OVR_TICKS 0 = 0 ∧
    (after (.windowEnd 0 8200) opened).fld Reg.TRC_OVR_TICKS 0 = 1 ∧ (after (.windowEnd 0 8200) opened).fld Reg.TRC_STR_DROOP_CYC 0 = 111 := by decide +kernel

theorem wit_tickWatchdog : opened.bit Reg.TRC_CONFIGURED 0 = true ∧ (put [(Reg.TRC_STALL_LIMIT, 0, 16)] opened |>.at 100000).watchdogDue 0 = true ∧
    (after (.tickWatchdogFire 0 100000) (put [(Reg.TRC_STALL_LIMIT, 0, 16)] opened)).fld Reg.TRC_FAULT_STATUS 0 = 0x42 := by decide +kernel

/-- Tract 0 in a state. -/
def tractIn (st : Nat) : State := put [(Reg.TRC_STATE_CODE, 0, st)] inTract

theorem wit_trcLoad : (tractIn 0).moduleDark = false ∧ ((tractIn 0).tract 0).won = none ∧ (tractIn 0).boot.handover = 0 ∧
    (after (.trcLoad 0) (tractIn 0)).fld Reg.TRC_STATE_CODE 0 = 1 ∧ (after (.trcLoad 0) (tractIn 3)).fld Reg.TRC_STATE_CODE 0 = 3 ∧
    (after (.trcLoad 0) (tractIn 3)).bit Reg.MCB_EVT_REG_ERR 0 = true := by decide +kernel

theorem wit_trcStart : let s := put [(Reg.TRC_START_TICK_NUM, 0, 1)] (tractIn 2)
    ((after (.trcStart 0) s).tract 0).armed = true ∧ (after (.trcStart 0) { s with datum := 2048 }).bit Reg.TRC_EVT_START_MISSED 0 = true := by decide +kernel

theorem wit_trcStops : (after (.trcStop 0) (tractIn 3)).fld Reg.TRC_STATE_CODE 0 = 4 ∧ (after (.trcStopNow 0) (expert (tractIn 3))).fld Reg.TRC_CMD_STATUS 0 = 3 ∧
    (expert (tractIn 3)).expertOpen Reg.TRC_STOP_NOW = true := by decide +kernel

theorem wit_trcReset : (after (.trcReset 0) (tractIn 3)).fld Reg.TRC_STATE_CODE 0 = 6 ∧ (after (.trcReset 0) (tractIn 3)).pstate 0 = stStopped ∧
    (tractIn 6).fld Reg.TRC_STATE_CODE 0 = 6 ∧ (after (.trcCountClr 0) (put [(Reg.TRC_OVR_TICKS, 0, 9)] inTract)).fld Reg.TRC_OVR_TICKS 0 = 0 := by decide +kernel

/-- The reference's state. -/
def refState (st : Nat) : State := put [(Reg.CLK_REF_STATE, 0, st), (Reg.CLK_HOLD_LIMIT, 0, 2)] { State.reset with clk := { holdSince := if st = 3 then some 0 else none } }

theorem wit_reference : (after (.referenceLost 9) (refState 2)).fld Reg.CLK_REF_STATE 0 = 3 ∧ (after (.referenceLost 9) (refState 2)).clk.holdSince = some 9 ∧
    (after (.referenceBack 9) (refState 3)).fld Reg.CLK_REF_STATE 0 = 2 ∧ (refState 3).clk.holdSince = some 0 ∧ (refState 3).fld Reg.CLK_HOLD_LIMIT 0 * 1000000000 = 2000000000 ∧
    (expert (refState 3)).ctl Reg.CLK_HOLD_LIMIT 0 = 2 ∧ (after (.holdLimitExpiry 2000000000) (expert (refState 3))).bit Reg.CLK_EVT_HOLD_LIMIT 0 = true ∧
    (put [(Reg.CLK_PARENT_NOW, 0, 7)] (refState 3)).parentLocked = false ∧
    (after (.holdLimitExpiry 2000000000) (put [(Reg.CLK_PARENT_NOW, 0, 7)] (expert (refState 3)))).fld Reg.CLK_DATUM_STATE 0 = 5 := by decide +kernel

/-- Township 5 runs on its generator. -/
def onGenerator : State := put [(Reg.TWN_CLK_STATE, 5, 2)] State.reset
/-- Its supply has been 10 % below nominal since 9 ns, and above the threshold again since 20 ns. -/
def drooped : State := after (.droopResponse 5 1000) (onGenerator.at 9)
def recovered : State := after (.droopResponse 5 0) (drooped.at 20)

theorem wit_droop : 100 * onGenerator.ctl Reg.TWN_DROOP_THR 5 < 1000 ∧ (onGenerator.town 5).period = 1000 ∧ drooped.fld Reg.TWN_CLK_STATE 5 = 3 ∧
    drooped.fld Reg.TWN_PERIOD_PS 5 = 1150 ∧ (recovered.town 5).above = some 20 ∧ recovered.fld Reg.TWN_CLK_STATE 5 = 3 ∧
    0 < recovered.ctl Reg.TWN_DROOP_HOLD 5 ∧ (after (.droopHandback 5) recovered).fld Reg.TWN_CLK_STATE 5 = 3 ∧
    (after (.droopHandback 5) (recovered.at 100000)).fld Reg.TWN_CLK_STATE 5 = 2 ∧
    (after (.droopHandback 5) (put [(Reg.CLK_REF_STATE, 0, 3)] (recovered.at 100000))).fld Reg.TWN_CLK_STATE 5 = 4 := by decide +kernel

theorem wit_spineDroop : let s := after (.droopResponse 32 1000) (State.reset.at 9)
    let r := after (.droopResponse 32 0) (s.at 20)
    s.clk.spineDroop = true ∧ s.clk.spinePeriod = 1150 ∧ r.clk.spineAbove = some 20 ∧ (after (.droopHandback 32) (r.at 21)).clk.spineDroop = true ∧
    (after (.droopHandback 32) (r.at 60)).clk.spineDroop = false ∧ (after (.droopHandback 32) (r.at 60)).clk.spinePeriod = 1000 := by decide +kernel

theorem wit_clkSetNs : (expert State.reset).expertOpen Reg.CLK_SET_NS = true ∧ (expert State.reset).mayStep = true ∧ (after (.clkSetNs 77) (expert State.reset)).datum = 77 ∧
    (put [(Reg.TRC_STATE_CODE, 7, 2)] (expert State.reset)).mayStep = false ∧ (after (.clkSetNs 77) (put [(Reg.TRC_STATE_CODE, 7, 2)] (expert State.reset))).datum = 0 ∧
    State.reset.expertOpen Reg.CLK_SET_NS = false ∧ State.reset.moduleDark = false ∧ (after .clkNsRead { State.reset with datum := 9, datumFrac := 5 }).fld Reg.CLK_FRAC 0 = 5 := by decide +kernel

theorem wit_datumPulse : let set := { State.reset with clk := { setAt := some 1000 } }
    (after (.datumPulseEdge 9) set).datum = 1000 ∧ State.reset.bit Reg.CLK_PULSE_EN 0 = false ∧
    (after (.datumPulseEdge 9) (put [(Reg.TRC_STATE_CODE, 7, 2)] set)).datum = 9 ∧ (after (.datumPulseEdge 9) (put [(Reg.TRC_STATE_CODE, 7, 2)] set)).clk.setAt = none ∧
    (put [(Reg.CLK_PULSE_EN, 0, 1)] State.reset).bit Reg.CLK_PULSE_EN 0 = true ∧ 1048585 % 1048576 < 32768 := by decide +kernel

theorem wit_datumExchange : let root := put [(Reg.CLK_ROOT, 0, 1), (Reg.LNK_TX_STATE, 3, 2)] State.reset
    let leaf := put [(Reg.CLK_PARENT, 0, 3), (Reg.CLK_ROOT, 0, 0)] State.reset
    ((after (.datumExchangeStart 3 4096) root).link 3).datumQ = [{ kind := 0x20, args := [0, 0, 0, 0] }] ∧ tabGet 0 (after (.datumExchangeStart 3 4096) root).clk.exchTick 3 = 3 ∧
    leaf.fld Reg.CLK_ROOT 0 = 0 ∧ leaf.fld Reg.CLK_PARENT 0 = 3 ∧
    ((after (.datumUnit 3 100 0 0 0 250) leaf).link 3).datumQ = [{ kind := 0x20, args := [100, 250, 0, 0] }] ∧
    ((after (.datumUnit 3 100 250 260 0 400) root).link 3).datumQ = [{ kind := 0x20, args := [100, 250, 260, 400] }] ∧
    (after (.datumUnit 3 100 250 260 400 500) leaf).clk.slew = -20 := by decide +kernel

set_option maxRecDepth 100000 in
theorem wit_tractReset : (tractIn 6).fld Reg.TRC_STATE_CODE 0 = 6 ∧ (after (.tractResetComplete 0 []) (tractIn 6)).fld Reg.TRC_STATE_CODE 0 = 0 := by decide +kernel

/-! ### Loads and job starts (08, 13) -/

/-- Tract 0 loads, at a stage. -/
def loadingAt (n : Nat) : State := { put [(Reg.TRC_STATE_CODE, 0, 1)] inTract with tracts := [(0, { stage := n, landing := [1] })] }

set_option maxRecDepth 100000 in
theorem wit_loadStage2 : (loadingAt 2).fld Reg.TRC_STATE_CODE 0 = 1 ∧ ((after (.loadStageComplete 0) (loadingAt 2)).tract 0).stage = 3 := by decide +kernel

theorem wit_loadStage3 : (loadingAt 3).planHere 0 = true ∧ ((loadingAt 3).tract 0).stage = 3 := by decide +kernel

/-- A plat that a broadcast brought, of no bytes. -/
def bareLoad : State := { loadingAt 4 with tracts := [(0, { stage := 4, landing := [1], bcast := true })] }

/-- Its mapping record, at 0, holds a digest. -/
def digested (d : List Byte) : State := bareLoad.wrBytes 0x20 d

theorem digested_reads (d : List Byte) (h : d.length = 48) : (digested d).rdBytes 0x20 48 = d := by
  rw [State.rdBytes, ← h]
  refine List.ext_getElem (by simp) fun i a b => ?_
  simp only [List.getElem_map, List.getElem_range, digested, State.wrBytes_rd8]
  rw [if_pos ⟨by omega, by omega⟩, Nat.add_sub_cancel_left]
  simp [List.getD, b]

theorem wit_loadStage4 (d : List Byte) : (digested d).img 0 0 ((digested d).imgNat 0 0x20 8) = [] ∧ (digested d).fld Reg.TRC_MAP 0 = 0 ∧
    (digested d).fld Reg.TRC_STATE_CODE 0 = 1 ∧ ((digested d).tract 0).stage = 4 ∧ ((digested d).tract 0).darkFrom = none := by
  have b : (bareLoad.tract 0).bcast = true ∧ (bareLoad.tract 0).chunks = [] := by decide +kernel
  have f : bareLoad.fld Reg.TRC_MAP 0 = 0 ∧ bareLoad.fld Reg.TRC_STATE_CODE 0 = 1 ∧ (bareLoad.tract 0).stage = 4 ∧ (bareLoad.tract 0).darkFrom = none := by
    decide +kernel
  have z : leNat [0, 0, 0, 0, 0, 0, 0, 0] = 0 := by decide
  simpa [digested, State.img, State.imgNat, b, f] using z

/-- One digest differs from the other. -/
theorem wit_loadStage4Bad : (digested []).rdBytes 0x20 48 ≠ (digested [1]).rdBytes 0x20 48 := by decide +kernel

theorem wit_loadStage8 : (after (.loadStageComplete 0) (loadingAt 8)).fld Reg.TRC_STATE_CODE 0 = 2 ∧
    (after (.loadStageComplete 0) (loadingAt 8)).pstate 1 = stIdle ∧ (after (.loadStageComplete 0) (loadingAt 8)).pstate 0 = stOff := by decide +kernel

/-- A lantern request of job 3, epoch 1, from module 9 for this module. -/
def req (op : Nat) (payload : List Byte) : Pkt :=
  { kind := 0x83, vc := 6, cls := 3, job := 3, epoch := 1, src := 9, sp := op * 2 ^ 32, len := payload.length - 1, payload := payload }

/-- Job 3 is accepted here for tract 0, with module 9 as its child; the request has come on link 0. -/
def asked (st : Nat) (x : JobRec) (p : Pkt) : State :=
  { put [(Reg.TRC_STATE_CODE, 0, st)] inTract with
    jobs := [(3, x)], tracts := [(0, { job := 3, epoch := 1, landing := [0], bcast := true })], lanternIn := [(0, p)] }

/-- The job record of an accepted start. -/
def accepted : JobRec := { epoch := 1, tract := 0, msg := [1], children := [{ coord := 9, trans := 3, sentAt := some 0 }] }

theorem wit_platChunk : let s := asked 1 accepted (req 2 [5, 6])
    (s.takeLantern 0 (wantReq 2)).isSome = true ∧ (req 2 [5, 6]).dest = s.coord ∧ (s.job 3).msg ≠ [] ∧ (s.job 3).epoch = 1 ∧ (s.tract 0).bcast = true ∧
    ((after (.platChunk 0) s).tract 0).chunks = [5, 6] := by decide +kernel

theorem wit_abandon : let s := asked 1 { accepted with root := true, word := jobGo, wordAt := 7, heldSince := some 3 } (req 3 [])
    (s.takeLantern 0 (wantReq 3)).isSome = true ∧ (s.job 3).root = true ∧ (s.job 3).wordAt ≠ s.datum ∧ ((after (.abandon 0) s).job 3).word = jobAbandoned := by decide +kernel

theorem req_op (op : Nat) (payload : List Byte) (h : op < 2 ^ 16) : (req op payload).spec 4 2 = op := bitsOf_shifted op h

theorem asked_in (st : Nat) (x : JobRec) (p : Pkt) : (asked st x p).lanternIn = [(0, p)] := rfl

/-- A request of any operation is taken by the command that wants it. -/
theorem wit_requestTaken (s : State) (p : Pkt) (op : Nat) (i : s.lanternIn = [(0, p)]) (k : p.kind = 0x83) (o : p.spec 4 2 = op) :
    (s.takeLantern 0 (wantReq op)).map (·.1) = some p := by
  simp [State.takeLantern, wantReq, i, k, o]

theorem wit_requestOps : opReady < 2 ^ 16 ∧ opGo < 2 ^ 16 ∧ opDone < 2 ^ 16 ∧ opAbort < 2 ^ 16 ∧ opJournal < 2 ^ 16 :=
  ⟨BitVec.isLt _, BitVec.isLt _, BitVec.isLt _, BitVec.isLt _, BitVec.isLt _⟩

/-- The rest of the hypotheses: the job is this module's, the tract loaded, running, or holding a journal. -/
theorem wit_requests : let s := asked 2 accepted (req 5 [9, 0, 0, 0, 0, 0, 0, 0])
    (req 5 []).dest = s.coord ∧ (s.job 3).msg ≠ [] ∧ (s.job 3).epoch = (req 5 []).epoch ∧ s.moduleDark = false ∧ (s.tract (s.job 3).tract).won = none ∧
    s.fld Reg.TRC_STATE_CODE 0 = 2 ∧ s.datum < 2048 * leNat ((req 5 [9, 0, 0, 0, 0, 0, 0, 0]).payload.take 8) ∧ (s.at 0).tickNow = 0 ∧
    (asked 3 accepted (req 5 [])).tractJob 0 = some 3 ∧ (asked 3 accepted (req 5 [])).fld Reg.TRC_STATE_CODE 0 = 3 ∧ (s.job 4).msg = [] ∧
    (s.tract 0).landing ≠ [] ∧ (s.tract 1).landing = [] := by decide +kernel

theorem wit_journal : let s := { asked 2 accepted (req 5 [1, 2]) with srv := [(0, { segs := [(0, 64)] })] }
    (s.srvOf 0).journalOff + (req 5 [1, 2]).payload.length ≤ ((s.srvOf 0).segs.getD 0 (0, 0)).2 := by decide +kernel

/-- A start message for job 3, epoch 1, tract 0. -/
def startMsg : List Byte := [3, 0, 0, 0, 1, 0, 0, 0, 0, 0, 0, 0, 0, 0, 0, 0] ++ List.replicate 112 0

theorem wit_startMessage : let s := { put [(Reg.TRC_STATE_CODE, 0, 0)] inTract with lanternIn := [(0, req 1 startMsg)] }
    ((s.at 0).takeLantern 0 (wantReq 1)).map (fun r => r.2.startOk startMsg) = some true ∧ msgJob startMsg = 3 ∧ msgEpoch startMsg = 1 ∧ msgTract startMsg = 0 ∧
    (s.job 3).msg = [] ∧ s.moduleDark = false ∧ s.boot.handover = 0 ∧ ((after (.startMessage 0 0) s).job 3).epoch = 1 ∧
    (after (.startMessage 0 0) s).fld Reg.TRC_STATE_CODE 0 = 1 := by decide +kernel

theorem wit_startMessageOld : let s := { asked 0 { accepted with epoch := 2 } (req 1 startMsg) with datum := 0 }
    (s.job 3).msg ≠ [] ∧ msgEpoch startMsg < (s.job 3).epoch ∧ (after (.startMessage 0 0) s).fld Reg.TRC_STATE_CODE 0 = 0 ∧
    ((after (.startMessage 0 0) s).job 3).msg = [1] := by decide +kernel

theorem wit_startTimeouts : let s := asked 1 { accepted with root := true, word := jobStarting, heldSince := some 0 } (req 1 [])
    s.startHoldNs = 5000000000 ∧ ((after (.startAckTimeout 3 50000000) s).job 3).word = jobAbandoned ∧
    ((after (.startHoldExpiry 3 5000000000) s).job 3).word = jobAbandoned ∧ ((after (.startHoldExpiry 3 4999999999) s).job 3).word = jobStarting := by decide +kernel

/-! ### Links (10) -/

/-- Link 0 in a state, in both directions: data on lanes 0 to 15, parity on lane 16. -/
def linkUp (st : Nat) : State :=
  (List.range 17).foldl (fun s j => (s.setRole 0 false j j).setRole 0 true j j) (put [(Reg.LNK_RX_STATE, 0, st), (Reg.LNK_TX_STATE, 0, st)] State.reset)

/-- The role of a lane of link 0. -/
def roleOf (tx : Bool) (j : Nat) (s : State) : Nat := (s.lane 0 tx j).role

/-- No act waits at link 0, and no rolling step adapts. -/
def lanesSettled (s : State) : Bool := (s.link 0).txActs.isEmpty && (s.link 0).rxActs.isEmpty && s.fld Reg.LNK_ROLL_PHASE 0 != 2

/-- A control unit acts at its codeword, and waits until then. -/
theorem wit_copy : lanesSettled (linkUp 2) = true ∧ cwDue ((linkUp 2).cwNow 0 true) 0 = true ∧ roleOf true 16 (linkUp 2) ≠ roleFailed ∧
    roleOf true 16 (after (.copy 0 15 16 0) (linkUp 2)) = roleMirror ∧ cwDue ((linkUp 2).cwNow 0 true) 5 = false ∧
    roleOf true 16 (after (.copy 0 15 16 5) (linkUp 2)) = roleParity ∧
    ((after (.copy 0 15 16 5) (linkUp 2)).link 0).txActs = [⟨5, .mirror 15 16⟩] := by decide +kernel

theorem wit_linkRelease : ((linkUp 2).setRole 0 true 16 17).laneWith 0 true roleMirror = some 16 ∧
    roleOf true 16 (after (.linkRelease 0 3 0) ((linkUp 2).setRole 0 true 16 17)) = 3 ∧
    roleOf true 3 (after (.linkRelease 0 3 0) ((linkUp 2).setRole 0 true 16 17)) = roleCal ∧
    roleOf true 16 (after (.linkRelease 0 16 0) ((linkUp 2).setRole 0 true 16 17)) = roleFailed ∧
    (after (.linkRelease 0 16 0) ((linkUp 2).setRole 0 true 16 17)).fld Reg.LNK_TX_STATE 0 = lkNoSpare := by decide +kernel

theorem wit_parity : roleOf true 3 (after (.parity 0 3 0) (linkUp 3)) = roleParity ∧
    (after (.parity 0 3 0) (linkUp 3)).fld Reg.LNK_TX_STATE 0 = 2 ∧ (after (.parity 0 16 0) (linkUp 4)).fld Reg.LNK_TX_STATE 0 = 4 := by decide +kernel

theorem wit_tap : ((after (.tap 0 16 5) (linkUp 2)).lane 0 true 16).taps = 5 ∧
    ((after (.tap 0 16 5) ((linkUp 2).setLane 0 true 16 { ovrTx := true, taps := 7 })).lane 0 true 16).taps = 7 := by decide +kernel

theorem wit_failover : (linkUp 2).laneWith 0 true 15 = some 15 ∧ roleOf true 16 (after (.failover 0 15 16 0) (linkUp 2)) = 15 ∧
    roleOf true 15 (after (.failover 0 15 16 0) (linkUp 2)) = roleFailed ∧
    (after (.failover 0 15 16 0) (linkUp 2)).fld Reg.LNK_TX_STATE 0 = lkNoSpare := by decide +kernel

theorem wit_degrade : roleOf true 3 (linkUp 3) < 16 ∧ (List.range 13).erase 3 = [0, 1, 2, 4, 5, 6, 7, 8, 9, 10, 11, 12] ∧
    ((after (.degrade 0 ((List.range 13).erase 3) 13 9) (linkUp 3)).link 0).txChange = some ⟨9, (List.range 13).erase 3, 13⟩ ∧
    roleOf true 3 (after (.degrade 0 ((List.range 13).erase 3) 13 9) (linkUp 3)) = roleFailed ∧
    roleOf true 14 (after (.degrade 0 ((List.range 13).erase 3) 13 9) (linkUp 3)) = 14 := by decide +kernel

theorem wit_restore : roleOf true 14 ((linkUp 4).setRole 0 true 14 19) = roleFailed ∧
    ((after (.restore 0 (List.range 16) 16 9) ((linkUp 4).setRole 0 true 14 19)).link 0).txChange = some ⟨9, List.range 16, 16⟩ ∧
    roleOf true 14 (after (.restore 0 (List.range 16) 16 9) ((linkUp 4).setRole 0 true 14 19)) = roleSpare := by decide +kernel

/-- Link 0 rolls. -/
def rolling : State := put [(Reg.LNK_ROLL_EN, 0, 1), (Reg.CFG_EXPERT_NOW, 0, 0xFFFFFFFF)] (linkUp 2)

/-- A rolling step begins: lane 16 mirrors lane 0 from the codeword that COPY names. -/
def rollBegun (s : State) : Bool := (s.link 0).roll.isSome && roleOf false 16 s == roleParity && (s.link 0).rxActs == [⟨160, .mirror 0 16⟩] &&
  (s.link 0).ctlQ == [⟨0x10, [0, 16, 160]⟩] && s.fld Reg.LNK_ROLL_PHASE 0 == 1

theorem wit_rollStepStart : lanesSettled rolling = true ∧ ((rolling.at 0).link 0).rollLast = 0 ∧ (rolling.at 0).mayRoll 0 = true ∧
    (rolling.at 0).laneWith 0 false roleParity = some 16 ∧ (rolling.at 0).rollTarget 0 16 = some 0 ∧ roleOf false 0 (rolling.at 0) < 16 ∧
    rolling.codewordAhead 0 = 160 ∧ rollBegun (after (.rollStepStart 0 0) rolling) = true := by decide +kernel

theorem wit_lnkRollNow : rolling.expertOpen Reg.LNK_ROLL_NOW = true ∧ rolling.mayRoll 0 = true ∧ rolling.moduleDark = false ∧
    rollBegun (after (.lnkRollNow 0) rolling) = true ∧ (after (.lnkRollNow 0) rolling).fld Reg.LNK_ROLL_TARGET 0 = 0 := by decide +kernel

/-- A rolling step from lane 16 to lane 0 in a phase. -/
def inRoll (phase : Nat) (verified : Bool) : State :=
  (put [(Reg.LNK_ROLL_PHASE, 0, phase), (Reg.LNK_ROLL_TARGET, 0, 0)] rolling).setLink 0 { roll := some { logical := 0, mirror := 16, verified := verified } }

theorem wit_rollVerifyDone : ((inRoll 3 false).link 0).roll = some { logical := 0, mirror := 16 } ∧ 1 ≤ (inRoll 3 false).fld Reg.LNK_ROLL_PHASE 0 ∧
    (inRoll 3 false).fld Reg.LNK_ROLL_PHASE 0 ≤ 3 ∧
    ((after (.rollVerifyDone 0 true) (inRoll 3 false)).link 0).roll = some { logical := 0, mirror := 16, verified := true } := by decide +kernel

/-- The switch takes a slack unit that no replay wants. -/
theorem wit_rollLaneSwitch : ((inRoll 3 true).link 0).roll = some { logical := 0, mirror := 16, verified := true } ∧
    (inRoll 3 true).fld Reg.LNK_ROLL_TARGET 0 = 0 ∧ ((inRoll 3 true).at 35).slackAt 0 false (35 - (inRoll 3 true).fld Reg.LNK_FLIGHT_NS 0) = true ∧
    ((inRoll 3 true).link 0).rxTop = ((inRoll 3 true).link 0).rxNext ∧ roleOf false 16 (after (.rollLaneSwitch 0) ((inRoll 3 true).at 35)) = 0 ∧
    roleOf false 0 (after (.rollLaneSwitch 0) ((inRoll 3 true).at 35)) = roleMirror ∧
    roleOf false 16 (after (.rollLaneSwitch 0) ((inRoll 3 true).at 36)) = roleParity := by decide +kernel

theorem wit_rollCalibrationDone : ((inRoll 5 true).link 0).retest = none ∧ 4 ≤ (inRoll 5 true).fld Reg.LNK_ROLL_PHASE 0 ∧
    (after (.rollCalibrationDone 0) (inRoll 5 true)).fld Reg.LNK_ROLL_PHASE 0 = 6 ∧
    ((after (.rollCalibrationDone 0) (inRoll 5 true)).lane 0 false 0).calAt = some 0 := by decide +kernel

theorem wit_rollMarginScanDone : (inRoll 6 true).fld Reg.LNK_ROLL_PHASE 0 = 6 ∧ (inRoll 6 true).fld Reg.LNK_MARGIN_MIN 0 ≤ 12 ∧
    ((after (.rollMarginScanDone 0 12) (inRoll 6 true)).link 0).roll = none ∧
    ((after (.rollMarginScanDone 0 12) (inRoll 6 true)).link 0).rxActs = [⟨160, .parity 0⟩] ∧
    ((after (.rollMarginScanDone 0 11) (inRoll 6 true)).link 0).roll = some { logical := 0, mirror := 16, verified := true, badScan := 1 } ∧
    (after (.rollMarginScanDone 0 12) (inRoll 6 true)).fld Reg.LNK_ROLL_STEPS 0 = 1 := by decide +kernel

theorem wit_lnkRollStopNow : (inRoll 3 true).expertOpen Reg.LNK_ROLL_STOP_NOW = true ∧
    ((after (.lnkRollStopNow 0) (inRoll 3 true)).link 0).roll = none ∧ ((after (.lnkRollStopNow 0) (inRoll 3 true)).link 0).rxActs = [⟨160, .parity 16⟩] ∧
    ((after (.lnkRollStopNow 0) (inRoll 4 true)).link 0).rxActs = [⟨160, .parity 0⟩] ∧ (after (.lnkRollStopNow 0) (inRoll 4 true)).fld Reg.LNK_ROLL_LAST 0 = 3 := by
  decide +kernel

theorem wit_laneFailDeclared : ((linkUp 2).link 0).roll = none ∧ roleOf false 15 (linkUp 2) < 16 ∧
    (linkUp 2).laneWith 0 false roleParity = some 16 ∧ (linkUp 2).laneWith 0 false roleSpare = none ∧
    ((linkUp 2).link 0).rxChange = none ∧ roleOf false 15 (after (.laneFailDeclared 0 15) (linkUp 2)) = roleFailed ∧
    ((after (.laneFailDeclared 0 15) (linkUp 2)).link 0).rxActs = [⟨160, .data 15 16⟩] ∧
    (after (.laneFailDeclared 0 15) (linkUp 2)).fld Reg.LNK_RX_STATE 0 = lkNoSpare := by decide +kernel

theorem wit_laneFailDegrades : (linkUp 3).fld Reg.LNK_RX_STATE 0 = lkNoSpare ∧ ((linkUp 3).link 0).rxChange = none ∧
    (((after (.laneFailDeclared 0 15) (linkUp 3)).link 0).rxChange.map fun c => c.lanes) = some (List.range 12) := by decide +kernel

theorem wit_lnkForceFail : rolling.expertOpen Reg.LNK_FORCE_FAIL = true ∧ (rolling.link 0).roll = none ∧
    roleOf false 0 (after (.lnkForceFail 0 0) rolling) = roleFailed ∧ ((after (.lnkForceFail 0 0) rolling).link 0).rxActs = [⟨160, .data 0 16⟩] := by decide +kernel

theorem wit_lnkRetest : roleOf false 15 ((linkUp 3).setRole 0 false 15 19) = roleFailed ∧ ((linkUp 3).link 0).retest = none ∧
    roleOf false 15 (after (.lnkRetest 0 15) ((linkUp 3).setRole 0 false 15 19)) = roleCal := by decide +kernel

/-- A re-test of lane 15, in a state of the receiving direction. -/
def retesting (st : Nat) : State := ((linkUp st).setRole 0 false 15 roleCal).setLink 0 { retest := some 15 }

theorem wit_retestEnds : (retesting 3).ctl Reg.LNK_MARGIN_MIN 0 = 12 ∧ lanesSettled (retesting 3) = true ∧
    (after (.rollMarginScanDone 0 12) (retesting 3)).fld Reg.LNK_RX_STATE 0 = lkUp ∧
    roleOf false 15 (after (.rollMarginScanDone 0 12) (retesting 4)) = roleSpare ∧
    ((after (.rollMarginScanDone 0 12) (retesting 4)).link 0).rxChange = some ⟨2, List.range 16, 16⟩ ∧
    ((after (.rollMarginScanDone 0 11) (retesting 3)).link 0).retestBad = true ∧
    roleOf false 15 (after (.rollMarginScanDone 0 11) (after (.rollMarginScanDone 0 11) (retesting 3))) = roleFailed := by decide +kernel

theorem wit_laneLinkChangeTick :
    let s := (linkUp 3).setLink 0 { rxChange := some ⟨1, List.range 12, 12⟩, txChange := some ⟨1, List.range 16, 16⟩ }
    ((s.at 2048).link 0).rxChange = some ⟨1, List.range 12, 12⟩ ∧ 1 ≤ (s.at 2048).tickNow ∧ (s.lane 0 false 11).role ≠ roleFailed ∧
    (List.range 12).findIdx? (· == 11) = some 11 ∧ roleOf false 11 (after (.laneLinkChangeTick 0 false 2048) s) = 11 ∧
    (after (.laneLinkChangeTick 0 false 2048) s).fld Reg.LNK_RX_STATE 0 = lkUp12 ∧
    (after (.laneLinkChangeTick 0 true 2048) s).fld Reg.LNK_TX_STATE 0 = lkUp := by decide +kernel

theorem wit_laneAdaptUpdate : roleOf false 16 (linkUp 2) < 18 ∧ ((linkUp 2).lane 0 false 16).adaptAt = none ∧ lkCarries ((linkUp 2).fld Reg.LNK_RX_STATE 0) = true ∧
    ((after (.laneAdaptUpdate 0 16 0) (linkUp 2)).lane 0 false 16).adaptAt = some 0 ∧
    cwDue ((after (.laneAdaptUpdate 0 16 0) (linkUp 2)).cwNow 0 false) (0 + 1024) = false := by decide +kernel

theorem wit_lnkTrain : State.reset.fld Reg.LNK_RX_STATE 0 = lkDown ∧ (linkUp 5).fld Reg.LNK_TX_STATE 0 = lkFailed ∧ (linkUp 2).fld Reg.LNK_RX_STATE 0 ≠ lkDown ∧
    (after (.lnkTrain 0) State.reset).fld Reg.LNK_RX_STATE 0 = lkTraining ∧ (after (.lnkTrain 0) (linkUp 5)).fld Reg.LNK_TX_STATE 0 = lkTraining ∧
    (after (.lnkTrain 0) (linkUp 2)).bit Reg.MCB_EVT_REG_ERR 0 = true := by decide +kernel

theorem wit_trainingComplete : (linkUp 1).fld Reg.LNK_RX_STATE 0 = lkTraining ∧ (linkUp 1).fld Reg.LNK_TX_STATE 0 = lkTraining ∧
    12 ≤ ((List.range 17).countP fun j => bitAt 0xFFF j) ∧ bitAt 2 1 = true ∧
    (after (.laneLinkChangeTick 0 false 6144) (after (.trainingComplete 0 0xFFF 0x1FFFF 2 5) (linkUp 1))).fld Reg.LNK_RX_STATE 0 = lkUp12 ∧
    (after (.trainingComplete 0 0xFFF 0x1FFFF 2 5) (linkUp 1)).fld Reg.LNK_RX_STATE 0 = lkTraining ∧ (linkUp 1).attempts 0 false = true ∧ (linkUp 1).attempts 0 true = true ∧
    (after (.trainingComplete 0 0xFFF 0x1FFFF 2 5) (linkUp 1)).fld Reg.LNK_TX_STATE 0 = lkUp := by decide +kernel

/-- An attempt with eleven lanes fails; the third that fails ends training. -/
theorem wit_trainingFails : (after (.trainingComplete 0 0x7FF 0x1FFFF 2 5) (linkUp 1)).fld Reg.LNK_RX_STATE 0 = lkTraining ∧
    ((after (.trainingComplete 0 0x7FF 0x1FFFF 2 5) (linkUp 1)).link 0).tries = 1 ∧
    (after (.trainingComplete 0 0x7FF 0x1FFFF 2 5) ((linkUp 1).setLink 0 { tries := 2 })).fld Reg.LNK_RX_STATE 0 = lkFailed := by decide +kernel

theorem wit_lnkDown : rolling.expertOpen Reg.LNK_DOWN = true ∧ lkCarries (rolling.fld Reg.LNK_RX_STATE 0) = true ∧ lkCarries (rolling.fld Reg.LNK_TX_STATE 0) = true ∧
    (after (.lnkDown 0) rolling).fld Reg.LNK_RX_STATE 0 = lkDown ∧ roleOf true 16 (after (.lnkDown 0) rolling) = roleIdle := by decide +kernel

theorem wit_lnkInj : rolling.expertOpen Reg.LNK_INJ_CW = true ∧ rolling.expertOpen Reg.LNK_INJ_CRC = true ∧
    ((after (.lnkInjCw 0) rolling).link 0).injCw = some 0 ∧ ((after (.lnkInjCrc 0) rolling).link 0).injCrc = true := by decide +kernel

theorem wit_lnkLaneOvr : rolling.expertOpen Reg.LNK_OVR_TX_EN = true ∧ (rolling.lane 0 false 0).role = 0 ∧ rolling.fld Reg.LNK_RX_STATE 0 = 2 ∧
    (after (.lnkLaneOvr 0 5) rolling).bit Reg.MCB_EVT_REG_ERR 0 = true ∧
    let s := put [(Reg.LNK_SEL_LANE, 0, 16), (Reg.LNK_SEL_TX, 0, 1)] rolling
    (s.lane 0 true 16).role = roleParity ∧ ((after (.lnkLaneOvr 0 0x1000000000005) s).lane 0 true 16).taps = 5 := by decide +kernel

theorem wit_overridesHold : movesLanes 0 (.lnkDown 0) = true ∧
    ((after (.lnkDown 0) (rolling.setLane 0 true 3 { role := 3, ovrTx := true, taps := 9 })).lane 0 true 3).taps = 9 := by decide +kernel

/-! ### The fabric (11) -/

/-- Link 0 is up, and a packet is held for its slot 0. -/
def holding (p : Pkt) : State := { linkUp 2 with held := [{ pkt := p, link := 0, slot := 0, due := 0 }] }
/-- Slot 0 of link 0 is owned by job 0, epoch 0, and forwards. -/
def owned (s : State) : State := { s with cad := [(cadKey 0 true 0, 0x1001)], owners := [(0, { state := 2, job := 0, nextJob := 7 })] }
/-- A packet of owner 0. -/
def packet : Pkt := { kind := 0x80, hops := 3, payload := [1, 2] }

theorem wit_slotSend : let s := owned (holding packet)
    let v := s.at 0
    lanesSettled v = true ∧ (∀ h ∈ v.held, v.datum ≤ h.due + 2) ∧ v.slotStart 0 true v.tickNow 0 = 0 ∧
    (v.held.find? fun h => h.link == 0 && h.slot == 0 && decide (h.due ≤ 2)).map (·.pkt) = some packet ∧ v.bit Reg.LNK_DET_ACTIVE 0 = false ∧
    lkCarries (v.fld Reg.LNK_TX_STATE 0) = true ∧ v.slotOpen 0 true 0 = true ∧ v.detourOn 0 0 = none ∧
    v.checkPkt 0 true (packet.setFlag 3 1 0) 0 none = none ∧ v.bufFull 0 = false ∧
    ((after (.slotSend 0 0 0) s).link 0).replayBuf.map (fun e => (e.1, e.2.seq, e.2.hops, e.2.payload)) = [(0, 0, 4, [1, 2])] := by decide +kernel

theorem wit_slotSendViolates : let s := owned (holding { packet with job := 5 })
    let v := (s.at 0).missed 0
    (v.slotPkt 0 0 0).map (·.1) = some { packet with job := 5 } ∧
    v.checkPkt 0 true ({ packet with job := 5 }.setFlag 3 1 0) 0 none = some (4, 0x30) ∧
    (after (.slotSend 0 0 0) s).fld Reg.LNK_VIOL_COUNT 0 = 1 := by decide +kernel

theorem wit_slotSendDetours : let s := { put [(Reg.LNK_DET_ACTIVE, 0, 1)] (holding packet) with owners := [(0, { state := 2, detLink := 3 })] }
    let v := s.at 0
    lanesSettled v = true ∧ (∀ h ∈ v.held, v.datum ≤ h.due + 2) ∧ v.bit Reg.LNK_DET_ACTIVE 0 = true ∧
    (v.held.find? fun h => h.link == 0 && h.slot == 0 && decide (h.due ≤ 2)).map (·.pkt) = some packet ∧
    (v.detourOf 0 packet).isSome = true ∧
    ((after (.slotSend 0 0 0) s).link 0).detQ.map (fun q => (q.dslot, q.isDet, q.payload)) = [(0, true, [1, 2])] := by decide +kernel

/-- A detouring direction for whose packet no plat names a detour discards it. -/
theorem wit_slotSendNoDetour : let s := put [(Reg.LNK_DET_ACTIVE, 0, 1)] (holding packet)
    (s.at 0).detourOf 0 packet = none ∧ (after (.slotSend 0 0 0) s).fld Reg.LNK_LATE_DROP 0 = 1 ∧
    ((after (.slotSend 0 0 0) s).link 0).detQ = [] := by decide +kernel

theorem wit_slackUnitSend : let s := (linkUp 2).setLink 0 { ctlQ := [{ kind := 0x10, args := [1, 2, 3] }] }
    lanesSettled (s.at 35) = true ∧ (s.at 35).slackAt 0 true 35 = true ∧ (s.at 35).ackDue 0 = false ∧
    ((after (.slackUnitSend 0 35) s).link 0).ctlQ = [] ∧ ((after (.slackUnitSend 0 0) s).link 0).ctlQ = (s.link 0).ctlQ := by decide +kernel

/-- Before the control units an ACK that is due. -/
theorem wit_slackAcks : let s := (linkUp 2).setLink 0 { rxNext := 4, ctlQ := [{ kind := 0x10, args := [1, 2, 3] }] }
    (s.at 2083).slackAt 0 true 2083 = true ∧ (s.at 2083).ackDue 0 = true ∧
    ((after (.slackUnitSend 0 2083) s).link 0).ackAt = 2083 ∧ ((after (.slackUnitSend 0 2083) s).link 0).ctlQ.length = 1 := by decide +kernel

theorem wit_slackReplays : let s := (linkUp 2).setLink 0 { replayBuf := [(0, packet)], replayQ := [0], nextSeq := 1 }
    (s.at 35).oldestReplay 0 = some (0, packet) ∧ ((after (.slackUnitSend 0 35) s).link 0).replayQ = [] ∧
    (after (.slackUnitSend 0 35) s).fld Reg.LNK_REPLAYS 0 = 1 := by decide +kernel

theorem wit_slackLate : let s := owned { linkUp 2 with late := [{ pkt := packet, link := 0, slot := 0, due := 0 }] }
    (s.at 35).checkPkt 0 true packet 0 none = none ∧ (after (.slackUnitSend 0 35) s).late = [] ∧
    (after (.slackUnitSend 0 35) s).fld Reg.LNK_LATE_FWD 0 = 1 := by decide +kernel

theorem wit_slackIdles : ((linkUp 2).at 35).oldestReplay 0 = none ∧ ((linkUp 2).at 35).mgmtNext 0 = none ∧
    ((after (.slackUnitSend 0 35) (linkUp 2)).link 0).last.length = 1088 := by decide +kernel

theorem wit_slackDark : (linkUp lkDark).fld Reg.LNK_TX_STATE 0 = lkDark ∧ ((after (.slackUnitSend 0 0) (linkUp lkDark)).link 0).last.length = 1088 := by
  decide +kernel

/-- The bytes of a unit. -/
def unitOf (p : Pkt) : List (BitVec 8) := sealUnit p.bytes

/-- A lantern request of job 0. -/
def request (trans op : Nat) (payload : List Byte) : Pkt :=
  { kind := 0x83, version := 2, vc := 6, cls := 3, len := payload.length - 1, sp := lanternSp trans op 0, payload := payload }

/-- Link 0 up with version 2. -/
def upV2 : State := put [(Reg.LNK_VERSION, 0, 2)] (linkUp 2)

/-- The unit waits on link 0, whole and good. -/
def incoming (bs : List (BitVec 8)) (s : State) : State := s.setLink 0 { s.link 0 with rxStream := bs.map fun b => (b, true) }

set_option maxRecDepth 100000 in
theorem wit_unitReceive : let bs := unitOf (request 1 1 [9])
    let s := incoming bs upV2
    bs.length = unitLen ∧ crcOk bs = true ∧ lkCarries (s.fld Reg.LNK_RX_STATE 0) = true ∧ s.fillPt 0 0 = false ∧
    unitField bs 1 1 = s.fld Reg.LNK_VERSION 0 ∧ s.rxHas 0 0 = false ∧
    s.bit Reg.LNK_SAMPLE_EN 0 = false ∧ unitField bs 0 1 = 0x83 ∧ (parsePkt bs).job = 0 ∧
    (after (.unitReceive 0 0 0 0 [] []) s).lanternIn.length = 1 := by decide +kernel

set_option maxRecDepth 100000 in
theorem wit_unitReceiveFails : let bs := List.replicate 1088 (1 : BitVec 8)
    crcOk bs = false ∧ (after (.unitReceive 0 0 0 0 [] []) (incoming bs upV2)).fld Reg.LNK_CRC_FAIL 0 = 1 := by decide +kernel

set_option maxRecDepth 100000 in
theorem wit_unitReceiveSlot : let bs := unitOf { packet with version := 2, cls := 1, vc := 2 }
    let s := incoming bs { put [(Reg.TRC_CONFIGURED, 0, 1)] upV2 with
                cad := [(cadKey 0 false 0, 0x481)], owners := [(0, { state := 2 })], tracts := [(0, { landing := [5] })] }
    s.slotAt 0 false 0 = some 0 ∧ s.checkPkt 0 false (parsePkt bs) 0 (some 0) = none ∧ cadAction (s.cadAt 0 false 0) = 0 ∧
    s.landed 0 0 0 = some (0, 5) ∧ (after (.unitReceive 0 0 0 0 [] []) s).arrivals = [⟨parsePkt bs, 0, 5, 0⟩] := by decide +kernel

/-- Two packets sent on link 0 and not acknowledged. -/
def unacked : State := (linkUp 2).setLink 0 { replayBuf := [(0, packet), (0, { packet with seq := 1 })], nextSeq := 2 }

theorem wit_ack : (unacked.link 0).nextSeq ≠ 0 ∧ ((after (.ack 0 0) unacked).link 0).replayBuf.length = 1 := by decide +kernel

theorem wit_nak : (∃ e ∈ (unacked.link 0).replayBuf, e.2.seq = unfoldSeq 2 1) ∧ (unacked.link 0).fails = [] ∧ unfoldSeq 2 1 ∉ (unacked.link 0).replayQ ∧
    ((after (.nak 0 [1]) unacked).link 0).replayQ = [1] := by decide +kernel

theorem wit_detourStart : let s := { (linkUp 5).setLink 0 { detFrom := some 1, replayBuf := [(0, packet)] } with owners := [(0, { state := 2, detLink := 3 })] }
    ((s.at 2048).link 0).detFrom = some 1 ∧ 1 ≤ (s.at 2048).tickNow ∧ s.fld Reg.LNK_TX_STATE 0 = lkFailed ∧ (s.owner 0 0).detLink ≤ 5 ∧
    (after (.detourStart 0 2048) s).bit Reg.LNK_DET_ACTIVE 0 = true ∧ ((after (.detourStart 0 2048) s).link 0).detQ.length = 1 := by decide +kernel

/-- Around a failed direction that no plat detours nothing goes, and what is late for it is discarded. -/
theorem wit_detourStartNone : let s := { (linkUp 5).setLink 0 { detFrom := some 1 } with late := [{ pkt := packet, link := 0, slot := 0, due := 0 }] }
    (∀ i ∈ List.range 16, 5 < (s.owner 0 i).detLink) ∧ (after (.detourStart 0 2048) s).late = [] ∧
    (after (.detourStart 0 2048) s).fld Reg.LNK_LATE_DROP 0 = 1 := by decide +kernel

theorem wit_detourEnd : let s := put [(Reg.LNK_DET_ACTIVE, 0, 1)] ((linkUp 2).setLink 0 { detTo := some 1 })
    ((s.at 2048).link 0).detTo = some 1 ∧ ((s.at 2048).link 0).detQ = [] ∧ (after (.detourEnd 0 2048) s).bit Reg.LNK_DET_ACTIVE 0 = false := by decide +kernel

/-- A job whose start waits for a child's acknowledgement, and the child's reply. -/
def replied : State := { linkUp 2 with
  jobs := [(4, { msg := [1], children := [{ coord := 9, trans := 3, sentAt := some 0 }] })]
  lanternIn := [(0, { kind := 0x84, vc := 7, src := 9, sp := lanternSp 3 1 0 })] }

theorem wit_lanternReply : (replied.takeLantern 0 (fun p => p.kind == 0x84)).map (fun r => (r.1.dest, r.1.spec 4 2, r.1.spec 6 1)) = some (replied.coord, 1, 0) ∧
    (replied.job 4).msg ≠ [] ∧ ((after (.lanternReply 0) replied).job 4).children.map (·.acked) = [true] := by decide +kernel

/-- The last module's report that session 7 of tract 2 has parked. -/
def noticed : State := { put [(Reg.SRV_FRONT, 0, 4)] (linkUp 2) with
  sessions := [(7, { state := ssParking })]
  tracts := [(2, { job := 3, epoch := 1, members := [0] })]
  lanternIn := [(0, { kind := 0x85, vc := 8, job := 3, epoch := 1, sp := opMoved * 2 ^ 32, payload := [7, 0, 0, 0] })] }

theorem wit_stones : let s := { linkUp 2 with
               owners := [(0, { state := 4, job := 3, epoch := 1, nextJob := 8, nextEpoch := 2 })],
               lanternIn := [(0, { stone { job := 3, epoch := 1, nextJob := 8, nextEpoch := 2 } 1 0 with vc := 8 })] }
    ((s.takeLantern 0 fun p => p.kind == 0x86 && p.stoneStage == 1).map fun r => (r.2.stoneEntry 0 r.1, r.1.stoneJob, r.1.stoneEpoch)) = some (some 0, 8, 2) ∧
    ((after (.boundaryStoneDrained 0) s).owner 0 0).state = ownConfirmed ∧ ((after (.boundaryStoneDrained 0) s).owner 0 0).myTick = some (s.tickAhead 0) := by
  decide +kernel

theorem wit_stoneConfirms : let s := { linkUp 2 with
               owners := [(0, { state := 5, job := 3, epoch := 1, nextJob := 8, nextEpoch := 2 })],
               lanternIn := [(0, { stone { job := 3, epoch := 1, nextJob := 8, nextEpoch := 2 } 2 77 with vc := 8 })] }
    ((s.takeLantern 0 fun p => p.kind == 0x86 && p.stoneStage == 2).map fun r => (r.2.stoneEntry 0 r.1, r.1.stoneJob, r.1.stoneEpoch)) = some (some 0, 8, 2) ∧
    ((after (.boundaryStoneConfirm 0) s).owner 0 0).farTick = some 77 := by decide +kernel

theorem wit_lnkPass : let s := put [(Reg.LNK_OWN_IDX, 0, 3), (Reg.LNK_NEXT_JOB, 0, 8)] { linkUp 2 with owners := [(3, { state := 2 })] }
    (s.owner 0 3).state = ownOwned ∧ ((after (.lnkPass 0) s).owner 0 3).state = ownDraining ∧ ((after (.lnkPass 0) s).owner 0 3).nextJob = 8 ∧
    (linkUp 2).fld Reg.LNK_OWN_IDX 0 = 0 ∧ ((linkUp 2).owner 0 0).state ≠ ownOwned ∧ ((linkUp 2).owner 0 0).state ≠ ownPending ∧
    (after (.lnkPass 0) (linkUp 2)).bit Reg.MCB_EVT_REG_ERR 0 = true := by decide +kernel

theorem wit_ownerDrainComplete : let s := { linkUp 2 with owners := [(15, { state := 3, job := 3, nextJob := 8 })] }
    s.drained' 0 15 = true ∧ ((after (.ownerDrainComplete 0 15) s).owner 0 15).state = ownStoneSent ∧
    ((after (.ownerDrainComplete 0 15) s).link 0).mgmtQ.map Pkt.stoneStage = [1] := by decide +kernel

/-- A far end that has drained already is confirmed when this end has. -/
theorem wit_ownerDrainConfirms : let s := { linkUp 2 with owners := [(15, { state := 3, job := 3, nextJob := 8, farDrained := true, farJob := 8 })] }
    s.drained' 0 15 = true ∧ ((after (.ownerDrainComplete 0 15) s).owner 0 15).state = ownConfirmed ∧
    ((after (.ownerDrainComplete 0 15) s).link 0).mgmtQ.map Pkt.stoneStage = [1, 2] := by decide +kernel

theorem wit_stoneTimeout : let s := { linkUp 2 with owners := [(0, { state := 4 })], datum := 10000000000 }
    (s.owner 0 0).since + 1000000 * (s.at 10000000000).ctl Reg.LNK_STONE_MS 0 < (s.at 10000000000).datum ∧
    ((after (.stoneTimeout 0 0 10000000000) s).owner 0 0).state = ownStuck := by decide +kernel

theorem wit_lnkEaseWrite : let s := { upV2 with owners := [(3, { state := 2 })] }
    (s.owner 0 (bitsOf 0x135 4 4)).state = ownOwned ∧ s.fld Reg.LNK_VERSION 0 ≠ 1 ∧ bitAt 0x135 8 = true ∧
    ((after (.lnkEaseWrite 0 0x135) s).grantRec 0 5).newOwner = 3 ∧ ((after (.lnkEaseWrite 0 0x135) s).grantRec 0 5).newValid = true := by decide +kernel

theorem wit_lnkCadDataRead : let s := put [(Reg.LNK_CAD_SLOT, 0, 1279), (Reg.LNK_CAD_AUTOINC, 0, 1)] (linkUp 2)
    (after (.lnkCadDataRead 0) s).fld Reg.LNK_CAD_SLOT 0 = 0 ∧ (after (.lnkCadDataRead 0) s).lastRead = 0x7FF % 0x7FF := by decide +kernel

set_option maxRecDepth 100000 in
theorem wit_ownerSwitchTick : let s := { linkUp 2 with
               owners := [(0, { state := 5, myTick := some 1, farTick := some 1 })], cad := [(cadKey 0 false 5, 0x481)], cadOwner := [(cadKey 0 false 5, 1)] }
    (s.owner 0 0).state = ownConfirmed ∧ 1 ≤ (s.at 2048).tickNow ∧
    ((after (.ownerSwitchTick 0 0 2048) s).owner 0 0).state = ownFree ∧ tabGet 0 (after (.ownerSwitchTick 0 0 2048) s).cad (cadKey 0 false 5) = 0 ∧
    (after (.ownerSwitchTick 0 0 2048) s).bit Reg.LNK_EVT_PASSED 0 = true := by decide +kernel

set_option maxRecDepth 100000 in
theorem wit_lnkReleaseStuck : let s := put [(Reg.CFG_EXPERT_NOW, 0, 0xFFFFFFFF)] { linkUp 2 with owners := [(0, { state := 6 })] }
    s.expertOpen Reg.LNK_RELEASE_STUCK = true ∧ (s.owner 0 0).state = ownStuck ∧ ((after (.lnkReleaseStuck 0) s).owner 0 0).state = ownFree := by
  decide +kernel

/-- The notice the front module takes. -/
def notice : Pkt := { kind := 0x85, vc := 8, job := 3, epoch := 1, sp := opMoved * 2 ^ 32, payload := [7, 0, 0, 0] }

theorem wit_noticeFirst : noticed.lanternIn.find? (fun e => e.1 == 0 && e.2.kind == 0x85) = some (0, notice) := rfl

theorem wit_noticeErased : noticed.lanternIn.erase (0, notice) = [] := by simp [noticed, notice]

theorem wit_noticeTaken : noticed.takeLantern 0 (fun p => p.kind == 0x85) = some (notice, ({ noticed with lanternIn := [] }).freeCredit 0 8) := by
  have v : notice.vc = 8 := rfl
  simp only [State.takeLantern, wit_noticeFirst, wit_noticeErased, v]

theorem wit_noticeOp : notice.spec 4 2 = opMoved := bitsOf_shifted opMoved (BitVec.isLt _)

theorem wit_managementNotice : let s1 := ({ noticed with lanternIn := [] }).freeCredit 0 8
    notice.dest = noticed.coord ∧ leNat (notice.payload.take 4) = 7 ∧ (s1.sess 7).opDue = 0 ∧ (s1.sess 7).state = ssParking ∧ (s1.sess 7).held = [] ∧
    (s1.tract 2).members.length ≤ (s1.sess 7).reported + 1 ∧ bitAt (s1.fld Reg.SRV_FRONT 0) 2 = true := by decide +kernel

/-! ### Memory tiers (07) -/

/-- Windows of mode A over DDR5 banks leave the cycles 200 to 255 of every 256 free. -/
theorem refresh_free (j : Nat) : inRefresh false 0 j 200 = false := by
  simp only [inRefresh, Bool.or_eq_false_iff, decide_eq_false_iff_not, Bool.and_eq_false_iff]
  refine ⟨⟨?_, by simp⟩, by simp⟩
  simp only [Bool.false_eq_true, ↓reduceIte]
  omega

/-- DDR5 channel 0 is ready, with 16 GiB; position 110 of lane 0 is parcel 0's, for reads or for writes, or for the scrubber. -/
def ddr (kind dir : Nat) : State :=
  { put [(Reg.XX_STATE_CODE, 8, xxReady), (Reg.XX_CAP_GIB, 8, 16), (Reg.XX_SCRUB_EN, 8, 1)] bytes with cal := [(calKey 8 0 110, BitVec.ofNat 16 (kind * 512 + dir * 4096))] }

theorem ddr_bank (a : Nat) : positionCycle 8 a = 20 * a / 11 := rfl

theorem wit_calendarFree (s : State) (line : Nat) (h : s.plannedMode 8 = 0) (n : s.fld Reg.XX_REF_NEED 8 = 0) :
    s.refreshBusy 8 line 110 = false ∧ s.refreshUnplanned 8 line 110 = false := by
  have e : positionCycle 8 110 = 200 := rfl
  have l : decide ((8 : Nat) < 8) = false := rfl
  simp only [State.refreshBusy, State.refreshUnplanned, e, l, h, n, refresh_free, Bool.or_self, Bool.not_false, Bool.true_and, and_self]

/-- A line of DDR5 that lane 0 of channel 0 serves. -/
def ddrLine : Nat := 0x20000000000

theorem wit_calendarRead : let s := { ddr 1 0 with tierReads := [{ ord := 3, parcel := 0, line := ddrLine }], mem := [(ddrLine, 9)] }
    let v := s.publish fun w => [].contains w.line && !s.strict w.parcel
    v.xxServes 8 = true ∧ 110 < positionsOf 8 ∧ v.plannedMode 8 = 0 ∧ v.fld Reg.XX_REF_NEED 8 = 0 ∧
    calKind (v.calEntry 8 0 110) = 1 ∧ calDir (v.calEntry 8 0 110) = 0 ∧ calOwner (v.calEntry 8 0 110) = 0 ∧
    (v.pendingReads 8 0).map (·.ord) = [3] ∧ v.rowOpen 8 0 ddrLine = true ∧
    (after (.calendarPosition 8 0 110 []) s).tierReads.map (fun r => (r.bad, (r.data.getD []).take 1)) = [(false, [9])] := by decide +kernel

theorem wit_calendarWrite : let s := { ddr 1 1 with tierWrites := [{ ord := 3, parcel := 0, line := ddrLine, bytes := [(0, 9)] }] }
    let v := s.publish fun w => [].contains w.line && !s.strict w.parcel
    v.plannedMode 8 = 0 ∧ calDir (v.calEntry 8 0 110) = 1 ∧ (v.pendingWrites 8 0).map (·.ord) = [3] ∧ v.rowOpen 8 0 ddrLine = true ∧ v.strict 0 = false ∧
    (after (.calendarPosition 8 0 110 []) s).tierWrites.map (·.accepted) = [true] ∧
    ((after (.calendarPosition 8 0 110 [ddrLine]) (after (.calendarPosition 8 0 110 []) s)).rd8 ddrLine, (after (.calendarPosition 8 0 110 []) s).rd8 ddrLine) = (9, 0) := by
  decide +kernel

/-- The scrubber's next line lies on lane 0, the channel's last on lane 1. -/
theorem wit_calendarScrub : let s := ddr 3 0
    let z := { put [(Reg.XX_SCRUB_LINE, 8, 0xFFFFFFF)] s with cal := [(calKey 8 1 110, 0x600)] }
    calKind (s.calEntry 8 0 110) = 3 ∧ s.bit Reg.XX_SCRUB_EN 8 = true ∧ s.scrubLines 8 = 0x10000000 ∧
    s.onLane 8 0 (s.scrubAddr 8 0) = true ∧ s.rowOpen 8 0 (s.scrubAddr 8 0) = true ∧ s.refreshBusy 8 (s.scrubAddr 8 0) 110 = false ∧
    (after (.calendarPosition 8 0 110 []) s).fld Reg.XX_SCRUB_LINE 8 = 1 ∧
    (after (.calendarPosition 8 1 110 []) s).fld Reg.XX_SCRUB_LINE 8 = 0 ∧
    (after (.calendarPosition 8 1 110 []) z).fld Reg.XX_SCRUB_PASSES 8 = 1 := by decide +kernel

/-- A corrected line is rewritten in a write position of the scrubber on its lane. -/
theorem wit_calendarRewrite : let s := (ddr 3 1).setTctl 8 { rewrites := [ddrLine] }
    calDir (s.calEntry 8 0 110) = 1 ∧ s.onLane 8 0 ddrLine = true ∧ s.bankReady 8 0 ddrLine 110 = true ∧
    ((after (.calendarPosition 8 0 110 []) s).tctl 8).rewrites = [] := by decide +kernel

/-- A move of parcel 0 waits for two lines, and the first has been read. -/
def delivering (bad : Bool) : State := { bytes.setEng 0 2 { flight := [{ entry := { word := 0x80, seq := 4 }, need := [ddrLine, ddrLine + 64] }] } with
  tierReads := [{ ord := 3, parcel := 0, seq := 4, line := ddrLine, data := some [1], bad := bad }, { ord := 5, parcel := 0, seq := 4, line := ddrLine + 64 }] }

theorem wit_tierReadDelivery : (delivering false).moveIdx 0 4 = some 0 ∧ (after (.tierReadDelivery 0) (delivering false)).tierReads.map (·.ord) = [5] ∧
    ((after (.tierReadDelivery 0) (delivering false)).eng 0 2).flight.map (fun f => (f.need, f.got)) = [([ddrLine + 64], [(ddrLine, [1])])] ∧
    ((after (.tierReadDelivery 0) (delivering true)).eng 0 2).flight.map (·.status % 256) = [0x40] := by decide +kernel

theorem wit_refreshWindow : (ddr 1 0).xxServes 8 = true ∧ ((after (.refreshWindow 8 3 768) (ddr 1 0)).tctl 8).refresh = some (3, 768) ∧
    (after .patrolScrub { State.reset with patrolPos := 2047 }).patrolPos = 0 := by decide +kernel

theorem wit_memoryTemp : let s := put [(Reg.SFM_T_MEM, 0, 105)] (ddr 1 0)
    s.moduleDark = false ∧ (after (.memoryTempRead 8 96) s).fld Reg.XX_REF_NEED 8 = 2 ∧ (after (.memoryTempRead 8 105) s).moduleDark = true ∧
    (after (.memoryTempRead 8 105) s).fld Reg.SFM_DARK_CAUSE 0 = 7 := by decide +kernel

theorem wit_xxCommands : let s := expert (ddr 1 0)
    (after (.xxRetire 8) s).fld Reg.XX_STATE_CODE 8 = xxRetiring ∧ s.expertOpen Reg.XX_INJECT_CE = true ∧ s.expertOpen Reg.XX_INJECT_UE = true ∧
    ((after (.xxInjectCe 8) s).tctl 8).armCe = true ∧ ((after (.xxInjectUe 8) s).tctl 8).armUe = true ∧
    (after (.xxCountClr 8) (put [(Reg.XX_CE_COUNT, 8, 5)] s)).fld Reg.XX_CE_COUNT 8 = 0 ∧
    (after (.memoryControllerFailure 8) s).fld Reg.XX_STATE_CODE 8 = xxFailed := by decide +kernel

theorem wit_xxRetireDrains : let s := { put [(Reg.TRC_STATE_CODE, 0, 3), (Reg.TRC_MODE, 0, 1)] (ddr 1 0) with tractCfg := [(0, { ddr := [(0, 0, 1)] })] }
    s.moduleDark = false ∧ s.tractUses 0 8 = true ∧ (s.tract 0).won = none ∧ (after (.xxRetire 8) s).fld Reg.TRC_STATE_CODE 0 = 4 := by decide +kernel

theorem wit_xxCalData : let s := put [(Reg.XX_CAL_POS, 8, 7), (Reg.XX_CAL_LANE, 8, 0), (Reg.PCT_STATE_CODE, 0, stIdle)] (ddr 1 0)
    s.calOpen 8 = true ∧ calKind 0x205 = 1 ∧ (after (.xxCalDataAccess 8 (some 0x205)) s).calWrites = [⟨calKey 8 0 7, 0x205, 0⟩] ∧
    (after (.xxCalDataAccess 8 none) (after (.xxCalDataAccess 8 (some 0x205)) s)).lastRead = 0x205 := by decide +kernel

theorem wit_xxTraining : let s := put [(Reg.XX_STATE_CODE, 8, xxSelfRefresh)] (expert (ddr 1 0))
    s.expertOpen Reg.XX_TRAIN_REQ = true ∧ (after (.xxTrainReq 8) s).fld Reg.XX_STATE_CODE 8 = xxTraining ∧
    (after (.memoryTrainingComplete 8 true 9 true) (after (.xxTrainReq 8) s)).fld Reg.XX_STATE_CODE 8 = xxReady ∧
    (after (.memoryTrainingComplete 8 false 9 false) (after (.xxTrainReq 8) s)).fld Reg.XX_STATE_CODE 8 = xxFailed ∧
    (after (.memoryTrainingComplete 8 false 9 true) (after (.xxTrainReq 8) s)).fld Reg.XX_STATE_CODE 8 = xxTraining := by decide +kernel

/-! ### Serving (12) -/

/-- Tract 0 serves with this module as its front, and runs. -/
def serving : State :=
  { put [(Reg.TRC_MODE, 0, 1), (Reg.TRC_STATE_CODE, 0, 3), (Reg.SRV_FRONT, 0, 1), (Reg.SRV_SERVE, 0, 1), (Reg.SRV_EN, 0, 1)] inTract with
    tracts := [(0, { landing := [0], members := [0] })], accts := [(0, { isOpen := true })], rings := [(0, { isOpen := true, idleTtl := 2, parkTtl := 3 })] }

theorem wit_composition : let f := serving.outboxFlush (serving.srvOf 0).outbox.length 0
    let c := Comp.filled (Comp.taken { s := f, t := 0, step := f.fld Reg.TRC_STEP_NUM 0 + 1, w := (f.srvOf 0).ops.foldl (f.pageOp 0) (f.srvOf 0).ps })
    serving.bit Reg.TRC_MODE 0 = true ∧ bitAt (serving.fld Reg.SRV_FRONT 0) 0 = true ∧ (serving.srvOf 0).faulted = false ∧ (serving.srvOf 0).composed = none ∧
    c.bad = false ∧
    (((serving.setSrv 0 { composed := some 1 }).at 0).srvOf 0).composed = some ((serving.at 0).fld Reg.TRC_STEP_NUM 0 + 1) := by decide +kernel

/-- Step 1's record, with no row and no page operation, stands at the start of the tract's first parcel. -/
def recorded : State := { serving with mem := [(0, 1)] }

theorem wit_stepRecordApply : recorded.rdNat (parcelBase 0) 8 = recorded.fld Reg.TRC_STEP_NUM 0 + 1 ∧ recorded.rdNat 12 4 = 0 ∧ recorded.rangeBad 0 (recorded.tRecordBytes 0) = false ∧
    ((recorded.tract 0).landing.getD 0 0, recorded.tRecordOff 0, (recorded.srvOf 0).applied) = (0, 0, none) ∧
    ((after (.stepRecordApply 0) recorded).srvOf 0).applied = some 1 := by decide +kernel

/-- Session 9 of ring 0, with a move under way. -/
def moving (st : Nat) : State := { serving with sessions := [(9, { state := st })], srv := [(0, { moves := [(9, true)] })] }

theorem wit_parkMove : ((moving ssUnparking).srvOf 0).moves.find? (fun m => m.1 == 9) = some (9, true) ∧ ((moving ssUnparking).tract 0).members.length ≤ ((moving ssUnparking).sess 9).reported + 1 ∧
    ((after (.parkMoveComplete 0 9 0) (moving ssUnparking)).sess 9).state = ssIdle ∧ ((after (.parkMoveComplete 0 9 0) (moving ssUnparking)).srvOf 0).moves = [] ∧
    bitAt ((put [(Reg.SRV_FRONT, 0, 0)] (moving ssUnparking)).fld Reg.SRV_FRONT 0) 0 = false := by decide +kernel

/-- A request's prompt of two tokens at 0x2000 waits to be staged at 0x8000. -/
def prompting : State := { serving with
  towns := [(0, { clocked := true })]
  sessions := [(9, { state := ssQueued, req := some { promptTokens := 2, promptAddr := 0x2000 } })], mem := [(0x2000, 5), (0x2004, 6)]
  srv := [(0, { segs := [(0, 0), (0, 0), (0, 0), (0x8000, 64)] })] }

theorem wit_promptStaged : prompting.stageFit 0 8 = some 0 ∧ (prompting.uncorr, prompting.correc) = ([], []) ∧
    (accessLines 0x2000 8 ++ accessLines 0x8000 8).all (fun a => prompting.reaches .serve a && !prompting.shutLine a) = true ∧ prompting.sessTract 9 = 0 ∧
    (after (.promptStaged 9) prompting).rdBytes 0x8000 8 = [5, 0, 0, 0, 6, 0, 0, 0] ∧ ((after (.promptStaged 9) prompting).sess 9).req.map (·.staged) = some true := by
  decide +kernel

theorem wit_ttls : let idle := { moving ssIdle with srv := [] }
    let parked := { moving ssParked with srv := [] }
    ((idle.sess 9).req, (idle.sess 9).idleAt + (idle.ring 0).idleTtl * 1000000000) = (none, 2000000000) ∧ (idle.srvOf 0).ps.hbmOwn 9 ≤ idle.parkRoom 0 ∧
    ((after (.idleTtlExpiry 9 2000000000) idle).sess 9).state = ssParking ∧ ((after (.idleTtlExpiry 9 1999999999) idle).sess 9).state = ssIdle ∧
    ((after (.parkTtlExpiry 9 3000000000) parked).sess 9).expired = true ∧ ((after (.parkTtlExpiry 9 2999999999) parked).sess 9).expired = false := by decide +kernel

/-- Ring 0 open with queues of 64 entries, some used. -/
def ringed : State := { serving with rings := [(0, { isOpen := true, sqHead := 60, sqTail := 60, cqHead := 3, cqTail := 9 })] }

theorem wit_doorbells : ((after (.submissionTailDoorbell 0 5) ringed).ring 0).sqTail = 69 ∧ ((after (.completionHeadDoorbell 0 7) ringed).ring 0).cqHead = 7 ∧
    ((after (.completionHeadDoorbell 0 10) ringed).ring 0).cqHead = 9 ∧ ((after (.submissionTailDoorbell 0 64) ringed).ring 0).sqTail = 60 ∧
    (after (.submissionTailDoorbell 0 64) ringed).fld Reg.SRV_ERR_STATUS 0 = 0x11 ∧ (after (.completionHeadDoorbell 1 7) ringed).fld Reg.SRV_ERR_RING 0 = 1 ∧
    (after (.completionHeadDoorbell 1 7) ringed).fld Reg.SRV_ERR_COUNT 0 = 1 := by decide +kernel

/-- A ring block at 0x2000: queues of 64 in the aperture, account 0; an account block at 0x3000: tract 0, rate 7, burst 8; one to set at 0x4000. -/
def blocks : State := { serving with
  rings := [], mem := [(0x2005, 4), (0x2009, 0x10), (0x200D, 4), (0x2018, 6), (0x2019, 6), (0x3004, 7), (0x3008, 8), (0x4004, 2), (0x4008, 1)] }

theorem wit_openRing : ringBlockOk (blocks.rdBytes 0x2000 64) = true ∧ blocks.rangeBad 0x2000 64 = false ∧ fieldOf (blocks.rdBytes 0x2000 64) 28 2 = 0 ∧
    (blocks.acct 0).isOpen = true ∧ blocks.frontOf 0 = true ∧ (blocks.ring 5).isOpen = false ∧ blocks.bit Reg.SRV_CMD_BUSY 0 = false ∧
    ((after (.openRing 5 0x2000) blocks).ring 5).isOpen = true ∧ (after (.openRing 5 0x2000) blocks).fld Reg.SRV_CMD_RESULT 0 = 0 ∧
    (after (.openRing 5 0x2000) (put [(Reg.SRV_CMD_BUSY, 0, 1)] blocks)).bit Reg.MCB_EVT_REG_ERR 0 = true := by decide +kernel

theorem wit_closeRing : serving.frontOf (serving.ringTract 0) = true ∧ serving.sessions = [] ∧ ((after (.closeRing 0) serving).ring 0).isOpen = false := by decide +kernel

theorem wit_accounts : acctBlockOk (blocks.rdBytes 0x3000 64) = true ∧ fieldOf (blocks.rdBytes 0x3000 64) 0 1 = 0 ∧ fieldOf (blocks.rdBytes 0x3000 64) 16 48 = 0 ∧
    ((List.range 1024).find? fun a => !(blocks.acct a).isOpen) = some 1 ∧ (after (.openAccount 0x3000) blocks).fld Reg.SRV_CMD_OUT 0 = 1 ∧
    ((after (.openAccount 0x3000) blocks).acct 1).rate = 7 ∧ ((after (.closeAccount 0) blocks).acct 0).isOpen = false ∧
    acctBlockOk (blocks.rdBytes 0x4000 64) = true ∧ ((after (.setAccount 0 0x4000) blocks).acct 0).rate = 2 ∧ ((after (.setAccount 0 0x4000) blocks).acct 0).burst = 1 := by
  decide +kernel

/-- Every account is open. -/
def fullAccounts : State := { blocks with accts := (List.range 1024).map fun a => (a, { isOpen := true }) }

theorem tabGet_const {α : Type} (d x : α) (n : Nat) : ∀ l : List Nat, n ∈ l → tabGet d (l.map fun a => (a, x)) n = x
  | [], h => by simp at h
  | a :: l, h => by
    by_cases e : a = n
    · simp [tabGet, e]
    · have m : n ∈ l := by
        rcases List.mem_cons.mp h with h | h
        · exact absurd h.symm e
        · exact h
      simpa [tabGet, e] using tabGet_const d x n l m

theorem wit_accountsFull (n : Nat) (h : n < 1024) : (fullAccounts.acct n).isOpen = true := by
  rw [State.acct, fullAccounts, tabGet_const _ _ n _ (List.mem_range.mpr h)]

theorem wit_srvEn : (after (.srvEn 0) serving).bit Reg.SRV_EVT_DRAINED 0 = true ∧ bitAt (serving.fld Reg.SRV_EN 0) 0 = true ∧
    ((after (.srvEn 0) { serving with sessions := [(9, { state := ssDecode, req := some {} })] }).srvOf 0).draining = true ∧
    (expert serving).expertOpen Reg.SRV_STOP_NOW = true ∧ ((after (.srvStopNow 1) (expert serving)).srvOf 0).stopNow = true := by decide +kernel

/-! ### Benchmarks, drills and functional safety (13, 14) -/

/-- A sealed benchmark slot of job 3, epoch 1, at the start of HBM, with no piece. -/
def sealed : State := { put ((List.range 8).map fun c => (Reg.XX_STATE_CODE, c, xxReady)) inTract with
  bench := [(0, { job := 3, epoch := 1, fm := 1, every := 4, base := hbmBase, layout := List.replicate 17 0 ++ [0x10] ++ List.replicate 46 0 })]
  mem := [(hbmBase, 0x42), (hbmBase + 1, 0x4D), (hbmBase + 2, 0x52), (hbmBase + 3, 0x4B), (hbmBase + 4, 3), (hbmBase + 8, 1), (hbmBase + 24, 1), (hbmBase + 25, 1)] }

theorem wit_benchmarkDigest : let c := sealed.benchCtx 0
    c.slot 0 false = hbmBase ∧ fieldOf c.layout 16 8 = 4096 ∧ sealed.nextDigest c 0 false = true ∧ inHbm hbmBase = true ∧
    sealed.uncorr = [] ∧ (accessLines hbmBase (512 + c.fm * vmBytes c.layout)).all (sealed.reaches .lantern) = true ∧ sealed.slotAgrees c hbmBase = true ∧
    ({ sealed with bench := [(0, { c with job := 4 })] }).slotAgrees { c with job := 4 } hbmBase = false ∧
    (after (.benchmarkDigestDone 0 0 false) { sealed with bench := [(0, { c with job := 4 })] }).slotState hbmBase = 3 := by decide +kernel

/-- Both slots valid, a benchmark apart; drills 1 to 3 are on, tract 0 runs and its window is open. -/
def drilling : State := { put [(Reg.CFG_DRILL_NOW, 0, 7), (Reg.TRC_STATE_CODE, 0, 3)] (expert sealed) with
  drillWindows := [(0, 9)]
  tractCfg := [(0, { hbmCount := 1 })]
  mem := [(hbmBase + 16, 8), (hbmBase + 25, 2), (hbmBase + 4096 + 16, 4), (hbmBase + 4096 + 25, 2)] }

theorem wit_drillStart : drilling.drillBench (drilling.benchCtx 0) = some (hbmBase, 8) ∧ drilling.windowOpenAt 0 = true ∧ bitAt (drilling.fld Reg.CFG_DRILL_NOW 0) 0 = true ∧
    tabGet 0 drilling.boot.drillAt 1 = 0 ∧ drilling.expertOpen Reg.XX_INJECT_UE = true ∧ drilling.tractUses 0 3 = true ∧ drilling.expertOpen Reg.XX_INJECT_CE = true ∧ drilling.expertOpen Reg.LNK_INJ_CRC = true ∧
    ((after (.drillStart 0 0 3 0 0 0) drilling).tctl 3).armUe = true ∧ (after (.drillStart 0 0 3 0 0 0) drilling).drills.map (fun d => (d.kind, d.step)) = [(1, 8)] ∧
    ((after (.drillStart 1 0 3 0 0 0) drilling).tctl 3).armCe = true ∧ ((after (.drillStart 2 0 3 4 0 0) drilling).link 4).injCrc = true ∧
    bitAt (sealed.fld Reg.CFG_DRILL_NOW 0) 1 = false ∧ drilling.expertOpen Reg.MCB_DRILL_STOP_NOW = true ∧
    (after .mcbDrillStopNow { drilling with drills := [{}] }).drills = [] := by decide +kernel

/-- Parcel 0 is assigned to no tract and its township is 1800 cycles into the window of tick n. -/
def slotAt (n : Nat) : State := { (put [(Reg.PCT_STATE_CODE, 0, stIdle)] State.reset) with
  windowOpen := [(0, true)], towns := [(0, { clocked := true, tick := some n })], datum := 1800 }

/-- The tick of parcel 0's first test. -/
def katTick : Nat := ((List.range 4096).find? fun n => ((slotAt 0).katDue 0 n).isSome).getD 0

theorem wit_katSlot : let s := slotAt katTick
    (s.at 1800).planRuns 0 = true ∧ (s.at 1800).cycleNow 0 = 1800 ∧ s.boot.retest = none ∧ ((s.at 1800).katDue 0 katTick).isSome = true ∧ s.ptract 0 = none ∧
    (after (.katSlot 0 1800 true) s).fld Reg.SFM_KAT_PASS 0 = 1 ∧ (after (.katSlot 0 1800 false) s).fld Reg.SFM_KAT_FAILS 0 = 1 ∧
    tabGet 0 (after (.katSlot 0 1800 false) s).safety.reruns 0 = 4 ∧
    (after (.katSlot 0 1800 true) (s.setEng 0 0 { flight := [{}] })).fld Reg.SFM_KAT_MISSED 0 = 1 := by decide +kernel

theorem wit_katRetest : let s := { slotAt 0 with boot := { retest := some 0, retestPassed := 3 } }
    (after (.katSlot 0 1800 true) s).pstate 0 = stOff ∧ (after (.katSlot 0 1800 true) s).bit Reg.MCB_EVT_RETEST 0 = true := by decide +kernel

theorem wit_katRerun : let s := { slotAt 0 with safety := { reruns := [(0, 4)] } }
    tabGet 0 s.safety.rerunTick 0 ≤ (s.at 1800).tickNow ∧ tabGet 0 (after (.katRerun 0 1800 true) s).safety.reruns 0 = 3 ∧
    tabGet false (after (.katRerun 0 1800 false) s).safety.marked 0 = true := by decide +kernel

/-- The dark cause after a command, 0 where the module is not dark. -/
def darkBy (c : Instr) (s : State) : Nat := let u := after c s; if u.moduleDark then u.fld Reg.SFM_DARK_CAUSE 0 else 0

/-- Limits of temperature. -/
def safe : State := put [(Reg.SFM_T_DIE, 0, 110), (Reg.CLK_REF_STATE, 0, 1)] inTract

theorem wit_darkCauses : safe.moduleDark = false ∧ (safe.at 2000000).clockFast 33 100000000 = true ∧ (safe.at 5).clockFast 33 0 = false ∧
    6144 < absDiff (2200 * 100) 204800 ∧ (safe.at 1000000).safety.heartbeat + 1000000 ≤ (safe.at 1000000).datum ∧ safe.fld Reg.SFM_T_DIE 0 = 110 ∧
    disagree (48000, 46000) = true ∧ disagree (48000, 46081) = false ∧ sensorFaulty [] 0 = true ∧
    [darkBy (.heartbeatTimeout 999999) safe, darkBy (.dieSensorRead (List.replicate 33 (some 60)) 5) safe, darkBy (.sensingCompare (48000, 48000) (10, 10) [] 5) safe,
     darkBy (.inputDip 19999 5) safe, darkBy (.inputLow 44000) safe] = [0, 0, 0, 0, 0] := by decide +kernel

theorem wit_tractDark : (safe.at 5).clockFast 0 100000000 = true ∧ safe.tractOf 0 = some 0 ∧ (after (.clockMonitorWindow 0 100000000 5) safe).fld Reg.TRC_STATE_CODE 0 = 7 ∧
    (after (.clockMonitorWindow 0 100000000 5) safe).moduleDark = false ∧ (after (.heartbeatSend 5) safe).safety.heartbeat = 5 ∧
    (after (.inputDip 19999 5) safe).fld Reg.PWR_DIPS 0 = 1 ∧ (after (.inputLow 44000) safe).bit Reg.PWR_EVT_INPUT_LOW 0 = true ∧
    (after (.dieSensorRead (List.replicate 33 (some 60)) 5) safe).fld Reg.PWR_T_DIE_MAX 0 = 60 ∧
    (after (.sensingCompare (48000, 48000) (10, 10) [] 5) safe).fld Reg.PWR_IN_MV 0 = 48000 := by decide +kernel

theorem wit_darkEverywhere : let u := after (.inputOvervoltage 58001 5) safe
    u.fld Reg.MCB_STATE_CODE 0 = 5 ∧ u.fld Reg.TRC_STATE_CODE 0 = 7 ∧ u.pstate 0 = stDark ∧ u.pstate 1 = stOff ∧ (u.town 0).clocked = false ∧
    u.fld Reg.LNK_RX_STATE 5 = lkDark ∧ u.safety.hazard = 1 ∧ u.fld Reg.SFM_DARK_CAUSE 0 = 1 ∧ (after (.sfmTractDarkNow 1) safe).fld Reg.TRC_STATE_CODE 0 = 7 := by decide +kernel

/-- Firmware runs and its watchdogs count. -/
def watched : State := put [(Reg.MCB_STATE_CODE, 0, 2), (Reg.SFM_LWDT_MS, 0, 10)] (expert safe)

theorem wit_lanternWatchdog : (watched.at 10000000).coreWatched 2 = true ∧ tabGet 0 (after (.sfmLwdtKick 4 77) watched).safety.kicks 2 = 78 ∧
    (after (.lanternWatchdogExpiry 2 10000000) watched).fld Reg.SFM_LWDT_LOST 0 = 4 ∧ (after (.lanternWatchdogExpiry 2 9999999) watched).fld Reg.SFM_LWDT_LOST 0 = 0 ∧
    bitAt ((put [(Reg.SFM_LWDT_LOST, 0, 11)] watched).fld Reg.SFM_LWDT_LOST 0) 2 = false := by decide +kernel

theorem wit_safetyLog : let s := put [(Reg.SFM_LOG_REC, 0, 4095), (Reg.SFM_LOG_PART, 0, 3), (Reg.SFM_LOG_AUTOINC, 0, 1)] safe
    (after .sfmLogDataRead s).fld Reg.SFM_LOG_REC 0 = 0 ∧ (after .sfmLogDataRead s).fld Reg.SFM_LOG_PART 0 = 0 ∧
    (let c := put [(Reg.PWR_T_COOL_WARN, 0, 45)] safe
     c.fld Reg.PWR_T_IN 0 ≤ c.fld Reg.PWR_T_COOL_WARN 0 ∧ c.fld Reg.PWR_T_COOL_WARN 0 < 46) := by decide +kernel

/-! ### Start, change in service, management (15, 16, 17) -/

/-- The module's state code. -/
def inMode (n : Nat) : State := put [(Reg.MCB_STATE_CODE, 0, n)] State.reset

theorem wit_powerOn : (after (.coldStartPowerOn 48000 0) State.reset).boot.kind = 1 ∧ (after (.coldStartPowerOn 48000 0) State.reset).boot.step = 1 ∧
    (after (.coldStartPowerOn 44999 0) State.reset).boot.kind = 0 ∧ (after (.coldStartPowerOn 48000 5) { State.reset with safety := { hazard := 1 } }).boot.kind = 0 := by
  decide +kernel

/-- A cold start at a step. -/
def starting (n : Nat) : State := { State.reset with boot := { kind := 1, step := n, coordOk := true } }

theorem wit_startSteps : (after (.startSequenceStepDone 5 [] []) (starting 2)).boot.step = 3 ∧ (after (.startSequenceStepDone 5 [] []) (starting 2)).fld Reg.PWR_STAGE 0 = 3 ∧
    (after (.startSequenceStepDone 5 [] []) (starting 5)).boot.step = 6 ∧
    (starting 6).memTrained = true ∧ (after (.startSequenceStepDone 5 [] []) (starting 6)).boot.step = 7 ∧
    (starting 8).boot.coordOk = true ∧ (starting 8).fld Reg.LNK_RX_STATE 0 = 0 ∧ (after (.startSequenceStepDone 5 [] []) (starting 8)).boot.step = 9 := by
  decide +kernel

theorem wit_startEnds : (starting 9).linksTrained = true ∧ (after (.startSequenceStepDone 5 [] []) (starting 9)).fld Reg.MCB_STATE_CODE 0 = 2 ∧
    (after (.startSequenceStepDone 5 [] []) (starting 9)).boot.kind = 0 ∧ (after (.startSequenceStepDone 5 [] []) (starting 9)).bit Reg.MCB_EVT_READY 0 = true := by decide +kernel

theorem wit_startsBegin : State.reset.safety.hazard = 0 ∧ (inMode 3).bit Reg.SFM_SUSPECT 0 = false ∧ (after .mcbWarm (inMode 3)).boot.kind = 2 ∧
    (after .mcbWarm (inMode 2)).fld Reg.MCB_RAE_ADDR 0 = fieldAddr Reg.MCB_WARM 0 ∧ (after (.warmStart true) (inMode 2)).mgmt.lastResult = 0x11 ∧
    (after (.warmStart true) (inMode 3)).boot.step = 1 := by decide +kernel

theorem wit_coldBegins : (after .mcbCold (inMode 2)).boot.step = 2 ∧ (after (.coldStart true) (inMode 2)).mgmt.lastResult = 0 ∧
    (after .mcbCold { inMode 2 with safety := { hazard := 1 } }).boot.kind = 0 := by decide +kernel

theorem wit_mcbAdopt : (inMode 2).fld Reg.MCB_STATE_CODE 0 = 2 := by decide +kernel

theorem wit_handover : (inMode 2).coresUp = 4 ∧ (inMode 2).boot.handover = 0 ∧ (inMode 2).firmwareRuns = true ∧ (after .mcbFwStage (inMode 2)).boot.handover = 1 ∧
    (put [(Reg.SFM_LWDT_LOST, 0, 3)] (inMode 2)).coresUp = 2 ∧ (after .mcbFwStage (put [(Reg.SFM_LWDT_LOST, 0, 3)] (inMode 2))).bit Reg.MCB_EVT_REG_ERR 0 = true := by
  decide +kernel

/-- A handover at a stage. -/
def handing (n : Nat) : State := { inMode 2 with boot := { handover := n } }

theorem wit_handoverStages : (after (.fwHandoverStageDone 5 true) (handing 2)).boot.handover = 3 ∧ (after (.fwHandoverStageDone 5 true) (handing 3)).boot.handover = 4 ∧
    (after (.fwHandoverStageDone 5 false) (handing 4)).boot.handover = 0 ∧ (after (.fwHandoverStageDone 5 false) (handing 4)).fld Reg.MCB_FW_RESULT 0 = 3 ∧
    (after (.fwHandoverStageDone 5 true) (handing 5)).boot.half = 1 ∧ (after (.fwHandoverStageDone 5 true) (handing 6)).boot.handover = 0 := by decide +kernel

theorem wit_recoveryGo : (inMode 4).fld Reg.MCB_STATE_CODE 0 = 4 := by decide +kernel

theorem wit_retest : let s := put [(Reg.MCB_PARCEL, 0, 511), (Reg.PCT_STATE_CODE, 511, stQuarantined)] (inMode 2)
    s.boot.retest = none ∧ (after .mcbRetest s).boot.retest = some 511 ∧ (after .mcbRetest (inMode 2)).bit Reg.MCB_EVT_REG_ERR 0 = true ∧
    tabGet false (after .mcbQMark (inMode 2)).safety.marked 0 = true ∧ (inMode 2).disabled 0 = false ∧ (inMode 2).pstate 0 = stOff ∧ (inMode 2).ptract 0 = none ∧
    (after .mcbQMark (inMode 2)).pstate 0 = stQuarantined := by decide +kernel

theorem wit_management : (after .status (inMode 3)).mgmt.lastBlock.take 1 = [3] ∧ (after .lastResult { inMode 2 with mgmt := { lastResult := 0x11 } }).mgmt.lastBlock = [0x11] ∧
    (after .powerRead (put [(Reg.PWR_IN_MV, 0, 48000), (Reg.PWR_IN_CA, 0, 10)] (inMode 2))).mgmt.lastBlock = [0x80, 0xBB, 0, 0, 100, 0, 0, 0] ∧
    (put [(Reg.SFM_MODULE, 0, 2)] (inMode 5)).alertN = true ∧ (after (.alertResponse 3) (put [(Reg.SFM_MODULE, 0, 2)] (inMode 5))).mgmt.lastBlock = [0x86] ∧
    (after (.attestRead 2) { inMode 2 with mgmt := { attReport := [1, 2, 3] } }).mgmt.lastBlock = [3] ∧
    (after .getCoord { inMode 2 with mgmt := { coordBytes := [7] } }).mgmt.lastBlock.take 2 = [7, 0] ∧
    ((after (.safetyLog 0) (inMode 2)).mgmt.lastBlock.length, (after .identity (inMode 2)).mgmt.lastBlock.length) = (32, 64) := by decide +kernel

theorem wit_managementWrites : coordOk [5, 0, 0, 0x0F, 0, 0, 0, 0] = true ∧ capOk 1500 = true ∧ capOk 1499 = false ∧ capOk 3001 = false ∧
    (after (.setCoord [5, 0, 0, 0x0F, 0, 0, 0, 0] true) (inMode 2)).coord = 5 ∧ (after (.setCoord [5, 0, 0, 0x0F, 0, 0, 0, 0] true) (inMode 2)).clk.setAt = some 0 ∧
    (after (.setCoord [5, 0, 0, 0x0F, 0, 0, 0, 0] false) (inMode 2)).mgmt.lastResult = 0x11 ∧ (after (.setCoord [] true) (inMode 3)).mgmt.lastResult = 0xFF ∧
    (after (.powerCap 1500 true) (inMode 2)).fld Reg.PWR_CAP_SMB_W 0 = 1500 ∧ (after (.powerCap 1499 true) (inMode 2)).mgmt.lastResult = 0x11 ∧
    (after (.attestNonce [1] true) (inMode 2)).mgmt.attReqs.length = 1 ∧ (after (.standby true) (inMode 2)).fld Reg.MCB_STATE_CODE 0 = 3 ∧
    (List.range 8).all (fun t => (inMode 2).fld Reg.TRC_STATE_CODE t == 0) = true := by decide +kernel

theorem wit_attestation : let s := after .idnAttReq (inMode 2)
    (inMode 2).bit Reg.IDN_ATT_BUSY 0 = false ∧ s.bit Reg.IDN_ATT_BUSY 0 = true ∧ s.mgmt.attReqs.map (·.viaReg) = [true] ∧ s.rangeBad (s.fld Reg.IDN_ATT_NONCE 0) 32 = false ∧
    (after .idnAttReq s).mgmt.attReqs.length = 1 ∧ (after (.attestNonce [1] true) (inMode 2)).mgmt.attReqs.map (·.viaReg) = [false] := by decide +kernel

theorem wit_powerCap : (after (.pwrCapW 2000) (inMode 2)).fld Reg.PWR_CAP_EFF 0 = 2000 ∧ (after (.pwrCapW 1000) (inMode 2)).bit Reg.MCB_EVT_REG_ERR 0 = true ∧
    let s := put [(Reg.PWR_STAGE, 0, 3), (Reg.PWR_CAP_EFF, 0, 2000), (Reg.PWR_STRETCH_NOW, 0, 4), (Reg.PWR_STRETCH_MAX, 0, 5), (Reg.CFG_EXPERT_NOW, 0, 0xFFFFFFFF)] (inMode 2)
    (after (.powerAverageUpdate 2001 5) s).fld Reg.PWR_STRETCH_NOW 0 = 5 ∧ (after (.powerAverageUpdate 1959 5) s).fld Reg.PWR_STRETCH_NOW 0 = 3 ∧
    (after (.powerAverageUpdate 1960 5) s).fld Reg.PWR_STRETCH_NOW 0 = 4 ∧
    (after (.powerAverageUpdate 2001 6) (after (.powerAverageUpdate 2001 5) s)).fld Reg.PWR_CAP_UNMET_MS 0 = 1 := by decide +kernel

/-! ### Companion, debug port and register space (16, 00) -/

/-- Tract 0 with township 0 clocked. -/
def lively : State := { inTract with towns := [(0, { clocked := true })] }

/-- The attach link is up, and window 0 lets the companion read and write the lowest 4 GiB. -/
def attached : State := after (.attWinWrite 0 0 (BitVec.ofNat 14 (32 + 64 + 128 + 256 + 512 + 8 * 1024))) (put [(Reg.ATT_LINK, 0, 2)] lively)

theorem wit_rd : attached.attUp = true ∧ attached.winReason 0x2000 64 false = 0 ∧ attached.winReason 0x10000000000 64 false ≠ 0 ∧
    ((after (.rd 0x2000 1 77 0) { attached with mem := [(0x2001, 5)] }).att.out ++ (after (.rd 0x2000 1 77 0) { attached with mem := [(0x2001, 5)] }).att.sent).map
      (fun m => (m.typ, m.tag, m.status, m.data.take 2)) = [(2, 77, 0, [0, 5])] ∧
    (after (.rd 0x10000000000 1 77 0) attached).bit Reg.ATT_EVT_REFUSED 0 = true := by decide +kernel

theorem wit_wr : attached.winReason 0x2000 64 true = 0 ∧ inParcelMem 0x2000 = true ∧ attached.reaches .companion 0x2000 = true ∧
    (after (.wr 0x2000 (List.replicate 64 9) 2 0) attached).rdBytes 0x2000 3 = [0, 9, 0] ∧ attached.uncorr = [] ∧
    (after (.wr 0x10000000000 (List.replicate 64 9) 2 0) attached).bit Reg.ATT_EVT_REFUSED 0 = true := by decide +kernel

theorem wit_cpl : let s := { attached with att := { attached.att with reads := [{ tag := 3, addr := 0x40000000001, len := 2 }] } }
    inAperture 0x40000000000 = true ∧ (after (.cpl 3 0x40000000000 0 (List.replicate 64 7) 0) s).lastData = [7, 7] ∧
    (after (.cpl 3 0x40000000000 0 (List.replicate 64 7) 0) s).att.reads = [] ∧ tabGet 0 (after (.idle 0x20) { attached with att := { spent := [(1, 3)] } }).att.spent 1 = 1 := by
  decide +kernel

theorem wit_attTrain : (after .attTrain State.reset).fld Reg.ATT_LINK 0 = 1 ∧ (after .attTrain attached).fld Reg.ATT_LINK 0 = 2 ∧
    (after (.attachTrainingComplete 0x0F) (after .attTrain State.reset)).fld Reg.ATT_LINK 0 = 3 ∧ (after (.attachTrainingComplete 7) (after .attTrain State.reset)).fld Reg.ATT_LINK 0 = 4 ∧
    let s := put [(Reg.ATT_LANES_OK, 0, 255)] attached
    s.attLanes.contains 3 = true ∧ (after (.attachLaneFail 3) s).fld Reg.ATT_LINK 0 = 1 ∧ (after (.attachLaneFail 3) s).fld Reg.ATT_LANES_OK 0 = 247 ∧
    (after (.attachLaneFail 3) State.reset).fld Reg.ATT_LINK 0 = 0 := by decide +kernel

theorem wit_attWin : attached.fld Reg.ATT_WIN_LOG 0 = 32 ∧ attached.bit Reg.ATT_WIN_SHARED 0 = true ∧ attached.fld Reg.ATT_WIN_SCOPE 0 = 8 ∧
    (after (.attWinWrite 0 4095 0) attached).bit Reg.MCB_EVT_REG_ERR 0 = true ∧ (after .attCountClr (put [(Reg.ATT_RETRAINS, 0, 7)] attached)).fld Reg.ATT_RETRAINS 0 = 0 := by
  decide +kernel

theorem wit_attDoorbells : let s := put [(Reg.ATT_CMDQ_LOG, 0, 4), (Reg.ATT_RPTQ_LOG, 0, 4)] { attached with att := { rptHead := 15, rptTail := 20 } }
    (after (.commandTailDoorbell 5) s).att.cmdTail = 5 ∧ (after (.commandTailDoorbell 16) s).bit Reg.ATT_EVT_CMD_ERR 0 = true ∧ (after (.reportHeadDoorbell 2) s).att.rptHead = 18 ∧
    (after (.reportHeadDoorbell 7) s).att.rptHead = 20 ∧ (after (.reportHeadDoorbell 16) s).att.rptHead = 15 := by decide +kernel

/-- The entry at the head of the command queue, given by its bytes that are not zero. -/
def entry (l : List (Nat × BitVec 8)) (s : State) : State :=
  { put [(Reg.ATT_CMDQ_BASE, 0, 0x6000), (Reg.ATT_CMDQ_LOG, 0, 4)] s with
    mem := l.map fun x => (0x6000 + x.1, x.2), att := { cmdTail := 1 } }

theorem wit_startJob : let s := put [(Reg.TRC_STATE_CODE, 0, 0)] (entry [(0, 1), (9, 0x70), (0x1000, 3), (0x1004, 1)] attached)
    (s.cmdEntry.map fun e => (fieldOf e.1 0 1, fieldOf e.1 8 8, e.2.1)) = some (1, 0x7000, false) ∧ s.rptReady = false ∧ s.cmdPop.startOk (s.rdBytes 0x7000 1020) = true ∧
    msgJob (s.rdBytes 0x7000 1020) = 3 ∧ (s.job 3).known = false ∧ s.moduleDark = false ∧ s.boot.handover = 0 ∧
    ((after (.startJob 0) s).job 3).word = jobStarting ∧ (after (.startJob 0) s).fld Reg.TRC_STATE_CODE 0 = 1 ∧ (after (.startJob 0) s).att.cmdHead = 1 := by decide +kernel

theorem wit_abortJob : let s := { entry [(0, 2), (8, 3)] attached with jobs := [(3, { msg := [1], root := true, word := jobRunning, wordAt := 5 })] }
    ((s.at 9).cmdEntry.map fun e => (fieldOf e.1 0 1, fieldOf e.1 8 4)) = some (2, 3) ∧ (s.job 3).known = true ∧ (s.at 9).datum = 9 ∧
    ((after (.abortJob 9) s).job 3).word = jobAborted := by decide +kernel

theorem wit_drillWindow : let s := entry [(0, 3), (8, 1), (9, 2), (10, 50)] attached
    (s.cmdEntry.map fun e => (fieldOf e.1 0 1, fieldOf e.1 9 1)) = some (3, 2) ∧ tabGet 0 (after .drillWindow s).drillWindows 2 = 50 := by decide +kernel

theorem wit_exportBlock : let s := { entry [(0, 4), (17, 4)] attached with bench := [(0, { fm := 1, base := 0x100000, layout := List.replicate 17 0 ++ [0x10] ++ List.replicate 46 0 })] }
    (s.cmdEntry.map fun e => (fieldOf e.1 0 1, fieldOf e.1 8 1, fieldOf e.1 12 8)) = some (4, 0, 0x40000000000) ∧ fieldOf (s.benchCtx 0).layout 5 1 = 0 ∧
    (s.benchCtx 0).slot 0 false = 0x100000 ∧ (after .exportBlock s).att.cmdHead = 1 := by decide +kernel

theorem wit_linkPass : let s := { entry [(0, 5), (8, 2), (9, 8), (21, 15)] attached with owners := [(47, { state := 2 })] }
    (s.cmdEntry.map fun e => (fieldOf e.1 0 1, fieldOf e.1 8 1, fieldOf e.1 21 1)) = some (5, 2, 15) ∧ (s.owner 2 15).state = ownOwned ∧
    ((after .linkPass s).owner 2 15).state = ownDraining ∧ ((after .linkPass s).owner 2 15).nextJob = 8 := by decide +kernel

theorem wit_easement : let s := { entry [(0, 6), (8, 2), (9, 4), (10, 15), (11, 1)] (put [(Reg.LNK_VERSION, 2, 2)] attached) with owners := [(47, { state := 2 })] }
    (s.owner 2 15).state = ownOwned ∧ s.fld Reg.LNK_VERSION 2 ≠ 1 ∧ ((after .easement s).grantRec 2 4).newOwner = 15 ∧ ((after .easement s).grantRec 2 4).newValid = true := by
  decide +kernel

/-- The debug port is open. -/
def unlocked : State := put [(Reg.DBG_OPEN, 0, 1), (Reg.DBG_SCOPE, 0, 0x3FF), (Reg.DBG_RECOVERY, 0, 0), (Reg.DBG_TOKEN, 0, 0)] lively
/-- It is locked. -/
def locked : State := put [(Reg.DBG_OPEN, 0, 0), (Reg.DBG_RECOVERY, 0, 0), (Reg.DBG_TOKEN, 0, 0)] lively

theorem wit_tapInstructions : locked.dbgLocked = true ∧ unlocked.dbgLocked = false ∧ (after .idcode locked).tap.out = 0x0AB23A1F ∧ (after (.bypass true) locked).tap.ir = 0x3F ∧
    (after (.samplePreload [true]) locked).tap.preload = [true] ∧ (after (.extest none) (put [(Reg.MCB_STATE_CODE, 0, 4)] (after (.samplePreload [true]) locked))).tap.pins = some [true] ∧
    (after (.extest none) (put [(Reg.MCB_STATE_CODE, 0, 2)] locked)).tap.pins = none ∧ (after (.dtmcs 0) unlocked).tap.out = 113 ∧ (after (.dtmcs 0) locked).tap.out = 0 := by
  decide +kernel

theorem wit_dbgacc : inRegs 0x2000 = false ∧ unlocked.scopeHolds 0x2000 8 = true ∧ (put [(Reg.DBG_SCOPE, 0, 0)] unlocked).scopeHolds 0x2000 8 = false ∧
    (after (.dbgacc 1 0x2000 0) { unlocked with mem := [(0x2001, 5)] }).tap.accData = 0x500 ∧ (after (.dbgacc 1 0x2000 0) unlocked).tap.accStatus = 0 ∧
    (after (.dbgacc 1 0x2000 0) (put [(Reg.DBG_SCOPE, 0, 0)] unlocked)).tap.accStatus = 3 := by decide +kernel

theorem wit_dmi : let s := { unlocked with dm := { regs := [(0x10, 1)] } }
    s.inScope 0 = true ∧ s.dm.stat = 0 ∧ bitAt (s.dmReg 0x10) 0 = true ∧ s.hartLost 0 = false ∧ (after (.dmi 2 0x3D 77) s).dmReg 0x3D = 77 ∧
    (after (.dmi 1 0x3D 0) (after (.dmi 2 0x3D 77) s)).dm.data = 77 ∧ ((after (.dmi 2 0x10 0x80000001) s).hart 0).halted = true := by decide +kernel

theorem wit_tokens : let s := put [(Reg.DBG_TOKEN, 0, 1), (Reg.DBG_NOT_AFTER, 0, 1)] locked
    (after .dbgLock s).bit Reg.DBG_TOKEN 0 = false ∧ (after (.tokenExpiry 2000000000) s).bit Reg.DBG_TOKEN 0 = false ∧ (after (.tokenExpiry 1999999999) s).bit Reg.DBG_TOKEN 0 = true ∧
    (after (.token []) locked).tap.out = 0 ∧ locked.tokenOk [] = false := by decide +kernel

theorem wit_debugParcel : unlocked.inScope (unlocked.parcelScope 0) = true ∧ unlocked.fld Reg.DBG_PARCEL 0 = 0 ∧ unlocked.bit Reg.DBG_WIDE 0 = false ∧ unlocked.pstate 0 = stRun ∧
    (after .dbgHalt unlocked).pstate 0 = stHalted ∧ (after .dbgResume (after .dbgHalt unlocked)).pstate 0 = stRun ∧ ((after .dbgStep (after .dbgHalt unlocked)).par 0).stepping = true ∧
    (after .dbgResume unlocked).fld Reg.DBG_ERR_REASON 0 = 4 ∧ (after .dbgHalt (after .dbgHalt unlocked)).fld Reg.DBG_ERR_REASON 0 = 4 ∧
    locked.inScope (locked.parcelScope 0) = false ∧ (after .dbgHalt locked).fld Reg.DBG_ERR_REASON 0 = 3 ∧ (after .dbgStep locked).fld Reg.DBG_ERR_REASON 0 = 3 := by decide +kernel

theorem wit_dbgBeaconSet : let s := put [(Reg.TRC_STATE_CODE, 0, 3)] { unlocked with beacons := [(7, { count := 1, waiters := [⟨2, 0, 8⟩], assigned := true })] }
    s.inScope (s.parcelScope (beaconHome 7)) = true ∧ s.ptract (beaconHome 7) = some 0 ∧ ((after (.dbgBeaconSet 7 9) s).beacon 7).count = 1 ∧
    ((after (.dbgBeaconSet 7 9) s).beacon 7).waiters = [] ∧ (after (.dbgBeaconSet 6 9) s).fld Reg.DBG_ERR_REASON 0 = 4 := by decide +kernel

theorem wit_registerAccess : inRegs (fieldAddr Reg.IDN_ATT_NONCE 0) = true ∧ (after (.registerWrite .lantern (fieldAddr Reg.IDN_ATT_NONCE 0) 8 77) inTract).fld Reg.IDN_ATT_NONCE 0 = 77 ∧
    (after (.registerWrite .lantern (fieldAddr Reg.IDN_ATT_NONCE 0) 4 77) inTract).fld Reg.IDN_ATT_NONCE 0 = 0 ∧
    (after (.registerWrite .lantern (fieldAddr Reg.IDN_ATT_NONCE 0) 4 77) inTract).fld Reg.MCB_RAE_ADDR 0 = fieldAddr Reg.IDN_ATT_NONCE 0 ∧
    (after (.registerWrite .lantern (fieldAddr Reg.PWR_IN_MV 0) 8 77) inTract).fld Reg.PWR_IN_MV 0 = 0 ∧
    (after (.outsideAgentAccess .lantern (fieldAddr Reg.IDN_ATT_NONCE 0) 4 none) inTract).lastData = [0, 0, 0, 0] ∧
    (after (.outsideAgentAccess .lantern (fieldAddr Reg.IDN_ATT_NONCE 0 + 4) 8 none) inTract).bit Reg.MCB_EVT_REG_ERR 0 = true := by decide +kernel

theorem wit_memoryAccess : (accessLines 0x103E 4).all (lively.reaches .lantern) = true ∧ accessLines 0x103E 4 = [0x1000, 0x1040] ∧ lively.uncorr = [] ∧ lively.correc = [] ∧
    (after (.outsideAgentAccess .lantern 0x103E 4 (some [1, 2, 3, 4])) lively).rdBytes 0x103E 4 = [1, 2, 3, 4] ∧
    (after (.outsideAgentAccess .lantern 0x103E 4 none) (after (.outsideAgentAccess .lantern 0x103E 4 (some [1, 2, 3, 4])) lively)).lastData = [1, 2, 3, 4] ∧
    lively.reaches .lantern 0xA0800000 = false ∧ (after (.outsideAgentAccess .lantern 0xA0800000 2 none) lively).lastData = [0, 0] ∧
    (after (.outsideAgentAccess .lantern 0xA0800000 2 none) lively).bit Reg.MCB_EVT_ADDR_ERR 0 = true := by decide +kernel

end Sys2Proof.Tests
end

/-!
What a step leaves of the register file, as `SameRegistersBut` says it: the laws of that relation, and the registers that the
attach link, reports, the job tree and the tract check may write.
-/
section
namespace Sys2Proof.Machine

/-! ### Laws of `SameRegistersBut` -/

theorem sameRegistersBut_of_regs_eq (l : List (Fld × Nat)) {s t : State} (h : t.regs = s.regs) : SameRegistersBut l s t := by
  intro f u _
  rw [State.fld, State.fld, h]

theorem SameRegistersBut.refl (l : List (Fld × Nat)) (s : State) : SameRegistersBut l s s := fun _ _ _ => rfl

theorem SameRegistersBut.trans {l : List (Fld × Nat)} {s t u : State} (h : SameRegistersBut l s t) (h' : SameRegistersBut l t u) :
    SameRegistersBut l s u := fun f j hf => (h' f j hf).trans (h f j hf)

theorem SameRegistersBut.mono {l l' : List (Fld × Nat)} {s t : State} (h : SameRegistersBut l s t) (hl : l ⊆ l') :
    SameRegistersBut l' s t := fun f u hf => h f u fun x hx => hf x (hl hx)

theorem SameRegistersBut.ite {l : List (Fld × Nat)} {s a b : State} (c : Prop) [Decidable c] (ha : SameRegistersBut l s a)
    (hb : SameRegistersBut l s b) : SameRegistersBut l s (if c then a else b) := by
  split
  · exact ha
  · exact hb

theorem SameRegistersBut.foldl {α : Type} {l : List (Fld × Nat)} {g : State → α → State}
    (h : ∀ s x, SameRegistersBut l s (g s x)) (xs : List α) (s : State) : SameRegistersBut l s (xs.foldl g s) := by
  induction xs generalizing s with
  | nil => exact .refl l s
  | cons x xs ih => exact (h s x).trans (ih _)

/-- A field whose number no listed field has reads the same, whatever its unit. -/
theorem SameRegistersBut.fld_eq {l : List (Fld × Nat)} {s t : State} (h : SameRegistersBut l s t) {g : Fld} (j : Nat)
    (hg : (l.map fun x => x.1.idn).contains g.idn = false) : t.fld g j = s.fld g j := by
  refine h g j fun x hx => fkey_ne _ _ fun hi => ?_
  have hmem : g.idn ∈ l.map fun x => x.1.idn := List.mem_map.mpr ⟨x, hx, hi⟩
  exact absurd (List.contains_iff_mem.mpr hmem) (by rw [hg]; exact Bool.false_ne_true)

theorem setFld_sameRegistersBut {l : List (Fld × Nat)} (s : State) {f : Fld} {u : Nat} (v : Nat) (h : (f, u) ∈ l) :
    SameRegistersBut l s (s.setFld f u v) := fun _ _ hg => tabGet_tabPut_ne _ _ _ _ _ _ (hg (f, u) h).symm

theorem raise_sameRegistersBut {l : List (Fld × Nat)} (s : State) {f : Fld} {u : Nat} (h : (f, u) ∈ l) :
    SameRegistersBut l s (s.raise f u) := setFld_sameRegistersBut s 1 h

theorem count_sameRegistersBut {l : List (Fld × Nat)} (s : State) {f : Fld} {u : Nat} (n : Nat) (h : (f, u) ∈ l) :
    SameRegistersBut l s (s.count f u n) := setFld_sameRegistersBut s _ h

theorem setFlds_sameRegistersBut {l : List (Fld × Nat)} (s : State) (u : Nat) (fs : List (Fld × Nat)) (h : ∀ x ∈ fs, (x.1, u) ∈ l) :
    SameRegistersBut l s (s.setFlds u fs) := by
  induction fs generalizing s with
  | nil => exact .refl l s
  | cons x fs ih =>
    exact (setFld_sameRegistersBut s x.2 (h x List.mem_cons_self)).trans (ih _ fun y hy => h y (List.mem_cons_of_mem x hy))

/-! ### Messages and reports -/

/-- The registers that sending messages and filing a report may write. -/
def reportRegs : List (Fld × Nat) := [(Reg.ATT_BINV_SENT, 0), (Reg.ATT_RPT_DROP, 0), (Reg.ATT_EVT_RPT_DROP, 0)]

theorem attFlushN_regs (n : Nat) (s : State) : SameRegistersBut reportRegs s (State.attFlushN n s) := by
  induction n generalizing s with
  | zero => exact .refl _ s
  | succ n ih =>
    rw [State.attFlushN]
    split
    · exact .refl _ s
    · refine .ite _ (SameRegistersBut.trans ?_ (ih _)) (.refl _ s)
      exact .ite _ (count_sameRegistersBut { s with att := _ } 1 List.mem_cons_self) (sameRegistersBut_of_regs_eq _ rfl)

theorem attSend_regs (s : State) (m : AttMsg) : SameRegistersBut reportRegs s (s.attSend m) :=
  attFlushN_regs _ { s with att := { s.att with out := s.att.out ++ [m] } }

theorem binvLine_regs (s : State) (a : Nat) : SameRegistersBut reportRegs s (s.binvLine a) :=
  .ite _ (attSend_regs s _) (.refl _ s)

theorem attInt_regs (s : State) (v : Nat) : SameRegistersBut reportRegs s (s.attInt v) :=
  .ite _ (.refl _ s) (attSend_regs { s with att := { s.att with intTick := tabPut 0 s.att.intTick v (s.tickNow + 1) } } _)

theorem agentWrite_regs (s : State) (a : Nat) (bs : List Byte) : SameRegistersBut reportRegs s (s.agentWrite a bs) := by
  have hw : SameRegistersBut reportRegs s (s.wrBytes a bs) := fun f u _ => s.wrBytes_fld a bs f u
  exact .ite _ (hw.trans (.foldl (fun s i => attSend_regs s _) _ _)) (hw.trans (.foldl (fun s i => binvLine_regs s _) _ _))

theorem rptFlushN_regs (n : Nat) (s : State) : SameRegistersBut reportRegs s (State.rptFlushN n s) := by
  induction n generalizing s with
  | zero => exact .refl _ s
  | succ n ih =>
    rw [State.rptFlushN]
    split
    · exact .refl _ s
    · refine .ite _ (SameRegistersBut.trans ?_ (ih _)) (.refl _ s)
      exact agentWrite_regs { s with att := _ } _ _

theorem rptFlush_regs (s : State) : SameRegistersBut reportRegs s s.rptFlush :=
  .ite _ (rptFlushN_regs _ s) ((rptFlushN_regs _ s).trans (attInt_regs _ _))

theorem rptTrim_regs (s : State) : SameRegistersBut reportRegs s s.rptTrim := by
  rw [State.rptTrim]
  split
  · exact .refl _ s
  · split
    · exact (count_sameRegistersBut _ 1 (by simp [reportRegs])).trans (raise_sameRegistersBut _ (by simp [reportRegs]))
    · exact .refl _ s

theorem report_regs (s : State) (r : Report) : SameRegistersBut reportRegs s (s.report r) :=
  (rptFlush_regs { s with att := { s.att with reports := s.att.reports ++ [r] } }).trans (rptTrim_regs _)

/-! ### The job tree -/

theorem setWord_regs (s : State) (j code : Nat) : SameRegistersBut reportRegs s (s.setWord j code) :=
  .ite _ (.refl _ s) (report_regs (s.setJob j _) _)

theorem request_regs (s : State) (dest op job epoch : Nat) (payload : List Byte) :
    SameRegistersBut reportRegs s (s.request dest op job epoch payload) := by
  refine sameRegistersBut_of_regs_eq _ ?_
  rw [State.request, State.reserve, if_pos rfl]
  rfl

theorem tryDone_regs (s : State) (j : Nat) : SameRegistersBut reportRegs s (s.tryDone j) := by
  refine .ite _ (.ite _ ?root ?child) (.refl _ s)
  case root => exact .ite _ (setWord_regs (s.setJob j _) _ _) (sameRegistersBut_of_regs_eq _ rfl)
  case child => exact request_regs (s.setJob j _) _ _ _ _ _

theorem jobStopped_regs (s : State) (t : Nat) (byEnd : Bool) : SameRegistersBut reportRegs s (s.jobStopped t byEnd) := by
  rw [State.jobStopped]
  split
  · exact .ite _ (tryDone_regs s _) (.refl _ s)
  · exact .refl _ s

/-! ### The tract check -/

theorem trcEvent_regs (s : State) (ev : Fld) (t : Nat) : SameRegistersBut ((ev, t) :: reportRegs) s (s.trcEvent ev t) :=
  (raise_sameRegistersBut s List.mem_cons_self).trans ((report_regs _ _).mono (List.subset_cons_self _ _))

theorem trcMove_regs (s : State) (t code : Nat) : SameRegistersBut [(Reg.TRC_STATE_CODE, t)] s (s.trcMove t code) :=
  setFld_sameRegistersBut (s.setTract t _) code List.mem_cons_self

/-- The registers that the check of tract t may write. -/
def tractCheckRegs (t : Nat) : List (Fld × Nat) := (Reg.TRC_STATE_CODE, t) :: (Reg.TRC_EVT_STOPPED, t) :: reportRegs

theorem tractCheck_regs (s : State) (t : Nat) : SameRegistersBut (tractCheckRegs t) s (s.tractCheck t) := by
  have hmove := (trcMove_regs s t 5).mono (l' := tractCheckRegs t) (by simp [tractCheckRegs])
  have hevent := (trcEvent_regs (s.trcMove t 5) Reg.TRC_EVT_STOPPED t).mono (l' := tractCheckRegs t) (List.subset_cons_self _ _)
  have hjob := (jobStopped_regs ((s.trcMove t 5).trcEvent Reg.TRC_EVT_STOPPED t) t
    ((s.tract t).landing.all fun p => (s.par p).byEnd)).mono (l' := tractCheckRegs t)
      (List.subset_cons_of_subset _ (List.subset_cons_self _ _))
  exact .ite _ ((hmove.trans hevent).trans hjob) (.refl _ s)

/-- The check of a parcel's tract leaves the registers of every other block. -/
theorem ptractCheck_fld (s : State) (p : Nat) {g : Fld} (j : Nat)
    (hg : ((tractCheckRegs 0).map fun x => x.1.idn).contains g.idn = false) : (s.ptractCheck p).fld g j = s.fld g j := by
  rw [State.ptractCheck]
  split
  · next t _ => exact (tractCheck_regs s t).fld_eq j hg
  · rfl

end Sys2Proof.Machine
end

/-!
Starting, stopping and quiescence of a parcel (02 R40 to R43).
-/
section
namespace Sys2Proof.Machine

/-! ### Withdrawn waits (08 R210): only beacons and the beacon engines' flights change -/

theorem markBeaconFlight_regs (s : State) (p n : Nat) (st : Stage) (status : Nat) :
    SameRegistersBut [] s (s.markBeaconFlight p n st status) := sameRegistersBut_of_regs_eq _ rfl

theorem wake_regs (s : State) (ws : List Waiter) : SameRegistersBut [] s (s.wake ws) := by
  rw [State.wake]
  refine SameRegistersBut.foldl ?_ ws s
  exact fun s w => markBeaconFlight_regs s w.parcel w.seq .run 0

theorem runRelease_regs (s : State) (b : Nat) : SameRegistersBut [] s (s.runRelease b) := wake_regs (s.setBeacon b _) _

theorem withdrawWaits_regs (s : State) (p : Nat) : SameRegistersBut [] s (s.withdrawWaits p) := by
  rw [State.withdrawWaits]
  split
  · exact .refl _ s
  · refine SameRegistersBut.trans ?_ (.foldl (fun s b => runRelease_regs (s.setBeacon b _) b) _ _)
    refine SameRegistersBut.foldl ?_ (s.openWaits p) s
    exact fun s n => markBeaconFlight_regs s p n .gone 0

theorem withdrawWaits_fld (s : State) (p : Nat) (g : Fld) (j : Nat) : (s.withdrawWaits p).fld g j = s.fld g j :=
  (withdrawWaits_regs s p).fld_eq j rfl

/-! ### Discarding what has not started (02 R43) -/

/-- The number of instructions and calls that an immediate stop of parcel p discards. -/
def State.discards (s : State) (p : Nat) : Nat :=
  (s.eng p 0).queue.length + (s.eng p 1).queue.length + (s.eng p 2).queue.length + (s.eng p 3).queue.length +
    (s.eng p 4).queue.length + (s.eng p 5).queue.length + (s.openWaits p).length + s.deadCalls p

theorem foldl_setEng_fld (p : Nat) (x : State → Nat → Engine) (es : List Nat) (s : State) (g : Fld) (j : Nat) :
    (es.foldl (fun s e => s.setEng p e (x s e)) s).fld g j = s.fld g j := by
  induction es generalizing s with
  | nil => rfl
  | cons e es ih => rw [List.foldl_cons, ih, State.setEng_fld]

/-- Once engines of a parcel are rewritten, each without a queue, their queues are empty. -/
theorem foldl_setEng_queue (p : Nat) (x : State → Nat → Engine) (hx : ∀ s e, (x s e).queue = []) (es : List Nat) (s : State) (e : Nat)
    (he : e ∈ es ∨ (s.eng p e).queue = []) : ((es.foldl (fun s e => s.setEng p e (x s e)) s).eng p e).queue = [] := by
  induction es generalizing s with
  | nil => exact he.resolve_left List.not_mem_nil
  | cons i es ih =>
    refine ih _ ?_
    by_cases h : e = i
    · subst h
      exact .inr (by rw [State.setEng_eng_same, hx])
    · rw [State.setEng_eng_ne _ _ _ _ _ _ (by omega)]
      exact he.imp_left fun he => (List.mem_cons.mp he).resolve_left h

theorem satAdd_lt (w a b : Nat) : satAdd w a b < 2 ^ w := by
  have := Nat.two_pow_pos w
  rw [satAdd]
  split <;> omega

/-- A saturating count reads as the saturated sum. -/
theorem count_fld_same (s : State) (f : Fld) (u n : Nat) : (s.count f u n).fld f u = satAdd f.w (s.fld f u) n := by
  rw [State.count_eq, State.setFld_fld_same, Nat.mod_eq_of_lt (satAdd_lt _ _ _)]

theorem discardAll_queue (s : State) (p e : Nat) (he : e < 6) : ((s.discardAll p).eng p e).queue = [] := by
  rw [State.discardAll, State.count_eng]
  exact foldl_setEng_queue p _ (fun _ _ => rfl) _ _ e (.inl (List.mem_range.mpr he))

theorem discardAll_discards (s : State) (p : Nat) :
    (s.discardAll p).fld Reg.PCT_FAULT_DISCARDS p = satAdd 24 (s.fld Reg.PCT_FAULT_DISCARDS p) (s.discards p) := by
  rw [State.discardAll, count_fld_same, foldl_setEng_fld, withdrawWaits_fld]
  have hqueued : ((List.range 6).map fun e => (s.eng p e).queue.length).foldl (· + ·) 0 =
      0 + (s.eng p 0).queue.length + (s.eng p 1).queue.length + (s.eng p 2).queue.length + (s.eng p 3).queue.length +
        (s.eng p 4).queue.length + (s.eng p 5).queue.length := rfl
  rw [hqueued, Nat.zero_add, State.discards]
  rfl

/-! ### Entering STOPPED -/

theorem standing_regs (s : State) (p cause : Nat) :
    SameRegistersBut [(Reg.PCT_TAG_STALLED, p), (Reg.PCT_STALLED, p), (Reg.PCT_STALL_CAUSE, p)] s (s.standing p cause) :=
  setFlds_sameRegistersBut s p _ (by simp)

theorem enterStopped_pstate (s : State) (p : Nat) : (s.enterStopped p).pstate p = stStopped := by
  rw [State.enterStopped, State.pstate, (standing_regs _ p 7).fld_eq p rfl, State.setFld_fld_ne _ _ _ _ _ _ (by decide),
    State.setPstate_eq, State.setFld_fld_same]
  rfl

theorem enterStopped_faultStatus (s : State) (p : Nat) : (s.enterStopped p).fld Reg.PCT_FAULT_STATUS p = s.fld Reg.PCT_FAULT_STATUS p := by
  rw [State.enterStopped, (standing_regs _ p 7).fld_eq p rfl, State.setFld_fld_ne _ _ _ _ _ _ (by decide), State.setPstate_eq,
    State.setFld_fld_ne _ _ _ _ _ _ (by decide), State.setPar_fld]

/-- What the registers of the parcel's block read after a stop: the tract check leaves them. -/
theorem stopWith_fld (s : State) (p code : Nat) {g : Fld} (hg : ((tractCheckRegs 0).map fun x => x.1.idn).contains g.idn = false) :
    (s.stopWith p code true).fld g p =
      (((s.enterStopped p).setFld Reg.PCT_FAULT_STATUS p code).setFld Reg.PCT_EVT_STOPPED p 1).fld g p := by
  rw [State.stopWith, if_pos rfl, ptractCheck_fld _ p p hg, State.raise_fld]

/-- A parcel that stops with a status stands in STOPPED with it, its stop event set. -/
theorem stopWith_stopped (s : State) (p code : Nat) (hcode : code < 2 ^ 8) :
    (s.stopWith p code true).pstate p = stStopped ∧ (s.stopWith p code true).fld Reg.PCT_FAULT_STATUS p = code ∧
      (s.stopWith p code true).bit Reg.PCT_EVT_STOPPED p = true := by
  refine ⟨?state, ?status, ?event⟩
  case state =>
    rw [State.pstate, stopWith_fld s p code rfl, State.setFld_fld_ne _ _ _ _ _ _ (by decide),
      State.setFld_fld_ne _ _ _ _ _ _ (by decide)]
    exact enterStopped_pstate s p
  case status =>
    rw [stopWith_fld s p code rfl, State.setFld_fld_ne _ _ _ _ _ _ (by decide), State.setFld_fld_same]
    exact Nat.mod_eq_of_lt hcode
  case event =>
    rw [State.bit, stopWith_fld s p code rfl, State.setFld_fld_same]
    rfl

/-! ### The commands -/

theorem dropHalt_of_not_halted (s : State) (p : Nat) (h : s.pstate p ≠ stHalted) : s.dropHalt p = s :=
  if_neg fun hh => h hh.1

theorem canIssue_of_not_run (s : State) (p : Nat) (h : s.pstate p ≠ stRun) : s.canIssue p = false := by
  simp [State.canIssue, h]

theorem canIssue_of_stopNow (s : State) (p : Nat) (h : (s.par p).stopNow = true) : s.canIssue p = false := by
  simp [State.canIssue, h]

theorem keepStop_discards (s : State) (p : Nat) : (s.keepStop p).discards p = s.discards p := by
  simp [State.discards, State.openWaits, State.deadCalls, State.keepStop]

/-- An idle parcel is armed and stays idle until its tick. -/
theorem pctStart_of_idle (s : State) (p : Nat) (h : s.pstate p = stIdle) :
    ((s.pctStart p).par p).armed = true ∧ (s.pctStart p).pstate p = stIdle := by
  rw [State.pctStart, if_pos h, State.setPar_par_same]
  exact ⟨rfl, h⟩

theorem pctStart_of_not_idle (s : State) (p : Nat) (h : s.pstate p ≠ stIdle) : s.pctStart p = s := if_neg h

/-- A running parcel drains: it issues nothing more, and its engines keep what they hold. -/
theorem pctStop_of_run (s : State) (p : Nat) (h : s.pstate p = stRun) (hf : (s.par p).faulted = false) :
    (s.pctStop p).pstate p = stDraining ∧ ∀ e, (s.pctStop p).eng p e = s.eng p e := by
  rw [State.pctStop, dropHalt_of_not_halted s p (by rw [h]; decide), if_pos ⟨h, hf⟩]
  refine ⟨?_, fun e => ?_⟩
  · rw [State.pstate, (standing_regs _ p 4).fld_eq p rfl, State.setPstate_eq, State.setFld_fld_same]
    rfl
  · rw [State.standing, State.setFlds_eng, State.setPstate_eng, State.setPar_eng, State.keepStop, State.setPar_eng]

theorem pctStopNow_of_alive (s : State) (p : Nat) (h : s.pstate p = stRun ∨ s.pstate p = stDraining) (hf : (s.par p).faulted = false) :
    ((s.pctStopNow p).par p).stopNow = true ∧ (∀ e, e < 6 → ((s.pctStopNow p).eng p e).queue = []) ∧
      (s.pctStopNow p).fld Reg.PCT_FAULT_DISCARDS p = satAdd 24 (s.fld Reg.PCT_FAULT_DISCARDS p) (s.discards p) := by
  have hd : s.dropHalt p = s := dropHalt_of_not_halted s p (by rcases h with h | h <;> rw [h] <;> decide)
  rw [State.pctStopNow, hd, if_pos ⟨h, hf⟩, State.setPar_par_same, State.setPar_fld, discardAll_discards, keepStop_discards]
  exact ⟨rfl, fun e he => by rw [State.setPar_eng, discardAll_queue _ p e he], rfl⟩

theorem exec_pctStart (p : ParcelId) (s : State) (hd : s.disabled p = false) (hs : s.shut (p / 16) = false) :
    exec (.pctStart p) s = .next (s.pctStart p) := by
  change execPctStart p s = _
  rw [execPctStart, hd, hs]
  rfl

theorem exec_pctStop (p : ParcelId) (s : State) (hd : s.disabled p = false) (hs : s.shut (p / 16) = false) :
    exec (.pctStop p) s = .next (s.pctStop p) := by
  change execPctStop p s = _
  rw [execPctStop, hd, hs]
  rfl

theorem exec_pctStopNow (p : ParcelId) (s : State) (hd : s.disabled p = false) (hs : s.shut (p / 16) = false) :
    exec (.pctStopNow p) s = .next (if s.expertOpen Reg.PCT_STOP_NOW then s.pctStopNow p else s) := by
  change execPctStopNow p s = _
  rw [execPctStopNow, hd, hs]
  cases s.expertOpen Reg.PCT_STOP_NOW <;> rfl

/-! ### Quiescence (02 R40, R43) -/

section
variable (p : ParcelId) (s : State) (hrun : s.planRuns (p / 16) = true)
include hrun

/-- The fault of a quiet parcel stands, and the parcel with it. -/
theorem exec_parcelQuiesced_faulted (h : s.pstate p = stRun ∨ s.pstate p = stDraining) (hf : (s.par p).faulted = true)
    (hq : s.quiet p = true) : exec (.parcelQuiesced p) s = .next ((s.enterStopped p).ptractCheck p) := by
  change execParcelQuiesced p s = _
  rcases h with h | h <;> simp [execParcelQuiesced, hrun, h, hf, hq, done]

theorem exec_parcelQuiesced_stopNow (h : s.pstate p = stRun ∨ s.pstate p = stDraining) (hf : (s.par p).faulted = false)
    (hn : (s.par p).stopNow = true) (hq : s.quiet p = true) :
    exec (.parcelQuiesced p) s = .next ((s.discardAll p).stopWith p 3 true) := by
  change execParcelQuiesced p s = _
  rcases h with h | h <;> simp [execParcelQuiesced, hrun, h, hf, hn, hq, done]

theorem exec_parcelQuiesced_drained (h : s.pstate p = stDraining) (hf : (s.par p).faulted = false) (hn : (s.par p).stopNow = false)
    (hd : s.drainComplete p = true) (hc : s.bit Reg.PCT_COPYING p = false) :
    exec (.parcelQuiesced p) s = .next (s.stopWith p 0 true) := by
  change execParcelQuiesced p s = _
  simp [execParcelQuiesced, hrun, h, hf, hn, hd, hc, done]

end

/-- Settles O24, from one law per command and per branch of PARCEL_QUIESCED; the tract check after a stop writes no parcel register. -/
theorem parcelStartsAndStops : Obligations.ParcelStartsAndStops := by
  intro p s hd hs alive
  refine ⟨?start, ?notIdle, ?stop, ?stopNow, ?closed, ?faulted, ?stopped, ?drained⟩
  case start => exact fun h => ⟨_, exec_pctStart p s hd hs, pctStart_of_idle s p h⟩
  case notIdle => exact fun h => by rw [exec_pctStart p s hd hs, pctStart_of_not_idle s p h]
  case stop =>
    intro h hf
    obtain ⟨hst, heng⟩ := pctStop_of_run s p h hf
    exact ⟨_, exec_pctStop p s hd hs, hst, canIssue_of_not_run _ p (by rw [hst]; decide), heng⟩
  case stopNow =>
    intro h hf he
    obtain ⟨hnow, hqueue, hcount⟩ := pctStopNow_of_alive s p h hf
    exact ⟨_, by rw [exec_pctStopNow p s hd hs, if_pos he], hnow, canIssue_of_stopNow _ p hnow, hqueue, hcount⟩
  case closed =>
    intro he
    rw [exec_pctStopNow p s hd hs, he]
    rfl
  case faulted =>
    intro h hrun hf hq
    refine ⟨_, exec_parcelQuiesced_faulted p s hrun h hf hq, ?_, ?_⟩
    · exact (ptractCheck_fld _ p p rfl).trans (enterStopped_pstate s p)
    · exact (ptractCheck_fld _ p p rfl).trans (enterStopped_faultStatus s p)
  case stopped =>
    exact fun h hrun hf hn hq => ⟨_, exec_parcelQuiesced_stopNow p s hrun h hf hn hq, stopWith_stopped _ p 3 (by decide)⟩
  case drained =>
    exact fun h hf hn hdr hrun hc => ⟨_, exec_parcelQuiesced_drained p s hrun h hf hn hdr hc, stopWith_stopped s p 0 (by decide)⟩

end Sys2Proof.Machine
end

/-!
What starting an instruction of an engine leaves (02 R36, R38, 03 R68, R69): memory, with the free values drawn for it, is all that
the mixture of unsettled bytes, row writes and the flag word change; the launch adds the instruction to those in flight.
-/
section
namespace Sys2Proof.Machine

/-! ### States that differ in memory alone, and in wicks alone -/

/-- t is s but for memory, its check bits and the count of free values drawn. -/
def SameButMemory (s t : State) : Prop := ∃ m u k c, t = { s with mem := m, uncorr := u, correc := k, freeCtr := c }

theorem SameButMemory.refl (s : State) : SameButMemory s s := ⟨_, _, _, _, rfl⟩

theorem SameButMemory.trans {s t u : State} (h : SameButMemory s t) (h' : SameButMemory t u) : SameButMemory s u := by
  obtain ⟨_, _, _, _, rfl⟩ := h
  obtain ⟨_, _, _, _, rfl⟩ := h'
  exact ⟨_, _, _, _, rfl⟩

theorem SameButMemory.ite {s a b : State} (c : Prop) [Decidable c] (ha : SameButMemory s a) (hb : SameButMemory s b) :
    SameButMemory s (if c then a else b) := by
  split
  · exact ha
  · exact hb

theorem SameButMemory.foldl {α : Type} {g : State → α → State} (h : ∀ s x, SameButMemory s (g s x)) (xs : List α) (s : State) :
    SameButMemory s (xs.foldl g s) := by
  induction xs generalizing s with
  | nil => exact .refl s
  | cons x xs ih => exact (h s x).trans (ih _)

theorem SameButMemory.engines_eq {s t : State} (h : SameButMemory s t) : t.engines = s.engines := by
  obtain ⟨_, _, _, _, rfl⟩ := h
  rfl

theorem SameButMemory.sameWicks {s t : State} (h : SameButMemory s t) : SameWicks s t := by
  obtain ⟨_, _, _, _, rfl⟩ := h
  exact ⟨fun _ _ _ => rfl, fun _ _ => rfl, fun _ _ => rfl⟩

theorem SameButMemory.hasPhase_eq {s t : State} (h : SameButMemory s t) (p o : Nat) : t.hasPhase p o = s.hasPhase p o := by
  obtain ⟨_, _, _, _, rfl⟩ := h
  rfl

theorem SameButMemory.residueArmed_eq {s t : State} (h : SameButMemory s t) : t.residueArmed = s.residueArmed := by
  obtain ⟨_, _, _, _, rfl⟩ := h
  rfl

theorem SameButMemory.acting_eq {s t : State} (h : SameButMemory s t) (p : Nat) (q : QEntry) : t.acting p q = s.acting p q := by
  obtain ⟨_, _, _, _, rfl⟩ := h
  rfl

theorem SameButMemory.pred_eq {s t : State} (h : SameButMemory s t) (p w : Nat) : t.pred p w = s.pred p w := h.sameWicks.2.1 p w

theorem SameButMemory.vsrc_eq {s t : State} (h : SameButMemory s t) (p w : Nat) (fp : Bool) (o : Opnd) :
    t.vsrc p w fp o = s.vsrc p w fp o := by
  obtain ⟨_, _, _, _, rfl⟩ := h
  rfl

theorem SameButMemory.shflFrom_eq {s t : State} (h : SameButMemory s t) (p w : Nat) (q : QEntry) :
    t.shflFrom p w q = s.shflFrom p w q := by
  obtain ⟨_, _, _, _, rfl⟩ := h
  rfl

/-- t is s but for wick registers, predicates and index registers. -/
def SameButWicks (s t : State) : Prop := ∃ r b i, t = { s with wregs := r, preds := b, widx := i }

theorem SameButWicks.refl (s : State) : SameButWicks s s := ⟨_, _, _, rfl⟩

theorem SameButWicks.trans {s t u : State} (h : SameButWicks s t) (h' : SameButWicks t u) : SameButWicks s u := by
  obtain ⟨_, _, _, rfl⟩ := h
  obtain ⟨_, _, _, rfl⟩ := h'
  exact ⟨_, _, _, rfl⟩

theorem SameButWicks.foldl {α : Type} {g : State → α → State} (h : ∀ s x, SameButWicks s (g s x)) (xs : List α) (s : State) :
    SameButWicks s (xs.foldl g s) := by
  induction xs generalizing s with
  | nil => exact .refl s
  | cons x xs ih => exact (h s x).trans (ih _)

theorem SameButWicks.engines_eq {s t : State} (h : SameButWicks s t) : t.engines = s.engines := by
  obtain ⟨_, _, _, rfl⟩ := h
  rfl

theorem SameButWicks.rd8_eq {s t : State} (h : SameButWicks s t) (a : Nat) : t.rd8 a = s.rd8 a := by
  obtain ⟨_, _, _, rfl⟩ := h
  rfl

theorem SameButWicks.flagsOk {s t : State} (h : SameButWicks s t) {p n : Nat} (hf : FlagsOk s p n) : FlagsOk t p n := by
  obtain ⟨_, _, _, rfl⟩ := h
  exact hf

theorem writeWicks_sameButWicks (s : State) (p r : Nat) (l : List (Nat × Nat)) : SameButWicks s (s.writeWicks p r l) :=
  .foldl (fun _ _ => ⟨_, _, _, rfl⟩) l s

theorem writePreds_sameButWicks (s : State) (p : Nat) (l : List (Nat × Bool)) : SameButWicks s (s.writePreds p l) :=
  .foldl (fun _ _ => ⟨_, _, _, rfl⟩) l s

/-! ### What changes memory alone -/

theorem mixed_sameButMemory (s : State) (l : List (Nat × Byte)) : SameButMemory s (s.mixed l) := by
  refine SameButMemory.foldl (fun s ab => ?_) l s
  exact .ite _ ⟨_, _, _, _, rfl⟩ ⟨_, _, _, _, rfl⟩

theorem mixed_uncorr (s : State) (l : List (Nat × Byte)) : (s.mixed l).uncorr = s.uncorr := by
  induction l generalizing s with
  | nil => rfl
  | cons ab l ih =>
    refine (ih _).trans ?_
    dsimp only
    split <;> rfl

theorem unmixed_sameButMemory (r s v : State) (l : List (Nat × Byte)) : SameButMemory r (r.unmixed s v l) :=
  .foldl (fun r _ => .ite _ ⟨_, _, _, _, rfl⟩ (.refl r)) l r

theorem wrBytes_sameButMemory (s : State) (a : Nat) (bs : List Byte) : SameButMemory s (s.wrBytes a bs) := ⟨_, _, _, _, rfl⟩

theorem pmWrite_sameButMemory (s : State) (p off : Nat) (bs : List Byte) : SameButMemory s (s.pmWrite p off bs) := by
  have hfirst := wrBytes_sameButMemory s (parcelBase p + off % 0x400000) (bs.take (0x400000 - off % 0x400000))
  exact .ite _ (hfirst.trans (wrBytes_sameButMemory _ _ _)) hfirst

theorem writeRows_sameButMemory (s : State) (p : Nat) (rows : List RowWrite) : SameButMemory s (s.writeRows p rows) :=
  .foldl (fun s _ => pmWrite_sameButMemory s p _ _) rows s

theorem freeRows_sameButMemory (s : State) (p : Nat) (rows : List RowWrite) : SameButMemory s (s.freeRows p rows) := by
  refine SameButMemory.foldl (fun s w => ?_) rows s
  exact SameButMemory.trans ⟨_, _, _, _, rfl⟩ (pmWrite_sameButMemory (s.freeBytes w.2.length).2 p _ _)

theorem freeLines_sameButMemory (s : State) (p : Nat) (lines : List Nat) : SameButMemory s (s.freeLines p lines) :=
  .foldl (fun _ _ => ⟨_, _, _, _, rfl⟩) lines s

theorem freeDense_sameButMemory (s : State) (p base d : Nat) : SameButMemory s (s.freeDense p base d) :=
  freeRows_sameButMemory s p _

theorem orFlagWord_sameButMemory (s : State) (p n flags : Nat) : SameButMemory s (s.orFlagWord p n flags).1 := by
  rw [State.orFlagWord, fst_ite, fst_ite]
  exact .ite _ (.refl s) (.ite _ (.refl s) (wrBytes_sameButMemory s _ _))

theorem commitRows_sameButMemory (s : State) (p n : Nat) (bad : Bool) (rows : List RowWrite) (flags : Nat) (time : Option (Nat × Nat)) :
    SameButMemory s (s.commitRows p n bad rows flags time).st := by
  rw [State.commitRows]
  split
  · exact .refl s
  · dsimp only
    split
    · exact freeLines_sameButMemory s p _
    · split
      · exact freeLines_sameButMemory s p _
      · exact (writeRows_sameButMemory s p rows).trans (orFlagWord_sameButMemory _ p n flags)

/-! ### Writing on sound memory -/

theorem wrBytes_uncorr_nil {s : State} (h : s.uncorr = []) (a : Nat) (bs : List Byte) : (s.wrBytes a bs).uncorr = [] := by
  have herase : ∀ ws : List Nat, ws.foldl (fun t w => tabErase t w) ([] : Tab Bool) = [] := by
    intro ws
    induction ws with
    | nil => rfl
    | cons w ws ih => exact ih
  rw [State.wrBytes, h]
  exact herase _

theorem pmWrite_uncorr_nil {s : State} (h : s.uncorr = []) (p off : Nat) (bs : List Byte) : (s.pmWrite p off bs).uncorr = [] := by
  rw [State.pmWrite]
  split
  · exact wrBytes_uncorr_nil (wrBytes_uncorr_nil h _ _) _ _
  · exact wrBytes_uncorr_nil h _ _

theorem writeRows_uncorr_nil {s : State} (h : s.uncorr = []) (p : Nat) (rows : List RowWrite) : (s.writeRows p rows).uncorr = [] := by
  induction rows generalizing s with
  | nil => exact h
  | cons w rows ih => exact ih (pmWrite_uncorr_nil h p _ _)

/-- A flag word that reads without an uncorrectable error takes the flags. -/
theorem orFlagWord_snd_of_readable {s : State} {p n : Nat} (flags : Nat)
    (h : n = 0 ∨ tabGet false s.uncorr (pmAddr p (0x3FFFC0 + 8 * n) / 8) = false) : (s.orFlagWord p n flags).2 = false := by
  rw [State.orFlagWord, snd_ite, snd_ite]
  rcases h with h | h
  · rw [if_pos h]
  · rw [h, if_neg Bool.false_ne_true, ite_self]

/-- On sound memory an instruction that has its phase writes its rows and ORs its flags. -/
theorem commitRows_of_sound {s : State} (hs : s.uncorr = []) (p n : Nat) (rows : List RowWrite) (flags : Nat) {time : Option (Nat × Nat)}
    (ht : time ≠ none) : ∃ met, s.commitRows p n false rows flags time =
      { st := ((s.writeRows p rows).orFlagWord p n flags).1, time := time, met := met } := by
  have hrows : s.rowsPartialBad p rows = false := by rw [State.rowsPartialBad, hs]; rfl
  have hflag : ((s.writeRows p rows).orFlagWord p n flags).2 = false :=
    orFlagWord_snd_of_readable flags (.inr (by rw [writeRows_uncorr_nil hs]; rfl))
  refine ⟨s.corrParts (rows.map fun w => (pmAddr p w.1, w.2.length)), ?_⟩
  rw [State.commitRows, if_neg ht]
  dsimp only
  rw [hrows, hflag]
  rfl

theorem commitRows_time (s : State) (p n : Nat) (bad : Bool) (rows : List RowWrite) (flags : Nat) (time : Option (Nat × Nat)) :
    (s.commitRows p n bad rows flags time).time = time := by
  rw [State.commitRows]
  split
  · next h => exact h.symm
  · dsimp only
    split
    · rfl
    · split <;> rfl

/-! ### The memory term -/

/-- An owner that the wheel gives a phase waits a finite time for its accesses (02 R424). -/
theorem memTerm_ne_none {s : State} {p owner : Nat} (h : s.hasPhase p owner = true) (rate : Nat) (lines : List Nat) :
    s.memTerm p owner rate lines ≠ none := by
  have hds : ownedPhases (s.wheel p) owner ≠ [] := by
    intro hd
    rw [State.hasPhase, hd] at h
    exact absurd h (by decide)
  rw [State.memTerm]
  split
  · exact Option.some_ne_none _
  · rw [phaseEnd, if_neg hds]
    split <;> exact Option.some_ne_none _

/-! ### The launch -/

theorem foldl_pmemServe_eq (n : Nat → Nat) (ps : List Nat) (s : State) :
    ∃ l, ps.foldl (fun s o => s.pmemServe o (n o)) s = { s with pmemLoad := l } := by
  induction ps generalizing s with
  | nil => exact ⟨_, rfl⟩
  | cons o ps ih =>
    have hserve : ∃ l, s.pmemServe o (n o) = { s with pmemLoad := l } := by
      rw [State.pmemServe]
      split <;> exact ⟨_, rfl⟩
    obtain ⟨_, h⟩ := hserve
    obtain ⟨_, h'⟩ := ih (s.pmemServe o (n o))
    exact ⟨_, by rw [List.foldl_cons, h', h]⟩

/-- A launch changes the loads of parcel memories, the engine and the parcel's busy count alone. -/
theorem launch_eq (s : State) (p e : Nat) (f : Flight) : ∃ l x, s.launch p e f =
    { s.setEng p e { s.eng p e with queue := (s.eng p e).queue.tail, flight := (s.eng p e).flight ++ [f] } with
      pmemLoad := l, parcels := x } := by
  obtain ⟨l, h⟩ := foldl_pmemServe_eq (fun o => (f.served p e).countP (· == o)) (sortDedup (f.served p e)) s
  rw [State.launch]
  dsimp only
  rw [h]
  split <;> exact ⟨_, _, rfl⟩

theorem launch_eng (s : State) (p e : Nat) (f : Flight) : (s.launch p e f).eng p e =
    { s.eng p e with queue := (s.eng p e).queue.tail, flight := (s.eng p e).flight ++ [f] } := by
  obtain ⟨_, _, h⟩ := launch_eq s p e f
  rw [h]
  exact State.setEng_eng_same s p e _

theorem launch_sameWicks (s : State) (p e : Nat) (f : Flight) : SameWicks s (s.launch p e f) := by
  obtain ⟨_, _, h⟩ := launch_eq s p e f
  rw [h]
  exact ⟨fun _ _ _ => rfl, fun _ _ => rfl, fun _ _ => rfl⟩

theorem launch_residueArmed (s : State) (p e : Nat) (f : Flight) : (s.launch p e f).residueArmed = s.residueArmed := by
  obtain ⟨_, _, h⟩ := launch_eq s p e f
  rw [h]
  rfl

/-! ### The start -/

theorem SameWicks.trans {s t u : State} (h : SameWicks s t) (h' : SameWicks t u) : SameWicks s u := by
  obtain ⟨hr, hp, hi⟩ := h
  obtain ⟨hr', hp', hi'⟩ := h'
  exact ⟨fun p w r => (hr' p w r).trans (hr p w r), fun p w => (hp' p w).trans (hp p w), fun p w => (hi' p w).trans (hi p w)⟩

theorem Effect.flight_status (f : Effect) (q : QEntry) : (f.flight q).status = f.status := by
  rw [Effect.flight]
  split <;> rfl

theorem Effect.flight_entry (f : Effect) (q : QEntry) : (f.flight q).entry = q := by
  rw [Effect.flight]
  split <;> rfl

section
variable {s : State} {p e op : Nat} {locs : State → QEntry → Locs} {q : QEntry} (hr : Ready s p e op (locs s q) q)
  (eff : State → QEntry → Effect)
include hr

/-- An instruction that may start runs its effect on the mixture, and is launched. -/
theorem startEngine_of_ready : ∃ f : Flight, f.entry = q ∧ f.status = (eff (s.mixed (s.unsettled p e)) q).status ∧
    s.startEngine p e op locs eff =
      ((eff (s.mixed (s.unsettled p e)) q).st.unmixed s (s.mixed (s.unsettled p e)) (s.unsettled p e)).launch p e f := by
  obtain ⟨hhead, hdep⟩ := hr
  rw [State.startEngine, hhead]
  dsimp only
  rw [hdep, if_neg Bool.false_ne_true]
  refine ⟨_, ?entry, ?status, rfl⟩
  case entry => exact Effect.flight_entry _ q
  case status => exact Effect.flight_status _ q

/-- The instruction stands last among those in flight, with the status of its effect. -/
theorem startEngine_flight (he : (eff (s.mixed (s.unsettled p e)) q).st.engines = s.engines) :
    ((s.startEngine p e op locs eff).eng p e).queue = (s.eng p e).queue.tail ∧
      ∃ f, f.entry = q ∧ f.status = (eff (s.mixed (s.unsettled p e)) q).status ∧
        ((s.startEngine p e op locs eff).eng p e).flight = (s.eng p e).flight ++ [f] := by
  obtain ⟨f, hentry, hstatus, h⟩ := startEngine_of_ready hr eff
  have heng : ((eff (s.mixed (s.unsettled p e)) q).st.unmixed s (s.mixed (s.unsettled p e)) (s.unsettled p e)).eng p e = s.eng p e := by
    rw [State.eng, State.eng, (unmixed_sameButMemory _ _ _ _).engines_eq, he]
  rw [h, launch_eng, heng]
  exact ⟨rfl, f, hentry, hstatus, rfl⟩

theorem startEngine_started (he : (eff (s.mixed (s.unsettled p e)) q).st.engines = s.engines) :
    Started s p e q (s.startEngine p e op locs eff) := by
  obtain ⟨hqueue, f, hentry, _, hflight⟩ := startEngine_flight hr eff he
  exact ⟨hqueue, f, hentry, hflight⟩

theorem startEngine_sameWicks : SameWicks (eff (s.mixed (s.unsettled p e)) q).st (s.startEngine p e op locs eff) := by
  obtain ⟨f, _, _, h⟩ := startEngine_of_ready hr eff
  rw [h]
  exact (unmixed_sameButMemory _ _ _ _).sameWicks.trans (launch_sameWicks _ _ _ f)

theorem startEngine_residueArmed :
    (s.startEngine p e op locs eff).residueArmed = (eff (s.mixed (s.unsettled p e)) q).st.residueArmed := by
  obtain ⟨f, _, _, h⟩ := startEngine_of_ready hr eff
  rw [h, launch_residueArmed, (unmixed_sameButMemory _ _ _ _).residueArmed_eq]

/-- Where no other engine is writing, memory is as the effect leaves it. -/
theorem startEngine_sameMemory (hs : s.unsettled p e = []) : SameMemory (eff s q).st (s.startEngine p e op locs eff) := by
  obtain ⟨f, _, _, h⟩ := startEngine_of_ready hr eff
  rw [hs] at h
  intro a
  rw [h, State.rd8, State.launch_mem]
  rfl

end

end Sys2Proof.Machine
end

/-!
Tensor instructions (03 R71 to R76): the rows that each leaves in memory, and the residue failure that a drill arms (13 R341).
-/
section
namespace Sys2Proof.Machine

/-! ### Effects change memory alone -/

theorem tmulEffect_sameButMemory (p : Nat) (s : State) (q : QEntry) : SameButMemory s (tmulEffect p s q).st := by
  unfold tmulEffect
  dsimp only
  split
  · exact freeDense_sameButMemory s p _ _
  · exact commitRows_sameButMemory s p _ _ _ _ _

theorem tlsaddEffect_sameButMemory (p : Nat) (s : State) (q : QEntry) : SameButMemory s (tlsaddEffect p s q).st := by
  unfold tlsaddEffect
  dsimp only
  split
  · exact freeDense_sameButMemory s p _ _
  · exact commitRows_sameButMemory s p _ _ _ _ _

theorem tlscvtEffect_sameButMemory (p : Nat) (s : State) (q : QEntry) : SameButMemory s (tlscvtEffect p s q).st := by
  unfold tlscvtEffect
  dsimp only
  split
  · split
    · exact freeDense_sameButMemory s p _ _
    · exact commitRows_sameButMemory s p _ _ _ _ _
  · exact freeDense_sameButMemory s p _ _

theorem tlssetEffect_sameButMemory (p : Nat) (s : State) (q : QEntry) : SameButMemory s (tlssetEffect p s q).st := by
  unfold tlssetEffect
  dsimp only
  split
  · exact freeDense_sameButMemory s p _ _
  · exact commitRows_sameButMemory s p _ _ _ _ _

/-! ### The residue check -/

theorem residueCheck_of_unarmed {s : State} {p : Nat} (h : tabGet false s.residueArmed p = false) (q : QEntry) (f : Effect) :
    s.residueCheck p q f = f := by
  rw [State.residueCheck, h]
  rfl

theorem residueCheck_of_armed {s : State} {p : Nat} (h : tabGet false s.residueArmed p = true) (q : QEntry) {f : Effect}
    (ht : f.time ≠ none) : (s.residueCheck p q f).status = 0x41 ∧ tabGet false (s.residueCheck p q f).st.residueArmed p = false := by
  rw [State.residueCheck, if_pos (by rw [h, Option.isSome_iff_ne_none.mpr ht, Bool.and_self])]
  dsimp only
  rw [(freeLines_sameButMemory _ p _).residueArmed_eq]
  exact ⟨rfl, tabGet_tabPut_same false s.residueArmed p false⟩

theorem residueCheck_engines (s : State) (p : Nat) (q : QEntry) {f : Effect} (hf : f.st.engines = s.engines) :
    (s.residueCheck p q f).st.engines = s.engines := by
  rw [State.residueCheck]
  split
  · exact (freeLines_sameButMemory _ p _).engines_eq
  · exact hf

/-! ### Times -/

theorem tmulTime_ne_none (c : Nat) {m : Option Nat} (h : m ≠ none) : tmulTime c m ≠ none := by
  rw [tmulTime, ne_eq, Option.map_eq_none_iff]
  exact h

theorem tlsTime_ne_none {m : Option Nat} (h : m ≠ none) : tlsTime m ≠ none := by
  rw [tlsTime, ne_eq, Option.map_eq_none_iff]
  exact h

theorem tmulEffect_time {s : State} {p : Nat} (h : s.hasPhase p 0 = true) (q : QEntry) : (tmulEffect p s q).time ≠ none := by
  unfold tmulEffect
  dsimp only
  split
  · exact Option.some_ne_none _
  · rw [Effect.meeting, commitRows_time]
    exact tmulTime_ne_none _ (memTerm_ne_none h _ _)

theorem tlsaddEffect_time {s : State} {p : Nat} (h : s.hasPhase p 0 = true) (q : QEntry) : (tlsaddEffect p s q).time ≠ none := by
  unfold tlsaddEffect
  dsimp only
  split
  · exact Option.some_ne_none _
  · rw [Effect.meeting, commitRows_time]
    exact tlsTime_ne_none (memTerm_ne_none h _ _)

/-! ### Rows -/

theorem anyLineBad_of_sound {s : State} (hs : s.uncorr = []) (p : Nat) (lines : List Nat) : s.anyLineBad p lines = false := by
  rw [State.anyLineBad, hs]
  rfl

theorem commitRows_rowsWritten {s : State} (hs : s.uncorr = []) (p : Nat) (q : QEntry) (rows : List RowWrite) (flags : Nat)
    {time : Option (Nat × Nat)} (ht : time ≠ none) :
    RowsWritten s p q rows flags (s.commitRows p (wFlagSel q.w) false rows flags time).st := by
  obtain ⟨_, h⟩ := commitRows_of_sound hs p (wFlagSel q.w) rows flags ht
  intro a
  rw [h]

theorem zipIdx_map_range {α β : Type} (n : Nat) (f : Nat → α) (g : α × Nat → β) :
    (((List.range n).map f).zipIdx).map g = (List.range n).map fun i => g (f i, i) := by
  apply List.ext_getElem <;> simp

/-- The grid word's row, of a tensor of long sums (03 R74). -/
def gridRows (base d : Nat) (g : Int) : List RowWrite :=
  if dFmt d = 14 then [(base + dScaleOff d, leBytes 8 (gridWord g))] else []

/-- The grid of a TMUL pass (05 R122, 03 R74). -/
def State.tmulGrid (s : State) (p : Nat) (q : QEntry) : Int :=
  let auto := s.autoGrid p (q.op 1).base (q.op 1).bits (tmulRows ((q.op 3).num 7)) (q.op 2).base (q.op 2).bits
  ((q.op 4).grid).getD (if bitAt (wMod q.w) 0 then min (s.gridAt p (q.op 0).base (q.op 0).bits) auto else auto)

/-- Where row i of TMUL's destination lies. -/
def tmulRowAt (q : QEntry) (i : Nat) : Nat := addrAdd (q.op 0).base ((i : Int) * dStr1 (q.op 0).bits)

/-- Element (i, j) of a TMUL pass: its bytes and its flags (03 R73). -/
def State.tmulElementAt (s : State) (p : Nat) (q : QEntry) (i j : Nat) : List Byte × Nat :=
  let d := (q.op 0).bits
  tmulElem (s.tmulGrid p q) (dFmt d)
    (if bitAt (wMod q.w) 0 then
      some (regrid (s.lsAt p (tmulRowAt q i + fmtBits (dFmt d) / 8 * j)) (s.gridAt p (q.op 0).base d) (s.tmulGrid p q))
    else none)
    (tmulTerms (s.actRow p (q.op 1).base (q.op 1).bits i) (s.weightCol p (q.op 2).base (q.op 2).bits j))

/-- One element of TLSADD: the bytes of the exact sum of the long sums at x and y, and its flags (03 R74). -/
def State.tlsaddElementAt (s : State) (p : Nat) (q : QEntry) (g : Int) (x y : Nat) : List Byte × Nat :=
  let u := regrid (s.lsAt p x) (s.gridAt p (q.op 1).base (q.op 1).bits) g
  let v := regrid (s.lsAt p y) (s.gridAt p (q.op 2).base (q.op 2).bits) g
  let z := ((({} : LsAcc).addInt u.1).addInt v.1).finish
  (lsBytes z.1.toLong.1, orFlags z.2 (flagIf (u.2 || v.2) flagLsSat))

section
variable {s : State} {p : Nat} {q : QEntry} (hs : s.uncorr = []) (hp : s.hasPhase p 0 = true) (hd : (q.op 0).broken = false)
include hs hp hd

theorem tmulEffect_rowsWritten (ha : (q.op 1).broken = false) (hw : (q.op 2).broken = false)
    (hb : State.tmulBroken (q.op 0) (q.op 1) (q.op 2) q = false) :
    RowsWritten s p q
      (((List.range (tmulRows ((q.op 3).num 7))).map fun i =>
        (tmulRowAt q i, (List.range (dExt (q.op 2).bits 1)).flatMap fun j => (s.tmulElementAt p q i j).1)) ++
          gridRows (q.op 0).base (q.op 0).bits (s.tmulGrid p q))
      (unionFlags ((List.range (tmulRows ((q.op 3).num 7))).map fun i =>
        unionFlags ((List.range (dExt (q.op 2).bits 1)).map fun j => (s.tmulElementAt p q i j).2)))
      (tmulEffect p s q).st := by
  unfold tmulEffect
  dsimp only
  rw [hb, hd, ha, hw, if_neg (by decide), anyLineBad_of_sound hs]
  simp only [zipIdx_map_range, List.map_map, Function.comp_def, List.flatMap_map, State.tmulElementAt, State.tmulGrid]
  cases (q.op 4).grid <;> exact commitRows_rowsWritten hs p q _ _ (tmulTime_ne_none _ (memTerm_ne_none hp _ _))

theorem tlsaddEffect_rowsWritten (ha : (q.op 1).broken = false) (hb : (q.op 2).broken = false)
    (hdf : dFmt (q.op 0).bits = 14) (haf : dFmt (q.op 1).bits = 14) (hbf : dFmt (q.op 2).bits = 14)
    (hdm : dForm (q.op 0).bits = 0) (ham : dForm (q.op 1).bits = 0) (hbm : dForm (q.op 2).bits = 0)
    (hda : sameExtents (q.op 0).bits (q.op 1).bits = true) (hdb : sameExtents (q.op 0).bits (q.op 2).bits = true) :
    let g := ((q.op 4).grid).getD (min (s.gridAt p (q.op 1).base (q.op 1).bits) (s.gridAt p (q.op 2).base (q.op 2).bits))
    let sums := ((dElems (q.op 0).base (q.op 0).bits 20).zip
      ((dElems (q.op 1).base (q.op 1).bits 20).zip (dElems (q.op 2).base (q.op 2).bits 20))).map
        fun e => (e.1, s.tlsaddElementAt p q g e.2.1 e.2.2)
    RowsWritten s p q ((sums.map fun e => (e.1, e.2.1)) ++ gridRows (q.op 0).base (q.op 0).bits g) (unionFlags (sums.map (·.2.2)))
      (tlsaddEffect p s q).st := by
  unfold tlsaddEffect
  simp only [hdf, haf, hbf, hdm, ham, hbm, hda, hdb, hd, ha, hb, anyLineBad_of_sound hs, gridRows, List.map_map, Function.comp_def,
    bne_self_eq_false, Bool.not_true, Bool.or_self, Bool.false_eq_true, if_false, if_true]
  exact commitRows_rowsWritten hs p q _ _ (tlsTime_ne_none (memTerm_ne_none hp _ _))

theorem tlscvtEffect_rowsWritten (ha : (q.op 1).broken = false) {f : FloatFmt} (hf : floatFmt? (dFmt (q.op 0).bits) = some f)
    (hdf : dFmt (q.op 0).bits ≤ 3) (haf : dFmt (q.op 1).bits = 14) (hdm : dForm (q.op 0).bits = 0) (ham : dForm (q.op 1).bits = 0)
    (hda : sameExtents (q.op 0).bits (q.op 1).bits = true) :
    let size := fmtBits (dFmt (q.op 0).bits) / 8
    let results := (((dElems (q.op 0).base (q.op 0).bits size).zip (dElems (q.op 1).base (q.op 1).bits 20)).zipIdx).map fun e =>
      (e.1.1, lsConvert f (roundingOf q (bitsOf (wMod q.w) 0 2) e.2) (s.lsAt p e.1.2) (s.gridAt p (q.op 1).base (q.op 1).bits))
    RowsWritten s p q (results.map fun e => (e.1, leBytes size e.2.val)) (unionFlags (results.map (·.2.flags)))
      (tlscvtEffect p s q).st := by
  have h3 : decide (3 < dFmt (q.op 0).bits) = false := decide_eq_false (by omega)
  unfold tlscvtEffect
  simp only [hf, h3, haf, hdm, ham, hda, hd, ha, anyLineBad_of_sound hs, List.map_map, Function.comp_def,
    bne_self_eq_false, Bool.not_true, Bool.or_self, Bool.false_eq_true, if_false]
  exact commitRows_rowsWritten hs p q _ _ (tlsTime_ne_none (memTerm_ne_none hp _ _))

theorem tlssetEffect_rowsWritten (hdf : dFmt (q.op 0).bits = 14) (hdm : dForm (q.op 0).bits = 0) :
    RowsWritten s p q (((dElems (q.op 0).base (q.op 0).bits 20).map fun o => (o, List.replicate 20 0)) ++
      gridRows (q.op 0).base (q.op 0).bits (gridOf ((q.op 4).num 16))) 0 (tlssetEffect p s q).st := by
  have hzero : lsBytes 0 = List.replicate 20 0 := by decide
  unfold tlssetEffect
  simp only [hdf, hdm, hd, hzero, gridRows, bne_self_eq_false, Bool.or_self, Bool.false_eq_true, if_false, if_true]
  exact commitRows_rowsWritten hs p q _ _ (tlsTime_ne_none (memTerm_ne_none hp _ _))

end

/-! ### The commands -/

theorem exec_tensor {p : ParcelId} {c : Instr} {op : Nat}
    (h : (c, op) ∈ [(.tmul p, 0x10), (.tlsadd p, 0x11), (.tlscvt p, 0x12), (.tlsset p, 0x13)]) :
    ∃ eff : State → QEntry → Effect, (∀ v q, (eff v q).st.engines = v.engines) ∧
      ∀ s, exec c s = done (s.startEngine p 0 op (tensorLocs p) eff) := by
  simp only [List.mem_cons, Prod.mk.injEq, List.not_mem_nil, or_false] at h
  rcases h with ⟨rfl, rfl⟩ | ⟨rfl, rfl⟩ | ⟨rfl, rfl⟩ | ⟨rfl, rfl⟩
  · exact ⟨_, fun v q => residueCheck_engines v p q (tmulEffect_sameButMemory p v q).engines_eq, fun _ => rfl⟩
  · exact ⟨_, fun v q => residueCheck_engines v p q (tlsaddEffect_sameButMemory p v q).engines_eq, fun _ => rfl⟩
  · exact ⟨_, fun v q => (tlscvtEffect_sameButMemory p v q).engines_eq, fun _ => rfl⟩
  · exact ⟨_, fun v q => (tlssetEffect_sameButMemory p v q).engines_eq, fun _ => rfl⟩

theorem exec_tensor_checked {p : ParcelId} {c : Instr} {op : Nat} (h : (c, op) ∈ [(.tmul p, 0x10), (.tlsadd p, 0x11)]) :
    ∃ eff : State → QEntry → Effect, (∀ v q, (eff v q).st.engines = v.engines) ∧
      (∀ v q, v.hasPhase p 0 = true → (eff v q).time ≠ none) ∧
      ∀ s, exec c s = done (s.startEngine p 0 op (tensorLocs p) fun s q => s.residueCheck p q (eff s q)) := by
  simp only [List.mem_cons, Prod.mk.injEq, List.not_mem_nil, or_false] at h
  rcases h with ⟨rfl, rfl⟩ | ⟨rfl, rfl⟩
  · exact ⟨tmulEffect p, fun v q => (tmulEffect_sameButMemory p v q).engines_eq, fun _ q hv => tmulEffect_time hv q, fun _ => rfl⟩
  · exact ⟨tlsaddEffect p, fun v q => (tlsaddEffect_sameButMemory p v q).engines_eq, fun _ q hv => tlsaddEffect_time hv q, fun _ => rfl⟩

section
variable {p : ParcelId} {s : State} {q : QEntry} {c : Instr} {op : Nat} {eff : State → QEntry → Effect}
  (hc : exec c s = done (s.startEngine p 0 op (tensorLocs p) eff)) (hr : TensorReady s p op q)
include hc hr

theorem tensor_starts (he : ∀ v, (eff v q).st.engines = v.engines) : Completes c s (Started s p 0 q) := by
  refine ⟨_, hc, startEngine_started hr eff ?_⟩
  rw [he, (mixed_sameButMemory s _).engines_eq]

/-- An effect that writes rows on settled memory leaves them written. -/
theorem tensor_writes (hu : s.unsettled p 0 = []) {rows : List RowWrite} {flags : Nat} (he : (eff s q).st.engines = s.engines)
    (hw : RowsWritten s p q rows flags (eff s q).st) :
    Completes c s fun t => Started s p 0 q t ∧ RowsWritten s p q rows flags t := by
  refine ⟨_, hc, startEngine_started hr eff ?_, fun a => ?_⟩
  · rw [hu]
    exact he
  · rw [startEngine_sameMemory hr eff hu a, hw a]

end

/-- Settles O16: each effect writes the rows of its table on settled memory, and a start leaves what its effect wrote. -/
theorem tensorInstructionsTakeEffect : Obligations.TensorInstructionsTakeEffect := by
  refine ⟨fun p s q => ⟨?starts, ?tmul, ?tlsadd, ?tlscvt, ?tlsset⟩, ?residue⟩
  case starts =>
    intro c op hmem hr
    obtain ⟨eff, he, hc⟩ := exec_tensor hmem
    exact tensor_starts (hc s) hr fun v => he v q
  case tmul =>
    rintro hr ⟨⟨⟨hs, hu⟩, hp⟩, harm⟩ ⟨hd, ha, hb⟩ hbroken
    refine tensor_writes rfl hr hu ?_ ?_
    · exact residueCheck_engines s p q (tmulEffect_sameButMemory p s q).engines_eq
    · rw [residueCheck_of_unarmed harm]
      exact tmulEffect_rowsWritten hs hp hd ha hb hbroken
  case tlsadd =>
    rintro hr ⟨⟨⟨hs, hu⟩, hp⟩, harm⟩ ⟨hd, ha, hb⟩ hdf haf hbf hdm ham hbm hda hdb
    refine tensor_writes rfl hr hu ?_ ?_
    · exact residueCheck_engines s p q (tlsaddEffect_sameButMemory p s q).engines_eq
    · rw [residueCheck_of_unarmed harm]
      exact tlsaddEffect_rowsWritten hs hp hd ha hb hdf haf hbf hdm ham hbm hda hdb
  case tlscvt =>
    rintro f hr ⟨⟨hs, hu⟩, hp⟩ hd ha hf hdf haf hdm ham hda
    exact tensor_writes rfl hr hu (tlscvtEffect_sameButMemory p s q).engines_eq
      (tlscvtEffect_rowsWritten hs hp hd ha hf hdf haf hdm ham hda)
  case tlsset =>
    rintro hr ⟨⟨hs, hu⟩, hp⟩ hd hdf hdm
    exact tensor_writes rfl hr hu (tlssetEffect_sameButMemory p s q).engines_eq (tlssetEffect_rowsWritten hs hp hd hdf hdm)
  case residue =>
    intro p s q c op hmem harm hr hp
    obtain ⟨eff, he, ht, hc⟩ := exec_tensor_checked hmem
    have hv := mixed_sameButMemory s (s.unsettled p 0)
    obtain ⟨hstatus, hspent⟩ := residueCheck_of_armed (by rw [hv.residueArmed_eq]; exact harm) q
      (ht _ q (by rw [hv.hasPhase_eq]; exact hp))
    obtain ⟨_, f, hentry, hf, hflight⟩ := startEngine_flight hr (fun s q => s.residueCheck p q (eff s q))
      ((residueCheck_engines _ p q (he _ q)).trans hv.engines_eq)
    refine ⟨_, hc s, ⟨f, hentry, hf.trans hstatus, hflight⟩, ?_⟩
    rw [startEngine_residueArmed hr]
    exact hspent

end Sys2Proof.Machine
end

/-!
Vector instructions that compare, select, convert, load index registers, and exchange or reduce across wicks (03 R78, R80 to R82):
what each wick holds once they have started.
-/
section
namespace Sys2Proof.Machine

/-! ### Reading after a list of writes -/

section
variable {β γ : Type} {g : State → Nat × β → State} {rd : State → Nat → γ} (hne : ∀ s x w, w ≠ x.1 → rd (g s x) w = rd s w)
include hne

theorem foldl_read_of_notMem (l : List (Nat × β)) (s : State) {w : Nat} (hw : w ∉ l.map Prod.fst) : rd (l.foldl g s) w = rd s w := by
  induction l generalizing s with
  | nil => rfl
  | cons x l ih =>
    obtain ⟨hx, hl⟩ := not_or.mp (mt List.mem_cons.mpr hw)
    exact (ih _ hl).trans (hne s x w hx)

/-- Of writes to different places each stands. -/
theorem foldl_read_of_mem {val : β → γ} (hsame : ∀ s w b, rd (g s (w, b)) w = val b) {l : List (Nat × β)} (hl : (l.map Prod.fst).Nodup)
    (s : State) {w : Nat} {b : β} (hx : (w, b) ∈ l) : rd (l.foldl g s) w = val b := by
  induction l generalizing s with
  | nil => exact absurd hx List.not_mem_nil
  | cons y l ih =>
    obtain ⟨hy, hl⟩ := List.nodup_cons.mp hl
    rcases List.mem_cons.mp hx with rfl | hx
    · exact (foldl_read_of_notMem hne l _ hy).trans (hsame s w b)
    · exact ih hl _ hx

end

theorem writeWicks_wreg (s : State) (p r : Nat) {l : List (Nat × Nat)} (hl : (l.map Prod.fst).Nodup) {w v : Nat} (hx : (w, v) ∈ l) :
    (s.writeWicks p r l).wreg p w r = v % 2 ^ 32 :=
  foldl_read_of_mem (g := fun s wv => s.setWreg p wv.1 r wv.2) (rd := fun s w => s.wreg p w r) (val := fun v => v % 2 ^ 32)
    (fun s x w h => s.setWreg_wreg_ne p x.1 r x.2 p w r (by omega))
    (fun s w v => s.setWreg_wreg_same p w r v) hl s hx

/-- Writing the register after r leaves r, of every wick. -/
theorem writeWicks_succ_wreg (s : State) (p r w : Nat) (l : List (Nat × Nat)) : (s.writeWicks p (r + 1) l).wreg p w r = s.wreg p w r := by
  rw [State.writeWicks]
  induction l generalizing s with
  | nil => rfl
  | cons x l ih => exact (ih _).trans (s.setWreg_wreg_ne _ _ _ _ _ _ _ (by omega))

theorem setPred_pred_same (s : State) (p w : Nat) (b : Bool) : (s.setPred p w b).pred p w = b := tabGet_tabPut_same _ _ _ _

theorem setPred_pred_ne (s : State) (p w x : Nat) (b : Bool) (h : w ≠ x) : (s.setPred p x b).pred p w = s.pred p w :=
  tabGet_tabPut_ne _ _ _ _ _ _ (by omega)

theorem writePreds_pred (s : State) (p : Nat) {l : List (Nat × Bool)} (hl : (l.map Prod.fst).Nodup) {w : Nat} {b : Bool}
    (hx : (w, b) ∈ l) : (s.writePreds p l).pred p w = b :=
  foldl_read_of_mem (g := fun s wb => s.setPred p wb.1 wb.2) (rd := fun s w => s.pred p w) (val := id)
    (fun s x w h => setPred_pred_ne s p w x.1 x.2 h)
    (fun s w b => setPred_pred_same s p w b) hl s hx

/-- Index registers written wick by wick. -/
def State.writeWidx (s : State) (p : Nat) (l : List (Nat × Nat)) : State := l.foldl (fun s wv => s.setWidx p wv.1 wv.2) s

theorem writeWidx_sameButWicks (s : State) (p : Nat) (l : List (Nat × Nat)) : SameButWicks s (s.writeWidx p l) :=
  .foldl (fun _ _ => ⟨_, _, _, rfl⟩) l s

theorem setWidx_widx_same (s : State) (p w v : Nat) : (s.setWidx p w v).widx' p w = v % 2 ^ 32 := by
  rw [State.widx', State.setWidx, tabGet_tabPut_same, BitVec.toNat_ofNat]

theorem setWidx_widx_ne (s : State) (p w x v : Nat) (h : w ≠ x) : (s.setWidx p x v).widx' p w = s.widx' p w :=
  congrArg BitVec.toNat (tabGet_tabPut_ne _ _ _ _ _ _ (by omega))

theorem writeWidx_widx (s : State) (p : Nat) {l : List (Nat × Nat)} (hl : (l.map Prod.fst).Nodup) {w v : Nat} (hx : (w, v) ∈ l) :
    (s.writeWidx p l).widx' p w = v % 2 ^ 32 :=
  foldl_read_of_mem (g := fun s wv => s.setWidx p wv.1 wv.2) (rd := fun s w => s.widx' p w) (val := fun v => v % 2 ^ 32)
    (fun s x w h => setWidx_widx_ne s p w x.1 x.2 h)
    (fun s w v => setWidx_widx_same s p w v) hl s hx

/-! ### The wicks of an instruction -/

theorem rangeOf_nodup (q : QEntry) : (rangeOf q).Nodup :=
  List.pairwise_map.mpr (List.nodup_range.imp fun hne h => hne (Nat.add_left_cancel h))

theorem acting_nodup (s : State) (p : Nat) (q : QEntry) : (s.acting p q).Nodup := by
  rw [State.acting]
  split
  · exact (rangeOf_nodup q).filter _
  · exact rangeOf_nodup q

theorem map_pair_fst {β : Type} (ws : List Nat) (f : Nat → β) : (ws.map fun w => (w, f w)).map Prod.fst = ws := by
  rw [List.map_map]
  exact List.map_id ws

/-! ### Starting a vector instruction whose flag word can be updated -/

theorem orLast_st {s : State} {p : Nat} {q : QEntry} (h : FlagsOk s p (wFlagSel q.w)) (flags : Nat) (time : Option (Nat × Nat))
    (free : State) : (s.orLast p q flags time free).st = (s.orFlagWord p (wFlagSel q.w) flags).1 := by
  have hphase : ¬(wFlagSel q.w ≠ 0 ∧ s.hasPhase p 1 = false) := fun ⟨hn, hp⟩ =>
    h.elim hn fun ⟨_, hp'⟩ => Bool.noConfusion (hp.symm.trans hp')
  have hread : (s.orFlagWord p (wFlagSel q.w) flags).2 = false := orFlagWord_snd_of_readable flags (h.imp_right And.left)
  rw [State.orLast, if_neg hphase]
  dsimp only
  rw [hread]
  rfl

theorem mixed_flagsOk {s : State} {p n : Nat} (h : FlagsOk s p n) (l : List (Nat × Byte)) : FlagsOk (s.mixed l) p n := by
  rw [FlagsOk, mixed_uncorr, (mixed_sameButMemory s l).hasPhase_eq]
  exact h

section
variable {p : ParcelId} {s : State} {q : QEntry} {c : Instr} {op : Nat} {eff : State → QEntry → Effect}
  (hr : VectorReady s p op q) (hf : FlagsOk s p (wFlagSel q.w))
  (hc : exec c s = done (s.startEngine p 1 op (vectorLocs p) eff))
include hr hf hc

/-- An instruction that writes wicks by w, and then its flags, starts and leaves the wicks so. -/
theorem vector_starts {w : State → State} (hw : ∀ v, SameButWicks v (w v))
    (he : ∀ v, SameButMemory s v → ∃ flags time free, eff v q = (w v).orLast p q flags time free) :
    ∃ v t, exec c s = .next t ∧ Started s p 1 q t ∧ SameWicks (w v) t := by
  have hv := mixed_sameButMemory s (s.unsettled p 1)
  obtain ⟨flags, time, free, heff⟩ := he _ hv
  have hst := (congrArg Effect.st heff).trans (orLast_st ((hw _).flagsOk (mixed_flagsOk hf _)) flags time free)
  have hor := orFlagWord_sameButMemory (w (s.mixed (s.unsettled p 1))) p (wFlagSel q.w) flags
  refine ⟨_, _, hc, startEngine_started hr eff ?_, SameWicks.trans hor.sameWicks ?_⟩
  · rw [hst, hor.engines_eq, (hw _).engines_eq, hv.engines_eq]
  · rw [← hst]
    exact startEngine_sameWicks hr eff

theorem vector_writes_wicks {l : List (Nat × Nat)} (hl : (l.map Prod.fst).Nodup)
    (he : ∀ v, SameButMemory s v → ∃ flags time, eff v q = v.commitWicks p q l flags time) :
    Completes c s fun t => Started s p 1 q t ∧ ∀ w v, (w, v) ∈ l → t.wreg p w (wVd q.w) = v % 2 ^ 32 := by
  obtain ⟨v, t, hx, hstart, hwreg, _⟩ := vector_starts hr hf hc (fun v => writeWicks_sameButWicks v p (wVd q.w) l)
    fun v hv => (he v hv).imp fun flags ⟨time, h⟩ => ⟨time, _, h⟩
  exact ⟨t, hx, hstart, fun w _ hmem => (hwreg _ w _).trans (writeWicks_wreg v p _ hl hmem)⟩

theorem vector_wicksHold {f : Nat → Nat}
    (he : ∀ v, SameButMemory s v → ∃ flags time, eff v q = v.commitWicks p q ((s.acting p q).map fun w => (w, f w)) flags time) :
    Completes c s (WicksHold s p q f) := by
  obtain ⟨t, hx, hstart, hw⟩ := vector_writes_wicks hr hf hc (by rw [map_pair_fst]; exact acting_nodup s p q) he
  exact ⟨t, hx, hstart, fun w hmem => hw w (f w) (List.mem_map_of_mem hmem)⟩

theorem vector_predicatesHold {f : Nat → Bool}
    (he : ∀ v, SameButMemory s v → ∃ flags, eff v q = v.commitPreds p q ((rangeOf q).map fun w => (w, f w)) flags) :
    Completes c s (PredicatesHold s p q f) := by
  obtain ⟨v, t, hx, hstart, _, hpred, _⟩ := vector_starts hr hf hc
    (fun v => writePreds_sameButWicks v p ((rangeOf q).map fun w => (w, f w)))
    fun v hv => (he v hv).imp fun flags h => ⟨_, _, h⟩
  refine ⟨t, hx, hstart, fun w hmem => (hpred _ _).trans ?_⟩
  exact writePreds_pred v p (by rw [map_pair_fst]; exact rangeOf_nodup q) (List.mem_map_of_mem hmem)

end

/-! ### Effects, on a state whose memory is mixed -/

section
variable {s v : State} (h : SameButMemory s v) (p : Nat) (q : QEntry)
include h

theorem vcmpEffect_int (hi : wInt q.w = true) : ∃ flags, vcmpEffect p v q = v.commitPreds p q ((rangeOf q).map fun w => (w,
    (!wPred q.w || s.pred p w) && cmpInt (wSub q.w) (s.vsrc p w false (q.op 0)) (s.vsrc p w false (q.op 1)))) flags := by
  rw [vcmpEffect]
  simp only [hi, h.pred_eq, h.vsrc_eq, List.map_map, Function.comp_def]
  cases wPred q.w <;> exact ⟨_, rfl⟩

theorem vcmpEffect_fp (hi : wInt q.w = false) : ∃ flags, vcmpEffect p v q = v.commitPreds p q ((rangeOf q).map fun w => (w,
    (!wPred q.w || s.pred p w) && cmpFp (wSub q.w) (s.vsrc p w true (q.op 0)) (s.vsrc p w true (q.op 1)))) flags := by
  rw [vcmpEffect]
  simp only [hi, h.pred_eq, h.vsrc_eq, List.map_map, Function.comp_def]
  cases wPred q.w <;> exact ⟨_, rfl⟩

theorem vsetpEffect_eq : ∃ flags, vsetpEffect p v q = v.commitPreds p q ((rangeOf q).map fun w => (w,
    match wSub q.w with
      | 0 => s.vsrc p w false (q.op 0) != 0
      | 1 => s.pred p w && s.vsrc p w false (q.op 0) != 0
      | 2 => s.pred p w || s.vsrc p w false (q.op 0) != 0
      | _ => s.pred p w != (s.vsrc p w false (q.op 0) != 0))) flags := by
  rw [vsetpEffect]
  simp only [h.pred_eq, h.vsrc_eq]
  exact ⟨0, rfl⟩

theorem vsetidxEffect_eq : ∃ flags time free, vsetidxEffect p v q =
    (v.writeWidx p ((s.acting p q).map fun w => (w, s.vsrc p w false (q.op 0)))).orLast p q flags time free := by
  rw [vsetidxEffect]
  simp only [h.acting_eq, h.vsrc_eq]
  exact ⟨_, _, _, rfl⟩

theorem vselEffect_eq : ∃ flags time, vselEffect p v q = v.commitWicks p q ((rangeOf q).map fun w => (w,
    if s.pred p w then s.vsrc p w false (q.op 0) else s.vsrc p w false (q.op 1))) flags time := by
  rw [vselEffect]
  simp only [h.pred_eq, h.vsrc_eq]
  exact ⟨_, _, rfl⟩

theorem vcvtEffect_eq :
    let src := bitsOf ((q.op 1).num 13) 5 5
    ∃ flags time, vcvtEffect p v q = v.commitWicks p q ((s.acting p q).map fun w => (w,
      (convertElem (bitsOf ((q.op 1).num 13) 0 5) (roundingOf q (wSub q.w) w)
        (decodeElem src (s.vsrc p w (src == 0) (q.op 0) % 2 ^ fmtBits src))).val)) flags time := by
  rw [vcvtEffect]
  simp only [h.acting_eq, h.vsrc_eq, List.map_map, Function.comp_def]
  exact ⟨_, _, rfl⟩

theorem vrandEffect_eq : ∃ flags time, vrandEffect p v q =
    v.commitWicks p q ((s.acting p q).map fun w => (w, q.random w)) flags time := by
  rw [vrandEffect, h.acting_eq]
  exact ⟨_, _, rfl⟩

theorem vshflEffect_eq : ∃ flags time, vshflEffect p v q =
    v.commitWicks p q ((s.acting p q).map fun w => (w, s.vsrc p (s.shflFrom p w q) false (q.op 0))) flags time := by
  rw [vshflEffect]
  simp only [h.acting_eq, h.vsrc_eq, h.shflFrom_eq]
  exact ⟨_, _, rfl⟩

theorem reduceEffect_eq (f : List Nat → Res) : ∃ flags time, reduceEffect p f v q = v.commitWicks p q
    ((s.acting p q).map fun w => (w, (f ((s.acting p q).map fun w => s.vsrc p w true (q.op 0))).val)) flags time := by
  rw [reduceEffect]
  simp only [h.acting_eq, h.vsrc_eq]
  exact ⟨_, _, rfl⟩

end

/-! ### Groups of 32 wicks (05 R119) -/

theorem mxGroup_length (fmt : Nat) (xs : List Nat) : (mxGroup fmt xs).2.1.length = xs.length := by
  rw [mxGroup]
  split <;> simp

/-- The acting wicks of group g. -/
def State.mxWicks (s : State) (p : Nat) (q : QEntry) (g : Nat) : List Nat :=
  (s.acting p q).filter fun w => decide ((w - wFirst q.w) / 32 = g)

/-- What VMXQ makes of group g: the scale byte, the element codes and the flags. -/
def State.mxGroupOf (s : State) (p : Nat) (q : QEntry) (g : Nat) : Nat × List Nat × Nat :=
  mxGroup (bitsOf ((q.op 1).num 13) 0 5) ((s.mxWicks p q g).map fun w => s.vsrc p w true (q.op 0))

/-- The groups with an acting wick, each with its wicks and its result. -/
def State.mxGroups (s : State) (p : Nat) (q : QEntry) : List (List Nat × Nat × List Nat × Nat) :=
  ((List.range ((wCount q.w + 1) / 32)).map fun g => (s.mxWicks p q g, s.mxGroupOf p q g)).filter fun g => !g.1.isEmpty

/-- The element codes that VMXQ writes, each to its wick. -/
def State.mxCodes (s : State) (p : Nat) (q : QEntry) : List (Nat × Nat) := (s.mxGroups p q).flatMap fun g => g.1.zip g.2.2.1

/-- The scale bytes that VMXQ writes, each to the wicks of its group. -/
def State.mxScales (s : State) (p : Nat) (q : QEntry) : List (Nat × Nat) := (s.mxGroups p q).flatMap fun g => g.1.map fun w => (w, g.2.1)

theorem vmxqEffect_eq {s v : State} (h : SameButMemory s v) (p : Nat) (q : QEntry) : ∃ flags time free, vmxqEffect p v q =
    ((v.writeWicks p (wVd q.w) (s.mxCodes p q)).writeWicks p (wVd q.w + 1) (s.mxScales p q)).orLast p q flags time free := by
  rw [vmxqEffect]
  simp only [h.acting_eq, h.vsrc_eq]
  exact ⟨_, _, _, rfl⟩

section
variable (s : State) (p : Nat) (q : QEntry)

theorem mxGroupOf_length (g : Nat) : (s.mxGroupOf p q g).2.1.length = (s.mxWicks p q g).length :=
  (mxGroup_length _ _).trans (List.length_map _)

theorem mem_mxGroups {g : Nat} (hg : g < (wCount q.w + 1) / 32) (hne : s.mxWicks p q g ≠ []) :
    (s.mxWicks p q g, s.mxGroupOf p q g) ∈ s.mxGroups p q := by
  refine List.mem_filter.mpr ⟨List.mem_map.mpr ⟨g, List.mem_range.mpr hg, rfl⟩, ?_⟩
  simpa using hne

theorem exists_of_mem_mxGroups {x : List Nat × Nat × List Nat × Nat} (hx : x ∈ s.mxGroups p q) :
    ∃ g, x = (s.mxWicks p q g, s.mxGroupOf p q g) := by
  obtain ⟨g, _, rfl⟩ := List.mem_map.mp (List.mem_filter.mp hx).1
  exact ⟨g, rfl⟩

/-- A wick lies in one group. -/
theorem mxGroups_wicks_nodup : ((s.mxGroups p q).flatMap (·.1)).Nodup := by
  refine List.pairwise_flatMap.mpr ⟨fun x hx => ?_, List.Pairwise.filter _ (List.pairwise_map.mpr ?_)⟩
  · obtain ⟨g, rfl⟩ := exists_of_mem_mxGroups s p q hx
    exact (acting_nodup s p q).filter _
  · refine List.nodup_range.imp fun {g g'} hne w hw w' hw' heq => hne ?_
    subst heq
    have hg := of_decide_eq_true (List.mem_filter.mp hw).2
    have hg' := of_decide_eq_true (List.mem_filter.mp hw').2
    exact hg.symm.trans hg'

theorem mxCodes_fst : (s.mxCodes p q).map Prod.fst = (s.mxGroups p q).flatMap (·.1) := by
  rw [State.mxCodes, List.map_flatMap]
  refine congrArg List.flatten (List.map_congr_left fun x hx => ?_)
  obtain ⟨g, rfl⟩ := exists_of_mem_mxGroups s p q hx
  exact List.map_fst_zip (Nat.le_of_eq (mxGroupOf_length s p q g).symm)

theorem mxScales_fst : (s.mxScales p q).map Prod.fst = (s.mxGroups p q).flatMap (·.1) := by
  rw [State.mxScales, List.map_flatMap]
  exact congrArg List.flatten (List.map_congr_left fun x _ => map_pair_fst x.1 fun _ => x.2.1)

variable {s p q} {g i w : Nat} (hg : g < (wCount q.w + 1) / 32) (hi : (s.mxWicks p q g)[i]? = some w)
include hg hi

theorem mem_mxScales : (w, (s.mxGroupOf p q g).1) ∈ s.mxScales p q := by
  have hw := List.mem_of_getElem? hi
  exact List.mem_flatMap.mpr ⟨_, mem_mxGroups s p q hg (List.ne_nil_of_mem hw), List.mem_map.mpr ⟨w, hw, rfl⟩⟩

theorem mem_mxCodes : (w, (s.mxGroupOf p q g).2.1.getD i 0) ∈ s.mxCodes p q := by
  have hw := List.mem_of_getElem? hi
  refine List.mem_flatMap.mpr ⟨_, mem_mxGroups s p q hg (List.ne_nil_of_mem hw), List.mem_of_getElem? (i := i) ?_⟩
  have hlt : i < (s.mxGroupOf p q g).2.1.length := by
    rw [mxGroupOf_length]
    exact (List.getElem?_eq_some_iff.mp hi).1
  rw [List.getElem?_zip_eq_some, List.getD_eq_getElem?_getD, List.getElem?_eq_getElem hlt]
  exact ⟨hi, rfl⟩

end

/-! ### The running sum (03 R81) -/

/-- What VSCAN gives wick w once its accumulator holds the terms up to it: the rounded sum and the flags. -/
def scanEntry (g : Int) (acc : LsAcc) (w : Nat) : Nat × Nat × Nat :=
  (w, (acc.finish.1.toFloat fmtFp32 g).val, orFlags acc.finish.2 (acc.finish.1.toFloat fmtFp32 g).flags)

/-- One FP32 addend added on grid g. -/
def addAddend (g : Int) (acc : LsAcc) (x : Nat) : LsAcc := acc.addTerm g (addendTerm (fp32 x))

/-- VSCAN's results, wick by wick, from an accumulator on. -/
def scanEntries (g : Int) : LsAcc → List (Nat × Nat) → List (Nat × Nat × Nat)
  | _, [] => []
  | acc, wx :: l => scanEntry g (addAddend g acc wx.2) wx.1 :: scanEntries g (addAddend g acc wx.2) l

theorem foldl_scan_eq (g : Int) (l : List (Nat × Nat)) (acc : LsAcc) (out : List (Nat × Nat × Nat)) :
    (l.foldl (fun (a : LsAcc × List (Nat × Nat × Nat)) wx => (addAddend g a.1 wx.2, a.2 ++ [scanEntry g (addAddend g a.1 wx.2) wx.1]))
      (acc, out)).2 = out ++ scanEntries g acc l := by
  induction l generalizing acc out with
  | nil => exact (List.append_nil out).symm
  | cons wx l ih => rw [List.foldl_cons, ih, scanEntries, List.append_assoc, List.singleton_append]

theorem scanEntries_fst (g : Int) (acc : LsAcc) (l : List (Nat × Nat)) : (scanEntries g acc l).map Prod.fst = l.map Prod.fst := by
  induction l generalizing acc with
  | nil => rfl
  | cons wx l ih => rw [scanEntries, List.map_cons, ih]; rfl

/-- Entry i holds the sum of the first i + 1 addends. -/
theorem scanEntries_getElem? (g : Int) (acc : LsAcc) (l : List (Nat × Nat)) (i : Nat) : (scanEntries g acc l)[i]? =
    l[i]?.map fun wx => scanEntry g (((l.map Prod.snd).take (i + 1)).foldl (addAddend g) acc) wx.1 := by
  induction l generalizing acc i with
  | nil => rfl
  | cons wx l ih =>
    cases i with
    | zero => rfl
    | succ i => exact ih _ i

section
variable (s : State) (p : Nat) (q : QEntry)

/-- The addends of the acting wicks. -/
def State.addends : List Nat := (s.acting p q).map fun w => s.vsrc p w true (q.op 0)

/-- VSCAN's results. -/
def State.scanned : List (Nat × Nat × Nat) :=
  scanEntries (addendGrid (s.addends p q)) {} ((s.acting p q).map fun w => (w, s.vsrc p w true (q.op 0)))

theorem vscanEffect_eq {s v : State} (h : SameButMemory s v) : ∃ flags time, vscanEffect p v q =
    v.commitWicks p q ((s.scanned p q).map fun r => (r.1, r.2.1)) flags time := by
  have hscan := foldl_scan_eq (addendGrid (s.addends p q)) ((s.acting p q).zip (s.addends p q)) {} []
  have hzip : (s.acting p q).zip (s.addends p q) = (s.acting p q).map fun w => (w, s.vsrc p w true (q.op 0)) :=
    List.map_prod_left_eq_zip.symm
  rw [List.nil_append, hzip] at hscan
  rw [vscanEffect]
  simp only [h.acting_eq, h.vsrc_eq]
  rw [State.scanned, ← hscan, ← hzip]
  exact ⟨_, _, rfl⟩

theorem scanned_fst : ((s.scanned p q).map fun r => (r.1, r.2.1)).map Prod.fst = s.acting p q := by
  rw [List.map_map]
  exact (scanEntries_fst _ _ _).trans (map_pair_fst _ _)

theorem mem_scanned {i w : Nat} (hi : (s.acting p q)[i]? = some w) :
    (w, ((((s.addends p q).take (i + 1)).foldl (addAddend (addendGrid (s.addends p q))) {}).finish.1.toFloat fmtFp32
      (addendGrid (s.addends p q))).val) ∈ (s.scanned p q).map fun r => (r.1, r.2.1) := by
  refine List.mem_of_getElem? (i := i) ?_
  rw [List.getElem?_map, State.scanned, scanEntries_getElem?, List.getElem?_map, hi, List.map_map]
  rfl

end

/-! ### The exact sum (03 R81) -/

/-- The rows that VSUMRED writes, and its flags. -/
def State.sumRows (s : State) (p : Nat) (q : QEntry) : List RowWrite :=
  let g := addendGrid (s.addends p q)
  let off := (q.op 1).num 22 / 8 * 8
  if wSub q.w = 1 then
    if (s.acting p q).isEmpty then [(off, lsBytes 0), (off + 24, leBytes 8 0)]
    else [(off, lsBytes (sumAddends g (s.addends p q)).finish.1.toLong.1), (off + 24, leBytes 8 (gridWord g))]
  else []

/-- The flags that VSUMRED raises. -/
def State.sumFlags (s : State) (p : Nat) (q : QEntry) : Nat :=
  let g := addendGrid (s.addends p q)
  let r := (sumAddends g (s.addends p q)).finish
  if (s.acting p q).isEmpty then 0
  else orFlags (orFlags r.2 (r.1.toFloat fmtFp32 g).flags) (if wSub q.w = 1 then r.1.toLong.2 else 0)

/-- The FP32 sum that VSUMRED gives every acting wick. -/
def State.sumValue (s : State) (p : Nat) (q : QEntry) : Nat :=
  let g := addendGrid (s.addends p q)
  ((sumAddends g (s.addends p q)).finish.1.toFloat fmtFp32 g).val

/-- The module once VSUMRED's rows and flags are in memory. -/
def State.sumStored (s : State) (p : Nat) (q : QEntry) : State :=
  ((s.writeRows p (s.sumRows p q)).orFlagWord p (wFlagSel q.w) (s.sumFlags p q)).1

theorem sumStored_sameButMemory (s : State) (p : Nat) (q : QEntry) : SameButMemory s (s.sumStored p q) :=
  (writeRows_sameButMemory s p _).trans (orFlagWord_sameButMemory _ p _ _)

theorem vsumredEffect_st {s : State} {p : Nat} (hs : s.uncorr = []) (hp : s.hasPhase p 1 = true) (q : QEntry) :
    (vsumredEffect p s q).st =
      (s.sumStored p q).writeWicks p (wVd q.w) ((s.acting p q).map fun w => (w, s.sumValue p q)) := by
  have hflag : ¬(wFlagSel q.w ≠ 0 ∧ s.hasPhase p 1 = false) := fun ⟨_, h⟩ => Bool.noConfusion (hp.symm.trans h)
  have hterm := memTerm_ne_none hp 2048 ((s.sumRows p q).flatMap fun w => linesOf w.1 w.2.length)
  obtain ⟨m, hm⟩ := Option.ne_none_iff_exists'.mp hterm
  obtain ⟨_, hc⟩ := commitRows_of_sound hs p (wFlagSel q.w) (s.sumRows p q) (s.sumFlags p q) (time := vtime q 2 8 12)
    (Option.some_ne_none _)
  simp only [State.sumRows, State.sumFlags, State.addends] at hm hc
  rw [vsumredEffect]
  simp only [hm, if_neg hflag, hc]
  rfl

theorem vsumred_sums {p : ParcelId} {s : State} {q : QEntry} (hr : VectorReady s p 0x49 q) (hs : Settled s p 1)
    (hp : s.hasPhase p 1 = true) : Completes (.vsumred p) s fun t =>
      WicksHold s p q (fun _ => s.sumValue p q) t ∧ RowsWritten s p q (s.sumRows p q) (s.sumFlags p q) t := by
  obtain ⟨huncorr, hunsettled⟩ := hs
  have hst := vsumredEffect_st huncorr hp q
  have hwicks := writeWicks_sameButWicks (s.sumStored p q) p (wVd q.w) ((s.acting p q).map fun w => (w, s.sumValue p q))
  refine ⟨_, rfl, ⟨startEngine_started hr (vsumredEffect p) ?_, fun w hw => ?_⟩, fun a => ?_⟩
  · rw [hunsettled]
    exact (congrArg State.engines hst).trans (hwicks.engines_eq.trans (sumStored_sameButMemory s p q).engines_eq)
  · have hsame := startEngine_sameWicks hr (vsumredEffect p)
    rw [hunsettled] at hsame
    refine (hsame.1 p w (wVd q.w)).trans ((congrArg (State.wreg · p w (wVd q.w)) hst).trans ?_)
    exact writeWicks_wreg _ p _ (by rw [map_pair_fst]; exact acting_nodup s p q) (List.mem_map_of_mem hw)
  · rw [startEngine_sameMemory hr (vsumredEffect p) hunsettled, hst, hwicks.rd8_eq]
    rfl

/-! ### The commands -/

theorem vsetidx_sets {p : ParcelId} {s : State} {q : QEntry} (hr : VectorReady s p 0x3A q) (hf : FlagsOk s p (wFlagSel q.w)) :
    Completes (.vsetidx p) s fun t =>
      Started s p 1 q t ∧ ∀ w ∈ s.acting p q, t.widx' p w = s.vsrc p w false (q.op 0) % 2 ^ 32 := by
  obtain ⟨v, t, hx, hstart, _, _, hidx⟩ := vector_starts (c := .vsetidx p) hr hf rfl (fun v => writeWidx_sameButWicks v p _)
    fun v hv => vsetidxEffect_eq hv p q
  refine ⟨t, hx, hstart, fun w hw => (hidx p w).trans ?_⟩
  exact writeWidx_widx v p (by rw [map_pair_fst]; exact acting_nodup s p q) (List.mem_map_of_mem hw)

theorem vmxq_converts {p : ParcelId} {s : State} {q : QEntry} (hr : VectorReady s p 0x3D q) (hf : FlagsOk s p (wFlagSel q.w)) :
    Completes (.vmxq p) s fun t => Started s p 1 q t ∧ ∀ g, g < (wCount q.w + 1) / 32 → ∀ i w, (s.mxWicks p q g)[i]? = some w →
      t.wreg p w (wVd q.w + 1) = (s.mxGroupOf p q g).1 % 2 ^ 32 ∧
        t.wreg p w (wVd q.w) = (s.mxGroupOf p q g).2.1.getD i 0 % 2 ^ 32 := by
  obtain ⟨v, t, hx, hstart, hwreg, _⟩ := vector_starts (c := .vmxq p) hr hf rfl
    (fun v => (writeWicks_sameButWicks v p (wVd q.w) (s.mxCodes p q)).trans (writeWicks_sameButWicks _ p (wVd q.w + 1) (s.mxScales p q)))
    fun v hv => vmxqEffect_eq hv p q
  refine ⟨t, hx, hstart, fun g hg i w hi => ⟨(hwreg _ _ _).trans ?_, (hwreg _ _ _).trans ?_⟩⟩
  · exact writeWicks_wreg _ p _ (by rw [mxScales_fst]; exact mxGroups_wicks_nodup s p q) (mem_mxScales hg hi)
  · rw [writeWicks_succ_wreg]
    exact writeWicks_wreg v p _ (by rw [mxCodes_fst]; exact mxGroups_wicks_nodup s p q) (mem_mxCodes hg hi)

/-- Settles O12: each effect writes its wicks or predicates and then its flags, and a start leaves them so. -/
theorem vectorPredicatesAndCrossWickResults : Obligations.VectorPredicatesAndCrossWickResults := by
  refine ⟨fun p s q hf => ⟨?cmpInt, ?cmpFp, ?setp, ?setpAnd, ?setpOr, ?setpXor, ?setidx, ?sel⟩,
    fun p s q hf => ⟨?cvt, ?mxq, ?rand, ?shfl, ?sumred, ?maxred, ?minred, ?expmax, ?scan⟩⟩
  case cmpInt => exact fun hr hi => vector_predicatesHold hr hf rfl fun v hv => vcmpEffect_int hv p q hi
  case cmpFp => exact fun hr hi => vector_predicatesHold hr hf rfl fun v hv => vcmpEffect_fp hv p q hi
  case setp | setpAnd | setpOr | setpXor =>
    intro hr hsub
    refine vector_predicatesHold hr hf rfl fun v hv => ?_
    have heff := vsetpEffect_eq hv p q
    rw [hsub] at heff
    exact heff
  case setidx => exact fun hr => vsetidx_sets hr hf
  case sel =>
    intro hr
    obtain ⟨t, hx, hstart, hw⟩ := vector_writes_wicks (c := .vsel p) hr hf rfl (by rw [map_pair_fst]; exact rangeOf_nodup q)
      fun v hv => vselEffect_eq hv p q
    exact ⟨t, hx, hstart, fun w hmem =>
      hw w (if s.pred p w then s.vsrc p w false (q.op 0) else s.vsrc p w false (q.op 1)) (List.mem_map_of_mem hmem)⟩
  case cvt => exact fun hr => vector_wicksHold hr hf rfl fun v hv => vcvtEffect_eq hv p q
  case mxq => exact fun hr => vmxq_converts hr hf
  case rand => exact fun hr => vector_wicksHold hr hf rfl fun v hv => vrandEffect_eq hv p q
  case shfl => exact fun hr => vector_wicksHold hr hf rfl fun v hv => vshflEffect_eq hv p q
  case sumred =>
    intro hr hs hp
    obtain ⟨t, hx, hwicks, hrows⟩ := vsumred_sums hr hs hp
    refine ⟨t, hx, hwicks, fun hsub hne => ?_⟩
    have hact : (s.acting p q).isEmpty = false := List.isEmpty_eq_false_iff.mpr hne
    simp only [State.sumRows, State.sumFlags, hsub, hact, Bool.false_eq_true, if_true, if_false] at hrows
    exact hrows
  case maxred => exact fun hr => vector_wicksHold hr hf rfl fun v hv => reduceEffect_eq hv p q (maxMinList true)
  case minred => exact fun hr => vector_wicksHold hr hf rfl fun v hv => reduceEffect_eq hv p q (maxMinList false)
  case expmax => exact fun hr => vector_wicksHold hr hf rfl fun v hv => reduceEffect_eq hv p q expMaxList
  case scan =>
    intro hr
    obtain ⟨t, hx, hstart, hw⟩ := vector_writes_wicks (c := .vscan p) hr hf rfl (by rw [scanned_fst]; exact acting_nodup s p q)
      fun v hv => vscanEffect_eq p q hv
    exact ⟨t, hx, hstart, fun i w hi => hw w _ (mem_scanned s p q hi)⟩

end Sys2Proof.Machine
end

/-!
The special functions at their special inputs (05 R115): the value class of an FP32 code, the result and the flag of each function
there, and what a start leaves in the wicks and in the flag word (03 R68, R78).
-/
section
namespace Sys2Proof.Machine

/-! ### The value class of an FP32 code -/

theorem fp32_of_nan {x : Nat} (h : 0x7F800000 < x % 2 ^ 31) : fp32 x = .nan := by
  have htop : bitsOf x 23 8 = 2 ^ 8 - 1 := by rw [bitsOf]; omega
  have hm : bitsOf x 0 23 ≠ 0 := by rw [bitsOf]; omega
  simp [fp32, FloatFmt.decode, fmtFp32, htop, hm]

theorem fp32_of_inf {x : Nat} (h : x % 2 ^ 31 = 0x7F800000) : fp32 x = .inf (bitAt x 31) := by
  have htop : bitsOf x 23 8 = 2 ^ 8 - 1 := by rw [bitsOf]; omega
  have hm : bitsOf x 0 23 = 0 := by rw [bitsOf]; omega
  simp [fp32, FloatFmt.decode, fmtFp32, htop, hm, FloatFmt.signBit]

/-- The magnitude of a finite FP32 code without its sign, in units of the smallest subnormal, 2^−149. -/
def fp32Mag (y : Nat) : Nat := if y / 2 ^ 23 = 0 then y else (2 ^ 23 + y % 2 ^ 23) * 2 ^ (y / 2 ^ 23 - 1)

theorem fp32Mag_lt_succ (y : Nat) : fp32Mag y < fp32Mag (y + 1) := by
  rw [fp32Mag, fp32Mag]
  by_cases hstep : (y + 1) / 2 ^ 23 = y / 2 ^ 23
  · rw [hstep]
    split
    · exact y.lt_succ_self
    · exact Nat.mul_lt_mul_of_pos_right (by omega) (Nat.two_pow_pos _)
  · have hnext : (y + 1) / 2 ^ 23 = y / 2 ^ 23 + 1 := by omega
    have hlast : y % 2 ^ 23 = 2 ^ 23 - 1 := by omega
    have hfirst : (y + 1) % 2 ^ 23 = 0 := by omega
    rw [hnext, hlast, hfirst, if_neg (Nat.succ_ne_zero _), Nat.add_sub_cancel]
    split
    · next hsub => rw [hsub]; omega
    · next hnorm =>
      obtain ⟨e, he⟩ := Nat.exists_eq_succ_of_ne_zero hnorm
      rw [show y / 2 ^ 23 - 1 = e by omega, he, Nat.pow_succ]
      have hpos := Nat.two_pow_pos e
      omega

/-- Codes stand in the order of their magnitudes. -/
theorem fp32Mag_lt {y z : Nat} (h : y < z) : fp32Mag y < fp32Mag z := by
  induction h with
  | refl => exact fp32Mag_lt_succ y
  | step _ ih => exact Nat.lt_trans ih (fp32Mag_lt_succ _)

/-- A code below infinity stands for a finite value, zero where it is a zero's, of its code's magnitude. -/
theorem fp32_of_finite {x : Nat} (h : x % 2 ^ 31 < 0x7F800000) : ∃ m e, fp32 x = .fin (bitAt x 31) m e ∧
    (m = 0 ↔ x % 2 ^ 31 = 0) ∧ m * 2 ^ (e + 149).toNat = fp32Mag (x % 2 ^ 31) := by
  have htop : (bitsOf x 23 8 == 255) = false := beq_false_of_ne (by rw [bitsOf]; omega)
  have hexp : x % 2 ^ 31 / 2 ^ 23 = bitsOf x 23 8 := by rw [bitsOf]; omega
  have hman : x % 2 ^ 31 % 2 ^ 23 = bitsOf x 0 23 := by rw [bitsOf]; omega
  rw [fp32Mag, hexp, hman]
  by_cases he : bitsOf x 23 8 = 0
  · refine ⟨bitsOf x 0 23, -149, ?_, by omega, ?_⟩
    · simp [fp32, FloatFmt.decode, fmtFp32, he, FloatFmt.signBit, FloatFmt.qMin]
    · rw [if_pos he, show ((-149 : Int) + 149).toNat = 0 by decide]
      omega
  · refine ⟨2 ^ 23 + bitsOf x 0 23, (bitsOf x 23 8 : Int) - 127 - 23, ?_, by omega, ?_⟩
    · simp [fp32, FloatFmt.decode, fmtFp32, he, htop, FloatFmt.signBit]
    · rw [if_neg he, show ((bitsOf x 23 8 : Int) - 127 - 23 + 149).toNat = bitsOf x 23 8 - 1 by omega]

theorem bitAt_sign_iff (x : Nat) : bitAt x 31 = true ↔ 2 ^ 31 ≤ x % 2 ^ 32 := by
  rw [bitAt, beq_iff_eq]
  omega

theorem Num.fin_scaled (neg : Bool) (m : Nat) (e : Int) :
    (Num.fin neg m e).scaled = if neg then -((m * 2 ^ (e + 149).toNat : Nat) : Int) else ((m * 2 ^ (e + 149).toNat : Nat) : Int) := by
  rw [Num.scaled, Int.natCast_mul]

theorem fp32_of_zero {x : Nat} (h : x % 2 ^ 31 = 0) : ∃ e, fp32 x = .fin (bitAt x 31) 0 e := by
  obtain ⟨m, e, hx, hm, _⟩ := fp32_of_finite (x := x) (by omega)
  exact ⟨e, by rw [hx, hm.mpr h]⟩

theorem fp32_of_posInf {x : Nat} (h : x % 2 ^ 32 = 0x7F800000) : fp32 x = .inf false := by
  rw [fp32_of_inf (by omega), Bool.eq_false_iff.mpr (mt (bitAt_sign_iff x).mp (by omega))]

theorem fp32_of_negInf {x : Nat} (h : x % 2 ^ 32 = 0xFF800000) : fp32 x = .inf true := by
  rw [fp32_of_inf (by omega), (bitAt_sign_iff x).mpr (by omega)]

/-- A negative code that is no NaN's stands for −∞ or for a finite value other than zero. -/
theorem fp32_of_negative {x : Nat} (hneg : 2 ^ 31 < x % 2 ^ 32) (hnum : ¬0x7F800000 < x % 2 ^ 31) :
    fp32 x = .inf true ∨ ∃ m e, fp32 x = .fin true m e ∧ m ≠ 0 := by
  have hsign := (bitAt_sign_iff x).mpr (Nat.le_of_lt hneg)
  by_cases hinf : x % 2 ^ 31 = 0x7F800000
  · exact .inl (by rw [fp32_of_inf hinf, hsign])
  · obtain ⟨m, e, hx, hm, _⟩ := fp32_of_finite (x := x) (by omega)
    exact .inr ⟨m, e, by rw [hx, hsign], mt hm.mp (by omega)⟩

/-! ### The results at special inputs (05 R115) -/

/-- Result r holds the code v, and raises flag bit k where one is named. -/
def Res.Gives (r : Res) (v : Nat) (k : Option Nat) : Prop := r.val % 2 ^ 32 = v ∧ ∀ b ∈ k, bitAt r.flags b = true

theorem gives_nanIn : Res.Gives ⟨fp32Nan, flagNanIn⟩ 0x7FC00000 (some 6) := ⟨rfl, by decide⟩

theorem gives_invalid : Res.Gives ⟨fp32Nan, flagInvalid⟩ 0x7FC00000 (some 4) := ⟨rfl, by decide⟩

theorem gives_posInf : Res.Gives ⟨fmtFp32.infCode false, 0⟩ 0x7F800000 none := ⟨rfl, by decide⟩

theorem gives_zero : Res.Gives ⟨0, 0⟩ 0 none := ⟨rfl, by decide⟩

/-- The infinity of a zero's sign has the zero's code above it. -/
theorem gives_divZero {x : Nat} (h : x % 2 ^ 31 = 0) :
    Res.Gives ⟨fmtFp32.infCode (bitAt x 31), flagDivZero⟩ (0x7F800000 + x % 2 ^ 32) (some 5) := by
  refine ⟨?_, show ∀ b ∈ some 5, bitAt flagDivZero b = true by decide⟩
  cases hs : bitAt x 31
  case false =>
    have hlt := mt (bitAt_sign_iff x).mpr (Bool.eq_false_iff.mp hs)
    rw [show x % 2 ^ 32 = 0 by omega]
    rfl
  case true =>
    have hge := (bitAt_sign_iff x).mp hs
    rw [show x % 2 ^ 32 = 2 ^ 31 by omega]
    rfl

theorem specialInput_rcp (y : Nat) : specialInput 0x36 y =
    if 0x7F800000 < y % 2 ^ 31 then some (0x7FC00000, some 6)
    else if y % 2 ^ 31 = 0 then some (0x7F800000 + y, some 5)
    else none := by
  simp [specialInput]

theorem specialInput_rsqrt (y : Nat) : specialInput 0x37 y =
    if 0x7F800000 < y % 2 ^ 31 then some (0x7FC00000, some 6)
    else if y % 2 ^ 31 = 0 then some (0x7F800000 + y, some 5)
    else if 2 ^ 31 < y then some (0x7FC00000, some 4)
    else none := by
  simp [specialInput]

theorem specialInput_log2 (y : Nat) : specialInput 0x35 y =
    if 0x7F800000 < y % 2 ^ 31 then some (0x7FC00000, some 6)
    else if 2 ^ 31 < y then some (0x7FC00000, some 4)
    else if y = 0x7F800000 then some (0x7F800000, none)
    else none := by
  simp [specialInput]

theorem specialInput_exp2 (y : Nat) : specialInput 0x34 y =
    if 0x7F800000 < y % 2 ^ 31 then some (0x7FC00000, some 6)
    else if y = 0x7F800000 then some (0x7F800000, none)
    else if y = 0xFF800000 then some (0, none)
    else if y < 2 ^ 31 ∧ 0x43000000 < y then some (0x7F800000, some 1)
    else if 2 ^ 31 < y ∧ 0xC3150000 < y then some (0, some 2)
    else none := by
  simp [specialInput]

/-- The low 31 bits of a code's 32. -/
theorem mod_sign_bit (x : Nat) : x % 2 ^ 32 % 2 ^ 31 = x % 2 ^ 31 := Nat.mod_mod_of_dvd x (by decide)

/-- A test that answers something holds. -/
theorem of_ite_none {α : Type} {c : Prop} [Decidable c] {a : α} {r : α} (h : (if c then some a else none) = some r) : c ∧ a = r := by
  split at h
  case isTrue hc => exact ⟨hc, Option.some.inj h⟩
  case isFalse => cases h

section
variable {x v : Nat} {k : Option Nat}

theorem fp32Rcp_special (h : specialInput 0x36 (x % 2 ^ 32) = some (v, k)) : (fp32Rcp x).Gives v k := by
  rw [specialInput_rcp, mod_sign_bit] at h
  rw [fp32Rcp]
  split at h
  case isTrue hnan =>
    cases h
    rw [fp32_of_nan hnan]
    exact gives_nanIn
  case isFalse =>
    obtain ⟨hzero, h⟩ := of_ite_none h
    cases h
    obtain ⟨e, hx⟩ := fp32_of_zero hzero
    rw [hx]
    exact gives_divZero hzero

theorem fp32Rsqrt_special (h : specialInput 0x37 (x % 2 ^ 32) = some (v, k)) : (fp32Rsqrt x).Gives v k := by
  rw [specialInput_rsqrt, mod_sign_bit] at h
  rw [fp32Rsqrt]
  split at h
  case isTrue hnan =>
    cases h
    rw [fp32_of_nan hnan]
    exact gives_nanIn
  case isFalse hnum =>
    split at h
    case isTrue hzero =>
      cases h
      obtain ⟨e, hx⟩ := fp32_of_zero hzero
      rw [hx]
      exact gives_divZero hzero
    case isFalse =>
      obtain ⟨hneg, h⟩ := of_ite_none h
      cases h
      rcases fp32_of_negative hneg hnum with hx | ⟨m, e, hx, hm⟩
      · rw [hx]
        exact gives_invalid
      · rw [hx]
        dsimp only
        rw [if_neg hm]
        exact gives_invalid

theorem fp32Log2_special (h : specialInput 0x35 (x % 2 ^ 32) = some (v, k)) : (fp32Log2 x).Gives v k := by
  rw [specialInput_log2, mod_sign_bit] at h
  rw [fp32Log2]
  split at h
  case isTrue hnan =>
    cases h
    rw [fp32_of_nan hnan]
    exact gives_nanIn
  case isFalse hnum =>
    split at h
    case isTrue hneg =>
      cases h
      rcases fp32_of_negative hneg hnum with hx | ⟨m, e, hx, hm⟩
      · rw [hx]
        exact gives_invalid
      · rw [hx]
        dsimp only
        rw [if_neg hm]
        exact gives_invalid
    case isFalse =>
      obtain ⟨hinf, h⟩ := of_ite_none h
      cases h
      rw [fp32_of_posInf hinf]
      exact gives_posInf

/-- A positive finite code above that of 128 overflows. -/
theorem fp32Exp2_above (hpos : x % 2 ^ 32 < 2 ^ 31) (hfin : x % 2 ^ 31 < 0x7F800000) (h : 0x43000000 < x % 2 ^ 31) :
    fp32Exp2 x = ⟨fmtFp32.infCode false, orFlags flagOverflow flagInexact⟩ := by
  obtain ⟨m, e, hx, _, hmag⟩ := fp32_of_finite hfin
  have hsign : bitAt x 31 = false := Bool.eq_false_iff.mpr (mt (bitAt_sign_iff x).mp (Nat.not_le_of_lt hpos))
  have hlt : 128 * 2 ^ 149 < m * 2 ^ (e + 149).toNat := hmag ▸ fp32Mag_lt h
  rw [fp32Exp2, hx, hsign]
  dsimp only
  rw [Num.fin_scaled, if_neg Bool.false_ne_true, if_pos (Int.ofNat_lt.mpr hlt)]

/-- A negative finite code beyond that of −149 underflows. -/
theorem fp32Exp2_below (hneg : 2 ^ 31 < x % 2 ^ 32) (hfin : x % 2 ^ 31 < 0x7F800000) (h : 0x43150000 < x % 2 ^ 31) :
    fp32Exp2 x = ⟨0, orFlags flagUnderflow flagInexact⟩ := by
  obtain ⟨m, e, hx, _, hmag⟩ := fp32_of_finite hfin
  have hsign : bitAt x 31 = true := (bitAt_sign_iff x).mpr (Nat.le_of_lt hneg)
  have hlt : 149 * 2 ^ 149 < m * 2 ^ (e + 149).toNat := hmag ▸ fp32Mag_lt h
  rw [fp32Exp2, hx, hsign]
  dsimp only
  rw [Num.fin_scaled, if_pos rfl, if_neg (by omega), if_pos (Int.neg_lt_neg (Int.ofNat_lt.mpr hlt))]

theorem fp32Exp2_special (h : specialInput 0x34 (x % 2 ^ 32) = some (v, k)) : (fp32Exp2 x).Gives v k := by
  rw [specialInput_exp2, mod_sign_bit] at h
  split at h
  case isTrue hnan =>
    cases h
    rw [fp32Exp2, fp32_of_nan hnan]
    exact gives_nanIn
  case isFalse hnum =>
    split at h
    case isTrue hinf =>
      cases h
      rw [fp32Exp2, fp32_of_posInf hinf]
      exact gives_posInf
    case isFalse hinf =>
      split at h
      case isTrue hninf =>
        cases h
        rw [fp32Exp2, fp32_of_negInf hninf]
        exact gives_zero
      case isFalse hninf =>
        split at h
        case isTrue hover =>
          cases h
          rw [fp32Exp2_above hover.1 (by omega) (by omega)]
          exact ⟨rfl, by decide⟩
        case isFalse =>
          obtain ⟨hunder, h⟩ := of_ite_none h
          cases h
          rw [fp32Exp2_below hunder.1 (by omega) (by omega)]
          exact ⟨rfl, by decide⟩

end

/-! ### Reading a flag word after its update (03 R68) -/

theorem leNat_leBytes (n v : Nat) : leNat (leBytes n v) = v % 256 ^ n := by
  induction n generalizing v with
  | zero => simp [leBytes, leNat, Nat.mod_one]
  | succ n ih =>
    rw [leBytes, leNat, ih, Nat.pow_succ', BitVec.toNat_ofNat]
    exact Nat.mod_mul.symm

theorem leBytes_length (n v : Nat) : (leBytes n v).length = n := by
  induction n generalizing v with
  | zero => rfl
  | succ n ih => rw [leBytes, List.length_cons, ih]

/-- Bytes read back as they were written. -/
theorem State.rdBytes_wrBytes (s : State) (a : Nat) (bs : List Byte) : (s.wrBytes a bs).rdBytes a bs.length = bs := by
  rw [State.rdBytes]
  refine List.ext_getElem (by simp) fun i h h' => ?_
  rw [List.getElem_map, List.getElem_range, State.wrBytes_rd8, if_pos (by omega), Nat.add_sub_cancel_left,
    List.getD_eq_getElem?_getD, List.getElem?_eq_getElem h', Option.getD_some]

theorem State.rdNat_wrNat (s : State) (a n v : Nat) : (s.wrNat a n v).rdNat a n = v % 256 ^ n := by
  have hread := s.rdBytes_wrBytes a (leBytes n v)
  rw [leBytes_length] at hread
  rw [State.rdNat, State.wrNat, hread, leNat_leBytes]

theorem SameMemory.rdNat_eq {s t : State} (h : SameMemory s t) (a n : Nat) : t.rdNat a n = s.rdNat a n := by
  rw [State.rdNat, State.rdNat, State.rdBytes, State.rdBytes]
  simp only [h _]

theorem bitAt_eq_testBit (x i : Nat) : bitAt x i = x.testBit i := by
  rw [bitAt, Nat.testBit_eq_decide_div_mod_eq]
  rfl

theorem bitAt_orFlags (x y i : Nat) : bitAt (orFlags x y) i = (bitAt x i || bitAt y i) := by
  simp only [bitAt_eq_testBit, orFlags, Nat.testBit_or]

theorem foldl_orFlags_bit {l : List Nat} {i : Nat} (acc : Nat) (h : bitAt acc i = true ∨ ∃ x ∈ l, bitAt x i = true) :
    bitAt (l.foldl orFlags acc) i = true := by
  induction l generalizing acc with
  | nil => simpa using h
  | cons y l ih =>
    refine ih _ ?_
    rw [bitAt_orFlags]
    simpa [or_assoc] using h

/-- A flag that one result raises is in the union. -/
theorem unionFlags_bit {l : List Nat} {x i : Nat} (hx : x ∈ l) (h : bitAt x i = true) : bitAt (unionFlags l) i = true :=
  foldl_orFlags_bit 0 (.inr ⟨x, hx, h⟩)

/-- A flag word that can be updated holds the flags ORed into it. -/
theorem orFlagWord_bit {s : State} {p n : Nat} (hn : n ≠ 0) (hf : FlagsOk s p n) {flags b : Nat} (hb : bitAt flags b = true)
    (hlt : b < 64) : bitAt ((s.orFlagWord p n flags).1.rdNat (pmAddr p (0x3FFFC0 + 8 * n)) 8) b = true := by
  obtain ⟨hread, _⟩ := hf.resolve_left hn
  rw [State.orFlagWord, if_neg hn, hread, if_neg Bool.false_ne_true, State.rdNat_wrNat, bitAt_eq_testBit,
    show (256 ^ 8 : Nat) = 2 ^ 64 by decide, Nat.testBit_mod_two_pow, decide_eq_true hlt, Bool.true_and, ← bitAt_eq_testBit,
    bitAt_orFlags, hb, Bool.or_true]

/-! ### The commands -/

/-- A lanewise instruction commits its function's results and the union of their flags. -/
theorem lanewise_eq {s v : State} (h : SameButMemory s v) (p : Nat) (fp : Bool) (f : Nat → Nat → Nat → Res) (mult lat : Nat)
    (q : QEntry) :
    let r := fun w => f (s.vsrc p w fp (q.op 0)) (s.vsrc p w fp (q.op 1)) (s.vsrc p w fp (q.op 2))
    lanewise p fp f mult lat v q = v.commitWicks p q ((s.acting p q).map fun w => (w, (r w).val))
      (unionFlags ((s.acting p q).map fun w => (r w).flags)) (vtime q mult 0 lat) := by
  rw [lanewise]
  simp only [h.acting_eq, h.vsrc_eq, List.map_map, Function.comp_def]

/-- The four special functions start as lanewise instructions of one source, and give what R115 lists. -/
theorem exec_special {p : ParcelId} {c : Instr} {op : Nat}
    (h : (c, op) ∈ [(.vexp2 p, 0x34), (.vlog2 p, 0x35), (.vrcp p, 0x36), (.vrsqrt p, 0x37)]) :
    ∃ g : Nat → Res, (∀ s, exec c s = done (s.startEngine p 1 op (vectorLocs p) (lanewise p true (fun a _ _ => g a) 4 12))) ∧
      ∀ x v k, specialInput op (x % 2 ^ 32) = some (v, k) → (g x).Gives v k := by
  simp only [List.mem_cons, Prod.mk.injEq, List.not_mem_nil, or_false] at h
  obtain ⟨rfl, rfl⟩ | ⟨rfl, rfl⟩ | ⟨rfl, rfl⟩ | ⟨rfl, rfl⟩ := h
  · exact ⟨fp32Exp2, fun _ => rfl, fun _ _ _ => fp32Exp2_special⟩
  · exact ⟨fp32Log2, fun _ => rfl, fun _ _ _ => fp32Log2_special⟩
  · exact ⟨fp32Rcp, fun _ => rfl, fun _ _ _ => fp32Rcp_special⟩
  · exact ⟨fp32Rsqrt, fun _ => rfl, fun _ _ _ => fp32Rsqrt_special⟩

/-- Where no other engine is writing, an instruction that writes wicks leaves its flags in the flag word it names. -/
theorem vector_flagWord_bit {p : ParcelId} {s : State} {q : QEntry} {op : Nat} {eff : State → QEntry → Effect}
    (hr : VectorReady s p op q) (hf : FlagsOk s p (wFlagSel q.w)) {l : List (Nat × Nat)} {flags : Nat} {time : Option (Nat × Nat)}
    (he : eff s q = s.commitWicks p q l flags time) (hn : wFlagSel q.w ≠ 0) (hs : s.unsettled p 1 = []) {b : Nat}
    (hb : bitAt flags b = true) (hlt : b < 64) :
    bitAt ((s.startEngine p 1 op (vectorLocs p) eff).rdNat (pmAddr p (0x3FFFC0 + 8 * wFlagSel q.w)) 8) b = true := by
  have hwicks := (writeWicks_sameButWicks s p (wVd q.w) l).flagsOk hf
  rw [(startEngine_sameMemory hr eff hs).rdNat_eq, he, State.commitWicks, orLast_st hwicks]
  exact orFlagWord_bit hn hwicks hb hlt

/-- R115 names bits of the flag word. -/
theorem specialInput_bit_lt {op x v : Nat} {k : Option Nat} (h : specialInput op x = some (v, k)) : ∀ b ∈ k, b < 64 := by
  rw [specialInput] at h
  repeat' split at h
  all_goals cases h <;> decide

/-- Settles O15: each function gives R115's result and flag at every class of special input, a lanewise instruction writes the
results, and the union of the flags goes to the flag word. -/
theorem specialFunctionsTreatSpecialInputs : Obligations.SpecialFunctionsTreatSpecialInputs := by
  intro p s q c op hmem hr hf
  obtain ⟨g, hc, hg⟩ := exec_special hmem
  have he := fun v (hv : SameButMemory s v) => lanewise_eq hv p true (fun a _ _ => g a) 4 12 q
  obtain ⟨t, hx, _, hwicks⟩ := vector_wicksHold hr hf (hc s) fun v hv => ⟨_, _, he v hv⟩
  refine ⟨t, hx, fun w hw v k hin => ?_⟩
  obtain ⟨hval, hflag⟩ := hg _ v k hin
  refine ⟨(hwicks w hw).trans hval, fun b hb hn hs => ?_⟩
  have ht : t = s.startEngine p 1 op (vectorLocs p) (lanewise p true (fun a _ _ => g a) 4 12) :=
    Host.Outcome.next.inj (hx.symm.trans (hc s))
  have hbit := unionFlags_bit (List.mem_map_of_mem (f := fun w => (g (s.vsrc p w true (q.op 0))).flags) hw) (hflag b hb)
  rw [ht]
  exact vector_flagWord_bit hr hf (he s (.refl s)) hn hs hbit (specialInput_bit_lt hin b hb)

end Sys2Proof.Machine
end

/-!
The canonical form of memory and its bytes (07 R153, R167): at reset, after a write, and under every command. Memory's canonical form
is an invariant of the step, one law per command; a failing controller, which files a report, shows that memory itself is not kept.
-/
section
namespace Sys2Proof.Machine

/-! ### Memory at reset -/

/-- Settles O4: the reset state lists no byte, and an unlisted byte reads 0. -/
theorem resetMemoryIsCanonical : Obligations.ResetMemoryIsCanonical := by
  have hempty : State.reset.mem = [] := rfl
  refine ⟨?canonical, fun a => ?zero⟩
  case canonical => rw [hempty, MemOk, Memory.wf, tabWf_iff]; exact ⟨rfl, fun _ h => absurd h List.not_mem_nil⟩
  case zero => rw [State.rd8, hempty]; rfl

/-! ### What a write leaves -/

/-- A key that is erased, at any place of a list of erasures, reads as the default. -/
theorem tabGet_foldl_tabErase {α : Type} (d : α) {k : Nat} (t : Tab α) {ks : List Nat} (h : k ∈ ks ∨ tabGet d t k = d) :
    tabGet d (ks.foldl tabErase t) k = d := by
  induction ks generalizing t with
  | nil => exact h.resolve_left List.not_mem_nil
  | cons j ks ih =>
    refine ih (tabErase t j) ?_
    by_cases hj : k = j
    · exact .inr (hj ▸ tabGet_tabErase_same d t k)
    · rw [tabGet_tabErase_ne d t j k hj]
      exact h.imp_left fun hk => (List.mem_cons.mp hk).resolve_left hj

theorem mem_fullWords {a n k : Nat} : k ∈ fullWords a n ↔ a ≤ 8 * k ∧ 8 * k + 8 ≤ a + n := by
  simp only [fullWords, List.mem_map, List.mem_range]
  constructor
  · rintro ⟨i, hi, rfl⟩
    omega
  · exact fun ⟨hlo, hhi⟩ => ⟨k - (a + 7) / 8, by omega, by omega⟩

/-- Settles O6: the bytes read as written, and the marks of the words covered wholly are erased. -/
theorem memoryReadsWhatWasWritten : Obligations.MemoryReadsWhatWasWritten := by
  intro s a bs
  refine ⟨fun i hi => ?same, fun b hb => ?frame, fun k hlo hhi => ?fresh⟩
  case same =>
    rw [State.wrBytes_rd8, if_pos (by omega), Nat.add_sub_cancel_left, List.getD_eq_getElem?_getD, List.getElem?_eq_getElem hi, Option.getD_some]
  case frame => rw [State.wrBytes_rd8, if_neg hb]
  case fresh => exact tabGet_foldl_tabErase false s.uncorr (.inl (mem_fullWords.mpr ⟨hlo, hhi⟩))

/-! ### Every command keeps memory canonical -/

theorem memOk_of_eq {m n : List Host.Cell} (heq : m = n) (h : MemOk n) : MemOk m := heq ▸ h

/-- Each command leaves memory as it was or keeps its canonical form: one law of Laws/Mem… per command. -/
theorem exec_memOk (c : Instr) (s : State) (h : MemOk s.mem) : MemOk (memOf (exec c s)) := by
  cases c with
  | issue p => exact execIssue_mem p s h
  | engineCompletion p e k => exact execEngineCompletion_mem p e k s h
  | nop p => exact execNop_mem p s h
  | replay p => exact execReplay_mem p s h
  | replayDrainComplete p copied => exact execReplayDrainComplete_mem p copied s h
  | br p => exact execBr_mem p s h
  | bfork p => exact execBfork_mem p s h
  | bmerge p => exact execBmerge_mem p s h
  | loop p => exact execLoop_mem p s h
  | endStream p => exact execEndStream_mem p s h
  | tmul p => exact execTmul_mem p s h
  | tlsadd p => exact execTlsadd_mem p s h
  | tlscvt p => exact execTlscvt_mem p s h
  | tlsset p => exact execTlsset_mem p s h
  | vadd p => exact execVadd_mem p s h
  | vsub p => exact execVsub_mem p s h
  | vmul p => exact execVmul_mem p s h
  | vfma p => exact execVfma_mem p s h
  | vmax p => exact execVmax_mem p s h
  | vmin p => exact execVmin_mem p s h
  | vabs p => exact execVabs_mem p s h
  | vneg p => exact execVneg_mem p s h
  | viadd p => exact execViadd_mem p s h
  | visub p => exact execVisub_mem p s h
  | vimul p => exact execVimul_mem p s h
  | vand p => exact execVand_mem p s h
  | vor p => exact execVor_mem p s h
  | vxor p => exact execVxor_mem p s h
  | vshl p => exact execVshl_mem p s h
  | vshr p => exact execVshr_mem p s h
  | vsra p => exact execVsra_mem p s h
  | vmov p => exact execVmov_mem p s h
  | vexp2 p => exact execVexp2_mem p s h
  | vlog2 p => exact execVlog2_mem p s h
  | vrcp p => exact execVrcp_mem p s h
  | vrsqrt p => exact execVrsqrt_mem p s h
  | vcmp p => exact execVcmp_mem p s h
  | vsetp p => exact execVsetp_mem p s h
  | vsetidx p => exact execVsetidx_mem p s h
  | vsel p => exact execVsel_mem p s h
  | vcvt p => exact execVcvt_mem p s h
  | vmxq p => exact execVmxq_mem p s h
  | vrand p => exact execVrand_mem p s h
  | vld p => exact execVld_mem p s h
  | vst p => exact execVst_mem p s h
  | vshfl p => exact execVshfl_mem p s h
  | vsumred p => exact execVsumred_mem p s h
  | vmaxred p => exact execVmaxred_mem p s h
  | vminred p => exact execVminred_mem p s h
  | vexpmax p => exact execVexpmax_mem p s h
  | vscan p => exact execVscan_mem p s h
  | tcall p => exact execTcall_mem p s h
  | taperTakeCall p => exact memOk_of_eq (execTaperTakeCall_mem p s) h
  | taperInstruction p dt => exact execTaperInstruction_mem p dt s h
  | mcopy p => exact execMcopy_mem p s h
  | mfill p => exact execMfill_mem p s h
  | mgath p => exact execMgath_mem p s h
  | mscat p => exact execMscat_mem p s h
  | xsend p => exact memOk_of_eq (execXsend_mem p s) h
  | xrecv p => exact memOk_of_eq (execXrecv_mem p s) h
  | xsig p => exact execXsig_mem p s h
  | xcoll p => exact execXcoll_mem p s h
  | bsig p => exact execBsig_mem p s h
  | bwait p => exact memOk_of_eq (execBwait_mem p s) h
  | bbcast p => exact execBbcast_mem p s h
  | bsub p => exact memOk_of_eq (execBsub_mem p s) h
  | fence p => exact execFence_mem p s h
  | beaconOpArrival b ps => exact memOk_of_eq (execBeaconOpArrival_mem b ps s) h
  | beaconAckReturn p k => exact execBeaconAckReturn_mem p k s h
  | parcelQuiesced p => exact execParcelQuiesced_mem p s h
  | pctStart p => exact memOk_of_eq (execPctStart_mem p s) h
  | pctStop p => exact memOk_of_eq (execPctStop_mem p s) h
  | pctStopNow p => exact memOk_of_eq (execPctStopNow_mem p s) h
  | pctTaperReset p v => exact memOk_of_eq (execPctTaperReset_mem p v s) h
  | pctCodeDataAccess p wr => exact memOk_of_eq (execPctCodeDataAccess_mem p wr s) h
  | pctDescDataAccess p wr => exact memOk_of_eq (execPctDescDataAccess_mem p wr s) h
  | pctParamWrite p n v => exact memOk_of_eq (execPctParamWrite_mem p n v s) h
  | registerWrite g addr size v => exact execRegisterWrite_mem g addr size v s h
  | outsideAgentAccess g addr len wr => exact execOutsideAgentAccess_mem g addr len wr s h
  | tickGate w t => exact execTickGate_mem w t s h
  | windowEnd w t => exact execWindowEnd_mem w t s h
  | tickWatchdogFire r t => exact execTickWatchdogFire_mem r t s h
  | trcLoad t => exact execTrcLoad_mem t s h
  | loadStageComplete t => exact execLoadStageComplete_mem t s h
  | trcStart t => exact execTrcStart_mem t s h
  | trcStop t => exact execTrcStop_mem t s h
  | trcStopNow t => exact execTrcStopNow_mem t s h
  | trcReset t => exact execTrcReset_mem t s h
  | tractResetComplete t failed => exact execTractResetComplete_mem t failed s h
  | trcCountClr t => exact memOk_of_eq (execTrcCountClr_mem t s) h
  | slotSend l slot t => exact execSlotSend_mem l slot t s h
  | slackUnitSend l t => exact memOk_of_eq (execSlackUnitSend_mem l t s) h
  | unitReceive l t pt n lanes syms => exact execUnitReceive_mem l t pt n lanes syms s h
  | packetDeliver p => exact execPacketDeliver_mem p s h
  | transferDeadline p k => exact execTransferDeadline_mem p k s h
  | retryOverrun l k seq w t => exact memOk_of_eq (execRetryOverrun_mem l k seq w t s) h
  | ack l seq => exact memOk_of_eq (execAck_mem l seq s) h
  | nak l seqs => exact memOk_of_eq (execNak_mem l seqs s) h
  | copy l k f cw => exact memOk_of_eq (execCopy_mem l k f cw s) h
  | linkRelease l j cw => exact memOk_of_eq (execLinkRelease_mem l j cw s) h
  | parity l j cw => exact memOk_of_eq (execParity_mem l j cw s) h
  | tap l j taps => exact memOk_of_eq (execTap_mem l j taps s) h
  | failover l k f cw => exact memOk_of_eq (execFailover_mem l k f cw s) h
  | degrade l lanes parity tick => exact memOk_of_eq (execDegrade_mem l lanes parity tick s) h
  | restore l lanes free tick => exact memOk_of_eq (execRestore_mem l lanes free tick s) h
  | datumUnit l t1 t2 t3 t4 now => exact memOk_of_eq (execDatumUnit_mem l t1 t2 t3 t4 now s) h
  | darkUnit l => exact execDarkUnit_mem l s h
  | laneLinkChangeTick l tx t => exact execLaneLinkChangeTick_mem l tx t s h
  | laneFailDeclared l j => exact memOk_of_eq (execLaneFailDeclared_mem l j s) h
  | laneAdaptUpdate l j t => exact memOk_of_eq (execLaneAdaptUpdate_mem l j t s) h
  | rollStepStart l t => exact memOk_of_eq (execRollStepStart_mem l t s) h
  | rollVerifyDone l pass => exact memOk_of_eq (execRollVerifyDone_mem l pass s) h
  | rollLaneSwitch l => exact memOk_of_eq (execRollLaneSwitch_mem l s) h
  | rollCalibrationDone l => exact memOk_of_eq (execRollCalibrationDone_mem l s) h
  | rollMarginScanDone l margin => exact memOk_of_eq (execRollMarginScanDone_mem l margin s) h
  | lnkTrain l => exact memOk_of_eq (execLnkTrain_mem l s) h
  | trainingComplete l rxMask txMask peer flight => exact execTrainingComplete_mem l rxMask txMask peer flight s h
  | lnkRollEn l v => exact memOk_of_eq (execLnkRollEn_mem l v s) h
  | lnkRollNow l => exact memOk_of_eq (execLnkRollNow_mem l s) h
  | lnkRollStopNow l => exact memOk_of_eq (execLnkRollStopNow_mem l s) h
  | lnkDown l => exact memOk_of_eq (execLnkDown_mem l s) h
  | lnkForceFail l j => exact memOk_of_eq (execLnkForceFail_mem l j s) h
  | lnkRetest l j => exact memOk_of_eq (execLnkRetest_mem l j s) h
  | lnkCountClr l => exact memOk_of_eq (execLnkCountClr_mem l s) h
  | lnkLaneOvr l v => exact memOk_of_eq (execLnkLaneOvr_mem l v s) h
  | lnkInjCw l => exact memOk_of_eq (execLnkInjCw_mem l s) h
  | lnkInjCrc l => exact memOk_of_eq (execLnkInjCrc_mem l s) h
  | lnkPass l => exact memOk_of_eq (execLnkPass_mem l s) h
  | ownerDrainComplete l k => exact memOk_of_eq (execOwnerDrainComplete_mem l k s) h
  | boundaryStoneDrained l => exact execBoundaryStoneDrained_mem l s h
  | boundaryStoneConfirm l => exact execBoundaryStoneConfirm_mem l s h
  | ownerSwitchTick l k t => exact execOwnerSwitchTick_mem l k t s h
  | stoneTimeout l k t => exact memOk_of_eq (execStoneTimeout_mem l k t s) h
  | lnkReleaseStuck l => exact memOk_of_eq (execLnkReleaseStuck_mem l s) h
  | lnkEaseWrite l v => exact memOk_of_eq (execLnkEaseWrite_mem l v s) h
  | lnkCadDataRead l => exact memOk_of_eq (execLnkCadDataRead_mem l s) h
  | detourStart l t => exact memOk_of_eq (execDetourStart_mem l t s) h
  | detourEnd l t => exact memOk_of_eq (execDetourEnd_mem l t s) h
  | lanternReply l => exact execLanternReply_mem l s h
  | managementNotice l d => exact execManagementNotice_mem l d s h
  | startMessage l t => exact execStartMessage_mem l t s h
  | platChunk l => exact execPlatChunk_mem l s h
  | abandon l => exact execAbandon_mem l s h
  | startAckTimeout j t => exact execStartAckTimeout_mem j t s h
  | startHoldExpiry j t => exact execStartHoldExpiry_mem j t s h
  | ready l => exact execReady_mem l s h
  | go l t => exact execGo_mem l t s h
  | done l => exact execDone_mem l s h
  | abort l => exact execAbort_mem l s h
  | journalEntry l => exact execJournalEntry_mem l s h
  | datumExchangeStart l t => exact memOk_of_eq (execDatumExchangeStart_mem l t s) h
  | datumPulseEdge t => exact memOk_of_eq (execDatumPulseEdge_mem t s) h
  | referenceLost t => exact memOk_of_eq (execReferenceLost_mem t s) h
  | referenceBack t => exact memOk_of_eq (execReferenceBack_mem t s) h
  | holdLimitExpiry t => exact memOk_of_eq (execHoldLimitExpiry_mem t s) h
  | clkSetNs v => exact memOk_of_eq (execClkSetNs_mem v s) h
  | clkNsRead => exact memOk_of_eq (execClkNsRead_mem s) h
  | droopResponse k droop => exact memOk_of_eq (execDroopResponse_mem k droop s) h
  | droopHandback k => exact memOk_of_eq (execDroopHandback_mem k s) h
  | calendarPosition c lane pos shown => exact execCalendarPosition_mem c lane pos shown s h
  | tierReadDelivery p => exact execTierReadDelivery_mem p s h
  | refreshWindow c j cyc => exact memOk_of_eq (execRefreshWindow_mem c j cyc s) h
  | patrolScrub => exact memOk_of_eq (execPatrolScrub_mem s) h
  | memoryTempRead c t => exact memOk_of_eq (execMemoryTempRead_mem c t s) h
  | xxRetire c => exact execXxRetire_mem c s h
  | xxInjectCe c => exact memOk_of_eq (execXxInjectCe_mem c s) h
  | xxInjectUe c => exact memOk_of_eq (execXxInjectUe_mem c s) h
  | xxCountClr c => exact memOk_of_eq (execXxCountClr_mem c s) h
  | xxCalDataAccess c wr => exact memOk_of_eq (execXxCalDataAccess_mem c wr s) h
  | xxTrainReq c => exact memOk_of_eq (execXxTrainReq_mem c s) h
  | composition t d => exact execComposition_mem t d s h
  | stepRecordApply t => exact execStepRecordApply_mem t s h
  | parkMoveComplete t k d => exact execParkMoveComplete_mem t k d s h
  | promptStaged k => exact execPromptStaged_mem k s h
  | idleTtlExpiry k d => exact memOk_of_eq (execIdleTtlExpiry_mem k d s) h
  | parkTtlExpiry k d => exact memOk_of_eq (execParkTtlExpiry_mem k d s) h
  | submissionTailDoorbell r v => exact memOk_of_eq (execSubmissionTailDoorbell_mem r v s) h
  | completionHeadDoorbell r v => exact execCompletionHeadDoorbell_mem r v s h
  | openRing r block => exact execOpenRing_mem r block s h
  | closeRing r => exact execCloseRing_mem r s h
  | openAccount block => exact execOpenAccount_mem block s h
  | closeAccount a => exact execCloseAccount_mem a s h
  | setAccount a block => exact execSetAccount_mem a block s h
  | srvEn mask => exact memOk_of_eq (execSrvEn_mem mask s) h
  | srvStopNow mask => exact memOk_of_eq (execSrvStopNow_mem mask s) h
  | benchmarkDigestDone t slot mirror => exact execBenchmarkDigestDone_mem t slot mirror s h
  | drillStart k r c l j t => exact execDrillStart_mem k r c l j t s h
  | mcbDrillStopNow => exact execMcbDrillStopNow_mem s h
  | katSlot p t pass => exact execKatSlot_mem p t pass s h
  | katRerun p t pass => exact memOk_of_eq (execKatRerun_mem p t pass s) h
  | clockMonitorWindow k cycles t => exact execClockMonitorWindow_mem k cycles t s h
  | lockstepMismatch t => exact memOk_of_eq (execLockstepMismatch_mem t s) h
  | heartbeatSend t => exact memOk_of_eq (execHeartbeatSend_mem t s) h
  | heartbeatTimeout t => exact memOk_of_eq (execHeartbeatTimeout_mem t s) h
  | sfmLwdtKick mask t => exact memOk_of_eq (execSfmLwdtKick_mem mask t s) h
  | lanternWatchdogExpiry c t => exact execLanternWatchdogExpiry_mem c t s h
  | dieSensorRead temps t => exact memOk_of_eq (execDieSensorRead_mem temps t s) h
  | inputOvervoltage mv t => exact memOk_of_eq (execInputOvervoltage_mem mv t s) h
  | inputOvercurrent ca t => exact memOk_of_eq (execInputOvercurrent_mem ca t s) h
  | railOvervoltage rail permille t => exact memOk_of_eq (execRailOvervoltage_mem rail permille t s) h
  | sensingCompare mv ca rails t => exact memOk_of_eq (execSensingCompare_mem mv ca rails t s) h
  | inputDip ns t => exact memOk_of_eq (execInputDip_mem ns t s) h
  | inputLow mv => exact memOk_of_eq (execInputLow_mem mv s) h
  | sfmDarkNow => exact memOk_of_eq (execSfmDarkNow_mem s) h
  | sfmTractDarkNow mask => exact execSfmTractDarkNow_mem mask s h
  | coldStartPowerOn mv away => exact execColdStartPowerOn_mem mv away s h
  | startSequenceStepDone t dimms failed => exact execStartSequenceStepDone_mem t dimms failed s h
  | mcbCold => exact memOk_of_eq (execMcbCold_mem s) h
  | mcbWarm => exact memOk_of_eq (execMcbWarm_mem s) h
  | mcbAdopt sect => exact memOk_of_eq (execMcbAdopt_mem sect s) h
  | mcbFwStage => exact memOk_of_eq (execMcbFwStage_mem s) h
  | fwHandoverStageDone t ok => exact execFwHandoverStageDone_mem t ok s h
  | mcbRecoveryGo writes => exact execMcbRecoveryGo_mem writes s h
  | mcbRetest => exact memOk_of_eq (execMcbRetest_mem s) h
  | mcbQMark => exact memOk_of_eq (execMcbQMark_mem s) h
  | identity => exact memOk_of_eq (execIdentity_mem s) h
  | status => exact memOk_of_eq (execStatus_mem s) h
  | lastResult => exact memOk_of_eq (execLastResult_mem s) h
  | setCoord b pec => exact execSetCoord_mem b pec s h
  | getCoord => exact memOk_of_eq (execGetCoord_mem s) h
  | powerCap w pec => exact execPowerCap_mem w pec s h
  | powerRead => exact memOk_of_eq (execPowerRead_mem s) h
  | attestNonce nonce pec => exact execAttestNonce_mem nonce pec s h
  | attestRead off => exact memOk_of_eq (execAttestRead_mem off s) h
  | warmStart pec => exact memOk_of_eq (execWarmStart_mem pec s) h
  | coldStart pec => exact execColdStart_mem pec s h
  | standby pec => exact execStandby_mem pec s h
  | safetyLog k => exact memOk_of_eq (execSafetyLog_mem k s) h
  | alertResponse slot => exact memOk_of_eq (execAlertResponse_mem slot s) h
  | idnAttReq => exact memOk_of_eq (execIdnAttReq_mem s) h
  | attestationSigned t => exact execAttestationSigned_mem t s h
  | powerAverageUpdate avg t => exact memOk_of_eq (execPowerAverageUpdate_mem avg t s) h
  | pwrCapW v => exact memOk_of_eq (execPwrCapW_mem v s) h
  | rd addr lines tag credit => exact execRd_mem addr lines tag credit s h
  | cpl tag addr status data credit => exact execCpl_mem tag addr status data credit s h
  | wr addr data mask credit => exact execWr_mem addr data mask credit s h
  | idle credit => exact memOk_of_eq (execIdle_mem credit s) h
  | attachLaneFail j => exact memOk_of_eq (execAttachLaneFail_mem j s) h
  | attTrain => exact memOk_of_eq (execAttTrain_mem s) h
  | attWinWrite w base attr => exact memOk_of_eq (execAttWinWrite_mem w base attr s) h
  | attCountClr => exact memOk_of_eq (execAttCountClr_mem s) h
  | commandTailDoorbell v => exact memOk_of_eq (execCommandTailDoorbell_mem v s) h
  | reportHeadDoorbell v => exact execReportHeadDoorbell_mem v s h
  | startJob t => exact execStartJob_mem t s h
  | abortJob t => exact execAbortJob_mem t s h
  | drillWindow => exact execDrillWindow_mem s h
  | exportBlock => exact execExportBlock_mem s h
  | linkPass => exact execLinkPass_mem s h
  | easement => exact execEasement_mem s h
  | extest d => exact memOk_of_eq (execExtest_mem d s) h
  | idcode => exact memOk_of_eq (execIdcode_mem s) h
  | samplePreload d => exact memOk_of_eq (execSamplePreload_mem d s) h
  | dtmcs v => exact memOk_of_eq (execDtmcs_mem v s) h
  | dmi op addr data => exact execDmi_mem op addr data s h
  | dbgacc op addr data => exact execDbgacc_mem op addr data s h
  | token b => exact memOk_of_eq (execToken_mem b s) h
  | bypass b => exact memOk_of_eq (execBypass_mem b s) h
  | tokenExpiry t => exact memOk_of_eq (execTokenExpiry_mem t s) h
  | dbgHalt => exact execDbgHalt_mem s h
  | dbgResume => exact execDbgResume_mem s h
  | dbgStep => exact execDbgStep_mem s h
  | dbgLock => exact memOk_of_eq (execDbgLock_mem s) h
  | dbgBeaconSet b n => exact memOk_of_eq (execDbgBeaconSet_mem b n s) h
  | sfmLogDataRead => exact memOk_of_eq (execSfmLogDataRead_mem s) h
  | attachTrainingComplete mask => exact memOk_of_eq (execAttachTrainingComplete_mem mask s) h
  | memoryTrainingComplete c ok margin cached => exact memOk_of_eq (execMemoryTrainingComplete_mem c ok margin cached s) h
  | memoryControllerFailure c => exact execMemoryControllerFailure_mem c s h
  | coolantInletRead tin tout => exact memOk_of_eq (execCoolantInletRead_mem tin tout s) h
/-- Settles O5: a step runs the command at the front of the queue, or one cycle of the datum keeper, which touches no memory. -/
theorem stepKeepsMemoryCanonical : Obligations.StepKeepsMemoryCanonical := by
  intro s t h hstep
  have hmem : t.mem = memOf (step s) := by rw [hstep]; rfl
  rw [hmem, step]
  split
  · exact memOk_of_eq (State.keeperCycle_mem s) h
  · next c rest _ => exact exec_memOk c { s with pending := rest } h

/-! ### A command that files a report -/

/-- Tract 0 runs with a region in the memory of controller 8, and reports go to companion memory. -/
def reportingState : State :=
  { (State.reset.setFld Reg.TRC_STATE_CODE 0 3).setFld Reg.ATT_RPTQ_BASE 0 apertureBase with
    tractCfg := [(0, { ddr := [(0, 0, 1)] })] }

/-- The report of the tract's failure lies at the head of the queue: its KIND, with the phase (16 R393). -/
theorem memoryControllerFailure_writes_report :
    ∃ t, exec (.memoryControllerFailure 8) reportingState = .next t ∧ t.rd8 apertureBase = 130 ∧ reportingState.rd8 apertureBase = 0 :=
  ⟨_, rfl, by decide +kernel, rfl⟩

/-- Refutes O7: MEMORY_CONTROLLER_FAILURE reports the failure of the jobs whose tracts use the controller, and a report is written to
the report queue in companion memory, which the address map holds. -/
theorem not_commandsThatKeepMemory : ¬ Obligations.CommandsThatKeepMemory := by
  intro h
  obtain ⟨t, hexec, hafter, hbefore⟩ := memoryControllerFailure_writes_report
  obtain ⟨_, hsame⟩ := h _ _ t rfl hexec
  have hread := hsame apertureBase
  rw [hafter, hbefore] at hread
  exact absurd hread (by decide)

end Sys2Proof.Machine
end

/-!
Tier requests by their numbers (07 R159, R162, R164). The module numbers its requests apart, but the statements about calendar
positions and deliveries range over every state, also over those that number two requests alike: there both fail.
-/
section
namespace Sys2Proof.Machine

/-! ### A read and a write of the same number -/

/-- A request whose number a deferred write has counts as deferred already: it is neither counted nor marked. -/
theorem deferReq_of_deferred_write {s : State} {w : TierWrite} (hw : w ∈ s.tierWrites) (hd : w.deferred = true) {x : Nat × Nat}
    (hord : w.ord = x.1) (c lane p pos entry : Nat) : s.deferReq c lane p pos entry x = s := by
  have hany : (s.tierWrites.any fun w => w.ord == x.1 && w.deferred) = true :=
    List.any_eq_true.mpr ⟨w, hw, by rw [hord, hd, beq_self_eq_true]; rfl⟩
  rw [State.deferReq, hany, Bool.or_true, if_pos rfl]

/-- A read of parcel 0 at the start of DDR5 channel 0. -/
def numberedRead : TierRead := { ord := 3, parcel := 0, line := ddrBase }

/-- A write of parcel 1, accepted elsewhere after a deferral, of the same number. -/
def numberedWrite : TierWrite := { ord := 3, parcel := 1, line := hbmBase, accepted := true, deferred := true }

/-- Channel 0 is READY at a temperature that asks for refresh mode B where mode A is planned; position 570 of lane 0, in a window of
mode B alone, is parcel 0's for reads. -/
def sharedNumberState : State :=
  { (State.reset.setFld Reg.XX_STATE_CODE 8 xxReady).setFld Reg.XX_REF_NEED 8 1 with
    cal := [(calKey 8 0 570, 512)], tierReads := [numberedRead], tierWrites := [numberedWrite] }

/-- Nothing is listed as shown to other agents, so nothing becomes visible. -/
theorem sharedNumberState_publish :
    (sharedNumberState.publish fun w => [].contains w.line && !sharedNumberState.strict w.parcel) = sharedNumberState := by
  decide +kernel

theorem sharedNumberState_deferFirst :
    sharedNumberState.deferFirst 8 0 0 570 512 [(3, ddrBase)] = sharedNumberState := by
  have hreq : sharedNumberState.deferredReq 8 0 570 [(3, ddrBase)] = some (3, ddrBase) := by decide +kernel
  rw [State.deferFirst, hreq]
  exact deferReq_of_deferred_write List.mem_cons_self rfl rfl _ _ _ _ _

/-- The read is all that waits, and its bank is in refresh: the position has nothing to serve. -/
theorem sharedNumberState_serveRead : sharedNumberState.serveRead 8 0 0 570 512 = sharedNumberState := by
  have hreads : sharedNumberState.pendingReads 8 0 = [numberedRead] := by decide +kernel
  have hwrites : sharedNumberState.pendingWrites 8 0 = [] := by decide +kernel
  have hready : sharedNumberState.bankReady 8 0 ddrBase 570 = false := by decide +kernel
  have hpick : [(3, ddrBase)].filter (fun x => sharedNumberState.bankReady 8 0 x.2 570) = [] := by
    rw [List.filter_cons, hready]
    rfl
  have hlist : ([numberedRead].filter fun r => r.parcel == 0).map (fun r => (r.ord, r.line)) ++
      (([] : List TierWrite).filter fun w => w.parcel == 0 && w.needRead).map (fun w => (w.ord, w.line)) = [(3, ddrBase)] := rfl
  rw [State.serveRead, hreads, hwrites, hlist, hpick]
  exact sharedNumberState_deferFirst

/-- A read position of a parcel, where its controller serves. -/
theorem exec_readPosition {c : CtrlId} {lane pos : Nat} {shown : List Nat} {s v : State}
    (hv : (s.publish fun w => shown.contains w.line && !s.strict w.parcel) = v) (hs : v.xxServes c = true) (hpos : pos < positionsOf c)
    {e : Nat} (he : v.calEntry c lane pos = e) (hkind : calKind e = 1) (hdir : calDir e = 0) :
    exec (.calendarPosition c lane pos shown) s = .next (v.serveRead c lane (calOwner e) pos e) := by
  have hserved : ¬ (!v.xxServes c || decide (positionsOf c ≤ pos)) = true := by
    rw [hs, decide_eq_false (Nat.not_le.mpr hpos)]
    exact Bool.false_ne_true
  change execCalendarPosition c lane pos shown s = _
  rw [execCalendarPosition, hv, if_neg hserved, he]
  dsimp only
  rw [hkind, if_pos hdir]
  rfl

/-- The position leaves the read unmarked, and everything else as it was. -/
theorem sharedNumberState_calendarPosition :
    exec (.calendarPosition 8 0 570 []) sharedNumberState = .next sharedNumberState := by
  have hentry : sharedNumberState.calEntry 8 0 570 = 512 := by decide +kernel
  rw [exec_readPosition sharedNumberState_publish (by decide +kernel) (by decide) hentry rfl rfl]
  exact congrArg Host.Outcome.next sharedNumberState_serveRead

/-- Refutes O41: where a deferred write has a read's number, the position defers the read without marking it. -/
theorem not_calendarPositionsServe : ¬ Obligations.CalendarPositionsServe := by
  intro h
  have hpos := h 8 0 570 [] sharedNumberState
  rw [sharedNumberState_publish] at hpos
  obtain ⟨hreads, -⟩ := hpos (by decide +kernel) (by decide)
  have hpending : numberedRead ∈ sharedNumberState.pendingReads 8 0 := by decide +kernel
  have honly : ∀ x ∈ sharedNumberState.tierReads, x.ord = numberedRead.ord → x = numberedRead := by decide +kernel
  obtain ⟨-, hdefer⟩ := hreads numberedRead hpending (by decide +kernel) (by decide +kernel) (by decide +kernel) honly
    ⟨by decide +kernel, by decide +kernel, by decide +kernel⟩
  obtain ⟨t, hexec, hmarked, -⟩ := hdefer (by decide +kernel) rfl
  obtain rfl := Host.Outcome.next.inj (hexec.symm.trans sharedNumberState_calendarPosition)
  obtain ⟨-, hd⟩ := hmarked numberedRead List.mem_cons_self rfl
  exact absurd hd (by decide)

/-! ### A line asked for under a number in use -/

/-- The line of HBM that holds the index of gather 0 of parcel 0 has been read. -/
def indexRead : TierRead := { line := hbmBase + 64, data := some [0] }

/-- A read of the gather's source line, waiting under the same number. -/
def sourceRead : TierRead := { line := hbmBase }

/-- The gather needs its index alone before it can tell its source, and the number of the next request is again 0. -/
def reusedNumberState : State :=
  { State.reset.setEng 0 2 { flight := [{
      entry := { word := 0x82, ops := [.none, .desc (BitVec.ofNat 48 hbmBase) 0,
        .desc (BitVec.ofNat 48 (hbmBase + 64)) (BitVec.ofNat 256 (15 * 2 ^ 224))] }
      need := [hbmBase + 64] }] } with
    tierReads := [indexRead, sourceRead] }

/-- With its index delivered the gather asks for its source line, under the number that both reads had. -/
theorem reusedNumberState_tierReadDelivery :
    ∃ t, exec (.tierReadDelivery 0) reusedNumberState = .next t ∧ sourceRead ∈ t.tierReads := ⟨_, rfl, by decide +kernel⟩

/-- Refutes O42: a request takes the number of the line just delivered, and the read that waited under it is there again. -/
theorem not_memoryControllersServeAndObey : ¬ Obligations.MemoryControllersServeAndObey := by
  rintro ⟨hserve, -⟩
  obtain ⟨hdelivery, -⟩ := hserve reusedNumberState
  obtain ⟨t, hexec, -, hgone⟩ := hdelivery 0 indexRead 0 _ (by decide +kernel) (by decide +kernel) rfl
  obtain ⟨t', hexec', hmem⟩ := reusedNumberState_tierReadDelivery
  obtain rfl := Host.Outcome.next.inj (hexec.symm.trans hexec')
  exact (hgone sourceRead hmem).elim (absurd rfl) fun hnot => hnot (by decide +kernel)

end Sys2Proof.Machine
end

/-!
The passing of datum time (09 R227, R228, 11 R282): one cycle of the keeper, and a command that brings time forward, change datum, the
slew still to remove, the sample records that wait, and the registers that show the last two; all else stays.
-/
section
namespace Sys2Proof.Machine

/-! ### Registers that stay, whatever the unit -/

/-- Every register field but those listed reads the same, in every unit. -/
def SameFieldsBut (l : List Fld) (s t : State) : Prop := ∀ g j, g.idn ∉ l.map Fld.idn → t.fld g j = s.fld g j

theorem SameFieldsBut.refl (l : List Fld) (s : State) : SameFieldsBut l s s := fun _ _ _ => rfl

theorem SameFieldsBut.trans {l : List Fld} {s t u : State} (h : SameFieldsBut l s t) (h' : SameFieldsBut l t u) : SameFieldsBut l s u :=
  fun g j hg => (h' g j hg).trans (h g j hg)

theorem SameFieldsBut.ite {l : List Fld} {s a b : State} (c : Prop) [Decidable c] (ha : SameFieldsBut l s a) (hb : SameFieldsBut l s b) :
    SameFieldsBut l s (if c then a else b) := by
  split
  · exact ha
  · exact hb

theorem SameFieldsBut.foldl {α : Type} {l : List Fld} {g : State → α → State} (h : ∀ s x, SameFieldsBut l s (g s x)) (xs : List α)
    (s : State) : SameFieldsBut l s (xs.foldl g s) := by
  induction xs generalizing s with
  | nil => exact .refl l s
  | cons x xs ih => exact (h s x).trans (ih _)

theorem setFld_sameFieldsBut {l : List Fld} (s : State) {f : Fld} (u v : Nat) (h : f ∈ l) : SameFieldsBut l s (s.setFld f u v) :=
  fun _ _ hg => State.setFld_fld_ne _ _ _ _ _ _ fun hi => hg (hi ▸ List.mem_map_of_mem h)

theorem raise_sameFieldsBut {l : List Fld} (s : State) {f : Fld} (u : Nat) (h : f ∈ l) : SameFieldsBut l s (s.raise f u) :=
  setFld_sameFieldsBut s u 1 h

/-! ### What ticks change besides datum -/

/-- The registers that show the trim in force and the sample records dropped. -/
def tickFlds : List Fld := [Reg.CLK_TRIM_NOW, Reg.LNK_SAMPLE_DROP]

/-- t is s but for the slew left, the sample records that wait, and the registers of `tickFlds`. -/
def SameButTicks (s t : State) : Prop :=
  (∃ r c x, t = { s with regs := r, clk := { s.clk with slew := c }, samples := x }) ∧ SameFieldsBut tickFlds s t

theorem SameButTicks.refl (s : State) : SameButTicks s s := ⟨⟨_, _, _, rfl⟩, .refl _ s⟩

theorem SameButTicks.trans {s t u : State} (h : SameButTicks s t) (h' : SameButTicks t u) : SameButTicks s u := by
  obtain ⟨⟨_, _, _, rfl⟩, ht⟩ := h
  obtain ⟨⟨_, _, _, rfl⟩, hu⟩ := h'
  exact ⟨⟨_, _, _, rfl⟩, ht.trans hu⟩

theorem showTrim_sameFieldsBut {l : List Fld} (s : State) (h : Reg.CLK_TRIM_NOW ∈ l) : SameFieldsBut l s s.showTrim :=
  setFld_sameFieldsBut s _ _ h

theorem slewTicks_sameButTicks (s : State) (n : Nat) : SameButTicks s (s.slewTicks n) := by
  rw [State.slewTicks]
  split
  · exact .refl s
  · exact ⟨⟨_, _, _, rfl⟩, showTrim_sameFieldsBut { s with clk := _ } List.mem_cons_self⟩

theorem count_sampleDrop_sameButTicks (s : State) (u : Nat) : SameButTicks s (s.count Reg.LNK_SAMPLE_DROP u 1) :=
  ⟨⟨_, _, _, rfl⟩, setFld_sameFieldsBut s u _ (by simp [tickFlds])⟩

theorem foldl_count_sampleDrop_sameButTicks (xs : List Sample) (s : State) :
    SameButTicks s (xs.foldl (fun s x => s.count Reg.LNK_SAMPLE_DROP x.link 1) s) := by
  induction xs generalizing s with
  | nil => exact .refl s
  | cons x xs ih => exact (count_sampleDrop_sameButTicks s x.link).trans (ih _)

theorem expireSamples_sameButTicks (s : State) : SameButTicks s s.expireSamples :=
  SameButTicks.trans (t := { s with samples := _ }) ⟨⟨_, s.clk.slew, _, rfl⟩, fun _ _ _ => rfl⟩
    (foldl_count_sampleDrop_sameButTicks _ _)

/-! ### One cycle of the keeper -/

/-- What a cycle of the keeper adds to datum, from the fraction on, in 2^-16 ns: one nanosecond plus the trim. -/
def State.keeperSum (s : State) : Int := (s.datumFrac : Int) + 65536 + s.clk.freqTrim + slewPart s.clk.slew

theorem keeperCycle_sameButTicks (s : State) :
    SameButTicks { s with datum := s.datum + (s.keeperSum / 65536).toNat, datumFrac := (s.keeperSum % 65536).toNat } s.keeperCycle := by
  have hsum : s.keeperSum = (s.datumFrac : Int) + 65536 + (s.clk.freqTrim + slewPart s.clk.slew) := Int.add_assoc _ _ _
  rw [hsum]
  exact (slewTicks_sameButTicks _ _).trans (expireSamples_sameButTicks _)

/-- Settles O2: the keeper's sum goes into datum and its fraction, and ticks touch neither memory, wicks nor parcels. -/
theorem idleStepIsOneKeeperCycle : Obligations.IdleStepIsOneKeeperCycle := by
  intro s hpending hsum
  obtain ⟨⟨r, c, x, hcycle⟩, -⟩ := keeperCycle_sameButTicks s
  have hstep : step s = .next s.keeperCycle := by rw [step, hpending]
  refine ⟨s.keeperCycle, hstep, ?_⟩
  rw [hcycle]
  refine ⟨fun _ => rfl, ⟨fun _ _ _ => rfl, fun _ _ => rfl, fun _ _ => rfl⟩, hpending, fun _ => rfl, ?_⟩
  have hnonneg : 0 ≤ s.keeperSum := hsum
  change (s.datum + (s.keeperSum / 65536).toNat) * 65536 + (s.keeperSum % 65536).toNat = s.datum * 65536 + s.keeperSum.toNat
  omega

/-! ### A command that brings time forward -/

theorem at_sameButTicks {s : State} {t : Nat} (h : s.datum ≤ t) : SameButTicks { s with datum := t } (s.at t) := by
  rw [State.at, if_pos h]
  exact (slewTicks_sameButTicks _ _).trans (expireSamples_sameButTicks _)

theorem at_eq (s : State) (t : Nat) :
    ∃ d r c x, s.at t = { s with datum := d, regs := r, clk := { s.clk with slew := c }, samples := x } := by
  by_cases h : s.datum ≤ t
  · obtain ⟨⟨r, c, x, hr⟩, -⟩ := at_sameButTicks h
    exact ⟨t, r, c, x, hr⟩
  · exact ⟨_, _, _, _, if_neg h⟩

theorem at_fld (s : State) (t : Nat) {g : Fld} (j : Nat) (hg : g.idn ∉ tickFlds.map Fld.idn) : (s.at t).fld g j = s.fld g j := by
  by_cases h : s.datum ≤ t
  · obtain ⟨-, hfld⟩ := at_sameButTicks h
    exact hfld g j hg
  · rw [State.at, if_neg h]

theorem at_datum {s : State} {t : Nat} (h : s.datum ≤ t) : (s.at t).datum = t := by
  obtain ⟨⟨r, c, x, hr⟩, -⟩ := at_sameButTicks h
  rw [hr]

theorem at_clk (s : State) (t : Nat) : ∃ c, (s.at t).clk = { s.clk with slew := c } := by
  obtain ⟨d, r, c, x, h⟩ := at_eq s t
  exact ⟨c, by rw [h]⟩

theorem at_holdSince (s : State) (t : Nat) : (s.at t).clk.holdSince = s.clk.holdSince := by
  obtain ⟨c, h⟩ := at_clk s t
  rw [h]

theorem at_limitHit (s : State) (t : Nat) : (s.at t).clk.limitHit = s.clk.limitHit := by
  obtain ⟨c, h⟩ := at_clk s t
  rw [h]

theorem at_setAt (s : State) (t : Nat) : (s.at t).clk.setAt = s.clk.setAt := by
  obtain ⟨c, h⟩ := at_clk s t
  rw [h]

theorem at_exchTick (s : State) (t : Nat) : (s.at t).clk.exchTick = s.clk.exchTick := by
  obtain ⟨c, h⟩ := at_clk s t
  rw [h]

theorem at_link (s : State) (t k : Nat) : (s.at t).link k = s.link k := by
  obtain ⟨d, r, c, x, h⟩ := at_eq s t
  rw [h]
  rfl

theorem at_startVal (s : State) (t : Nat) (f : Fld) (u : Nat) : (s.at t).startVal f u = s.startVal f u := by
  obtain ⟨d, r, c, x, h⟩ := at_eq s t
  rw [h]
  rfl

/-- The expert-enable bits stand in a register that time leaves. -/
theorem at_expertOpen (s : State) (t : Nat) (f : Fld) : (s.at t).expertOpen f = s.expertOpen f := by
  rw [State.expertOpen, State.expertOpen, at_fld s t 0 (by decide)]

theorem at_ctl (s : State) (t : Nat) {f : Fld} (u : Nat) (hf : f.idn ∉ tickFlds.map Fld.idn) : (s.at t).ctl f u = s.ctl f u := by
  rw [State.ctl, State.ctl, at_expertOpen, at_fld s t u hf, at_startVal]

end Sys2Proof.Machine
end

/-!
The clock reference and its holdover (09 R220, R221, R229), and the droop circuits of townships and spine (R222).
-/
section
namespace Sys2Proof.Machine

/-! ### A township's clock state (09 R232) -/

/-- The registers of a township's clock. -/
def townClkFlds : List Fld := [Reg.TWN_CLK_STATE, Reg.TWN_PERIOD_PS, Reg.TWN_EVT_CLK]

theorem setTownClk_sameFieldsBut (s : State) (w st p : Nat) : SameFieldsBut townClkFlds s (s.setTownClk w st p) := by
  have hperiod (v : State) : SameFieldsBut townClkFlds v (v.setFld Reg.TWN_PERIOD_PS w p) :=
    setFld_sameFieldsBut v w p (by simp [townClkFlds])
  refine .ite _ (hperiod s) (SameFieldsBut.trans ?_ (raise_sameFieldsBut _ w (by simp [townClkFlds])))
  exact (setFld_sameFieldsBut s w st (by simp [townClkFlds])).trans (hperiod _)

theorem setFlds_pair_fld_fst (s : State) (u : Nat) {f g : Fld} (a b : Nat) (h : f.idn ≠ g.idn) :
    (s.setFlds u [(f, a), (g, b)]).fld f u = a % 2 ^ f.w :=
  (State.setFld_fld_ne _ _ _ _ _ _ h).trans (State.setFld_fld_same _ _ _ _)

theorem setTownClk_state (s : State) (w p : Nat) {st : Nat} (h : st < 2 ^ 3) : (s.setTownClk w st p).fld Reg.TWN_CLK_STATE w = st := by
  rw [State.setTownClk]
  split
  · next hst => rw [State.setFld_fld_ne _ _ _ _ _ _ (by decide), hst]
  · rw [State.raise_fld, State.setFld_fld_ne _ _ _ _ _ _ (by decide), setFlds_pair_fld_fst _ _ _ _ (by decide)]
    exact Nat.mod_eq_of_lt h

theorem setTownClk_period (s : State) (w st : Nat) {p : Nat} (h : p < 2 ^ Reg.TWN_PERIOD_PS.w) :
    (s.setTownClk w st p).fld Reg.TWN_PERIOD_PS w = p := by
  rw [State.setTownClk]
  split
  · rw [State.setFld_fld_same, Nat.mod_eq_of_lt h]
  · rw [State.raise_fld, State.setFld_fld_ne _ _ _ _ _ _ (by decide), State.setFlds_cons, State.setFlds_cons, State.setFlds_nil,
      State.setFld_fld_same, Nat.mod_eq_of_lt h]

theorem setTownClk_clk (s : State) (w st p : Nat) : (s.setTownClk w st p).clk = s.clk := by
  rw [State.setTownClk]
  split <;> rfl

theorem setTownClk_town (s : State) (w st p i : Nat) : (s.setTownClk w st p).town i = s.town i := by
  rw [State.setTownClk]
  split <;> rfl

/-! ### The reference, lost and back (09 R220, R221) -/

theorem townsRef_sameFieldsBut (s : State) (old new : Nat) : SameFieldsBut townClkFlds s (s.townsRef old new) :=
  .foldl (fun s w => .ite _ (setTownClk_sameFieldsBut s w new _) (.refl _ s)) _ s

theorem townsRef_clk (s : State) (old new : Nat) : (s.townsRef old new).clk = s.clk := by
  rw [State.townsRef]
  generalize List.range 32 = ws
  induction ws generalizing s with
  | nil => rfl
  | cons w ws ih =>
    rw [List.foldl_cons, ih]
    split
    · exact setTownClk_clk s w new _
    · rfl

/-- What the registers and the keeper hold once the reference's state has changed, its event set, and the townships with it. -/
theorem reference_changed (s : State) (ev : Fld)
    (hev : ev.idn ∉ townClkFlds.map Fld.idn ∧ ev.w = 1 ∧ ev.idn ≠ Reg.CLK_REF_STATE.idn) {r : Nat} (hr : r < 2 ^ 3) (old new : Nat) :
    let u := ((s.setFlds 0 [(Reg.CLK_REF_STATE, r), (Reg.CLK_HOLD_S, 0)]).raise ev 0).townsRef old new
    u.fld Reg.CLK_REF_STATE 0 = r ∧ u.clk = s.clk ∧ u.bit ev 0 = true := by
  obtain ⟨htown, hw, hne⟩ := hev
  refine ⟨?state, townsRef_clk _ old new, ?event⟩
  case state =>
    rw [townsRef_sameFieldsBut _ old new _ 0 (by decide), State.raise_fld, State.setFld_fld_ne _ _ _ _ _ _ hne.symm,
      setFlds_pair_fld_fst _ _ _ _ (by decide)]
    exact Nat.mod_eq_of_lt hr
  case event =>
    rw [State.bit, townsRef_sameFieldsBut _ old new _ 0 htown, State.raise_fld, State.setFld_fld_same, hw]
    rfl

theorem referenceLost_holdover {s : State} {t : Nat} (ht : s.datum ≤ t)
    (hr : s.fld Reg.CLK_REF_STATE 0 = 1 ∨ s.fld Reg.CLK_REF_STATE 0 = 2) :
    Completes (.referenceLost t) s fun u => u.fld Reg.CLK_REF_STATE 0 = 3 ∧ u.clk.holdSince = some t ∧
      u.bit Reg.CLK_EVT_REF_LOST 0 = true := by
  rw [← at_fld s t 0 (by decide)] at hr
  refine ⟨_, if_pos hr, ?_⟩
  obtain ⟨hstate, hclk, hevent⟩ := reference_changed
    { s.at t with clk := { (s.at t).clk with holdSince := some (s.at t).datum, limitHit := false } } Reg.CLK_EVT_REF_LOST (by decide)
    (show 3 < 2 ^ 3 by decide) 2 4
  exact ⟨hstate, by rw [hclk, at_datum ht], hevent⟩

theorem referenceBack_locks {s : State} (t : Nat) (hr : s.fld Reg.CLK_REF_STATE 0 = 3) :
    Completes (.referenceBack t) s fun u => u.fld Reg.CLK_REF_STATE 0 = 2 ∧ u.clk.holdSince = none ∧
      u.bit Reg.CLK_EVT_REF_BACK 0 = true := by
  rw [← at_fld s t 0 (by decide)] at hr
  refine ⟨_, if_pos hr, ?_⟩
  obtain ⟨hstate, hclk, hevent⟩ := reference_changed
    { s.at t with clk := { (s.at t).clk with holdSince := none, limitHit := false } } Reg.CLK_EVT_REF_BACK (by decide)
    (show 2 < 2 ^ 3 by decide) 4 2
  exact ⟨hstate, by rw [hclk], hevent⟩

/-! ### The limit of holdover (09 R221, R229) -/

/-- The registers that show datum unsure. -/
def unsureFlds : List Fld := [Reg.CLK_DATUM_STATE, Reg.CLK_EVT_UNSURE]

theorem unsure_sameFieldsBut {l : List Fld} (s : State) (h : unsureFlds ⊆ l) : SameFieldsBut l s s.unsure :=
  (setFld_sameFieldsBut s 0 5 (h List.mem_cons_self)).trans (raise_sameFieldsBut _ 0 (h (by simp [unsureFlds])))

theorem unsure_datumState (s : State) : s.unsure.fld Reg.CLK_DATUM_STATE 0 = 5 := by
  rw [State.unsure, State.raise_fld, State.setFld_fld_ne _ _ _ _ _ _ (by decide), State.setFld_fld_same]
  rfl

theorem checkSure_sameFieldsBut (s : State) : SameFieldsBut unsureFlds s s.checkSure :=
  .ite _ (unsure_sameFieldsBut s (List.Subset.refl _)) (.refl _ s)

theorem checkSure_unsure {s : State} (hlimit : s.clk.limitHit = true) (hlock : s.parentLocked = false)
    (hpulse : s.bit Reg.CLK_PULSE_EN 0 = false) : s.checkSure.fld Reg.CLK_DATUM_STATE 0 = 5 := by
  rw [State.checkSure, hlimit, hlock, hpulse]
  by_cases h : s.fld Reg.CLK_DATUM_STATE 0 = 5
  · simp [h]
  · simp [h, unsure_datumState]

/-- Holdover's limit has passed, and its event is set. -/
def State.limitPassed (s : State) : State := { s with clk := { s.clk with limitHit := true } }.raise Reg.CLK_EVT_HOLD_LIMIT 0

theorem limitPassed_fld (s : State) {g : Fld} (j : Nat) (hg : g.idn ≠ Reg.CLK_EVT_HOLD_LIMIT.idn) :
    s.limitPassed.fld g j = s.fld g j := by
  rw [State.limitPassed, State.raise_fld, State.setFld_fld_ne _ _ _ _ _ _ hg]
  rfl

theorem exec_holdLimitExpiry_due {s : State} {t b : Nat} (hb : (s.at t).clk.holdSince = some b)
    (hdue : (s.at t).fld Reg.CLK_REF_STATE 0 = 3 ∧ (s.at t).clk.limitHit = false ∧
      b + (s.at t).ctl Reg.CLK_HOLD_LIMIT 0 * 1000000000 ≤ (s.at t).datum) :
    exec (.holdLimitExpiry t) s = .next (s.at t).limitPassed.checkSure := by
  change execHoldLimitExpiry t s = _
  rw [execHoldLimitExpiry]
  dsimp only
  split
  · next b' hb' =>
    obtain rfl : b' = b := Option.some.inj (hb'.symm.trans hb)
    exact if_pos hdue
  · next hnone => exact absurd (hb.symm.trans hnone) (Option.some_ne_none b)

theorem holdLimitExpiry_unsure {s : State} {t b : Nat} (ht : s.datum ≤ t) (hr : s.fld Reg.CLK_REF_STATE 0 = 3)
    (hb : s.clk.holdSince = some b) (hlimit : s.clk.limitHit = false)
    (hpast : b + s.ctl Reg.CLK_HOLD_LIMIT 0 * 1000000000 ≤ t) :
    Completes (.holdLimitExpiry t) s fun u => u.bit Reg.CLK_EVT_HOLD_LIMIT 0 = true ∧
      (s.parentLocked = false → s.bit Reg.CLK_PULSE_EN 0 = false → u.fld Reg.CLK_DATUM_STATE 0 = 5) := by
  have hctl := at_ctl s t (f := Reg.CLK_HOLD_LIMIT) 0 (by decide)
  have hexec := exec_holdLimitExpiry_due ((at_holdSince s t).trans hb)
    ⟨(at_fld s t 0 (by decide)).trans hr, (at_limitHit s t).trans hlimit, by rw [hctl, at_datum ht]; exact hpast⟩
  refine ⟨_, hexec, ?event, fun hlock hpulse => checkSure_unsure rfl ?lock ?pulse⟩
  case event =>
    rw [State.bit, checkSure_sameFieldsBut _ _ 0 (by decide), State.limitPassed, State.raise_fld, State.setFld_fld_same]
    rfl
  case lock =>
    rw [State.parentLocked, limitPassed_fld _ 0 (by decide), at_fld s t 0 (by decide)]
    exact hlock
  case pulse =>
    rw [State.bit, limitPassed_fld _ 0 (by decide), at_fld s t 0 (by decide)]
    exact hpulse

/-! ### The droop circuit of a township (09 R222) -/

section
variable {s : State} {i : Nat} (hi : i < 32)
include hi

theorem droopThr_town : s.droopThr i = 100 * s.ctl Reg.TWN_DROOP_THR i := by rw [State.droopThr, if_neg (by omega)]

theorem droopHold_town : s.droopHold i = s.ctl Reg.TWN_DROOP_HOLD i := if_neg (by omega)

theorem setAbove_town (a : Option Nat) : s.setAbove i a = s.setTown i { s.town i with above := a } := if_neg (by omega)

theorem drooping_town (h : s.fld Reg.TWN_CLK_STATE i = 3) : s.drooping i = some (s.fld Reg.TWN_PERIOD_PS i, (s.town i).above) := by
  rw [State.drooping, if_neg (by omega), if_pos h]

/-- A droop that begins counts, sets its event, and moves the clock to the droop oscillator. -/
theorem droopClock_begins (h : s.fld Reg.TWN_CLK_STATE i = 2 ∨ s.fld Reg.TWN_CLK_STATE i = 4) {p : Nat}
    (hp : p < 2 ^ Reg.TWN_PERIOD_PS.w) :
    (s.droopClock i p).fld Reg.TWN_CLK_STATE i = 3 ∧ (s.droopClock i p).fld Reg.TWN_PERIOD_PS i = p ∧
      (s.droopClock i p).bit Reg.TWN_EVT_DROOP i = true ∧
      (s.droopClock i p).fld Reg.TWN_DROOP_EVENTS i = satAdd Reg.TWN_DROOP_EVENTS.w (s.fld Reg.TWN_DROOP_EVENTS i) 1 ∧
      (s.droopClock i p).town i = s.town i := by
  obtain ⟨m, hclock⟩ : ∃ m, s.droopClock i p =
      (((s.count Reg.TWN_DROOP_EVENTS i 1).raise Reg.TWN_EVT_DROOP i).setTownClk i 3 p).setFld Reg.TWN_DROOP_MAXP i m := by
    rw [State.droopClock, if_neg (by omega), if_pos (by omega), if_neg (by omega)]
    exact ⟨_, rfl⟩
  have hkeep := setTownClk_sameFieldsBut ((s.count Reg.TWN_DROOP_EVENTS i 1).raise Reg.TWN_EVT_DROOP i) i 3 p
  rw [hclock]
  refine ⟨?state, ?period, ?event, ?count, ?town⟩
  case state => rw [State.setFld_fld_ne _ _ _ _ _ _ (by decide), setTownClk_state _ i p (by decide)]
  case period => rw [State.setFld_fld_ne _ _ _ _ _ _ (by decide), setTownClk_period _ i 3 hp]
  case event =>
    rw [State.bit, State.setFld_fld_ne _ _ _ _ _ _ (by decide), hkeep _ i (by decide), State.raise_fld, State.setFld_fld_same]
    rfl
  case count =>
    rw [State.setFld_fld_ne _ _ _ _ _ _ (by decide), hkeep _ i (by decide), State.raise_fld, State.setFld_fld_ne _ _ _ _ _ _ (by decide),
      count_fld_same]
  case town => rw [State.setFld_town, setTownClk_town, State.raise_town, State.count_town]

end

/-- The droop oscillator's period is reckoned from the period that the cap stretch gives the township. -/
theorem droopResponse_lengthens (i : Fin 32) {s : State} {droop : Nat}
    (h : s.fld Reg.TWN_CLK_STATE i = 2 ∨ s.fld Reg.TWN_CLK_STATE i = 4) (hd : 100 * s.ctl Reg.TWN_DROOP_THR i < droop)
    (hp : droopPeriod (s.town i).period droop < 2 ^ Reg.TWN_PERIOD_PS.w) :
    Completes (.droopResponse (i.castLE (by decide)) droop) s fun u => u.fld Reg.TWN_CLK_STATE i = 3 ∧
      u.fld Reg.TWN_PERIOD_PS i = droopPeriod (s.town i).period droop ∧ u.bit Reg.TWN_EVT_DROOP i = true ∧
      u.fld Reg.TWN_DROOP_EVENTS i = satAdd Reg.TWN_DROOP_EVENTS.w (s.fld Reg.TWN_DROOP_EVENTS i) 1 ∧ (u.town i).above = none := by
  have hexec : exec (.droopResponse (i.castLE (by decide)) droop) s =
      .next ((s.setTown i { s.town i with above := none }).droopClock i (droopPeriod (s.town i).period droop)) := by
    change execDroopResponse _ droop s = _
    rw [execDroopResponse, Fin.val_castLE, droopThr_town i.isLt, if_pos hd, if_neg (by omega), setAbove_town i.isLt]
    rfl
  obtain ⟨hstate, hperiod, hevent, hcount, htown⟩ :=
    droopClock_begins (s := s.setTown i { s.town i with above := none }) i.isLt h hp
  exact ⟨_, hexec, hstate, hperiod, hevent, hcount, by rw [htown, State.setTown_town_same]⟩

theorem droopResponse_holds (i : Fin 32) {s : State} {droop : Nat} (h : s.fld Reg.TWN_CLK_STATE i = 3) (ha : (s.town i).above = none)
    (hd : droop ≤ 100 * s.ctl Reg.TWN_DROOP_THR i) :
    Completes (.droopResponse (i.castLE (by decide)) droop) s fun u =>
      u.fld Reg.TWN_CLK_STATE i = 3 ∧ (u.town i).above = some s.datum := by
  have hexec : exec (.droopResponse (i.castLE (by decide)) droop) s = .next (s.setTown i { s.town i with above := some s.datum }) := by
    change execDroopResponse _ droop s = _
    rw [execDroopResponse, Fin.val_castLE, droopThr_town i.isLt, if_neg (by omega), drooping_town i.isLt h, ha, setAbove_town i.isLt]
    rfl
  exact ⟨_, hexec, h, by rw [State.setTown_town_same]⟩

section
variable (i : Fin 32) {s : State} {a : Nat} (h : s.fld Reg.TWN_CLK_STATE i = 3) (ha : (s.town i).above = some a)
include h ha

/-- The edge goes back to the generator, which is in holdover while the reference is lost. -/
theorem droopHandback_returns
    (hpast : 1000 * a + s.ctl Reg.TWN_DROOP_HOLD i * s.fld Reg.TWN_PERIOD_PS i ≤ 1000 * s.datum) :
    Completes (.droopHandback (i.castLE (by decide))) s fun u =>
      u.fld Reg.TWN_CLK_STATE i = if s.fld Reg.CLK_REF_STATE 0 = 3 then 4 else 2 := by
  have hexec : exec (.droopHandback (i.castLE (by decide))) s = .next ((s.setTown i { s.town i with above := none }).setTownClk i
      (if s.fld Reg.CLK_REF_STATE 0 = 3 then 4 else 2) (s.town i).period) := by
    change execDroopHandback _ s = _
    rw [execDroopHandback, Fin.val_castLE, drooping_town i.isLt h, ha]
    dsimp only
    rw [droopHold_town i.isLt, if_neg (by omega), if_neg (by omega), setAbove_town i.isLt, State.setTown_town_same]
    rfl
  exact ⟨_, hexec, setTownClk_state _ i _ (by split <;> decide)⟩

theorem droopHandback_waits
    (hnot : 1000 * s.datum < 1000 * a + s.ctl Reg.TWN_DROOP_HOLD i * s.fld Reg.TWN_PERIOD_PS i) :
    Completes (.droopHandback (i.castLE (by decide))) s fun u => u.fld Reg.TWN_CLK_STATE i = 3 := by
  refine ⟨s, ?_, h⟩
  change execDroopHandback _ s = _
  rw [execDroopHandback, Fin.val_castLE, drooping_town i.isLt h, ha]
  dsimp only
  rw [droopHold_town i.isLt, if_pos hnot]
  rfl

end

/-! ### The droop circuit of the spine (09 R222) -/

/-- No period is shorter than its base, nor longer than 15 % above it. -/
theorem droopPeriod_bounds (base droop : Nat) : base ≤ droopPeriod base droop ∧ 100 * droopPeriod base droop ≤ 115 * base := by
  rw [droopPeriod]
  omega

theorem droopResponse_spine (s : State) {droop : Nat} (h : 300 < droop) :
    Completes (.droopResponse 32 droop) s fun u => u.clk.spineDroop = true ∧ s.capPeriod ≤ u.clk.spinePeriod ∧
      100 * u.clk.spinePeriod ≤ 115 * s.capPeriod :=
  ⟨_, if_pos h, rfl, droopPeriod_bounds s.capPeriod droop⟩

theorem droopHandback_spine {s : State} {a : Nat} (hd : s.clk.spineDroop = true) (ha : s.clk.spineAbove = some a)
    (hpast : 1000 * a + 32 * s.clk.spinePeriod ≤ 1000 * s.datum) :
    Completes (.droopHandback 32) s fun u => u.clk.spineDroop = false ∧ u.clk.spinePeriod = s.capPeriod := by
  have hdroop : s.drooping 32 = some (s.clk.spinePeriod, some a) := by rw [State.drooping, if_pos rfl, hd, if_pos rfl, ha]
  have hexec : exec (.droopHandback 32) s = .next { s.setAbove 32 none with
      clk := { (s.setAbove 32 none).clk with spineDroop := false, spinePeriod := s.capPeriod } } := by
    change execDroopHandback 32 s = _
    rw [execDroopHandback, show ((32 : Fin 33) : Nat) = 32 from rfl, hdroop]
    exact if_neg (Nat.not_lt.mpr hpast)
  exact ⟨_, hexec, rfl, rfl⟩

end Sys2Proof.Machine
end

/-!
Datum time (09 R227 to R231): setting and reading it, pulse edges, and the exchange of stamps over links.
-/
section
namespace Sys2Proof.Machine

/-! ### Steps of datum (09 R228, R231) -/

theorem mayStep_congr {s t : State} (h : ∀ i, t.fld Reg.TRC_STATE_CODE i = s.fld Reg.TRC_STATE_CODE i) : t.mayStep = s.mayStep := by
  rw [State.mayStep, State.mayStep]
  simp only [h]

theorem at_mayStep (s : State) (t : Nat) : (s.at t).mayStep = s.mayStep := mayStep_congr fun i => at_fld s t i (by decide)

theorem stepDatum_stepped (s : State) (v : Nat) : (s.stepDatum v).bit Reg.CLK_EVT_STEPPED 0 = true := by
  rw [State.bit, State.stepDatum, State.raise_fld, State.setFld_fld_same]
  rfl

theorem stepDatum_sameFieldsBut {l : List Fld} (s : State) (v : Nat) (h : Reg.CLK_EVT_STEPPED ∈ l) : SameFieldsBut l s (s.stepDatum v) :=
  raise_sameFieldsBut { s with datum := v % 2 ^ 64, datumFrac := 0 } 0 h

theorem regError_datum (s : State) (g : Agent) (a : Nat) : (s.regError g a).datum = s.datum := rfl

theorem regError_event (s : State) (g : Agent) (a : Nat) : (s.regError g a).bit Reg.MCB_EVT_REG_ERR 0 = true := by
  rw [State.bit, State.regError, State.raise_fld, State.setFld_fld_same]
  rfl

theorem exec_clkSetNs {s : State} (hdark : s.moduleDark = false) (v : BitVec 64) :
    exec (.clkSetNs v) s = .next (if s.expertOpen Reg.CLK_SET_NS then s.clkSetNs .lantern v.toNat else s) := by
  change execClkSetNs v s = _
  rw [execClkSetNs, hdark]
  cases s.expertOpen Reg.CLK_SET_NS <;> rfl

theorem clkSetNs_steps {s : State} (hstep : s.mayStep = true) (g : Agent) {v : Nat} (hv : v < 2 ^ 64) :
    (s.clkSetNs g v).datum = v ∧ (s.clkSetNs g v).bit Reg.CLK_EVT_STEPPED 0 = true ∧
      (s.clkSetNs g v).fld Reg.CLK_DATUM_STATE 0 ≠ 0 := by
  have hdatum : (s.stepDatum v).datum = v := Nat.mod_eq_of_lt hv
  rw [State.clkSetNs, if_pos hstep]
  dsimp only
  split
  · rw [State.setFld_datum, State.bit, State.setFld_fld_ne _ _ _ _ _ _ (by decide), State.setFld_fld_same]
    exact ⟨hdatum, stepDatum_stepped s v, by decide⟩
  · next hstate => exact ⟨hdatum, stepDatum_stepped s v, hstate⟩

theorem clkSetNs_refused {s : State} (hstep : s.mayStep = false) (g : Agent) (v : Nat) :
    (s.clkSetNs g v).datum = s.datum ∧ (s.clkSetNs g v).bit Reg.MCB_EVT_REG_ERR 0 = true := by
  rw [State.clkSetNs, hstep]
  exact ⟨regError_datum s _ _, regError_event s _ _⟩

theorem clkNsRead_latches {s : State} (hdark : s.moduleDark = false) :
    Completes .clkNsRead s fun u => u.lastRead = BitVec.ofNat 64 s.datum ∧ u.fld Reg.CLK_FRAC 0 = s.datumFrac % 2 ^ 16 ∧
      u.datum = s.datum := by
  have hexec : exec .clkNsRead s = .next s.clkNsRead := by
    change execClkNsRead s = _
    rw [execClkNsRead, State.lit, hdark]
    rfl
  exact ⟨_, hexec, rfl, State.setFld_fld_same _ _ _ _, rfl⟩

/-! ### Discipline (09 R228, R229) -/

/-- The registers that a measured offset, and discipline by it, may write. -/
def disciplineFlds : List Fld :=
  [Reg.CLK_OFS_PS, Reg.CLK_TRIM_NOW, Reg.CLK_DATUM_STATE, Reg.CLK_EVT_STEPPED, Reg.CLK_EVT_UNSURE]

theorem drawTrim_sameFieldsBut (s : State) : SameFieldsBut disciplineFlds s s.drawTrim :=
  showTrim_sameFieldsBut { s.draw.2 with clk := _ } (by simp [disciplineFlds])

theorem discipline_of_small (s : State) {off : Int} (h : off.natAbs ≤ 1600) (st : Nat) : s.discipline off st =
    { s.drawTrim with clk := { s.drawTrim.clk with slew := -2 * off } }.showTrim.setFld Reg.CLK_DATUM_STATE 0 st :=
  if_neg (Nat.not_lt.mpr h)

theorem discipline_sameFieldsBut (s : State) (off : Int) (st : Nat) : SameFieldsBut disciplineFlds s (s.discipline off st) := by
  have hstate (v : State) : SameFieldsBut disciplineFlds v (v.setFld Reg.CLK_DATUM_STATE 0 st) :=
    setFld_sameFieldsBut v 0 st (by simp [disciplineFlds])
  refine (drawTrim_sameFieldsBut s).trans (.ite _ (.ite _ ?step (unsure_sameFieldsBut _ ?unsure)) ?slew)
  case step => exact (stepDatum_sameFieldsBut _ _ (by simp [disciplineFlds])).trans (hstate _)
  case unsure => simp [unsureFlds, disciplineFlds]
  case slew =>
    refine SameFieldsBut.trans ?_ (hstate _)
    exact showTrim_sameFieldsBut { s.drawTrim with clk := _ } (by simp [disciplineFlds])

theorem toPs_fld (s : State) (x : Int) (g : Fld) (j : Nat) : (s.toPs x).2.fld g j = s.fld g j := by
  rw [State.toPs]
  split <;> rfl

/-! ### Pulse edges (09 R227) -/

/-- The error in nanoseconds that a pulse edge shows at datum d, against the nearest pulse: in 16 bits, saturating. -/
def pulseErr (d : Nat) : Nat :=
  wrapTo 16 (max (-32768) (min 32767 (if d % 1048576 < 524288 then ((d % 1048576 : Nat) : Int) else ((d % 1048576 : Nat) : Int) - 1048576)))

theorem pulseErr_of_small {d : Nat} (h : d % 1048576 < 32768) : pulseErr d = d % 1048576 := by
  rw [pulseErr, if_pos (by omega), wrapTo]
  omega

/-- Management's request to set datum at the next pulse edge is gone. -/
def State.setTaken (s : State) : State := { s with clk := { s.clk with setAt := none } }

theorem exists_done_ite {P : State → Prop} (c : Prop) [Decidable c] {a b : State} (ha : P a) (hb : P b) :
    ∃ u, (if c then done a else done b) = .next u ∧ P u := by
  split
  · exact ⟨a, rfl, ha⟩
  · exact ⟨b, rfl, hb⟩

section
variable {s : State} {t : Nat}

theorem exec_datumPulseEdge_set {v : Nat} (hset : s.clk.setAt = some v) : exec (.datumPulseEdge t) s =
    .next (if s.mayStep then ((s.at t).setTaken.stepDatum v).setFld Reg.CLK_DATUM_STATE 0 1 else (s.at t).setTaken) := by
  have hmay : (s.at t).setTaken.mayStep = s.mayStep := at_mayStep s t
  rw [← hmay]
  change execDatumPulseEdge t s = _
  rw [execDatumPulseEdge]
  dsimp only
  split
  · next v' hv' =>
    obtain rfl : v' = v := Option.some.inj (hv'.symm.trans ((at_setAt s t).trans hset))
    exact (apply_ite Host.Outcome.next _ _ _).symm
  · next hnone => exact absurd (hset.symm.trans ((at_setAt s t).symm.trans hnone)) (Option.some_ne_none v)

theorem datumPulseEdge_sets {v : Nat} (hset : s.clk.setAt = some v) (hstep : s.mayStep = true) :
    Completes (.datumPulseEdge t) s fun u => u.datum = v % 2 ^ 64 ∧ u.clk.setAt = none ∧ u.fld Reg.CLK_DATUM_STATE 0 = 1 :=
  ⟨_, by rw [exec_datumPulseEdge_set hset, if_pos hstep], rfl, rfl, State.setFld_fld_same _ _ _ _⟩

theorem datumPulseEdge_drops {v : Nat} (hset : s.clk.setAt = some v) (hstep : s.mayStep = false) :
    Completes (.datumPulseEdge t) s fun u => u.clk.setAt = none ∧
      u.fld Reg.CLK_DATUM_STATE 0 = s.fld Reg.CLK_DATUM_STATE 0 ∧ (s.datum ≤ t → u.datum = t) :=
  ⟨(s.at t).setTaken, by rw [exec_datumPulseEdge_set hset, hstep, if_neg Bool.false_ne_true], rfl, at_fld s t 0 (by decide), at_datum⟩

section
variable (hset : s.clk.setAt = none)
include hset

theorem exec_datumPulseEdge_unused (hpulse : s.bit Reg.CLK_PULSE_EN 0 = false) : exec (.datumPulseEdge t) s = .next (s.at t) := by
  have hoff : (s.at t).bit Reg.CLK_PULSE_EN 0 = false := by rw [State.bit, at_fld s t 0 (by decide)]; exact hpulse
  change execDatumPulseEdge t s = _
  rw [execDatumPulseEdge]
  dsimp only
  split
  · next v hv => exact absurd (hv.symm.trans ((at_setAt s t).trans hset)) (Option.some_ne_none v)
  · rw [hoff]
    rfl

theorem exec_datumPulseEdge_measures (hpulse : s.bit Reg.CLK_PULSE_EN 0 = true) : ∃ u, exec (.datumPulseEdge t) s = .next u ∧
    SameFieldsBut disciplineFlds ((s.at t).setFld Reg.CLK_PULSE_ERR 0 (pulseErr (s.at t).datum)) u := by
  have hon : (s.at t).bit Reg.CLK_PULSE_EN 0 = true := by rw [State.bit, at_fld s t 0 (by decide)]; exact hpulse
  change ∃ u, execDatumPulseEdge t s = _ ∧ _
  rw [execDatumPulseEdge]
  dsimp only
  split
  · next v hv => exact absurd (hv.symm.trans ((at_setAt s t).trans hset)) (Option.some_ne_none v)
  · rw [if_pos hon]
    refine exists_done_ite _ (SameFieldsBut.trans ?_ (discipline_sameFieldsBut _ _ 2)) (.refl _ _)
    exact SameFieldsBut.trans (fun g j _ => toPs_fld _ _ g j) (setFld_sameFieldsBut _ 0 _ (by simp [disciplineFlds]))

theorem datumPulseEdge_shows_error (ht : s.datum ≤ t) (hpulse : s.bit Reg.CLK_PULSE_EN 0 = true) (hsmall : t % 1048576 < 32768) :
    Completes (.datumPulseEdge t) s fun u => u.fld Reg.CLK_PULSE_ERR 0 = t % 1048576 := by
  obtain ⟨u, hexec, hu⟩ := exec_datumPulseEdge_measures (t := t) hset hpulse
  refine ⟨u, hexec, ?_⟩
  dsimp only
  rw [hu _ 0 (by decide), State.setFld_fld_same, at_datum ht, pulseErr_of_small hsmall]
  exact Nat.mod_eq_of_lt (by simp only [Reg.CLK_PULSE_ERR]; omega)

theorem datumPulseEdge_unused (hpulse : s.bit Reg.CLK_PULSE_EN 0 = false) :
    Completes (.datumPulseEdge t) s fun u => u.fld Reg.CLK_PULSE_ERR 0 = s.fld Reg.CLK_PULSE_ERR 0 ∧
      u.fld Reg.CLK_DATUM_STATE 0 = s.fld Reg.CLK_DATUM_STATE 0 :=
  ⟨_, exec_datumPulseEdge_unused hset hpulse, at_fld s t 0 (by decide), at_fld s t 0 (by decide)⟩

end

end

/-! ### Exchange of stamps (09 R228) -/

/-- A datum unit waits on link l for a slack unit. -/
def State.queueDatum (s : State) (l : Nat) (a : List Nat) : State :=
  s.setLink l { s.link l with datumQ := (s.link l).datumQ ++ [{ kind := 0x20, args := a }] }

theorem queueDatum_datumQ (s : State) (l : Nat) (a : List Nat) :
    ((s.queueDatum l a).link l).datumQ = (s.link l).datumQ ++ [{ kind := 0x20, args := a }] :=
  congrArg Link.datumQ (State.setLink_link_same _ _ _)

/-- The root starts the first exchange on a link whose sender carries data. -/
theorem datumExchangeStart_queues {l : LinkId} {s : State} {t : Nat}
    (htx : s.fld Reg.LNK_TX_STATE l = 2 ∨ s.fld Reg.LNK_TX_STATE l = 3 ∨ s.fld Reg.LNK_TX_STATE l = 4)
    (hfirst : tabGet 0 s.clk.exchTick l = 0) (hroot : s.fld Reg.CLK_ROOT 0 = 1) (ht : s.datum ≤ t) :
    Completes (.datumExchangeStart l t) s fun u =>
      (u.link l).datumQ = (s.link l).datumQ ++ [{ kind := 0x20, args := [0, 0, 0, 0] }] ∧
      tabGet 0 u.clk.exchTick l = t / 2048 + 1 := by
  rw [← at_fld s t l (by decide)] at htx
  rw [← at_exchTick s t] at hfirst
  have hparent : ¬((s.at t).fld Reg.CLK_ROOT 0 = 0 ∧ (s.at t).fld Reg.CLK_PARENT 0 = l.val) := by
    rw [at_fld s t 0 (by decide), hroot]
    exact fun h => absurd h.1 (by decide)
  refine ⟨_, if_pos ⟨htx, .inl hfirst, hparent⟩, ?queue, ?tick⟩
  case queue => exact (queueDatum_datumQ (s.at t) l [0, 0, 0, 0]).trans (by rw [at_link])
  case tick => exact (tabGet_tabPut_same _ _ _ _).trans (congrArg (fun d => d / 2048 + 1) (at_datum ht))

section
variable {s : State} {l : LinkId}

/-- A module answers the first unit of an exchange with the stamps of its coming and of the reply's. -/
theorem datumUnit_answers (t1 now : Nat) (hroot : s.fld Reg.CLK_ROOT 0 = 0) (hparent : s.fld Reg.CLK_PARENT 0 = l.val)
    (hlost : s.clk.parentLost = false) : Completes (.datumUnit l t1 0 0 0 now) s fun u =>
      (u.link l).datumQ = (s.link l).datumQ ++ [{ kind := 0x20, args := [t1, now, 0, 0] }] := by
  have hreply : s.datumUnit l t1 0 0 0 now = s.queueDatum l [t1, now, 0, 0] := by
    rw [State.datumUnit, if_pos rfl, if_pos ⟨hroot, hparent, hlost⟩]
    rfl
  exact ⟨_, congrArg Host.Outcome.next hreply, queueDatum_datumQ s l _⟩

theorem datumUnit_returns (t1 : Nat) {t2 : Nat} (t3 now : Nat) (h2 : t2 ≠ 0) : Completes (.datumUnit l t1 t2 t3 0 now) s fun u =>
    (u.link l).datumQ = (s.link l).datumQ ++ [{ kind := 0x20, args := [t1, t2, t3, now] }] := by
  have hreply : s.datumUnit l t1 t2 t3 0 now = s.queueDatum l [t1, t2, t3, now] := by
    rw [State.datumUnit, if_neg h2, if_pos rfl]
    rfl
  exact ⟨_, congrArg Host.Outcome.next hreply, queueDatum_datumQ s l _⟩

theorem datumUnit_disciplines {t1 t2 t3 t4 : Nat} (now : Nat) (hroot : s.fld Reg.CLK_ROOT 0 = 0) (hparent : s.fld Reg.CLK_PARENT 0 = l.val)
    (hlost : s.clk.parentLost = false) (h2 : t2 ≠ 0) (h4 : t4 ≠ 0)
    (hsmall : ((t2 : Int) - t1 - (t4 - t3)).natAbs ≤ 1600) : Completes (.datumUnit l t1 t2 t3 t4 now) s fun u =>
      u.clk.slew = -2 * ((t2 : Int) - t1 - (t4 - t3)) ∧ u.fld Reg.CLK_DATUM_STATE 0 = 3 ∧ u.fld Reg.CLK_PARENT_NOW 0 = l := by
  refine ⟨s.datumUnit l t1 t2 t3 t4 now, rfl, ?_⟩
  rw [State.datumUnit]
  dsimp only
  rw [if_neg h2, if_neg h4, if_pos ⟨hroot, hparent, hlost⟩]
  refine ⟨?slew, ?state, ?parent⟩
  case slew => rw [discipline_of_small _ hsmall]; rfl
  case state => rw [discipline_of_small _ hsmall, State.setFld_fld_same]; rfl
  case parent =>
    rw [discipline_sameFieldsBut _ _ 3 _ 0 (by decide)]
    exact (State.setFld_fld_same _ _ _ _).trans (Nat.mod_eq_of_lt (by simp only [Reg.CLK_PARENT_NOW]; omega))

end

/-- Settles O30, from one law per command and case: the reference and the droop circuits first, then datum time and the exchange. -/
theorem datumReferenceAndExchange : Obligations.DatumReferenceAndExchange := by
  refine ⟨fun s t ht => ⟨?lost, ?back, ?limit, ?droop, ?above, ?handback, ?spineDroop, ?spineHandback⟩,
    fun s hdark => ⟨?set, ?refused, ?closed, ?read, ?drop, ?error, ?pulse, ?unused, ?start, ?answer, ?returns, ?trim⟩⟩
  case lost => exact referenceLost_holdover ht
  case back => exact referenceBack_locks t
  case limit => exact fun b hr hb hlimit hpast => holdLimitExpiry_unsure ht hr hb hlimit hpast
  case droop => exact fun i droop h hd hp => droopResponse_lengthens i h hd hp
  case above => exact fun i droop h ha hd => droopResponse_holds i h ha hd
  case handback => exact fun i a h ha => ⟨droopHandback_returns i h ha, droopHandback_waits i h ha⟩
  case spineDroop => exact fun droop h => droopResponse_spine s h
  case spineHandback => exact fun a hd ha hpast => droopHandback_spine hd ha hpast
  case set => exact fun v hopen hstep => ⟨_, by rw [exec_clkSetNs hdark, if_pos hopen], clkSetNs_steps hstep .lantern v.isLt⟩
  case refused => exact fun v hopen hstep => ⟨_, by rw [exec_clkSetNs hdark, if_pos hopen], clkSetNs_refused hstep .lantern v.toNat⟩
  case closed => exact fun v hclosed => by rw [exec_clkSetNs hdark, hclosed]; rfl
  case read => exact clkNsRead_latches hdark
  case drop => exact fun t v hset hstep => datumPulseEdge_drops hset hstep
  case error => exact fun t ht hset hpulse hsmall => datumPulseEdge_shows_error hset ht hpulse hsmall
  case pulse => exact fun t v hset hstep => datumPulseEdge_sets hset hstep
  case unused => exact fun t hset hpulse => datumPulseEdge_unused hset hpulse
  case start => exact fun l t htx hfirst hroot ht => datumExchangeStart_queues htx hfirst hroot ht
  case answer => exact fun l t1 now hroot hparent hlost => datumUnit_answers t1 now hroot hparent hlost
  case returns => exact fun l t1 t2 t3 now h2 => datumUnit_returns t1 t3 now h2
  case trim => exact fun l t1 t2 t3 t4 now hroot hparent hlost h2 h4 hsmall => datumUnit_disciplines now hroot hparent hlost h2 h4 hsmall

end Sys2Proof.Machine
end
